-- ==== Sys2Proof/Word.lean ====
section
/-! DEFINITION. The word types of the device: bytes, 32-bit registers, 64-bit program words and 72-bit accumulator
lanes; and the groups of values that the outside supplies together with one command. Register contents, addresses in the course of arithmetic and encoded words are bit vectors; counts and indexes
are natural numbers. -/

namespace Sys2Proof

/-- One byte. -/
abbrev Byte := BitVec 8

/-- A 32-bit register word (R9). -/
abbrev Word := BitVec 32

/-- A 64-bit word: an engine program word (R89) or a digest (R156). -/
abbrev DWord := BitVec 64

/-- One accumulator lane, Q9.63 in 72 bits (R56). -/
abbrev Acc := BitVec 72

/-- A program word address of an engine core (R54). -/
abbrev PcWord := BitVec 13

/-- What a transfer channel has done in the core cycle that has just ended: its next `beats` beats (R69, R71), while an XWAIT
that waits for it has taken `waited` core cycles (R108). -/
structure XferRun where
  beats : Fin 257
  waited : Fin 65536
  deriving DecidableEq, Repr

/-- A write of the CNT_SNAP register at a W0 address (R14), with a lane's line counts since its last capture (R293). -/
structure SnapWrite where
  addr : BitVec 23
  fecCorr : Word
  fecUncorr : Word
  blockErr : Word
  fillIns : Word
  fillDel : Word
  deriving DecidableEq, Repr

/-- Linear equalizer: gain and peaking (R278). -/
structure Ctle where
  gain : BitVec 4
  peak : BitVec 5
  deriving DecidableEq, Repr

/-- What the elastic buffer of LANE4 (0) or LANE5 (1) has met (R274). -/
structure ElasticRun where
  lane : Fin 2
  moves : List (Fin 3)
  deriving DecidableEq, Repr

/-- A Sync and its Follow_Up: sequenceId, and the body of the Follow_Up information TLV (R302). -/
structure SyncMsg where
  seq : BitVec 16
  info : List Byte
  deriving DecidableEq, Repr

/-- A servo sample: offset in ns, and the servo's frequency estimate in 2^-16 ppm (R306). -/
structure ServoSample where
  offset : Int
  freq : Int
  deriving DecidableEq, Repr

/-- The way of an Announce: stepsRemoved, path trace and metadata TLV (R302, R311). -/
structure AnnounceTrail where
  steps : BitVec 16
  path : List (BitVec 64)
  tlv : List Byte
  deriving DecidableEq, Repr

/-- A Delay_Req, or a Pdelay_Req when `peer`: identity of the requester, sequenceId, and the MAC and IPv4 address of a unicast
requester (R302). -/
structure DelayReq where
  peer : Bool
  req : BitVec 80
  seq : BitVec 16
  reply : Option (BitVec 80)
  deriving DecidableEq, Repr

/-- Bus and rail in mV. -/
structure RailSense where
  vbus : BitVec 20
  vrail : BitVec 20
  deriving DecidableEq, Repr

/-- The channels' output voltages in mV and currents in mA, and the die temperature in 1/16 degrees. -/
structure ChannelSense where
  volts : List Word
  amps : List Word
  temp : Word
  deriving DecidableEq, Repr

/-- For how many microseconds the rail has stayed more than 3 V below the boost's target, and the input current in mA (R405). -/
structure BoostDraw where
  us : BitVec 16
  ma : BitVec 16
  deriving DecidableEq, Repr

end Sys2Proof
end

