-- ==== Sys2Proof/Machine/Forms.lean ====
section
/-! DEFINITION. Which field values the forms of engine instructions admit (R90, R102, R105). -/

namespace Sys2Proof.Machine

/-- Is `n` a register of class `cl` (R102)? -/
def classNumOk (cl n : Nat) : Bool :=
  if cl ≤ 3 then decide (n < 16)
  else if cl = 4 then decide (n < 8)
  else if cl = 5 then decide (n < 32)
  else if cl = 6 then decide (n < 8)
  else false

/-- Are the classes and numbers of a register move legal (R102)? -/
def moveOk (dcl dn scl sn : Nat) : Bool :=
  classNumOk dcl dn && classNumOk scl sn && ((dcl == 5) == (scl == 5)) && ((dcl == 6) == (scl == 6))

/-- Is the mode field with its offset legal (R105)? -/
def modeOk (mode : BitVec 2) (ofs : BitVec 15) : Bool :=
  mode.toNat ≠ 3 && (mode.toNat ≠ 2 || ofs.toNat < 8)

end Sys2Proof.Machine
end

