-- ==== Sys2Proof/Syntax.lean ====
section
/-! DEFINITION. The commands: one constructor per row of spec/opcode_table.json. A command carries what the outside of
the block supplies: entity numbers as `Fin`, encoded fields and register words as bit vectors, frames and flits as bytes
or bits. -/

namespace Sys2Proof

/-- The commands of the block. -/
inductive Instr where
  /-- The row tick (R15, R318). -/
  | rowTick
  /-- The engine tick (R26, R120). -/
  | engineTick
  /-- A slot's count of unwritten pages has reached H + 1 (R162). -/
  | slotDecayStart (slot : Fin 16384)
  /-- The stop point of the row (R119, R133). -/
  | stopPoint
  /-- A write of ENG.PROFILE (R40). -/
  | profileWrite (value : BitVec 32)
  /-- An accepted LATENCY change takes effect at a row tick (R648). -/
  | latencyChangeEffect
  /-- A policy change takes effect at a row tick (R42). -/
  | policyChangeEffect
  /-- A microsecond of recovery has passed, `ns` after the row tick (R130). -/
  | gaugeRecoveryStep (ns : Fin 65536)
  /-- The media synthesiser locks (R325). -/
  | mediaClockLock
  /-- At row + 600 ns the main die sends the flits of the row (R25). -/
  | modulationFlitSend
  /-- An IDLE flit arrives at the main or the supply die (R24). A flit is given with byte 0 in [127:120]. -/
  | idleFlit (toMain : Bool) (flit : BitVec 128)
  /-- A ROW flit arrives at the supply die (R25). -/
  | rowFlit (flit : BitVec 128)
  /-- A MOD_LO flit arrives at the supply die (R22). -/
  | modLoFlit (flit : BitVec 128)
  /-- A MOD_HI flit arrives at the supply die (R22). -/
  | modHiFlit (flit : BitVec 128)
  /-- A SENSE flit arrives at the main die (R415). -/
  | senseFlit (flit : BitVec 128)
  /-- A REG_WR flit arrives at the supply die (R416). -/
  | regWrFlit (flit : BitVec 128)
  /-- A REG_RD flit arrives at the supply die (R416). -/
  | regRdFlit (flit : BitVec 128)
  /-- A REG_RSP flit arrives at the main die (R416). -/
  | regRspFlit (flit : BitVec 128)
  /-- An MBX flit arrives at the main or the supply die (R498). -/
  | mbxFlit (toMain : Bool) (flit : BitVec 128)
  /-- An EVT flit arrives at the main die (R617). -/
  | evtFlit (flit : BitVec 128)
  /-- A NAK arrives at the main or the supply die (R23). -/
  | nakFlit (toMain : Bool) (flit : BitVec 128)
  /-- The head of a sender's queue goes out if credit and the replay window allow it (R24). -/
  | flitCreditSend (onMain : Bool)
  /-- NOP (R116). -/
  | nop (core : Fin 128)
  /-- WAITROW (R84). -/
  | waitrow (core : Fin 128)
  /-- GIE E (R116). -/
  | gie (core : Fin 128) (e : Bool)
  /-- RETI (R80). -/
  | reti (core : Fin 128)
  /-- MAC: lane-wise, or lane K of DB broadcast (R93). -/
  | mac (core : Fin 128) (ad : BitVec 3) (da db : BitVec 5) (bc : Bool) (k : BitVec 3) (z : Bool)
  /-- MSU: MAC with NEG = 1 (R93). -/
  | msu (core : Fin 128) (ad : BitVec 3) (da db : BitVec 5) (bc : Bool) (k : BitVec 3) (z : Bool)
  /-- TAP (R94). -/
  | tap (core : Fin 128) (ad : BitVec 3) (pn pc : BitVec 4) (ddir cv cdir neg z : Bool)
  /-- AADD (R96). -/
  | aadd (core : Fin 128) (ad : BitVec 3) (da : BitVec 5)
  /-- ASUB (R96). -/
  | asub (core : Fin 128) (ad : BitVec 3) (da : BitVec 5)
  /-- AMOV (R96). -/
  | amov (core : Fin 128) (ad src : BitVec 3)
  /-- AHSUM (R96). -/
  | ahsum (core : Fin 128) (ad src : BitVec 3)
  /-- EXT with scale SC, clearing the accumulator when C (R97). -/
  | ext (core : Fin 128) (dd : BitVec 5) (src : BitVec 3) (sc : BitVec 4) (c : Bool)
  /-- VADD (R98). -/
  | vadd (core : Fin 128) (dd da db : BitVec 5)
  /-- VSUB (R98). -/
  | vsub (core : Fin 128) (dd da db : BitVec 5)
  /-- VADDW (R98). -/
  | vaddw (core : Fin 128) (dd da db : BitVec 5)
  /-- VSUBW (R98). -/
  | vsubw (core : Fin 128) (dd da db : BitVec 5)
  /-- VAND (R98). -/
  | vand (core : Fin 128) (dd da db : BitVec 5)
  /-- VOR (R98). -/
  | vor (core : Fin 128) (dd da db : BitVec 5)
  /-- VXOR (R98). -/
  | vxor (core : Fin 128) (dd da db : BitVec 5)
  /-- VANDN (R98). -/
  | vandn (core : Fin 128) (dd da db : BitVec 5)
  /-- VSHL by IMM (R98). -/
  | vshl (core : Fin 128) (dd da : BitVec 5) (n : BitVec 5)
  /-- VSHLS by IMM (R98, R99). -/
  | vshls (core : Fin 128) (dd da : BitVec 5) (n : BitVec 5)
  /-- VSHRA by IMM (R98). -/
  | vshra (core : Fin 128) (dd da : BitVec 5) (n : BitVec 5)
  /-- VSHRL by IMM (R98). -/
  | vshrl (core : Fin 128) (dd da : BitVec 5) (n : BitVec 5)
  /-- VMAX (R98). -/
  | vmax (core : Fin 128) (dd da db : BitVec 5)
  /-- VMIN (R98). -/
  | vmin (core : Fin 128) (dd da db : BitVec 5)
  /-- VABS (R98, R99). -/
  | vabs (core : Fin 128) (dd da : BitVec 5)
  /-- VNEG (R98, R99). -/
  | vneg (core : Fin 128) (dd da : BitVec 5)
  /-- VCMPEQ (R98). -/
  | vcmpeq (core : Fin 128) (dd da db : BitVec 5)
  /-- VCMPLT (R98). -/
  | vcmplt (core : Fin 128) (dd da db : BitVec 5)
  /-- VCMPLE (R98). -/
  | vcmple (core : Fin 128) (dd da db : BitVec 5)
  /-- VCMPLTU (R98). -/
  | vcmpltu (core : Fin 128) (dd da db : BitVec 5)
  /-- VSEL by bit 31 of the old DD (R98, R99). -/
  | vsel (core : Fin 128) (dd da db : BitVec 5)
  /-- VPERM (R98). -/
  | vperm (core : Fin 128) (dd da db : BitVec 5)
  /-- VBC (R98). -/
  | vbc (core : Fin 128) (dd da : BitVec 5) (lane : BitVec 3)
  /-- VMUL (R98, R60). -/
  | vmul (core : Fin 128) (dd da db : BitVec 5)
  /-- VMUL.B by one lane of DB (R98, R60). -/
  | vmulB (core : Fin 128) (dd da db : BitVec 5) (lane : BitVec 3)
  /-- VSPLAT (R100). -/
  | vsplat (core : Fin 128) (dv : BitVec 5) (sn : BitVec 4)
  /-- VPUT into lane K (R100). -/
  | vput (core : Fin 128) (dv : BitVec 5) (k : BitVec 3) (sn : BitVec 4)
  /-- VGET of lane K (R100). -/
  | vget (core : Fin 128) (sn : BitVec 4) (dv : BitVec 5) (k : BitVec 3)
  /-- ADD (R101). -/
  | add (core : Fin 128) (sd sa sb : BitVec 4) (f : Bool)
  /-- SUB (R101). -/
  | sub (core : Fin 128) (sd sa sb : BitVec 4) (f : Bool)
  /-- AND (R101). -/
  | and (core : Fin 128) (sd sa sb : BitVec 4) (f : Bool)
  /-- OR (R101). -/
  | or (core : Fin 128) (sd sa sb : BitVec 4) (f : Bool)
  /-- XOR (R101). -/
  | xor (core : Fin 128) (sd sa sb : BitVec 4) (f : Bool)
  /-- SHL (R101). -/
  | shl (core : Fin 128) (sd sa sb : BitVec 4) (f : Bool)
  /-- SHRA (R101). -/
  | shra (core : Fin 128) (sd sa sb : BitVec 4) (f : Bool)
  /-- SHRL (R101). -/
  | shrl (core : Fin 128) (sd sa sb : BitVec 4) (f : Bool)
  /-- MUL (R101). -/
  | mul (core : Fin 128) (sd sa sb : BitVec 4) (f : Bool)
  /-- CMP (R101). -/
  | cmp (core : Fin 128) (sa sb : BitVec 4)
  /-- MIN (R101). -/
  | min (core : Fin 128) (sd sa sb : BitVec 4) (f : Bool)
  /-- MAX (R101). -/
  | max (core : Fin 128) (sd sa sb : BitVec 4) (f : Bool)
  /-- ADDI (R101). -/
  | addi (core : Fin 128) (sd sa : BitVec 4) (f : Bool) (imm : BitVec 16)
  /-- ANDI (R101). -/
  | andi (core : Fin 128) (sd sa : BitVec 4) (f : Bool) (imm : BitVec 16)
  /-- ORI (R101). -/
  | ori (core : Fin 128) (sd sa : BitVec 4) (f : Bool) (imm : BitVec 16)
  /-- XORI (R101). -/
  | xori (core : Fin 128) (sd sa : BitVec 4) (f : Bool) (imm : BitVec 16)
  /-- SETR (R103). -/
  | setr (core : Fin 128) (cl : BitVec 3) (n : BitVec 5) (hi sx : Bool) (imm : BitVec 16)
  /-- MOVR with XB = 0 (R103). -/
  | movr (core : Fin 128) (dcl : BitVec 3) (dn : BitVec 5) (scl : BitVec 3) (sn : BitVec 5)
  /-- MOVR with XB = 1 in direction DIR (R82, R103). -/
  | xmov (core : Fin 128) (toBank1 : Bool) (dcl : BitVec 3) (dn : BitVec 5) (scl : BitVec 3) (sn : BitVec 5)
  /-- PADD (R104). -/
  | padd (core : Fin 128) (pn : BitVec 4) (imm : BitVec 16)
  /-- LDS (R105, R106). -/
  | lds (core : Fin 128) (rg pn : BitVec 4) (mode : BitVec 2) (ofs : BitVec 15)
  /-- LDV (R105, R106). -/
  | ldv (core : Fin 128) (rg : BitVec 5) (pn : BitVec 4) (mode : BitVec 2) (ofs : BitVec 15)
  /-- STS (R105, R106). -/
  | sts (core : Fin 128) (rg pn : BitVec 4) (mode : BitVec 2) (ofs : BitVec 15)
  /-- STV (R105, R106). -/
  | stv (core : Fin 128) (rg : BitVec 5) (pn : BitVec 4) (mode : BitVec 2) (ofs : BitVec 15)
  /-- XFER (R107). -/
  | xfer (core : Fin 128) (ch : BitVec 2) (dir : Bool) (pw px sn : BitVec 4)
  /-- The next beats of channel CH move in the core cycle that has just ended, and it ends with its last; some core cycles of an XWAIT that waits for it have passed (R69 to R71, R108). -/
  | transferDone (core : Fin 128) (ch : BitVec 2) (run : XferRun)
  /-- XWAIT (R108). -/
  | xwait (core : Fin 128) (mask : BitVec 4)
  /-- B (R110). -/
  | b (core : Fin 128) (cond : BitVec 4) (target : BitVec 13)
  /-- CALL (R110). -/
  | call (core : Fin 128) (cond : BitVec 4) (target : BitVec 13)
  /-- JR (R110). -/
  | jr (core : Fin 128) (cond sn : BitVec 4)
  /-- CALLR (R110). -/
  | callr (core : Fin 128) (cond sn : BitVec 4)
  /-- RET (R110). -/
  | ret (core : Fin 128) (cond : BitVec 4)
  /-- LOOP (R112). -/
  | loop (core : Fin 128) (inner creg : Bool) (len : BitVec 10) (count : BitVec 14)
  /-- RDC (R115). -/
  | rdc (core : Fin 128) (sn : BitVec 4) (idx : BitVec 8)
  /-- WRC (R115). -/
  | wrc (core : Fin 128) (sn : BitVec 4) (idx : BitVec 8)
  /-- The core accepts a pending enabled source; `idle` core cycles have passed in WAIT since it last issued (R79, R80). -/
  | interruptAccept (core : Fin 128) (idle : Fin 65536)
  /-- CORE_CTL.CLRFAULT is written as 1 (R86). -/
  | clrfault (core : Fin 128)
  /-- A host write of CORE_BUDGET (R127, R158). -/
  | coreBudgetWrite (core : Fin 128) (value : BitVec 32)
  /-- A host write of CORE_OUTCFG (R158). -/
  | coreOutcfgWrite (core : Fin 128) (value : BitVec 32)
  /-- A read of CORE_SATROWS (R14). -/
  | coreSatrowsRead (core : Fin 128)
  /-- A read of CORE_PEAK (R10). -/
  | corePeakRead (core : Fin 128)
  /-- A read of CORE_STITCH (R137). -/
  | coreStitchRead (core : Fin 128)
  /-- A read of FAB.WMAX_RT (R10). -/
  | wmaxRtRead
  /-- A write of a CNT_SNAP register (R14). -/
  | cntSnap (req : SnapWrite)
  /-- A write of DIGEST_SNAP of a cluster (R157). -/
  | digestSnap (cluster : Fin 16) (value : BitVec 32)
  /-- A write of SNAP of time base 0 to 3, or of the clock unit (R329). -/
  | timeSnap (unit : Fin 5)
  /-- A register write by the host (or the house cores) in W0 or W2 (R10, R12, R13). -/
  | registerWrite (house w2 : Bool) (addr : BitVec 23) (value : BitVec 32)
  /-- The head descriptor of a COMMAND ring, a TIMED_PARAM, is executed (R141). -/
  | timedParam (ring : Fin 64)
  /-- The first due DOORBELL record takes effect (R78, R140). -/
  | tpDoorbell
  /-- The first due COEF_WORD record takes effect (R143). -/
  | tpCoefWord
  /-- The first due SWAP record takes effect (R146). -/
  | tpSwap
  /-- The first due BINDOFF record takes effect (R151). -/
  | tpBindoff
  /-- The tick of row k + 64 of a bind-off comes (R151). -/
  | coreBindoffReset (core : Fin 128)
  /-- A host write of ENG.MIGRATE (R153). -/
  | migrateGo (value : BitVec 32)
  /-- A migration request of firmware (R153). -/
  | firmwareMigrationRequest (core : Fin 128) (back : Bool)
  /-- The pending migration is performed at a tick (R154). -/
  | migrationPerform
  /-- The pending migration is abandoned after 64 engine ticks (R155). -/
  | migrationAbandon
  /-- The first due MAP_SEL or MAP_DATA write takes effect (R166). -/
  | mapDataApply
  /-- A write of SST.SHD_DATA (R167). -/
  | shdDataWrite (value : BitVec 32)
  /-- A write of 1 to SST.MAP_CTL.CHECK (R167). -/
  | mapCheck
  /-- The shadow-map check ends (R167). -/
  | mapCheckDone
  /-- The first due MAP_CTL write takes effect (R168). -/
  | mapSwap
  /-- A write of MTX.SHD_ROUTE (R171). -/
  | shdRouteWrite (value : BitVec 32)
  /-- A write of 1 to MTX.TBL_CTL.CHECK (R171). -/
  | mtxCheck
  /-- The shadow-table check ends (R171). -/
  | mtxCheckDone
  /-- The first due TBL_CTL write takes effect (R175). -/
  | mtxTableSwap
  /-- The first due MTX.CTL write takes effect (R175). -/
  | mtxCtlApply
  /-- The first due XP_SEL write takes effect (R176). -/
  | xpSelApply
  /-- The first due XP_GAIN write takes effect (R176). -/
  | xpGainApply
  /-- The glide on an entry has reached its target (R176). -/
  | glideEnd (entry : Fin 262144)
  /-- The first due DLY.CTL write takes effect (R178). -/
  | dlyCtlApply
  /-- The first due LINE_LEN write takes effect (R179). -/
  | lineLenApply
  /-- The first due LINE_DELAY write takes effect (R181). -/
  | lineDelayApply
  /-- A crossfade completes its 64 rows (R181). -/
  | crossfadeEnd (line : Fin 2048)
  /-- A write of FAB.QOWN of a bank (R185). -/
  | qownWrite (bank : Fin 48) (value : BitVec 32)
  /-- A write of NETn.CTL (R191). -/
  | speedWrite (port : Fin 4) (value : BitVec 32)
  /-- A frame, with its FCS, has been received whole on a port (R193, R194). -/
  | frameReceive (port : Fin 4) (bytes : List (BitVec 8))
  /-- THR * 64 bytes of a frame have come in; `ns` is the time since the running gate entry of the egress began (R199). -/
  | cutThroughDecision (port egress : Fin 4) (head : List (BitVec 8)) (ns : BitVec 24)
  /-- The egress has sent these bytes of a cut-through frame and needs one that has not come in (R201). -/
  | underrun (port : Fin 4) (bytes : List (BitVec 8))
  /-- A PAUSE frame is received (R205). -/
  | pauseFrameReceive (port : Fin 4) (quanta : BitVec 16)
  /-- A PFC frame is received; the quanta of priority p are bits 16p to 16p + 15 (R205). -/
  | pfcFrameReceive (port : Fin 4) (vector : BitVec 8) (quanta : BitVec 128)
  /-- The halt time of PAUSE (none), or of one priority, runs out (R205). -/
  | pauseHaltExpire (port : Fin 4) (prio : Option (Fin 8))
  /-- The port sends PAUSE or PFC (R207). -/
  | pauseFrameSend (port : Fin 4)
  /-- The port may start a frame, `ns` after its running gate entry began (R203). -/
  | frameTransmitStart (port : Fin 4) (ns : BitVec 24)
  /-- The frame in transmission completes (R218). -/
  | frameTransmitDone (port : Fin 4)
  /-- A gate cycle starts with the row (R208). -/
  | gateCycleStart (port : Fin 4)
  /-- The next gate entry begins (R208). -/
  | gateEntryStart (port : Fin 4)
  /-- A due write of GCL_CTL.SWAP takes effect (R212). -/
  | gclSwap (port : Fin 4)
  /-- The transmitter may enter low-power idle, `ns` after the row tick (R214). -/
  | lpiEnter (port : Fin 4) (ns : BitVec 24)
  /-- The transmitter leaves low-power idle, `ns` after the row tick (R214). -/
  | lpiExit (port : Fin 4) (ns : BitVec 24)
  /-- An LLDP frame with the EEE TLV arrives (R213). -/
  | lldpReceive (port : Fin 4) (twrx : BitVec 16)
  /-- The partner's EEE TLV is missing for three of its intervals (R213). -/
  | eeeTlvTimeout (port : Fin 4)
  /-- A write of TXTS_CTL (R220). -/
  | txtsPop (port : Fin 4) (value : BitVec 32)
  /-- A write of FDB_HI (R196). -/
  | fdbHiWrite (value : BitVec 32)
  /-- A due FCMD BIND of a receive slot (R242). -/
  | rxBind (slot : Fin 256)
  /-- A due FCMD BIND of a transmit slot (R242). -/
  | txBind (slot : Fin 256)
  /-- A due FCMD BINDOFF of a receive slot (R242). -/
  | rxBindoff (slot : Fin 256)
  /-- A due FCMD BINDOFF of a transmit slot (R242). -/
  | txBindoff (slot : Fin 256)
  /-- A flow's bind-off fade ends (R242). -/
  | flowBindoffEnd (tx : Bool) (slot : Fin 256)
  /-- A slot has been 2 ms in DRAIN (R243). -/
  | flowDrainEnd (tx : Bool) (slot : Fin 256)
  /-- A Malraing frame, with its FCS, arrives `ns` after the row tick (R233, R235). -/
  | malraingFrameReceive (port : Fin 4) (bytes : List (BitVec 8)) (ns : BitVec 24)
  /-- An ACTIVE flow has written no copy for TIMEOUT rows (R239). -/
  | flowLost (slot : Fin 256)
  /-- An AAF packet, with its FCS, arrives (R249). -/
  | aafPacketReceive (port : Fin 4) (bytes : List (BitVec 8))
  /-- An RTP packet, with its FCS, arrives (R253). -/
  | rtpPacketReceive (port : Fin 4) (bytes : List (BitVec 8))
  /-- The receive deadline of row E passes for packet formats (R253). -/
  | receiveDeadline
  /-- CDR lock, and the values on which adaptation settled: ten DFE taps of 7 bits, tap 1 lowest (R275). -/
  | laneLock (lane : Fin 6) (gain : BitVec 4) (peak : BitVec 5) (taps : BitVec 70)
  /-- Block lock and FEC alignment (R276). -/
  | laneUp (lane : Fin 6)
  /-- Lock is lost (R277). -/
  | laneLockLoss (lane : Fin 6)
  /-- A run of so many units has reached the threshold; the values applied then (R279). -/
  | adaptFreeze (lane : Fin 6) (ctle : Ctle) (taps : BitVec 70) (units : BitVec 32)
  /-- A run ends; the estimator's values (R281). -/
  | runEnd (lane : Fin 6) (gain : BitVec 4) (peak : BitVec 5) (taps : BitVec 70)
  /-- A retrain ends; the values found (R282). -/
  | retrainEnd (lane : Fin 6) (gain : BitVec 4) (peak : BitVec 5) (taps : BitVec 70)
  /-- The receiver enters electrical idle; the values applied then (R283). -/
  | laneEidleEnter (lane : Fin 6) (gain : BitVec 4) (peak : BitVec 5) (taps : BitVec 70)
  /-- Signal is detected (R284). -/
  | laneSignalDetect (lane : Fin 6)
  /-- The fast exit reaches block lock; the estimator's values (R284). -/
  | fastExitLock (lane : Fin 6) (gain : BitVec 4) (peak : BitVec 5) (taps : BitVec 70)
  /-- 2 us have passed without block lock (R285). -/
  | fastExitFail (lane : Fin 6)
  /-- The elastic buffer of LANE4 or LANE5 overflows or runs empty (R274): what it met until then. -/
  | elasticError (run : ElasticRun)
  /-- A write of TXFIR (R269). -/
  | txfirWrite (lane : Fin 6) (value : BitVec 32)
  /-- A write of CFG of LANE0 to LANE3 (R272). -/
  | txrefWrite (lane : Fin 4) (value : BitVec 32)
  /-- A write of CFG of LANE4 or LANE5 (R263). -/
  | laneEnWrite (lane : Fin 2) (value : BitVec 32)
  /-- A write of LOOP_CTL (R287). -/
  | loopbackStart (lane : Fin 6) (value : BitVec 32)
  /-- A write of LOOP_CTL with MODE 0 (R289). -/
  | loopbackEnd (lane : Fin 6)
  /-- A write of EYE_SEL (R290). -/
  | eyeScanGo (lane : Fin 6) (value : BitVec 32)
  /-- The point ends with this many mismatches (R290). -/
  | eyePointDone (lane : Fin 6) (errors : BitVec 32)
  /-- A host write of TBn.CTL (R301). -/
  | tbEnWrite (tb : Fin 4) (value : BitVec 32)
  /-- A Sync and its Follow_Up, and the servo's sample (R302, R306). -/
  | ptpSyncReceive (tb : Fin 4) (msg : SyncMsg) (servo : ServoSample)
  /-- A delay response completes a path-delay measurement (R305). -/
  | ptpDelayRespReceive (tb : Fin 4)
  /-- An Announce with its path trace and metadata TLV arrives at a port (R311). -/
  | ptpAnnounceReceive (tb port : Fin 4) (sender gm : BitVec 64) (prio1 cls accuracy prio2 : BitVec 8) (variance : BitVec 16) (trail : AnnounceTrail)
  /-- No Announce or Sync of the selected master arrives in time (R309). -/
  | ptpReceiptTimeout (tb : Fin 4)
  /-- CMD SET takes effect (R307). -/
  | tbSet (tb : Fin 4)
  /-- CMD RESTEP takes effect (R312). -/
  | tbRestep (tb : Fin 4)
  /-- CMD HOLD takes effect (R309). -/
  | tbHold (tb : Fin 4)
  /-- CMD RELEASE takes effect (R310). -/
  | tbRelease (tb : Fin 4)
  /-- A MEDIASEL write takes effect (R317). -/
  | mediaselApply
  /-- The preparation of a media re-step is complete (R317). -/
  | mediaRestepPrepared
  /-- No valid sample came in 10 s after the preparation (R317). -/
  | restepNostepTimeout
  /-- The 125 us update of the DPLL: phase error in ps, phase of the input newly selected in ps, and the frequency that the loop filter gives in 2^-16 ppm (R342). -/
  | dpllUpdate (err dphi freq : Int)
  /-- An input is lost (R336). -/
  | refLoss (input : Fin 10)
  /-- An input has delivered accepted edges for 1 s; its offset in 2^-16 ppm (R336). -/
  | refLossClear (input : Fin 10) (offset : Int)
  /-- A 1 ms edge-count window ends (R338). -/
  | rateWindow (input : Fin 3) (count : BitVec 16)
  /-- The 125 ms update of an input's offset in 2^-16 ppm (R339). -/
  | refOffsetUpdate (input : Fin 10) (offset : Int)
  /-- Wait-to-restore of an input ends (R343). -/
  | wtrExpire (input : Fin 10)
  /-- The DPLL has been LOCKED for 16 s (R349). -/
  | histokSet
  /-- A valid ESMC PDU arrives (R333). -/
  | esmcReceive (port : Fin 4) (ssm : BitVec 4)
  /-- No ESMC PDU for 5 s (R333). -/
  | esmcTimeout (port : Fin 4)
  /-- The information PDU of a second (R334). -/
  | esmcInfoSend (port : Fin 4)
  /-- An event PDU after a change (R334). -/
  | esmcEventSend (port : Fin 4)
  /-- A PHSTEP write takes effect (R347). -/
  | phstepApply
  /-- XO_IN stops (R328). -/
  | xoLoss
  /-- XO_IN has run for 10 ms (R328). -/
  | xoRestore
  /-- CMD CASTON of a local port at its tick (R377). Ports are numbered as the event instances of R486. -/
  | portCaston (port : Fin 34)
  /-- CMD BINDOFF of a local port at its tick (R377). -/
  | portBindoff (port : Fin 34)
  /-- CMD COMMIT of a local port at its tick (R382). -/
  | portCommit (port : Fin 34)
  /-- GRP_CMD START of a start group at its tick (R379). -/
  | groupStart (group : Fin 4)
  /-- GRP_CMD STOP of a start group at its tick (R379). -/
  | groupStop (group : Fin 4)
  /-- GRP_CMD COMMIT of a start group at its tick (R379). -/
  | groupCommit (group : Fin 4)
  /-- A rising edge on the START ball (R380). -/
  | startPinEdge
  /-- The tick at which an armed port starts (R378, R379). -/
  | portStart (port : Fin 34)
  /-- The data start row of a port in PRECLK (R376). -/
  | preclkEnd (port : Fin 34)
  /-- The N post-clock frames of a port have passed (R376). -/
  | postclkEnd (port : Fin 34)
  /-- The zero-crossing timeout of a port expires (R376). -/
  | zcTimeout (port : Fin 34)
  /-- A received frame ends (R359): phase in ns, bit clocks of a TDM frame, whether it began in its window without a coding violation, its measured rate, and its words, of a TDM frame its bit clocks from the start of FS, 32 to a word and first bit clock first; b is the second source of a claim-mode port. AES3 and MADI subframes hold preamble or mode bits in [3:0], audio in [27:4], V, U, C, P in [31:28]. -/
  | localFrameReceive (port : Fin 34) (ns : BitVec 16) (clocks : BitVec 12) (good : Bool) (hz : BitVec 18) (a b : List (BitVec 32))
  /-- No frame start or bit clock for two frame periods (R362). -/
  | portNoclkTimeout (port : Fin 34)
  /-- A faulted port with AUTO has been locked for a second (R363). -/
  | portAutoRearm (port : Fin 34)
  /-- An output frame begins at its phase in the row (R360). -/
  | localFrameSend (port : Fin 34)
  /-- A cross-feed frame of 64 bytes arrives (R397). -/
  | xfeedFrameReceive (bytes : List (BitVec 8))
  /-- No XFI_CK edge for two frame periods (R397). -/
  | xfeedClockLoss
  /-- A row of the supply die (R392 to R394, R399, R403, R405, R415), with what was measured over the row before. -/
  | ampRowSelect (rails : RailSense) (sense : ChannelSense)
  /-- The rail in mV, and how far the boost falls short of its target (R405). -/
  | boostShortfall (rail : BitVec 20) (draw : BoostDraw)
  /-- The bus stays below 17 V for 10 µs (R406). -/
  | busLow
  /-- The bus has stayed at 18 V or above for 10 ms (R406). -/
  | busLowRecover
  /-- The rail exceeds RAILMAX + 5 V for 2 µs (R407). -/
  | railOvervoltage
  /-- The supply die exceeds 150 °C (R407). -/
  | overTemperature
  /-- The recovery time of OTEMP or of RAILOV has passed (R407). -/
  | protectionRecover (temperature : Bool)
  /-- A bootstrap supply of a channel falls below 4.0 V (R401), at a time in microseconds. -/
  | bootstrapUndervoltage (channel : Fin 8) (us : BitVec 64)
  /-- A limited cycle of a channel (R408): whether the cycle before was not limited, and the time in microseconds. -/
  | currentLimit (channel : Fin 8) (fresh : Bool) (us : BitVec 64)
  /-- A channel has been TRIPPED for 1 s (R409). -/
  | tripRetry (channel : Fin 8)
  /-- 10 ms in RETRY pass (R409). -/
  | retryGainStep (channel : Fin 8)
  /-- CH_CMD ENABLE at the supply die (R412). -/
  | chEnable (channel : Fin 8)
  /-- CH_CMD DISABLE at the supply die (R412). -/
  | chDisable (channel : Fin 8)
  /-- CH_CMD CLEAR at the supply die (R412). -/
  | chClear (channel : Fin 8)
  /-- 100 µs of bootstrap charging have passed (R412). -/
  | prechgEnd (channel : Fin 8)
  /-- A ramp of 64 rows ends (R412). -/
  | channelRampEnd (channel : Fin 8)
  /-- A window of 1 s ends (R414): RMS voltage in mV and current in mA. -/
  | impedanceWindow (channel : Fin 8) (mv ma : BitVec 32)
  /-- A write of PWR.CTL at the supply die (R404). -/
  | lookaheadWrite (value : BitVec 32)
  /-- An access to a supply-die register by its W0 address (R416). -/
  | tunnelAccess (write : Bool) (addr : BitVec 24) (value : BitVec 32)
  /-- No answer to the tunnelled access with this tag within 10 µs (R416). -/
  | tunnelTimeout (tag : BitVec 8)
  /-- A misaligned or partial host access (R421). -/
  | badHostAccess (w2 write : Bool) (offset : BitVec 23)
  /-- The doorbell-page read returns its 256 bytes (R424). -/
  | doorbellReadComplete (data : List (BitVec 8))
  /-- A write of RING.CFG (R431). -/
  | ringEnable (ring : Fin 64) (value : BitVec 32)
  /-- A write of 1 to RING.CTL.RESET (R451). -/
  | ringReset (ring : Fin 64)
  /-- A draining ring has nothing left to do (R451). -/
  | ringResetDone (ring : Fin 64)
  /-- The head descriptor, a NOP, is executed (R440). -/
  | cmdNop (ring : Fin 64)
  /-- The head descriptor, a LOAD_PROG, starts (R440). -/
  | loadProg (ring : Fin 64)
  /-- The head descriptor, a LOAD_COEF, starts (R440). -/
  | loadCoef (ring : Fin 64)
  /-- The head descriptor, a LOAD_MAP, starts (R440). -/
  | loadMap (ring : Fin 64)
  /-- The head descriptor, a LOAD_MTX, starts (R440). -/
  | loadMtx (ring : Fin 64)
  /-- The head descriptor, a SHMEM_WRITE, starts (R440). -/
  | shmemWrite (ring : Fin 64)
  /-- The head descriptor, a SHMEM_READ, starts (R440). -/
  | shmemRead (ring : Fin 64)
  /-- The head descriptor, FW_CONFIG with KEY 0x0001, is executed (R441). -/
  | fwConfigSyncInterval (ring : Fin 64)
  /-- The head descriptor, FW_CONFIG with KEY 0x0002, is executed (R441). -/
  | fwConfigAnnounceInterval (ring : Fin 64)
  /-- The head descriptor, FW_CONFIG with KEY 0x0003, is executed (R441). -/
  | fwConfigAnnounceTimeout (ring : Fin 64)
  /-- The head descriptor, FW_CONFIG with KEY 0x0004, starts (R441). -/
  | fwConfigMetadataTlv (ring : Fin 64)
  /-- The head descriptor, FW_CONFIG with KEY 0x0010, is executed (R441). -/
  | fwConfigLldpInterval (ring : Fin 64)
  /-- The head descriptor, FW_CONFIG with KEY 0x0011, is executed (R441). -/
  | fwConfigEsmc (ring : Fin 64)
  /-- The head descriptor, RESUME with P2 = 0, is executed (R475). -/
  | resume (ring : Fin 64)
  /-- The head descriptor, RESUME with P2 = 1, is executed (R475). -/
  | resumeAbort (ring : Fin 64)
  /-- IMAGE_LOAD with target RUN at the head of a ring (R588). -/
  | imageLoadRun (ring : Fin 64)
  /-- IMAGE_LOAD with a slot as its target (R588). -/
  | imageLoadSlot (ring : Fin 64)
  /-- Erase, program and read-back of a slot end (R588). -/
  | slotProgramDone (ring : Fin 64) (ok : Bool)
  /-- The head descriptor of a BULK_TX ring starts (R442). -/
  | txFrame (ring : Fin 64)
  /-- The head descriptor of a BULK_RX ring posts its buffer (R443). -/
  | rxBuf (ring : Fin 64)
  /-- The head descriptor of an RT_PLAY ring is compared with the due block (R446, R447). -/
  | rtPlayBlock (ring : Fin 64)
  /-- The head descriptor of an RT_REC ring is compared with the due block (R446, R448). -/
  | rtRecBlock (ring : Fin 64)
  /-- A taken playback block has been read (R447). -/
  | rtPlayBlockDone (ring : Fin 64)
  /-- The record buffer of a block is written after its last row (R448). -/
  | rtRecBlockWrite (ring : Fin 64)
  /-- The data of a ring's transfer is complete (R434). -/
  | dmaTransferDone (ring : Fin 64)
  /-- The oldest unsignalled completion has waited IROWS row ticks (R439). -/
  | coalesceTimeout (ring : Fin 64)
  /-- The read `id` of host memory completes with data, or with an error (R469). -/
  | hostReadCompletion (id : BitVec 16) (ok : Bool) (data : List (BitVec 8))
  /-- The read `id` has been outstanding for 50 ms (R419). -/
  | readCompletionTimeout (id : BitVec 16)
  /-- A write of XLT.INV_CTL (R465). -/
  | tlbInvalidate (value : BitVec 32)
  /-- The translations of an invalidation are gone (R465). -/
  | invalidateDone
  /-- The event writer makes one pass (R488). -/
  | eventDeliveryPass
  /-- A write of EVT.RAISE (R487). -/
  | eventRaise (value : BitVec 32)
  /-- A host write to a mailbox (R497). -/
  | mailboxWrite (box : Fin 64) (value : BitVec 32)
  /-- A host read of a mailbox (R494). -/
  | mailboxRead (box : Fin 64)
  /-- A house-core read, or write of a word (R496). -/
  | firmwareMailboxAccess (box : Fin 64) (write : Option (BitVec 32))
  /-- A write of TWSENDi (R499). -/
  | twsendWrite (index : Fin 8) (value : BitVec 32)
  /-- No MBX_ACK for a twin send within 2 us (R499). -/
  | twsendTimeout (index : Fin 8)
  /-- A write of TWN.CFG (R512). -/
  | twinEnWrite (value : BitVec 32)
  /-- A write of TWN.CTL (R515). -/
  | join (value : BitVec 32)
  /-- A millisecond has passed: HELLO is due (R511). -/
  | helloSend
  /-- A HELLO frame arrives: its blocks without sync headers (R509, R514). -/
  | hello (bytes : List (BitVec 8))
  /-- Row + 200 ns: the heartbeat goes out, its first block `ns` after the row tick (R511). -/
  | twinHeartbeatSend (ns : BitVec 24)
  /-- A HEARTBEAT frame arrives `ns` after this unit's row tick (R517). -/
  | heartbeat (bytes : List (BitVec 8)) (ns : BitVec 24)
  /-- Rows have passed without a heartbeat (R516). -/
  | heartbeatLoss
  /-- The twin link has been down for LINKTO rows (R516). -/
  | linkDownTimeout
  /-- SETTLE * 1024 rows have passed (R512). -/
  | settleEnd
  /-- Row tick + 300 ns: the final digests go out (R521). -/
  | digestSend
  /-- A DIGEST frame arrives (R521). -/
  | digest (bytes : List (BitVec 8))
  /-- A MIRROR frame arrives (R518). -/
  | mirror (bytes : List (BitVec 8))
  /-- A MIRROR frame has been without an ACK for 2 microseconds (R519). -/
  | mirrorRetry (seq : BitVec 32)
  /-- An ACK frame arrives (R519). -/
  | ack (bytes : List (BitVec 8))
  /-- An MBX frame arrives (R511). -/
  | mbx (bytes : List (BitVec 8))
  /-- An MBX_ACK frame arrives (R499). -/
  | mbxAck (bytes : List (BitVec 8))
  /-- A PING is due in PAIRING (R517). -/
  | pingSend
  /-- A PING frame arrives (R511). -/
  | ping (bytes : List (BitVec 8))
  /-- A PONG frame arrives (R517). -/
  | pong (bytes : List (BitVec 8))
  /-- Eight PONGs have come, or 10 ms have passed (R517). -/
  | pingMeasureEnd
  /-- Row + 1,200 ns: the referee heartbeat goes out (R526). -/
  | refereeHeartbeatSend
  /-- A datagram to the referee arrives: its UDP payload (R526). -/
  | refereeHeartbeatReceive (payload : List (BitVec 8))
  /-- A datagram to the twin arrives: its UDP payload (R530). -/
  | grant (payload : List (BitVec 8))
  /-- The first row tick at least 1 microsecond after an accepted grant (R530). -/
  | grantApply
  /-- The 1 ms pulse on PRST_OUT ends (R531). -/
  | prstOutEnd
  /-- PRST_IN becomes active (R570). -/
  | prstInAssert
  /-- PRST_IN becomes inactive (R570). -/
  | prstInRelease
  /-- VBUS has risen and the rails regulate (R565). -/
  | powerOn
  /-- VBUS has stayed below 5.3 V for 1 microsecond (R543). -/
  | vbusUndervoltage
  /-- VBUS has stayed above 62.0 V for 1 microsecond (R540). -/
  | vbusOvervoltage
  /-- VBUS has stayed below 60.0 V for 10 ms (R540). -/
  | vbusOvervoltageClear
  /-- VBUS has stayed below PFW for 1 microsecond (R541). -/
  | powerFailWarning
  /-- VBUS has stayed above PFW + 1.0 V for 10 ms (R541). -/
  | powerFailWarningClear
  /-- A sag condition arises: level, slope, VBUS in 0.1 V, and nanoseconds since the row tick (R544). -/
  | sagAssert (level slope : Bool) (vbus : BitVec 10) (ns : Fin 65536)
  /-- The good condition has lasted HOLD microseconds (R545). -/
  | sagDeassert
  /-- A rail leaves regulation: rail and cause by the codes of RAIL_STAT, at a time in milliseconds (R555). -/
  | railFault (rail : Fin 7) (cause : Fin 4) (ms : BitVec 64)
  /-- The restart of R555 ends. -/
  | railRestartDone
  /-- A write of PWR_CTL that asks for Active (R558). -/
  | reqActive
  /-- A write of PWR_CTL that asks for Idle (R558). -/
  | reqIdle
  /-- A write of PWR_CTL that asks for Standby (R560). -/
  | reqStandby
  /-- The core rail is off (R560). -/
  | standbyEntryDone
  /-- A host write of HIF.WAKE (R455). -/
  | wakeGo (value : BitVec 32)
  /-- WAKEIN has been high for 10 microseconds (R562). -/
  | wakein
  /-- A frame with its FCS at the wake port (R563). -/
  | wakeFrame (port : Fin 4) (bytes : List (BitVec 8))
  /-- The media time base is at ALARM_SEC (R562). -/
  | alarm
  /-- Firmware is reloaded, and whether its digest is right (R564). -/
  | wakeDone (ok : Bool)
  /-- Reset release: the BOOTMODE balls, generation and width of the PCIe link, header and section table of each flash slot (R572, R575, R579). -/
  | resetRelease (strap : BitVec 2) (gen : BitVec 4) (width : BitVec 3) (hdrA hdrB : List (BitVec 8))
  /-- A write of BOOT.RST_CTL (R570). -/
  | rstCtlGo (value : BitVec 32)
  /-- PERST# is asserted (R570). -/
  | perstAssert
  /-- PERST# is deasserted (R570). -/
  | perstDeassert
  /-- A PCIe function-level reset (R570). -/
  | functionLevelReset
  /-- The house-core watchdog expires (R570). -/
  | wdog
  /-- Phase EARLY with the bytes of the slot tried next, none where the flash did not deliver them (R578, R581). -/
  | bootEarly (image : Option (List (BitVec 8)))
  /-- Phase RUNNING (R581). -/
  | bootRunning
  /-- Phases LOADING and DONE (R581). -/
  | bootDone
  /-- 200 ms from reset release without DONE (R580). -/
  | bootTrialTimeout
  /-- 10 s after DONE (R580). -/
  | trialConfirm
  /-- A WRITE record of the start-up sequence (R585). -/
  | seqWrite
  /-- A WAITROWS record ends (R585). -/
  | seqWaitrows
  /-- A WAITFIELD record observes its register; `timeout`: its time has run out (R585). -/
  | seqWaitfield (timeout : Bool)
  /-- A TPARAM record (R585). -/
  | seqTparam
  /-- The 100 us poll in RECOVERY (R587). -/
  | recoveryPoll
  /-- FUSE_CTL with OP 0x1 (R589). -/
  | fuseProgramKey0
  /-- FUSE_CTL with OP 0x2 (R589). -/
  | fuseProgramKey1
  /-- FUSE_CTL with OP 0x3 (R589). -/
  | fuseRevokeKey0
  /-- FUSE_CTL with OP 0x4 (R589). -/
  | fuseRaiseCount
  /-- The fuse operation completes (R589). -/
  | fuseOpDone
  /-- A JTAG instruction: 0 BYPASS, 1 IDCODE, 2 SAMPLE/PRELOAD, 3 EXTEST, 4 debug (R590). -/
  | jtagInstruction (instr : Fin 5)
  /-- A write of SWT.FG_CTL (R604). -/
  | loopCalibrationRequest (value : BitVec 32)
  /-- The pilot measurement ends: gain and offset in 0.01 % (R604). -/
  | loopCalibrationDone (gain offset : Int)
  /-- A write of SWT.FG_CTL (R605). -/
  | memoryMarchRequest (value : BitVec 32)
  /-- The engine tick at which the march begins (R605). -/
  | memoryMarchStart
  /-- The march ends, with the first failing address as FG_ADDR gives it, if any (R605). -/
  | memoryMarchDone (fail : Option (BitVec 32))
  /-- PERIOD has passed for a spare group (R599). -/
  | coreTestPeriod (group : Fin 4)
  /-- The pattern test of a group's vacated core ends (R601). -/
  | coreTestDone (group : Fin 4) (pass : Bool)
  /-- Firmware has scanned a lane's eye: width in 1/64 UI and height in 1/128 range, or the scan was aborted (R602). -/
  | eyeScanPeriod (lane : Fin 6) (width : BitVec 6) (height : BitVec 7) (aborted : Bool)
  /-- The next sense converter is due (R603). -/
  | senseTrim
  /-- DEGR of the 20 aging monitors, monitor 0 in the lowest 16 bits (R606). -/
  | agingMeasure (degr : BitVec 320)
  /-- A second has passed: the hottest sensor in 0.1 degrees C (R608). -/
  | lifeSample (temp : Int)
  /-- An hour has passed since the last save (R610). -/
  | lifeSave
  /-- A word that R90 makes illegal is issued. -/
  | illegalInstruction (core : Fin 128) (word : BitVec 32)
  /-- An edge arrives `ps` after the last accepted one (R337). -/
  | referenceEdge (input : Fin 4) (ps : BitVec 48)
  /-- Firmware sends a PTP message: 0 Sync, 1 Follow_Up, 2 Announce, 3 Delay_Req, 4 Pdelay_Req (R302, R335). -/
  | ptpMessageSend (tb port : Fin 4) (kind : Fin 5)
  /-- A Delay_Req or a Pdelay_Req arrives (R302). -/
  | ptpDelayReqReceive (tb port : Fin 4) (msg : DelayReq)
  /-- Firmware sends an LLDP frame (R441). -/
  | lldpSend (port : Fin 4)
  /-- The trim of the released converter ends: its gain and offset in 0.01 % (R603). -/
  | senseTrimDone (gain offset : Int)
  deriving DecidableEq, Repr

end Sys2Proof
end

