-- ==== Sys2Proof/WellFormed.lean ====
section
/-! DEFINITION. Which commands are well formed: the field rules of the engine instructions that a word can break by itself
(R90, R93, R95, R97, R102, R105, R112). The fields of every other command admit any value of their types. -/

namespace Sys2Proof

open Machine in
/-- Is the command well formed? -/
def Instr.wf (i : Instr) : Bool :=
  match i with
  | .mac _ _ _ _ bc k _ => bc || k == 0
  | .msu _ _ _ _ bc k _ => bc || k == 0
  | .tap _ _ pn pc _ _ _ _ _ => pn != pc
  | .ext _ _ _ sc _ => decide (sc.toNat ≤ 8)
  | .setr _ cl n hi sx _ => decide (cl.toNat ≤ 4) && classNumOk cl.toNat n.toNat && !(hi && sx)
  | .movr _ dcl dn scl sn => moveOk dcl.toNat dn.toNat scl.toNat sn.toNat
  | .xmov _ _ dcl dn scl sn => moveOk dcl.toNat dn.toNat scl.toNat sn.toNat
  | .lds _ _ _ mode ofs => modeOk mode ofs
  | .ldv _ _ _ mode ofs => modeOk mode ofs
  | .sts _ _ _ mode ofs => modeOk mode ofs
  | .stv _ _ _ mode ofs => modeOk mode ofs
  | .loop _ _ creg _ count => !creg || decide (count.toNat < 16)
  | _ => true

end Sys2Proof
end

