-- ==== Sys2Proof/Decode.lean ====
section
/-! DEFINITION. Decoding. The rows of spec/opcode_table.json give no bits, so a table word spells no command. The words of
the engine cores have encodings (R89 to R117): here they are decoded and encoded, for the command that issues a word which
is no instruction. -/

namespace Sys2Proof

/-- The command that a table word spells: the table gives no row a bit. -/
def decodeTableWord (_nbits _w : Nat) : Option Instr := none

/-- Bits from `lsb` up of an engine word. -/
def field (w : Word) (lsb n : Nat) : BitVec n := w.extractLsb' lsb n

/-- One bit of an engine word. -/
def flagAt (w : Word) (i : Nat) : Bool := w.getLsbD i

/-- A flag as a bit of a word. -/
def bit (b : Bool) : BitVec 1 := BitVec.ofBool b

/-- ACC by FN (R96). -/
def readAcc (c : Fin 128) (w : Word) : Option Instr :=
  let ad := field w 23 3
  match (field w 12 3).toNat with
  | 0 => some (.aadd c ad (field w 18 5))
  | 1 => some (.asub c ad (field w 18 5))
  | 2 => some (.amov c ad (field w 15 3))
  | 3 => some (.ahsum c ad (field w 15 3))
  | _ => none

/-- VALU by FN (R98). -/
def readValu (c : Fin 128) (w : Word) : Option Instr :=
  let dd := field w 21 5
  let da := field w 16 5
  let db := field w 11 5
  let n := field w 0 5
  match (field w 6 5).toNat with
  | 0x00 => some (.vadd c dd da db)
  | 0x01 => some (.vsub c dd da db)
  | 0x02 => some (.vaddw c dd da db)
  | 0x03 => some (.vsubw c dd da db)
  | 0x04 => some (.vand c dd da db)
  | 0x05 => some (.vor c dd da db)
  | 0x06 => some (.vxor c dd da db)
  | 0x07 => some (.vandn c dd da db)
  | 0x08 => some (.vshl c dd da n)
  | 0x09 => some (.vshls c dd da n)
  | 0x0A => some (.vshra c dd da n)
  | 0x0B => some (.vshrl c dd da n)
  | 0x0C => some (.vmax c dd da db)
  | 0x0D => some (.vmin c dd da db)
  | 0x0E => some (.vabs c dd da)
  | 0x0F => some (.vneg c dd da)
  | 0x10 => some (.vcmpeq c dd da db)
  | 0x11 => some (.vcmplt c dd da db)
  | 0x12 => some (.vcmple c dd da db)
  | 0x13 => some (.vcmpltu c dd da db)
  | 0x14 => some (.vsel c dd da db)
  | 0x15 => some (.vperm c dd da db)
  | 0x16 => some (.vbc c dd da (field w 0 3))
  | 0x18 => some (.vmul c dd da db)
  | 0x19 => some (.vmulB c dd da db (field w 0 3))
  | _ => none

/-- VMOVE by FN (R100). -/
def readVmove (c : Fin 128) (w : Word) : Option Instr :=
  let dv := field w 21 5
  let sn := field w 17 4
  let k := field w 14 3
  match (field w 12 2).toNat with
  | 0 => some (.vsplat c dv sn)
  | 1 => some (.vput c dv k sn)
  | 2 => some (.vget c sn dv k)
  | _ => none

/-- SALU by FN (R101). -/
def readSalu (c : Fin 128) (w : Word) : Option Instr :=
  let sd := field w 22 4
  let sa := field w 18 4
  let sb := field w 14 4
  let f := flagAt w 13
  match (field w 9 4).toNat with
  | 0x0 => some (.add c sd sa sb f)
  | 0x1 => some (.sub c sd sa sb f)
  | 0x2 => some (.and c sd sa sb f)
  | 0x3 => some (.or c sd sa sb f)
  | 0x4 => some (.xor c sd sa sb f)
  | 0x5 => some (.shl c sd sa sb f)
  | 0x6 => some (.shra c sd sa sb f)
  | 0x7 => some (.shrl c sd sa sb f)
  | 0x8 => some (.mul c sd sa sb f)
  | 0x9 => some (.cmp c sa sb)
  | 0xA => some (.min c sd sa sb f)
  | 0xB => some (.max c sd sa sb f)
  | _ => none

/-- The instruction whose fields a word holds, by its primary opcode (R92). -/
def readEngine (c : Fin 128) (w : Word) : Option Instr :=
  let rg4 := field w 21 4
  let rg5 := field w 21 5
  let pn := field w 17 4
  let mode := field w 15 2
  let ofs := field w 0 15
  let sd := field w 22 4
  let sa := field w 18 4
  let imm := field w 0 16
  match (field w 26 6).toNat with
  | 0x00 => some (.nop c)
  | 0x01 => some (.waitrow c)
  | 0x03 => some (.gie c (flagAt w 0))
  | 0x04 => some (.reti c)
  | 0x08 =>
    if flagAt w 7 then some (.msu c (field w 23 3) (field w 18 5) (field w 13 5) (flagAt w 12) (field w 9 3) (flagAt w 8))
    else some (.mac c (field w 23 3) (field w 18 5) (field w 13 5) (flagAt w 12) (field w 9 3) (flagAt w 8))
  | 0x09 => some (.tap c (field w 23 3) (field w 19 4) (field w 15 4) (flagAt w 14) (flagAt w 13) (flagAt w 12) (flagAt w 11)
      (flagAt w 10))
  | 0x0A => readAcc c w
  | 0x0B => some (.ext c (field w 21 5) (field w 18 3) (field w 14 4) (flagAt w 13))
  | 0x10 => readValu c w
  | 0x12 => readVmove c w
  | 0x18 => readSalu c w
  | 0x19 => some (.addi c sd sa (flagAt w 17) imm)
  | 0x1A => some (.andi c sd sa (flagAt w 17) imm)
  | 0x1B => some (.ori c sd sa (flagAt w 17) imm)
  | 0x1C => some (.xori c sd sa (flagAt w 17) imm)
  | 0x1D => some (.setr c (field w 23 3) (field w 18 5) (flagAt w 17) (flagAt w 16) imm)
  | 0x1E =>
    if flagAt w 9 then some (.xmov c (flagAt w 8) (field w 23 3) (field w 18 5) (field w 15 3) (field w 10 5))
    else some (.movr c (field w 23 3) (field w 18 5) (field w 15 3) (field w 10 5))
  | 0x1F => some (.padd c sd imm)
  | 0x20 => some (.lds c rg4 pn mode ofs)
  | 0x21 => some (.ldv c rg5 pn mode ofs)
  | 0x22 => some (.sts c rg4 pn mode ofs)
  | 0x23 => some (.stv c rg5 pn mode ofs)
  | 0x28 => some (.xfer c (field w 24 2) (flagAt w 23) (field w 19 4) (field w 15 4) (field w 11 4))
  | 0x29 => some (.xwait c (field w 22 4))
  | 0x30 => some (.b c sd (field w 0 13))
  | 0x31 => some (.call c sd (field w 0 13))
  | 0x32 => some (.jr c sd sa)
  | 0x33 => some (.callr c sd sa)
  | 0x34 => some (.ret c sd)
  | 0x35 => some (.loop c (flagAt w 25) (flagAt w 24) (field w 14 10) (field w 0 14))
  | 0x36 => some (.rdc c sd (field w 0 8))
  | 0x37 => some (.wrc c sd (field w 0 8))
  | _ => none

/-- A VALU word. -/
def valu (dd da db fn : BitVec 5) (imm : BitVec 6) : Word := (0x10#6 ++ dd ++ da ++ db ++ fn ++ imm)

/-- A SALU word. -/
def salu (sd sa sb : BitVec 4) (f : Bool) (fn : BitVec 4) : Word := (0x18#6 ++ sd ++ sa ++ sb ++ bit f ++ fn ++ 0#9)

/-- A word of the immediate forms. -/
def immWord (op : BitVec 6) (sd sa : BitVec 4) (f : Bool) (imm : BitVec 16) : Word := (op ++ sd ++ sa ++ bit f ++ 0#1 ++ imm)

/-- A load or store word. -/
def memWordOf (op : BitVec 6) (rg : BitVec 5) (pn : BitVec 4) (mode : BitVec 2) (ofs : BitVec 15) : Word :=
  (op ++ rg ++ pn ++ mode ++ ofs)

/-- A MAC word. -/
def macWord (ad : BitVec 3) (da db : BitVec 5) (bc : Bool) (k : BitVec 3) (z neg : Bool) : Word :=
  (0x08#6 ++ ad ++ da ++ db ++ bit bc ++ k ++ bit z ++ bit neg ++ 0#7)

/-- An ACC word. -/
def accWord (ad : BitVec 3) (da : BitVec 5) (src fn : BitVec 3) : Word := (0x0A#6 ++ ad ++ da ++ src ++ fn ++ 0#12)

/-- A VMOVE word. -/
def vmoveWord (dv : BitVec 5) (sn : BitVec 4) (k : BitVec 3) (fn : BitVec 2) : Word := (0x12#6 ++ dv ++ sn ++ k ++ fn ++ 0#12)

/-- A MOVR word. -/
def movrWord (dcl : BitVec 3) (dn : BitVec 5) (scl : BitVec 3) (sn : BitVec 5) (xb dir : Bool) : Word :=
  (0x1E#6 ++ dcl ++ dn ++ scl ++ sn ++ bit xb ++ bit dir ++ 0#8)

/-- The word of an engine instruction; none for the other commands. -/
def encodeEngine (i : Instr) : Option Word :=
  match i with
  | .nop _ => some 0
  | .waitrow _ => some (0x01#6 ++ 0#26)
  | .gie _ e => some (0x03#6 ++ 0#25 ++ bit e)
  | .reti _ => some (0x04#6 ++ 0#26)
  | .mac _ ad da db bc k z => some (macWord ad da db bc k z false)
  | .msu _ ad da db bc k z => some (macWord ad da db bc k z true)
  | .tap _ ad pn pc ddir cv cdir neg z =>
    some (0x09#6 ++ ad ++ pn ++ pc ++ bit ddir ++ bit cv ++ bit cdir ++ bit neg ++ bit z ++ 0#10)
  | .aadd _ ad da => some (accWord ad da 0 0)
  | .asub _ ad da => some (accWord ad da 0 1)
  | .amov _ ad src => some (accWord ad 0 src 2)
  | .ahsum _ ad src => some (accWord ad 0 src 3)
  | .ext _ dd src sc c => some (0x0B#6 ++ dd ++ src ++ sc ++ bit c ++ 0#13)
  | .vadd _ dd da db => some (valu dd da db 0x00 0)
  | .vsub _ dd da db => some (valu dd da db 0x01 0)
  | .vaddw _ dd da db => some (valu dd da db 0x02 0)
  | .vsubw _ dd da db => some (valu dd da db 0x03 0)
  | .vand _ dd da db => some (valu dd da db 0x04 0)
  | .vor _ dd da db => some (valu dd da db 0x05 0)
  | .vxor _ dd da db => some (valu dd da db 0x06 0)
  | .vandn _ dd da db => some (valu dd da db 0x07 0)
  | .vshl _ dd da n => some (valu dd da 0 0x08 (0#1 ++ n))
  | .vshls _ dd da n => some (valu dd da 0 0x09 (0#1 ++ n))
  | .vshra _ dd da n => some (valu dd da 0 0x0A (0#1 ++ n))
  | .vshrl _ dd da n => some (valu dd da 0 0x0B (0#1 ++ n))
  | .vmax _ dd da db => some (valu dd da db 0x0C 0)
  | .vmin _ dd da db => some (valu dd da db 0x0D 0)
  | .vabs _ dd da => some (valu dd da 0 0x0E 0)
  | .vneg _ dd da => some (valu dd da 0 0x0F 0)
  | .vcmpeq _ dd da db => some (valu dd da db 0x10 0)
  | .vcmplt _ dd da db => some (valu dd da db 0x11 0)
  | .vcmple _ dd da db => some (valu dd da db 0x12 0)
  | .vcmpltu _ dd da db => some (valu dd da db 0x13 0)
  | .vsel _ dd da db => some (valu dd da db 0x14 0)
  | .vperm _ dd da db => some (valu dd da db 0x15 0)
  | .vbc _ dd da lane => some (valu dd da 0 0x16 (0#3 ++ lane))
  | .vmul _ dd da db => some (valu dd da db 0x18 0)
  | .vmulB _ dd da db lane => some (valu dd da db 0x19 (0#3 ++ lane))
  | .vsplat _ dv sn => some (vmoveWord dv sn 0 0)
  | .vput _ dv k sn => some (vmoveWord dv sn k 1)
  | .vget _ sn dv k => some (vmoveWord dv sn k 2)
  | .add _ sd sa sb f => some (salu sd sa sb f 0x0)
  | .sub _ sd sa sb f => some (salu sd sa sb f 0x1)
  | .and _ sd sa sb f => some (salu sd sa sb f 0x2)
  | .or _ sd sa sb f => some (salu sd sa sb f 0x3)
  | .xor _ sd sa sb f => some (salu sd sa sb f 0x4)
  | .shl _ sd sa sb f => some (salu sd sa sb f 0x5)
  | .shra _ sd sa sb f => some (salu sd sa sb f 0x6)
  | .shrl _ sd sa sb f => some (salu sd sa sb f 0x7)
  | .mul _ sd sa sb f => some (salu sd sa sb f 0x8)
  | .cmp _ sa sb => some (salu 0 sa sb true 0x9)
  | .min _ sd sa sb f => some (salu sd sa sb f 0xA)
  | .max _ sd sa sb f => some (salu sd sa sb f 0xB)
  | .addi _ sd sa f imm => some (immWord 0x19 sd sa f imm)
  | .andi _ sd sa f imm => some (immWord 0x1A sd sa f imm)
  | .ori _ sd sa f imm => some (immWord 0x1B sd sa f imm)
  | .xori _ sd sa f imm => some (immWord 0x1C sd sa f imm)
  | .setr _ cl n hi sx imm => some (0x1D#6 ++ cl ++ n ++ bit hi ++ bit sx ++ imm)
  | .movr _ dcl dn scl sn => some (movrWord dcl dn scl sn false false)
  | .xmov _ toBank1 dcl dn scl sn => some (movrWord dcl dn scl sn true toBank1)
  | .padd _ pn imm => some (0x1F#6 ++ pn ++ 0#6 ++ imm)
  | .lds _ rg pn mode ofs => some (memWordOf 0x20 (0#1 ++ rg) pn mode ofs)
  | .ldv _ rg pn mode ofs => some (memWordOf 0x21 rg pn mode ofs)
  | .sts _ rg pn mode ofs => some (memWordOf 0x22 (0#1 ++ rg) pn mode ofs)
  | .stv _ rg pn mode ofs => some (memWordOf 0x23 rg pn mode ofs)
  | .xfer _ ch dir pw px sn => some (0x28#6 ++ ch ++ bit dir ++ pw ++ px ++ sn ++ 0#11)
  | .xwait _ mask => some (0x29#6 ++ mask ++ 0#22)
  | .b _ cond target => some (0x30#6 ++ cond ++ 0#9 ++ target)
  | .call _ cond target => some (0x31#6 ++ cond ++ 0#9 ++ target)
  | .jr _ cond sn => some (0x32#6 ++ cond ++ sn ++ 0#18)
  | .callr _ cond sn => some (0x33#6 ++ cond ++ sn ++ 0#18)
  | .ret _ cond => some (0x34#6 ++ cond ++ 0#22)
  | .loop _ inner creg len count => some (0x35#6 ++ bit inner ++ bit creg ++ len ++ count)
  | .rdc _ sn idx => some (0x36#6 ++ sn ++ 0#14 ++ idx)
  | .wrc _ sn idx => some (0x37#6 ++ sn ++ 0#14 ++ idx)
  | _ => none

/-- The instruction that a word is on core `c`: its fields make a well-formed instruction, and every reserved or unused bit
is 0 (R89, R90). -/
def decodeEngine (c : Fin 128) (w : Word) : Option Instr :=
  (readEngine c w).filter (fun i => i.wf && encodeEngine i == some w)

end Sys2Proof
end

