-- ==== Sys2Proof/Config.lean ====
section
/-! DEFINITION. What an implementation fixes and the values that the specification leaves open. Every opaque constant
here has no body: nothing can evaluate it, and a claim about it holds whatever it is. Most are applied to the plain
counter `State.free`, which a step reads and advances, so that each use is a fresh value (log entry 4). -/

namespace Sys2Proof

/-- Stall cycles of one access to the mailbox window: R68 bounds them by 96 and states no value (log entry 8). -/
opaque Config.mailboxStall : Nat → Fin 97

/-- HMAC-SHA-256 of a message under a key (R525): the algorithm is another standard's; the model uses it as an
uninterpreted function (log entry 9). -/
opaque Config.hmacSha256 : List Byte → List Byte → BitVec 256

/-- Does the ECDSA signature verify (R576, R578)? Another standard's algorithm, uninterpreted (log entry 9). -/
opaque Config.signatureOk : List Byte → List Byte → List Byte → Bool

/-- SHA-384 of a message (R576), uninterpreted (log entry 9). -/
opaque Config.sha384 : List Byte → BitVec 384

/-- The 128-bit unique identifier of the part (R613): byte values differ from part to part (log entry 21). -/
opaque Config.uid : Nat → Word

/-- Clock identity that a time base announces as grandmaster; the specification gives none (log entry 24). -/
opaque Config.clockIdentity : Nat → Nat

/-- The factory default equalisation values of a lane, from which ACQUIRE adapts (R276): lane and place (0 gain, 1 peaking,
then the DFE taps); the specification gives no numbers (log entry 27). -/
opaque Config.factoryTap : Nat → Nat → Nat

/-- Where the pattern generator of a lane starts, by count-clock edge (R288 gives no start; log entry 130). -/
opaque Config.prbsSeed : Nat → Nat → Nat

/-- The bits that a lane's transmitter sends in a near-end loopback without the generator: lane, count-clock edge and place
(log entry 130). -/
opaque Config.lineBit : Nat → Nat → Nat → Bool

/-- Where the correction loop of a channel moves to, gain in 2^-15 and offset in mV, for an intended voltage in microvolts and the
measured one in mV: R399 and R400 give no law (log entry 91). -/
opaque Config.correction : Nat → Int → Int → Int × Int

/-- A fresh word for a result whose value the specification leaves open (log entry 4). -/
opaque Config.freeWord : Nat → Word

end Sys2Proof
end

