-- ==== Sys2Proof/Machine/Map.lean ====
section
/-! DEFINITION. Sparse tables: a list of (key, value) pairs in one canonical form, keys strictly rising and no entry
equal to what an unlisted key reads as. Registers, memories and the tables of per-entity records are held so. -/

namespace Sys2Proof.Machine

/-- A sparse table. -/
abbrev Table (α : Type) := List (Nat × α)

/-- The value at key `k`; `d k` where the table lists nothing. -/
def Table.get {α : Type} (d : Nat → α) : Table α → Nat → α
  | [], k => d k
  | (a, v) :: t, k => if k = a then v else Table.get d t k

/-- List `v` at key `k`, keeping the keys in rising order. -/
def Table.insert {α : Type} (k : Nat) (v : α) : Table α → Table α
  | [] => [(k, v)]
  | (a, w) :: t =>
    if k < a then (k, v) :: (a, w) :: t
    else if k = a then (k, v) :: t
    else (a, w) :: Table.insert k v t

/-- Drop the entry at key `k`. -/
def Table.erase {α : Type} (k : Nat) : Table α → Table α
  | [] => []
  | (a, w) :: t => if k = a then Table.erase k t else (a, w) :: Table.erase k t

/-- Write `v` at key `k` in canonical form: the value an unlisted key reads as removes the entry. -/
def Table.set {α : Type} [DecidableEq α] (d : Nat → α) (m : Table α) (k : Nat) (v : α) : Table α :=
  if v = d k then Table.erase k m else Table.insert k v m

/-- Change every listed value, keeping the canonical form. -/
def Table.remap {α : Type} [DecidableEq α] (d : Nat → α) (f : α → α) : Table α → Table α
  | [] => []
  | (a, v) :: t => if f v = d a then Table.remap d f t else (a, f v) :: Table.remap d f t

/-- All keys are above `b`, rise strictly, and no entry equals the unlisted value. -/
def Table.wfFrom {α : Type} [DecidableEq α] (d : Nat → α) : Option Nat → Table α → Bool
  | _, [] => true
  | b, (a, v) :: t =>
    (match b with | none => true | some x => decide (x < a)) && decide (v ≠ d a) && Table.wfFrom d (some a) t

/-- The canonical form. -/
def Table.wf {α : Type} [DecidableEq α] (d : Nat → α) (m : Table α) : Bool := Table.wfFrom d none m

end Sys2Proof.Machine
end

