-- ==== Sys2Proof/Machine/Regs.lean ====
section
/-! DEFINITION. The register table of R615: for every register its offset pattern, its fields with access type,
reset value, reset source and legal codes, written from the register tables of the chapters; and the names of all
registers and fields. Reserved bits (R12) have no row: they read 0 and ignore writes. -/

namespace Sys2Proof.Machine

/-- Access types of R10. -/
inductive Access where
  | rw | ro | wo | w1c | rc | ws
  deriving DecidableEq, Repr

/-- Reset sources of R11. -/
inductive Source where
  | factory | image | hardware
  deriving DecidableEq, Repr

/-- One field of a register table (R9): bits, access, reset value, source, and the codes that are not reserved
(an empty list: every code is legal); `sat` marks the sticky SAT bits of counters (R14). -/
structure FieldDesc where
  msb : Nat
  lsb : Nat
  acc : Access
  reset : Nat
  src : Source
  ok : List (Nat × Nat)
  sat : Bool
  deriving DecidableEq, Repr

/-- One row of R615: offset in the block, two index ranges with their steps (count 1, step 0: no index), whether the
register is timed (R616), and its fields. -/
structure RegDesc where
  name : String
  off : Nat
  n1 : Nat
  s1 : Nat
  n2 : Nat
  s2 : Nat
  timed : Bool
  fields : List FieldDesc
  deriving DecidableEq, Repr

/-- A reference to one field: W0 address of its register and its bit range. -/
structure Fd where
  addr : Nat
  msb : Nat
  lsb : Nat
  deriving DecidableEq, Repr

/-- Registers of HIF (R615), part 1. -/
def regsHIF_1 : List RegDesc := [
  ⟨"HIF.ID", 0x0000, 1, 0x0, 1, 0x0, false,
    [⟨31, 16, .ro, 0x2048, .factory, [], false⟩, ⟨15, 0, .ro, 0x1F3A, .factory, [], false⟩]⟩,
  ⟨"HIF.REV", 0x0004, 1, 0x0, 1, 0x0, false,
    [⟨15, 0, .ro, 0xA1B0, .factory, [], false⟩]⟩,
  ⟨"HIF.LINK", 0x0008, 1, 0x0, 1, 0x0, false,
    [⟨19, 16, .ro, 0, .hardware, [], false⟩, ⟨10, 8, .ro, 0, .hardware, [], false⟩]⟩,
  ⟨"HIF.DBADDR_LO", 0x0010, 1, 0x0, 1, 0x0, false,
    [⟨31, 12, .rw, 0, .hardware, [], false⟩]⟩,
  ⟨"HIF.DBADDR_HI", 0x0014, 1, 0x0, 1, 0x0, false,
    [⟨15, 0, .rw, 0, .hardware, [], false⟩]⟩,
  ⟨"HIF.STADDR_LO", 0x0018, 1, 0x0, 1, 0x0, false,
    [⟨31, 12, .rw, 0, .hardware, [], false⟩]⟩,
  ⟨"HIF.STADDR_HI", 0x001C, 1, 0x0, 1, 0x0, false,
    [⟨15, 0, .rw, 0, .hardware, [], false⟩]⟩,
  ⟨"HIF.HCTL", 0x0020, 1, 0x0, 1, 0x0, false,
    [⟨0, 0, .rw, 0, .hardware, [], false⟩]⟩,
  ⟨"HIF.HSTAT", 0x0024, 1, 0x0, 1, 0x0, false,
    [⟨1, 1, .w1c, 0, .hardware, [], false⟩, ⟨0, 0, .w1c, 0, .hardware, [], false⟩]⟩,
  ⟨"HIF.WAKE", 0x0028, 1, 0x0, 1, 0x0, false,
    [⟨0, 0, .wo, 0, .hardware, [], false⟩]⟩,
  ⟨"HIF.PWRSTAT", 0x002C, 1, 0x0, 1, 0x0, false,
    [⟨1, 0, .ro, 3, .hardware, [], false⟩]⟩,
  ⟨"HIF.ACCERR_ADDR", 0x0030, 1, 0x0, 1, 0x0, false,
    [⟨31, 31, .ro, 0, .hardware, [], false⟩, ⟨22, 0, .ro, 0, .hardware, [], false⟩]⟩]

/-- Registers of HIF (R615), part 2. -/
def regsHIF_2 : List RegDesc := [
  ⟨"HIF.CNT_SNAP", 0x0040, 1, 0x0, 1, 0x0, false,
    [⟨31, 0, .ws, 0, .hardware, [], false⟩]⟩,
  ⟨"HIF.DBERR_CNT", 0x0044, 1, 0x0, 1, 0x0, false,
    [⟨31, 0, .ro, 0, .hardware, [], false⟩]⟩,
  ⟨"HIF.ACCERR_CNT", 0x0048, 1, 0x0, 1, 0x0, false,
    [⟨31, 0, .ro, 0, .hardware, [], false⟩]⟩,
  ⟨"HIF.RXNORING_CNT", 0x004C, 1, 0x0, 1, 0x0, false,
    [⟨31, 0, .ro, 0, .hardware, [], false⟩]⟩,
  ⟨"HIF.CNT_SAT", 0x0050, 1, 0x0, 1, 0x0, false,
    [⟨2, 0, .w1c, 0, .hardware, [], true⟩]⟩]

/-- All registers of HIF. -/
def regsHIF : List RegDesc := regsHIF_1 ++ regsHIF_2

/-- Registers of RING (R615), part 1. -/
def regsRING_1 : List RegDesc := [
  ⟨"RING.BASE_LO", 0x0000, 64, 0x40, 1, 0x0, false,
    [⟨31, 0, .rw, 0, .hardware, [], false⟩]⟩,
  ⟨"RING.BASE_HI", 0x0004, 64, 0x40, 1, 0x0, false,
    [⟨15, 0, .rw, 0, .hardware, [], false⟩]⟩,
  ⟨"RING.CFG", 0x0008, 64, 0x40, 1, 0x0, false,
    [⟨31, 31, .rw, 0, .hardware, [], false⟩, ⟨27, 24, .rw, 0, .hardware, [], false⟩, ⟨19, 16, .rw, 4, .hardware, [(4, 15)], false⟩, ⟨13, 8, .rw, 0, .hardware, [], false⟩, ⟨4, 0, .rw, 0, .hardware, [], false⟩]⟩,
  ⟨"RING.CFG2", 0x000C, 64, 0x40, 1, 0x0, false,
    [⟨31, 24, .rw, 0, .hardware, [], false⟩, ⟨15, 8, .rw, 1, .hardware, [], false⟩, ⟨7, 0, .rw, 0, .hardware, [], false⟩]⟩,
  ⟨"RING.CTL", 0x0010, 64, 0x40, 1, 0x0, false,
    [⟨0, 0, .wo, 0, .hardware, [], false⟩]⟩,
  ⟨"RING.STAT", 0x0014, 64, 0x40, 1, 0x0, false,
    [⟨31, 28, .ro, 0, .hardware, [], false⟩, ⟨27, 24, .ro, 0, .hardware, [], false⟩, ⟨23, 16, .ro, 0, .hardware, [], false⟩, ⟨15, 0, .ro, 0, .hardware, [], false⟩]⟩,
  ⟨"RING.CNT_SNAP", 0x0018, 64, 0x40, 1, 0x0, false,
    [⟨31, 0, .ws, 0, .hardware, [], false⟩]⟩,
  ⟨"RING.DESC_LO", 0x001C, 64, 0x40, 1, 0x0, false,
    [⟨31, 0, .ro, 0, .hardware, [], false⟩]⟩,
  ⟨"RING.DESC_HI", 0x0020, 64, 0x40, 1, 0x0, false,
    [⟨31, 0, .ro, 0, .hardware, [], false⟩]⟩,
  ⟨"RING.ERR_CNT", 0x0024, 64, 0x40, 1, 0x0, false,
    [⟨31, 0, .ro, 0, .hardware, [], false⟩]⟩,
  ⟨"RING.MISS_CNT", 0x0028, 64, 0x40, 1, 0x0, false,
    [⟨31, 0, .ro, 0, .hardware, [], false⟩]⟩,
  ⟨"RING.LATE_CNT", 0x002C, 64, 0x40, 1, 0x0, false,
    [⟨31, 0, .ro, 0, .hardware, [], false⟩]⟩]

/-- Registers of RING (R615), part 2. -/
def regsRING_2 : List RegDesc := [
  ⟨"RING.CNT_SAT", 0x0030, 64, 0x40, 1, 0x0, false,
    [⟨2, 0, .w1c, 0, .hardware, [], true⟩]⟩]

/-- All registers of RING. -/
def regsRING : List RegDesc := regsRING_1 ++ regsRING_2

/-- Registers of XLT (R615), part 1. -/
def regsXLT_1 : List RegDesc := [
  ⟨"XLT.CTL", 0x0000, 1, 0x0, 1, 0x0, false,
    [⟨0, 0, .rw, 0, .hardware, [], false⟩]⟩,
  ⟨"XLT.STAT", 0x0004, 1, 0x0, 1, 0x0, false,
    [⟨24, 16, .ro, 0, .hardware, [], false⟩, ⟨15, 8, .ro, 0, .hardware, [], false⟩, ⟨1, 1, .w1c, 0, .hardware, [], false⟩, ⟨0, 0, .ro, 0, .hardware, [], false⟩]⟩,
  ⟨"XLT.ROOT_LO", 0x0008, 1, 0x0, 1, 0x0, false,
    [⟨31, 12, .rw, 0, .hardware, [], false⟩]⟩,
  ⟨"XLT.ROOT_HI", 0x000C, 1, 0x0, 1, 0x0, false,
    [⟨19, 0, .rw, 0, .hardware, [], false⟩]⟩,
  ⟨"XLT.INV_CTL", 0x0010, 1, 0x0, 1, 0x0, false,
    [⟨31, 31, .wo, 0, .hardware, [], false⟩, ⟨1, 0, .rw, 0, .hardware, [(0, 2)], false⟩]⟩,
  ⟨"XLT.INV_ADDR_LO", 0x0014, 1, 0x0, 1, 0x0, false,
    [⟨31, 12, .rw, 0, .hardware, [], false⟩]⟩,
  ⟨"XLT.INV_ADDR_HI", 0x0018, 1, 0x0, 1, 0x0, false,
    [⟨15, 0, .rw, 0, .hardware, [], false⟩]⟩,
  ⟨"XLT.INV_STAT", 0x001C, 1, 0x0, 1, 0x0, false,
    [⟨0, 0, .ro, 0, .hardware, [], false⟩]⟩,
  ⟨"XLT.CNT_SNAP", 0x0020, 1, 0x0, 1, 0x0, false,
    [⟨31, 0, .ws, 0, .hardware, [], false⟩]⟩,
  ⟨"XLT.LOOKUP_LO", 0x0028, 1, 0x0, 1, 0x0, false,
    [⟨31, 0, .ro, 0, .hardware, [], false⟩]⟩,
  ⟨"XLT.LOOKUP_HI", 0x002C, 1, 0x0, 1, 0x0, false,
    [⟨31, 0, .ro, 0, .hardware, [], false⟩]⟩,
  ⟨"XLT.MISS_LO", 0x0030, 1, 0x0, 1, 0x0, false,
    [⟨31, 0, .ro, 0, .hardware, [], false⟩]⟩]

/-- Registers of XLT (R615), part 2. -/
def regsXLT_2 : List RegDesc := [
  ⟨"XLT.MISS_HI", 0x0034, 1, 0x0, 1, 0x0, false,
    [⟨31, 0, .ro, 0, .hardware, [], false⟩]⟩,
  ⟨"XLT.FAULT_CNT", 0x0038, 1, 0x0, 1, 0x0, false,
    [⟨31, 0, .ro, 0, .hardware, [], false⟩]⟩,
  ⟨"XLT.HARD_CNT", 0x003C, 1, 0x0, 1, 0x0, false,
    [⟨31, 0, .ro, 0, .hardware, [], false⟩]⟩,
  ⟨"XLT.FOVF_CNT", 0x0040, 1, 0x0, 1, 0x0, false,
    [⟨31, 0, .ro, 0, .hardware, [], false⟩]⟩,
  ⟨"XLT.CNT_SAT", 0x0044, 1, 0x0, 1, 0x0, false,
    [⟨2, 0, .w1c, 0, .hardware, [], true⟩]⟩,
  ⟨"XLT.LAST_FAULT", 0x0050, 8, 0x4, 1, 0x0, false,
    [⟨31, 0, .ro, 0, .hardware, [], false⟩]⟩]

/-- All registers of XLT. -/
def regsXLT : List RegDesc := regsXLT_1 ++ regsXLT_2

/-- Registers of EVT (R615), part 1. -/
def regsEVT_1 : List RegDesc := [
  ⟨"EVT.STATUS", 0x0000, 8, 0x4, 1, 0x0, false,
    [⟨31, 0, .w1c, 0, .hardware, [], false⟩]⟩,
  ⟨"EVT.ENABLE", 0x0020, 8, 0x4, 1, 0x0, false,
    [⟨31, 0, .rw, 0, .image, [], false⟩]⟩,
  ⟨"EVT.GCFG", 0x0040, 8, 0x4, 1, 0x0, false,
    [⟨31, 31, .rw, 0, .hardware, [], false⟩, ⟨29, 24, .rw, 0, .hardware, [], false⟩, ⟨15, 15, .rw, 0, .hardware, [], false⟩, ⟨4, 0, .rw, 0, .hardware, [], false⟩]⟩,
  ⟨"EVT.FAULT_CFG", 0x0060, 1, 0x0, 1, 0x0, false,
    [⟨15, 15, .rw, 0, .hardware, [], false⟩, ⟨4, 0, .rw, 0, .hardware, [], false⟩]⟩,
  ⟨"EVT.RAISE", 0x0064, 1, 0x0, 1, 0x0, false,
    [⟨7, 0, .wo, 0, .hardware, [], false⟩]⟩,
  ⟨"EVT.STAT", 0x0068, 1, 0x0, 1, 0x0, false,
    [⟨8, 0, .ro, 0, .hardware, [], false⟩]⟩,
  ⟨"EVT.CNT_SNAP", 0x0080, 1, 0x0, 1, 0x0, false,
    [⟨31, 0, .ws, 0, .hardware, [], false⟩]⟩,
  ⟨"EVT.OVFL_CNT", 0x0084, 1, 0x0, 1, 0x0, false,
    [⟨31, 0, .ro, 0, .hardware, [], false⟩]⟩,
  ⟨"EVT.CNT_SAT", 0x0088, 1, 0x0, 1, 0x0, false,
    [⟨0, 0, .w1c, 0, .hardware, [], true⟩]⟩,
  ⟨"EVT.INFO", 0x0400, 256, 0x4, 1, 0x0, false,
    [⟨31, 0, .ro, 0, .hardware, [], false⟩]⟩]

/-- All registers of EVT. -/
def regsEVT : List RegDesc := regsEVT_1

/-- Registers of MBX (R615), part 1. -/
def regsMBX_1 : List RegDesc := [
  ⟨"MBX.CNT_SNAP", 0x0000, 1, 0x0, 1, 0x0, false,
    [⟨31, 0, .ws, 0, .hardware, [], false⟩]⟩,
  ⟨"MBX.HREJ_CNT", 0x0004, 1, 0x0, 1, 0x0, false,
    [⟨31, 0, .ro, 0, .hardware, [], false⟩]⟩,
  ⟨"MBX.BUSERR_CNT", 0x0008, 1, 0x0, 1, 0x0, false,
    [⟨31, 0, .ro, 0, .hardware, [], false⟩]⟩,
  ⟨"MBX.TWREJ_CNT", 0x000C, 1, 0x0, 1, 0x0, false,
    [⟨31, 0, .ro, 0, .hardware, [], false⟩]⟩,
  ⟨"MBX.CNT_SAT", 0x0010, 1, 0x0, 1, 0x0, false,
    [⟨2, 0, .w1c, 0, .hardware, [], true⟩]⟩,
  ⟨"MBX.LASTW", 0x0100, 64, 0x4, 1, 0x0, false,
    [⟨7, 0, .ro, 0, .hardware, [], false⟩]⟩]

/-- All registers of MBX. -/
def regsMBX : List RegDesc := regsMBX_1

/-- Registers of BOOT (R615), part 1. -/
def regsBOOT_1 : List RegDesc := [
  ⟨"BOOT.STAT", 0x0000, 1, 0x0, 1, 0x0, false,
    [⟨31, 30, .ro, 3, .hardware, [], false⟩, ⟨29, 27, .ro, 0, .hardware, [], false⟩, ⟨23, 22, .ro, 0, .hardware, [], false⟩, ⟨21, 20, .ro, 0, .hardware, [], false⟩, ⟨12, 8, .ro, 0, .hardware, [], false⟩, ⟨4, 0, .ro, 0, .hardware, [], false⟩]⟩,
  ⟨"BOOT.IMG_SEQ", 0x0004, 1, 0x0, 1, 0x0, false,
    [⟨31, 0, .ro, 0, .hardware, [], false⟩]⟩,
  ⟨"BOOT.IMG_INFO", 0x0008, 1, 0x0, 1, 0x0, false,
    [⟨31, 24, .ro, 0, .hardware, [], false⟩, ⟨17, 16, .ro, 0, .hardware, [], false⟩, ⟨8, 8, .ro, 0, .hardware, [], false⟩, ⟨0, 0, .ro, 0, .hardware, [], false⟩]⟩,
  ⟨"BOOT.RST_CAUSE", 0x000C, 1, 0x0, 1, 0x0, false,
    [⟨3, 0, .ro, 0, .hardware, [], false⟩]⟩,
  ⟨"BOOT.RST_CTL", 0x0010, 1, 0x0, 1, 0x0, false,
    [⟨31, 24, .wo, 0, .hardware, [], false⟩, ⟨0, 0, .wo, 0, .hardware, [], false⟩]⟩,
  ⟨"BOOT.NEXT", 0x0014, 1, 0x0, 1, 0x0, false,
    [⟨1, 0, .rw, 0, .hardware, [], false⟩]⟩,
  ⟨"BOOT.STRAP", 0x0018, 1, 0x0, 1, 0x0, false,
    [⟨1, 0, .ro, 0, .hardware, [], false⟩]⟩,
  ⟨"BOOT.SEQ_STAT", 0x001C, 1, 0x0, 1, 0x0, false,
    [⟨31, 28, .ro, 0, .hardware, [], false⟩, ⟨15, 0, .ro, 0, .hardware, [], false⟩]⟩,
  ⟨"BOOT.ARB", 0x0020, 1, 0x0, 1, 0x0, false,
    [⟨6, 0, .ro, 0, .hardware, [], false⟩]⟩,
  ⟨"BOOT.KEYSTAT", 0x0024, 1, 0x0, 1, 0x0, false,
    [⟨2, 2, .ro, 0, .hardware, [], false⟩, ⟨1, 1, .ro, 0, .hardware, [], false⟩, ⟨0, 0, .ro, 0, .hardware, [], false⟩]⟩,
  ⟨"BOOT.FUSE_CTL", 0x0028, 1, 0x0, 1, 0x0, false,
    [⟨31, 24, .wo, 0, .hardware, [], false⟩, ⟨3, 0, .wo, 0, .hardware, [], false⟩]⟩,
  ⟨"BOOT.FUSE_STAT", 0x002C, 1, 0x0, 1, 0x0, false,
    [⟨1, 0, .ro, 0, .hardware, [], false⟩]⟩]

/-- Registers of BOOT (R615), part 2. -/
def regsBOOT_2 : List RegDesc := [
  ⟨"BOOT.FUSE_DATA", 0x0030, 12, 0x4, 1, 0x0, false,
    [⟨31, 0, .rw, 0, .hardware, [], false⟩]⟩,
  ⟨"BOOT.UID", 0x0060, 4, 0x4, 1, 0x0, false,
    [⟨31, 0, .ro, 0, .factory, [], false⟩]⟩,
  ⟨"BOOT.DBG_STAT", 0x0070, 1, 0x0, 1, 0x0, false,
    [⟨1, 0, .ro, 0, .hardware, [], false⟩]⟩]

/-- All registers of BOOT. -/
def regsBOOT : List RegDesc := regsBOOT_1 ++ regsBOOT_2

/-- Registers of SUP (R615), part 1. -/
def regsSUP_1 : List RegDesc := [
  ⟨"SUP.VBUS_CFG", 0x0000, 1, 0x0, 1, 0x0, false,
    [⟨8, 0, .rw, 0x064, .image, [(0x3A, 0x190)], false⟩]⟩,
  ⟨"SUP.SAG_CFG", 0x0004, 1, 0x0, 1, 0x0, false,
    [⟨31, 31, .rw, 1, .image, [], false⟩, ⟨25, 16, .rw, 0x096, .image, [(0x3A, 0x258)], false⟩, ⟨11, 8, .rw, 4, .image, [(1, 15)], false⟩, ⟨7, 0, .rw, 0x32, .image, [], false⟩]⟩,
  ⟨"SUP.SAG_TIME", 0x0008, 1, 0x0, 1, 0x0, false,
    [⟨15, 8, .rw, 0x0A, .image, [], false⟩, ⟨7, 0, .rw, 0x14, .image, [(1, 255)], false⟩]⟩,
  ⟨"SUP.CORE_CFG", 0x000C, 1, 0x0, 1, 0x0, false,
    [⟨29, 28, .rw, 3, .image, [(1, 3)], false⟩, ⟨23, 16, .rw, 0x48, .image, [(0x28, 0x50)], false⟩, ⟨15, 8, .rw, 0x50, .image, [(0x28, 0x78)], false⟩]⟩,
  ⟨"SUP.VCORE", 0x0010, 1, 0x0, 1, 0x0, false,
    [⟨31, 16, .ro, 0, .hardware, [], false⟩, ⟨15, 14, .ro, 3, .hardware, [], false⟩, ⟨7, 0, .ro, 0x96, .hardware, [], false⟩]⟩,
  ⟨"SUP.CORE_ACT", 0x0014, 1, 0x0, 1, 0x0, false,
    [⟨31, 24, .ro, 0x48, .hardware, [], false⟩, ⟨23, 16, .ro, 0x50, .hardware, [], false⟩, ⟨15, 0, .ro, 0, .hardware, [], false⟩]⟩,
  ⟨"SUP.RAIL_STAT", 0x0018, 1, 0x0, 1, 0x0, false,
    [⟨31, 31, .ro, 0, .hardware, [], false⟩, ⟨23, 20, .ro, 0, .hardware, [], false⟩, ⟨19, 16, .ro, 0, .hardware, [], false⟩, ⟨7, 7, .ro, 0, .hardware, [], false⟩, ⟨6, 6, .ro, 0, .hardware, [], false⟩, ⟨5, 5, .ro, 0, .hardware, [], false⟩, ⟨4, 0, .ro, 0, .hardware, [], false⟩]⟩,
  ⟨"SUP.CNT_SNAP", 0x0020, 1, 0x0, 1, 0x0, false,
    [⟨31, 0, .ws, 0, .hardware, [], false⟩]⟩,
  ⟨"SUP.SAG_CNT", 0x0024, 1, 0x0, 1, 0x0, false,
    [⟨31, 0, .ro, 0, .hardware, [], false⟩]⟩,
  ⟨"SUP.PFW_CNT", 0x0028, 1, 0x0, 1, 0x0, false,
    [⟨31, 0, .ro, 0, .hardware, [], false⟩]⟩,
  ⟨"SUP.OV_CNT", 0x002C, 1, 0x0, 1, 0x0, false,
    [⟨31, 0, .ro, 0, .hardware, [], false⟩]⟩,
  ⟨"SUP.RAILFLT_CNT", 0x0030, 1, 0x0, 1, 0x0, false,
    [⟨31, 0, .ro, 0, .hardware, [], false⟩]⟩]

/-- Registers of SUP (R615), part 2. -/
def regsSUP_2 : List RegDesc := [
  ⟨"SUP.CNT_SAT", 0x0034, 1, 0x0, 1, 0x0, false,
    [⟨3, 0, .w1c, 0, .hardware, [], true⟩]⟩,
  ⟨"SUP.PWR_CTL", 0x8000, 1, 0x0, 1, 0x0, false,
    [⟨1, 0, .rw, 3, .image, [(1, 3)], false⟩]⟩,
  ⟨"SUP.PWR_STAT", 0x8004, 1, 0x0, 1, 0x0, false,
    [⟨31, 28, .ro, 0, .hardware, [], false⟩, ⟨27, 24, .ro, 0, .hardware, [], false⟩, ⟨1, 0, .ro, 3, .hardware, [], false⟩]⟩,
  ⟨"SUP.STBY_CFG", 0x8008, 1, 0x0, 1, 0x0, false,
    [⟨31, 31, .rw, 0, .image, [], false⟩, ⟨30, 30, .rw, 0, .image, [], false⟩, ⟨29, 29, .rw, 0, .image, [], false⟩, ⟨28, 28, .rw, 1, .image, [], false⟩, ⟨25, 24, .rw, 0, .image, [], false⟩, ⟨15, 0, .rw, 0x88B5, .image, [(0x600, 0xFFFF)], false⟩]⟩,
  ⟨"SUP.WOL_KEY_LO", 0x800C, 1, 0x0, 1, 0x0, false,
    [⟨31, 0, .rw, 0, .image, [], false⟩]⟩,
  ⟨"SUP.WOL_KEY_HI", 0x8010, 1, 0x0, 1, 0x0, false,
    [⟨31, 0, .rw, 0, .image, [], false⟩]⟩,
  ⟨"SUP.ALARM_SEC_LO", 0x8014, 1, 0x0, 1, 0x0, false,
    [⟨31, 0, .rw, 0, .image, [], false⟩]⟩,
  ⟨"SUP.ALARM_SEC_HI", 0x8018, 1, 0x0, 1, 0x0, false,
    [⟨15, 0, .rw, 0, .image, [], false⟩]⟩,
  ⟨"SUP.SAGDEPTH", 0x801C, 1, 0x0, 1, 0x0, false,
    [⟨2, 0, .rw, 4, .image, [(1, 4)], false⟩]⟩]

/-- All registers of SUP. -/
def regsSUP : List RegDesc := regsSUP_1 ++ regsSUP_2

/-- Registers of SWT (R615), part 1. -/
def regsSWT_1 : List RegDesc := [
  ⟨"SWT.FG_CTL", 0x0000, 1, 0x0, 1, 0x0, false,
    [⟨31, 31, .wo, 0, .hardware, [], false⟩, ⟨27, 24, .rw, 0, .hardware, [(1, 2)], false⟩, ⟨2, 0, .rw, 0, .hardware, [], false⟩]⟩,
  ⟨"SWT.FG_STAT", 0x0004, 1, 0x0, 1, 0x0, false,
    [⟨31, 28, .ro, 0, .hardware, [], false⟩, ⟨27, 24, .ro, 0, .hardware, [], false⟩]⟩,
  ⟨"SWT.FG_ADDR", 0x0008, 1, 0x0, 1, 0x0, false,
    [⟨31, 0, .ro, 0, .hardware, [], false⟩]⟩,
  ⟨"SWT.CORE_CFG", 0x000C, 1, 0x0, 1, 0x0, false,
    [⟨31, 31, .rw, 1, .image, [], false⟩, ⟨7, 0, .rw, 0x0A, .image, [(1, 255)], false⟩]⟩,
  ⟨"SWT.CORE_FAIL", 0x0010, 5, 0x4, 1, 0x0, false,
    [⟨31, 0, .ro, 0, .hardware, [], false⟩]⟩,
  ⟨"SWT.EYE_CFG", 0x0030, 1, 0x0, 1, 0x0, false,
    [⟨31, 31, .rw, 1, .image, [], false⟩, ⟨23, 16, .rw, 0x3C, .image, [(1, 255)], false⟩, ⟨13, 8, .rw, 0x10, .image, [], false⟩, ⟨6, 0, .rw, 0x0A, .image, [], false⟩]⟩,
  ⟨"SWT.SENSE_CFG", 0x0034, 1, 0x0, 1, 0x0, false,
    [⟨0, 0, .rw, 1, .image, [], false⟩]⟩,
  ⟨"SWT.EYE_RES", 0x0040, 6, 0x4, 1, 0x0, false,
    [⟨31, 31, .ro, 0, .hardware, [], false⟩, ⟨29, 24, .ro, 0, .hardware, [], false⟩, ⟨22, 16, .ro, 0, .hardware, [], false⟩]⟩,
  ⟨"SWT.AGING", 0x0060, 1, 0x0, 1, 0x0, false,
    [⟨31, 31, .ro, 0, .hardware, [], false⟩, ⟨15, 0, .ro, 0, .hardware, [], false⟩]⟩,
  ⟨"SWT.AGE_MON", 0x0080, 20, 0x4, 1, 0x0, false,
    [⟨15, 0, .ro, 0, .hardware, [], false⟩]⟩,
  ⟨"SWT.LIFE_H", 0x0100, 30, 0x4, 1, 0x0, false,
    [⟨31, 0, .ro, 0, .hardware, [], false⟩]⟩,
  ⟨"SWT.LIFEUSED", 0x0180, 1, 0x0, 1, 0x0, false,
    [⟨31, 0, .ro, 0, .hardware, [], false⟩]⟩]

/-- Registers of SWT (R615), part 2. -/
def regsSWT_2 : List RegDesc := [
  ⟨"SWT.STBYHRS", 0x0184, 1, 0x0, 1, 0x0, false,
    [⟨31, 0, .ro, 0, .hardware, [], false⟩]⟩,
  ⟨"SWT.LIFE_SAT", 0x0188, 1, 0x0, 1, 0x0, false,
    [⟨29, 0, .w1c, 0, .hardware, [], true⟩]⟩,
  ⟨"SWT.CNT_SNAP", 0x0200, 1, 0x0, 1, 0x0, false,
    [⟨31, 0, .ws, 0, .hardware, [], false⟩]⟩,
  ⟨"SWT.CORE_TESTS", 0x0204, 1, 0x0, 1, 0x0, false,
    [⟨31, 0, .ro, 0, .hardware, [], false⟩]⟩,
  ⟨"SWT.FG_REFUSED", 0x0208, 1, 0x0, 1, 0x0, false,
    [⟨31, 0, .ro, 0, .hardware, [], false⟩]⟩,
  ⟨"SWT.FAILS", 0x020C, 1, 0x0, 1, 0x0, false,
    [⟨31, 0, .ro, 0, .hardware, [], false⟩]⟩,
  ⟨"SWT.CNT_SAT", 0x0210, 1, 0x0, 1, 0x0, false,
    [⟨2, 0, .w1c, 0, .hardware, [], true⟩]⟩]

/-- All registers of SWT. -/
def regsSWT : List RegDesc := regsSWT_1 ++ regsSWT_2

/-- Registers of ENG (R615), part 1. -/
def regsENG_1 : List RegDesc := [
  ⟨"ENG.PROFILE", 0x0010, 1, 0x0, 1, 0x0, false,
    [⟨19, 16, .rw, 3, .image, [(0, 5)], false⟩, ⟨9, 8, .rw, 0, .image, [(0, 2)], false⟩, ⟨0, 0, .rw, 0, .image, [], false⟩]⟩,
  ⟨"ENG.PROFILE_STAT", 0x0014, 1, 0x0, 1, 0x0, false,
    [⟨16, 16, .w1c, 0, .hardware, [], false⟩, ⟨15, 12, .ro, 0, .hardware, [], false⟩, ⟨11, 8, .ro, 3, .hardware, [], false⟩, ⟨5, 4, .ro, 0, .hardware, [], false⟩, ⟨0, 0, .ro, 0, .hardware, [], false⟩]⟩,
  ⟨"ENG.GUARD", 0x0020, 1, 0x0, 1, 0x0, false,
    [⟨12, 8, .rw, 8, .image, [(4, 25)], false⟩, ⟨2, 0, .rw, 4, .image, [(0, 4)], false⟩]⟩,
  ⟨"ENG.GUARD_STAT", 0x0024, 1, 0x0, 1, 0x0, false,
    [⟨31, 16, .ro, 0, .hardware, [], false⟩, ⟨11, 8, .ro, 4, .hardware, [], false⟩, ⟨0, 0, .w1c, 0, .hardware, [], false⟩]⟩,
  ⟨"ENG.CNT_SNAP", 0x0030, 1, 0x0, 1, 0x0, false,
    [⟨31, 0, .ws, 0, .hardware, [], false⟩]⟩,
  ⟨"ENG.STITCH_CNT", 0x0034, 1, 0x0, 1, 0x0, false,
    [⟨31, 0, .ro, 0, .hardware, [], false⟩]⟩,
  ⟨"ENG.SHED_CNT", 0x0038, 1, 0x0, 1, 0x0, false,
    [⟨31, 0, .ro, 0, .hardware, [], false⟩]⟩,
  ⟨"ENG.TPREF_CNT", 0x003C, 1, 0x0, 1, 0x0, false,
    [⟨31, 0, .ro, 0, .hardware, [], false⟩]⟩,
  ⟨"ENG.SWAPFAIL_CNT", 0x0040, 1, 0x0, 1, 0x0, false,
    [⟨31, 0, .ro, 0, .hardware, [], false⟩]⟩,
  ⟨"ENG.CNT_SAT", 0x0044, 1, 0x0, 1, 0x0, false,
    [⟨3, 0, .w1c, 0, .hardware, [], true⟩]⟩,
  ⟨"ENG.MIGRATE", 0x0048, 1, 0x0, 1, 0x0, false,
    [⟨9, 9, .wo, 0, .hardware, [], false⟩, ⟨8, 8, .rw, 0, .hardware, [], false⟩, ⟨6, 0, .rw, 0, .hardware, [], false⟩]⟩,
  ⟨"ENG.MIGRATE_STAT", 0x004C, 1, 0x0, 1, 0x0, false,
    [⟨31, 31, .ro, 0, .hardware, [], false⟩, ⟨30, 24, .ro, 0, .hardware, [], false⟩, ⟨23, 23, .ro, 0, .hardware, [], false⟩, ⟨22, 16, .ro, 0, .hardware, [], false⟩, ⟨15, 15, .ro, 0, .hardware, [], false⟩, ⟨14, 8, .ro, 0, .hardware, [], false⟩, ⟨7, 7, .ro, 0, .hardware, [], false⟩, ⟨6, 0, .ro, 0, .hardware, [], false⟩]⟩]

/-- Registers of ENG (R615), part 2. -/
def regsENG_2 : List RegDesc := [
  ⟨"ENG.MIGRATE_RES", 0x0050, 1, 0x0, 1, 0x0, false,
    [⟨2, 0, .ro, 0, .hardware, [], false⟩]⟩,
  ⟨"ENG.TP_STAT", 0x0054, 1, 0x0, 1, 0x0, false,
    [⟨12, 0, .ro, 0, .hardware, [], false⟩]⟩]

/-- All registers of ENG. -/
def regsENG : List RegDesc := regsENG_1 ++ regsENG_2

/-- Registers of CLU (R615), part 1. -/
def regsCLU_1 : List RegDesc := [
  ⟨"CLU.CLU_INFO", 0x0000, 1, 0x0, 1, 0x0, false,
    [⟨9, 8, .ro, 0, .factory, [], false⟩, ⟨3, 0, .ro, 0, .hardware, [], false⟩]⟩,
  ⟨"CLU.DIGEST_SNAP", 0x0010, 1, 0x0, 1, 0x0, false,
    [⟨31, 0, .ws, 0, .hardware, [], false⟩]⟩,
  ⟨"CLU.DIGEST_LO", 0x0014, 1, 0x0, 1, 0x0, false,
    [⟨31, 0, .ro, 0, .hardware, [], false⟩]⟩,
  ⟨"CLU.DIGEST_HI", 0x0018, 1, 0x0, 1, 0x0, false,
    [⟨31, 0, .ro, 0, .hardware, [], false⟩]⟩,
  ⟨"CLU.DIGEST_ROW", 0x001C, 1, 0x0, 1, 0x0, false,
    [⟨31, 0, .ro, 0, .hardware, [], false⟩]⟩,
  ⟨"CLU.DIGEST_STITCH", 0x0020, 1, 0x0, 1, 0x0, false,
    [⟨7, 0, .ro, 0, .hardware, [], false⟩]⟩,
  ⟨"CLU.CORE_CTL", 0x1000, 8, 0x100, 1, 0x0, false,
    [⟨1, 1, .wo, 0, .hardware, [], false⟩, ⟨0, 0, .rw, 0, .image, [], false⟩]⟩,
  ⟨"CLU.CORE_STAT", 0x1004, 8, 0x100, 1, 0x0, false,
    [⟨31, 31, .w1c, 0, .hardware, [], true⟩, ⟨27, 20, .ro, 0, .hardware, [], false⟩, ⟨19, 17, .ro, 0, .hardware, [], false⟩, ⟨16, 16, .ro, 0, .hardware, [], false⟩, ⟨12, 0, .ro, 0, .hardware, [], false⟩]⟩,
  ⟨"CLU.CORE_FAULT", 0x1008, 8, 0x100, 1, 0x0, false,
    [⟨23, 20, .ro, 0, .hardware, [], false⟩, ⟨16, 16, .ro, 0, .hardware, [], false⟩, ⟨12, 0, .ro, 0, .hardware, [], false⟩]⟩,
  ⟨"CLU.CORE_FADDR", 0x100C, 8, 0x100, 1, 0x0, false,
    [⟨31, 0, .ro, 0, .hardware, [], false⟩]⟩,
  ⟨"CLU.CORE_SATROWS", 0x1010, 8, 0x100, 1, 0x0, false,
    [⟨31, 0, .rc, 0, .hardware, [], false⟩]⟩,
  ⟨"CLU.CORE_PEAK", 0x1014, 8, 0x100, 1, 0x0, false,
    [⟨31, 0, .rc, 0, .hardware, [], false⟩]⟩]

/-- Registers of CLU (R615), part 2. -/
def regsCLU_2 : List RegDesc := [
  ⟨"CLU.CORE_BUDGET", 0x1018, 8, 0x100, 1, 0x0, false,
    [⟨31, 16, .rw, 0, .image, [], false⟩, ⟨15, 0, .rw, 0, .image, [], false⟩]⟩,
  ⟨"CLU.CORE_STITCH", 0x101C, 8, 0x100, 1, 0x0, false,
    [⟨31, 0, .rc, 0, .hardware, [], false⟩]⟩,
  ⟨"CLU.CORE_OUTCFG", 0x1020, 8, 0x100, 1, 0x0, false,
    [⟨31, 31, .w1c, 0, .hardware, [], true⟩, ⟨9, 0, .rw, 0x200, .image, [(0, 0x200)], false⟩]⟩,
  ⟨"CLU.CORE_BANKS", 0x1024, 8, 0x100, 1, 0x0, false,
    [⟨31, 20, .ro, 0, .hardware, [], false⟩, ⟨19, 8, .ro, 0, .hardware, [], false⟩, ⟨3, 3, .ro, 0, .hardware, [], false⟩, ⟨2, 2, .ro, 0, .hardware, [], false⟩, ⟨1, 1, .ro, 0, .hardware, [], false⟩, ⟨0, 0, .ro, 0, .hardware, [], false⟩]⟩]

/-- All registers of CLU. -/
def regsCLU : List RegDesc := regsCLU_1 ++ regsCLU_2

/-- Registers of MTX (R615), part 1. -/
def regsMTX_1 : List RegDesc := [
  ⟨"MTX.CTL", 0x0000, 1, 0x0, 1, 0x0, true,
    [⟨0, 0, .rw, 0, .image, [], false⟩]⟩,
  ⟨"MTX.TBL_STAT", 0x0004, 1, 0x0, 1, 0x0, false,
    [⟨4, 4, .w1c, 0, .hardware, [], false⟩, ⟨3, 3, .ro, 0, .hardware, [], false⟩, ⟨2, 2, .ro, 0, .hardware, [], false⟩, ⟨1, 1, .ro, 0, .hardware, [], false⟩, ⟨0, 0, .ro, 0, .hardware, [], false⟩]⟩,
  ⟨"MTX.TBL_CTL", 0x0008, 1, 0x0, 1, 0x0, true,
    [⟨1, 1, .wo, 0, .hardware, [], false⟩, ⟨0, 0, .wo, 0, .hardware, [], false⟩]⟩,
  ⟨"MTX.SHD_LEN", 0x000C, 1, 0x0, 1, 0x0, false,
    [⟨18, 0, .rw, 0, .image, [(0, 0x40000)], false⟩]⟩,
  ⟨"MTX.ACT_LEN", 0x0010, 1, 0x0, 1, 0x0, false,
    [⟨18, 0, .ro, 0, .hardware, [], false⟩]⟩,
  ⟨"MTX.CAPACITY", 0x0014, 1, 0x0, 1, 0x0, false,
    [⟨18, 0, .ro, 0, .hardware, [], false⟩]⟩,
  ⟨"MTX.SHD_SEL", 0x0018, 1, 0x0, 1, 0x0, false,
    [⟨17, 0, .rw, 0, .hardware, [], false⟩]⟩,
  ⟨"MTX.SHD_GAIN", 0x001C, 1, 0x0, 1, 0x0, false,
    [⟨31, 0, .rw, 0, .hardware, [], false⟩]⟩,
  ⟨"MTX.SHD_ROUTE", 0x0020, 1, 0x0, 1, 0x0, false,
    [⟨26, 16, .rw, 0, .hardware, [], false⟩, ⟨10, 0, .rw, 0, .hardware, [], false⟩]⟩,
  ⟨"MTX.XP_SEL", 0x0024, 1, 0x0, 1, 0x0, true,
    [⟨31, 18, .rw, 0, .hardware, [], false⟩, ⟨17, 0, .rw, 0, .hardware, [], false⟩]⟩,
  ⟨"MTX.XP_GAIN", 0x0028, 1, 0x0, 1, 0x0, true,
    [⟨31, 0, .rw, 0, .hardware, [], false⟩]⟩,
  ⟨"MTX.XP_CUR", 0x002C, 1, 0x0, 1, 0x0, false,
    [⟨31, 0, .ro, 0, .hardware, [], false⟩]⟩]

/-- Registers of MTX (R615), part 2. -/
def regsMTX_2 : List RegDesc := [
  ⟨"MTX.CNT_SNAP", 0x0030, 1, 0x0, 1, 0x0, false,
    [⟨31, 0, .ws, 0, .hardware, [], false⟩]⟩,
  ⟨"MTX.STITCH_CNT", 0x0034, 1, 0x0, 1, 0x0, false,
    [⟨31, 0, .ro, 0, .hardware, [], false⟩]⟩,
  ⟨"MTX.SAT_CNT", 0x0038, 1, 0x0, 1, 0x0, false,
    [⟨31, 0, .ro, 0, .hardware, [], false⟩]⟩,
  ⟨"MTX.GLIDEFULL_CNT", 0x003C, 1, 0x0, 1, 0x0, false,
    [⟨31, 0, .ro, 0, .hardware, [], false⟩]⟩,
  ⟨"MTX.SWAPREF_CNT", 0x0040, 1, 0x0, 1, 0x0, false,
    [⟨31, 0, .ro, 0, .hardware, [], false⟩]⟩,
  ⟨"MTX.CNT_SAT", 0x0044, 1, 0x0, 1, 0x0, false,
    [⟨3, 0, .w1c, 0, .hardware, [], true⟩]⟩,
  ⟨"MTX.GLIDE_STAT", 0x0048, 1, 0x0, 1, 0x0, false,
    [⟨14, 0, .ro, 0, .hardware, [], false⟩]⟩]

/-- All registers of MTX. -/
def regsMTX : List RegDesc := regsMTX_1 ++ regsMTX_2

/-- Registers of DLY (R615), part 1. -/
def regsDLY_1 : List RegDesc := [
  ⟨"DLY.CTL", 0x0000, 1, 0x0, 1, 0x0, true,
    [⟨0, 0, .rw, 0, .image, [], false⟩]⟩,
  ⟨"DLY.POOL", 0x0004, 1, 0x0, 1, 0x0, false,
    [⟨7, 0, .ro, 0, .hardware, [], false⟩]⟩,
  ⟨"DLY.XF_STAT", 0x0008, 1, 0x0, 1, 0x0, false,
    [⟨8, 0, .ro, 0, .hardware, [], false⟩]⟩,
  ⟨"DLY.CNT_SNAP", 0x0010, 1, 0x0, 1, 0x0, false,
    [⟨31, 0, .ws, 0, .hardware, [], false⟩]⟩,
  ⟨"DLY.STITCH_CNT", 0x0014, 1, 0x0, 1, 0x0, false,
    [⟨31, 0, .ro, 0, .hardware, [], false⟩]⟩,
  ⟨"DLY.XFFULL_CNT", 0x0018, 1, 0x0, 1, 0x0, false,
    [⟨31, 0, .ro, 0, .hardware, [], false⟩]⟩,
  ⟨"DLY.CNT_SAT", 0x001C, 1, 0x0, 1, 0x0, false,
    [⟨1, 0, .w1c, 0, .hardware, [], true⟩]⟩,
  ⟨"DLY.LINE_BASE", 0x1000, 2048, 0x10, 1, 0x0, false,
    [⟨19, 0, .rw, 0, .image, [], false⟩]⟩,
  ⟨"DLY.LINE_LEN", 0x1004, 2048, 0x10, 1, 0x0, true,
    [⟨20, 0, .rw, 0, .image, [], false⟩]⟩,
  ⟨"DLY.LINE_DELAY", 0x1008, 2048, 0x10, 1, 0x0, true,
    [⟨31, 31, .rw, 0, .image, [], false⟩, ⟨19, 0, .rw, 0, .image, [], false⟩]⟩,
  ⟨"DLY.LINE_STAT", 0x100C, 2048, 0x10, 1, 0x0, false,
    [⟨31, 31, .ro, 0, .hardware, [], false⟩, ⟨30, 30, .ro, 0, .hardware, [], false⟩, ⟨19, 0, .ro, 0, .hardware, [], false⟩]⟩]

/-- All registers of DLY. -/
def regsDLY : List RegDesc := regsDLY_1

/-- Registers of SST (R615), part 1. -/
def regsSST_1 : List RegDesc := [
  ⟨"SST.CFG", 0x0000, 1, 0x0, 1, 0x0, false,
    [⟨7, 0, .rw, 8, .image, [], false⟩]⟩,
  ⟨"SST.MAP_SEL", 0x0004, 1, 0x0, 1, 0x0, true,
    [⟨23, 16, .rw, 0, .image, [], false⟩, ⟨15, 0, .rw, 0, .image, [], false⟩]⟩,
  ⟨"SST.MAP_DATA", 0x0008, 1, 0x0, 1, 0x0, true,
    [⟨15, 15, .rw, 0, .image, [], false⟩, ⟨13, 0, .rw, 0, .image, [], false⟩]⟩,
  ⟨"SST.SHD_SEL", 0x000C, 1, 0x0, 1, 0x0, false,
    [⟨23, 16, .rw, 0, .hardware, [], false⟩, ⟨15, 0, .rw, 0, .hardware, [], false⟩]⟩,
  ⟨"SST.SHD_DATA", 0x0010, 1, 0x0, 1, 0x0, false,
    [⟨15, 0, .rw, 0, .hardware, [], false⟩]⟩,
  ⟨"SST.MAP_CTL", 0x0014, 1, 0x0, 1, 0x0, true,
    [⟨1, 1, .wo, 0, .hardware, [], false⟩, ⟨0, 0, .wo, 0, .hardware, [], false⟩]⟩,
  ⟨"SST.MAP_STAT", 0x0018, 1, 0x0, 1, 0x0, false,
    [⟨29, 16, .ro, 0, .hardware, [], false⟩, ⟨3, 3, .ro, 0, .hardware, [], false⟩, ⟨2, 2, .ro, 0, .hardware, [], false⟩, ⟨1, 1, .ro, 0, .hardware, [], false⟩, ⟨0, 0, .ro, 0, .hardware, [], false⟩]⟩,
  ⟨"SST.CNT_SNAP", 0x0020, 1, 0x0, 1, 0x0, false,
    [⟨31, 0, .ws, 0, .hardware, [], false⟩]⟩,
  ⟨"SST.DECAY_CNT", 0x0024, 1, 0x0, 1, 0x0, false,
    [⟨31, 0, .ro, 0, .hardware, [], false⟩]⟩,
  ⟨"SST.MAPREF_CNT", 0x0028, 1, 0x0, 1, 0x0, false,
    [⟨31, 0, .ro, 0, .hardware, [], false⟩]⟩,
  ⟨"SST.CNT_SAT", 0x002C, 1, 0x0, 1, 0x0, false,
    [⟨1, 0, .w1c, 0, .hardware, [], true⟩]⟩,
  ⟨"SST.PEEK_SEL", 0x0030, 1, 0x0, 1, 0x0, false,
    [⟨13, 0, .rw, 0, .hardware, [], false⟩]⟩]

/-- Registers of SST (R615), part 2. -/
def regsSST_2 : List RegDesc := [
  ⟨"SST.PEEK_VAL", 0x0034, 1, 0x0, 1, 0x0, false,
    [⟨31, 0, .ro, 0, .hardware, [], false⟩]⟩,
  ⟨"SST.PEEK_AGE", 0x0038, 1, 0x0, 1, 0x0, false,
    [⟨7, 0, .ro, 0, .hardware, [], false⟩]⟩]

/-- All registers of SST. -/
def regsSST : List RegDesc := regsSST_1 ++ regsSST_2

/-- Registers of FAB (R615), part 1. -/
def regsFAB_1 : List RegDesc := [
  ⟨"FAB.QOWN0", 0x0000, 2, 0x4, 1, 0x0, false,
    [⟨31, 24, .ro, 1, .hardware, [], false⟩, ⟨23, 16, .ro, 1, .hardware, [], false⟩, ⟨15, 8, .ro, 1, .hardware, [], false⟩, ⟨7, 0, .ro, 1, .hardware, [], false⟩]⟩,
  ⟨"FAB.QOWN2", 0x0008, 38, 0x4, 1, 0x0, false,
    [⟨31, 24, .rw, 0, .image, [], false⟩, ⟨23, 16, .rw, 0, .image, [], false⟩, ⟨15, 8, .rw, 0, .image, [], false⟩, ⟨7, 0, .rw, 0, .image, [], false⟩]⟩,
  ⟨"FAB.QOWN40", 0x00A0, 8, 0x4, 1, 0x0, false,
    [⟨31, 24, .ro, 2, .hardware, [], false⟩, ⟨23, 16, .rw, 0, .image, [], false⟩, ⟨15, 8, .rw, 0, .image, [], false⟩, ⟨7, 0, .rw, 0, .image, [], false⟩]⟩,
  ⟨"FAB.CNT_SNAP", 0x0100, 1, 0x0, 1, 0x0, false,
    [⟨31, 0, .ws, 0, .hardware, [], false⟩]⟩,
  ⟨"FAB.REFUSE_CNT", 0x0104, 1, 0x0, 1, 0x0, false,
    [⟨31, 0, .ro, 0, .hardware, [], false⟩]⟩,
  ⟨"FAB.CNT_SAT", 0x0108, 1, 0x0, 1, 0x0, false,
    [⟨0, 0, .w1c, 0, .hardware, [], true⟩]⟩,
  ⟨"FAB.REFUSE_ADDR", 0x010C, 1, 0x0, 1, 0x0, false,
    [⟨31, 0, .ro, 0, .hardware, [], false⟩]⟩,
  ⟨"FAB.REFUSE_SRC", 0x0110, 1, 0x0, 1, 0x0, false,
    [⟨7, 0, .ro, 0, .hardware, [], false⟩]⟩,
  ⟨"FAB.WMAX_RT", 0x0114, 1, 0x0, 1, 0x0, false,
    [⟨15, 0, .rc, 0, .hardware, [], false⟩]⟩]

/-- All registers of FAB. -/
def regsFAB : List RegDesc := regsFAB_1

/-- Registers of NET (R615), part 1. -/
def regsNET_1 : List RegDesc := [
  ⟨"NET.CFG", 0x0000, 1, 0x0, 1, 0x0, false,
    [⟨31, 20, .rw, 1, .image, [], false⟩, ⟨18, 18, .rw, 0, .image, [], false⟩, ⟨17, 17, .rw, 0, .image, [], false⟩, ⟨16, 16, .rw, 1, .image, [], false⟩, ⟨13, 0, .rw, 0x05F2, .image, [(64, 9216)], false⟩]⟩,
  ⟨"NET.CTL", 0x0004, 1, 0x0, 1, 0x0, false,
    [⟨2, 0, .rw, 0, .image, [(0, 4)], false⟩]⟩,
  ⟨"NET.STAT", 0x0008, 1, 0x0, 1, 0x0, false,
    [⟨8, 8, .ro, 0, .hardware, [], false⟩, ⟨7, 7, .ro, 0, .hardware, [], false⟩, ⟨6, 6, .ro, 0, .hardware, [], false⟩, ⟨5, 5, .ro, 0, .hardware, [], false⟩, ⟨2, 0, .ro, 0, .hardware, [], false⟩]⟩,
  ⟨"NET.MAC_ADDR_LO", 0x000C, 1, 0x0, 1, 0x0, false,
    [⟨31, 0, .rw, 0, .image, [], false⟩]⟩,
  ⟨"NET.MAC_ADDR_HI", 0x0010, 1, 0x0, 1, 0x0, false,
    [⟨15, 0, .rw, 0, .image, [], false⟩]⟩,
  ⟨"NET.PCP_MAP", 0x0014, 1, 0x0, 1, 0x0, false,
    [⟨23, 0, .rw, 0xFAC688, .image, [], false⟩]⟩,
  ⟨"NET.RXBUF", 0x0018, 1, 0x0, 1, 0x0, false,
    [⟨15, 0, .rw, 0, .image, [], false⟩]⟩,
  ⟨"NET.TXQ_THR", 0x0020, 8, 0x4, 1, 0x0, false,
    [⟨8, 8, .w1c, 0, .hardware, [], false⟩, ⟨7, 0, .rw, 1, .image, [(1, 0x90), (0xFF, 0xFF)], false⟩]⟩,
  ⟨"NET.FC_CFG", 0x0040, 1, 0x0, 1, 0x0, false,
    [⟨23, 16, .rw, 0, .image, [], false⟩, ⟨15, 8, .rw, 0, .image, [], false⟩, ⟨1, 1, .rw, 0, .image, [], false⟩, ⟨0, 0, .rw, 0, .image, [], false⟩]⟩,
  ⟨"NET.FC_THR", 0x0044, 1, 0x0, 1, 0x0, false,
    [⟨31, 16, .rw, 0, .image, [], false⟩, ⟨15, 0, .rw, 0, .image, [], false⟩]⟩,
  ⟨"NET.GCL_CFG", 0x0080, 1, 0x0, 1, 0x0, false,
    [⟨31, 31, .rw, 0, .image, [], false⟩, ⟨23, 16, .rw, 0, .image, [], false⟩, ⟨2, 0, .rw, 0, .image, [(0, 6)], false⟩]⟩,
  ⟨"NET.GCL_LEN", 0x0084, 1, 0x0, 1, 0x0, false,
    [⟨8, 0, .rw, 0, .image, [], false⟩]⟩]

/-- Registers of NET (R615), part 2. -/
def regsNET_2 : List RegDesc := [
  ⟨"NET.GCL_CTL", 0x0088, 1, 0x0, 1, 0x0, true,
    [⟨0, 0, .wo, 0, .hardware, [], false⟩]⟩,
  ⟨"NET.GCL_STAT", 0x008C, 1, 0x0, 1, 0x0, false,
    [⟨31, 31, .ro, 0, .hardware, [], false⟩, ⟨26, 24, .ro, 0, .hardware, [], false⟩, ⟨23, 16, .ro, 0, .hardware, [], false⟩, ⟨8, 0, .ro, 0, .hardware, [], false⟩]⟩,
  ⟨"NET.TSCFG", 0x00C0, 1, 0x0, 1, 0x0, false,
    [⟨1, 0, .rw, 0, .image, [], false⟩]⟩,
  ⟨"NET.RX_ADJ", 0x00C4, 1, 0x0, 1, 0x0, false,
    [⟨31, 0, .rw, 0, .image, [], false⟩]⟩,
  ⟨"NET.TX_ADJ", 0x00C8, 1, 0x0, 1, 0x0, false,
    [⟨31, 0, .rw, 0, .image, [], false⟩]⟩,
  ⟨"NET.TXTS_CTL", 0x00D0, 1, 0x0, 1, 0x0, false,
    [⟨0, 0, .wo, 0, .hardware, [], false⟩]⟩,
  ⟨"NET.TXTS_INFO", 0x00D4, 1, 0x0, 1, 0x0, false,
    [⟨31, 31, .ro, 0, .hardware, [], false⟩, ⟨29, 28, .ro, 0, .hardware, [], false⟩, ⟨21, 16, .ro, 0, .hardware, [], false⟩, ⟨15, 0, .ro, 0, .hardware, [], false⟩]⟩,
  ⟨"NET.TXTS_NS_LO", 0x00D8, 1, 0x0, 1, 0x0, false,
    [⟨31, 0, .ro, 0, .hardware, [], false⟩]⟩,
  ⟨"NET.TXTS_NS_HI", 0x00DC, 1, 0x0, 1, 0x0, false,
    [⟨31, 0, .ro, 0, .hardware, [], false⟩]⟩,
  ⟨"NET.TXTS_FRAC", 0x00E0, 1, 0x0, 1, 0x0, false,
    [⟨15, 0, .ro, 0, .hardware, [], false⟩]⟩,
  ⟨"NET.EEE_CFG", 0x0100, 1, 0x0, 1, 0x0, false,
    [⟨31, 16, .rw, 5, .image, [], false⟩, ⟨0, 0, .rw, 0, .image, [], false⟩]⟩,
  ⟨"NET.EEE_STAT", 0x0104, 1, 0x0, 1, 0x0, false,
    [⟨31, 16, .ro, 0, .hardware, [], false⟩, ⟨0, 0, .ro, 0, .hardware, [], false⟩]⟩]

/-- Registers of NET (R615), part 3. -/
def regsNET_3 : List RegDesc := [
  ⟨"NET.CNT_SNAP", 0x0300, 1, 0x0, 1, 0x0, false,
    [⟨31, 0, .ws, 0, .hardware, [], false⟩]⟩,
  ⟨"NET.CNT64", 0x0310, 12, 0x4, 1, 0x0, false,
    [⟨31, 0, .ro, 0, .hardware, [], false⟩]⟩,
  ⟨"NET.CNT32", 0x0340, 12, 0x4, 1, 0x0, false,
    [⟨31, 0, .ro, 0, .hardware, [], false⟩]⟩,
  ⟨"NET.CNT_SAT", 0x0370, 1, 0x0, 1, 0x0, false,
    [⟨11, 0, .w1c, 0, .hardware, [], true⟩]⟩,
  ⟨"NET.GCL_SHD", 0x1000, 256, 0x4, 1, 0x0, false,
    [⟨31, 24, .rw, 0xFF, .image, [], false⟩, ⟨23, 0, .rw, 0, .image, [], false⟩]⟩,
  ⟨"NET.GCL_ACT", 0x1400, 256, 0x4, 1, 0x0, false,
    [⟨31, 24, .ro, 0xFF, .hardware, [], false⟩, ⟨23, 0, .ro, 0, .hardware, [], false⟩]⟩]

/-- All registers of NET. -/
def regsNET : List RegDesc := regsNET_1 ++ regsNET_2 ++ regsNET_3

/-- Registers of NET0 (R615), part 1. -/
def regsNET0_1 : List RegDesc := [
  ⟨"FDB.SEL", 0x0200, 1, 0x0, 1, 0x0, false,
    [⟨10, 0, .rw, 0, .hardware, [], false⟩]⟩,
  ⟨"FDB.LO", 0x0204, 1, 0x0, 1, 0x0, false,
    [⟨31, 0, .rw, 0, .hardware, [], false⟩]⟩,
  ⟨"FDB.HI", 0x0208, 1, 0x0, 1, 0x0, false,
    [⟨31, 31, .rw, 0, .hardware, [], false⟩, ⟨29, 26, .rw, 0, .hardware, [], false⟩, ⟨25, 14, .rw, 0, .hardware, [], false⟩]⟩,
  ⟨"FDB.MAC", 0x020C, 1, 0x0, 1, 0x0, false,
    [⟨15, 0, .rw, 0, .hardware, [], false⟩]⟩]

/-- All registers of NET0. -/
def regsNET0 : List RegDesc := regsNET0_1

/-- Registers of LANE03 (R615), part 1. -/
def regsLANE03_1 : List RegDesc := [
  ⟨"LANE.CFG", 0x0000, 1, 0x0, 1, 0x0, false,
    [⟨4, 4, .rw, 0, .image, [], false⟩, ⟨3, 3, .rw, 0, .image, [], false⟩, ⟨2, 2, .rw, 0, .image, [], false⟩, ⟨1, 1, .rw, 0, .image, [], false⟩, ⟨0, 0, .rw, 0, .image, [], false⟩]⟩]

/-- All registers of LANE03. -/
def regsLANE03 : List RegDesc := regsLANE03_1

/-- Registers of LANE45 (R615), part 1. -/
def regsLANE45_1 : List RegDesc := [
  ⟨"LANET.CFG", 0x0000, 1, 0x0, 1, 0x0, false,
    [⟨5, 5, .rw, 0, .image, [], false⟩, ⟨3, 3, .rw, 0, .image, [], false⟩, ⟨2, 2, .rw, 0, .image, [], false⟩, ⟨1, 1, .rw, 0, .image, [], false⟩, ⟨0, 0, .rw, 0, .image, [], false⟩]⟩]

/-- All registers of LANE45. -/
def regsLANE45 : List RegDesc := regsLANE45_1

/-- Registers of LANE (R615), part 1. -/
def regsLANE_1 : List RegDesc := [
  ⟨"LANE.STAT", 0x0004, 1, 0x0, 1, 0x0, false,
    [⟨10, 10, .ro, 0, .hardware, [], false⟩, ⟨9, 9, .ro, 0, .hardware, [], false⟩, ⟨8, 8, .ro, 0, .hardware, [], false⟩, ⟨6, 4, .ro, 0, .hardware, [], false⟩, ⟨3, 0, .ro, 0, .hardware, [], false⟩]⟩,
  ⟨"LANE.TXFIR", 0x0008, 1, 0x0, 1, 0x0, false,
    [⟨28, 24, .rw, 4, .image, [(0, 16)], false⟩, ⟨22, 16, .rw, 0x30, .image, [(24, 64)], false⟩, ⟨12, 8, .rw, 0x0C, .image, [(0, 24)], false⟩]⟩,
  ⟨"LANE.RXEQ_CFG", 0x000C, 1, 0x0, 1, 0x0, false,
    [⟨15, 8, .rw, 0x40, .image, [(1, 255)], false⟩, ⟨1, 0, .rw, 0, .image, [(0, 2)], false⟩]⟩,
  ⟨"LANE.DRIFT_CFG", 0x0010, 1, 0x0, 1, 0x0, false,
    [⟨16, 16, .rw, 1, .image, [], false⟩, ⟨15, 8, .rw, 4, .image, [(1, 0x3F)], false⟩, ⟨7, 0, .rw, 6, .image, [(1, 0x3F)], false⟩]⟩,
  ⟨"LANE.RXEQ_APP", 0x0014, 1, 0x0, 1, 0x0, false,
    [⟨11, 8, .ro, 0, .hardware, [], false⟩, ⟨4, 0, .ro, 0, .hardware, [], false⟩]⟩,
  ⟨"LANE.RXEQ_SNAP", 0x0018, 1, 0x0, 1, 0x0, false,
    [⟨11, 8, .ro, 0, .hardware, [], false⟩, ⟨4, 0, .ro, 0, .hardware, [], false⟩]⟩,
  ⟨"LANE.RXEQ_MAN", 0x001C, 1, 0x0, 1, 0x0, false,
    [⟨11, 8, .rw, 8, .image, [], false⟩, ⟨4, 0, .rw, 0x0C, .image, [], false⟩]⟩,
  ⟨"LANE.DFE_APP", 0x0020, 2, 0x4, 1, 0x0, false,
    [⟨30, 24, .ro, 0, .hardware, [], false⟩, ⟨22, 16, .ro, 0, .hardware, [], false⟩, ⟨14, 8, .ro, 0, .hardware, [], false⟩, ⟨6, 0, .ro, 0, .hardware, [], false⟩]⟩,
  ⟨"LANE.DFE_APP2", 0x0028, 1, 0x0, 1, 0x0, false,
    [⟨14, 8, .ro, 0, .hardware, [], false⟩, ⟨6, 0, .ro, 0, .hardware, [], false⟩]⟩,
  ⟨"LANE.DFE_SNAP", 0x0030, 2, 0x4, 1, 0x0, false,
    [⟨30, 24, .ro, 0, .hardware, [], false⟩, ⟨22, 16, .ro, 0, .hardware, [], false⟩, ⟨14, 8, .ro, 0, .hardware, [], false⟩, ⟨6, 0, .ro, 0, .hardware, [], false⟩]⟩,
  ⟨"LANE.DFE_SNAP2", 0x0038, 1, 0x0, 1, 0x0, false,
    [⟨14, 8, .ro, 0, .hardware, [], false⟩, ⟨6, 0, .ro, 0, .hardware, [], false⟩]⟩,
  ⟨"LANE.DFE_MAN", 0x0040, 2, 0x4, 1, 0x0, false,
    [⟨30, 24, .rw, 0, .image, [(0, 0x3F), (0x41, 0x7F)], false⟩, ⟨22, 16, .rw, 0, .image, [(0, 0x3F), (0x41, 0x7F)], false⟩, ⟨14, 8, .rw, 0, .image, [(0, 0x3F), (0x41, 0x7F)], false⟩, ⟨6, 0, .rw, 0, .image, [(0, 0x3F), (0x41, 0x7F)], false⟩]⟩]

/-- Registers of LANE (R615), part 2. -/
def regsLANE_2 : List RegDesc := [
  ⟨"LANE.DFE_MAN2", 0x0048, 1, 0x0, 1, 0x0, false,
    [⟨14, 8, .rw, 0, .image, [(0, 0x3F), (0x41, 0x7F)], false⟩, ⟨6, 0, .rw, 0, .image, [(0, 0x3F), (0x41, 0x7F)], false⟩]⟩,
  ⟨"LANE.LOOP_CTL", 0x0050, 1, 0x0, 1, 0x0, false,
    [⟨1, 0, .rw, 0, .hardware, [], false⟩]⟩,
  ⟨"LANE.LOOP_STAT", 0x0054, 1, 0x0, 1, 0x0, false,
    [⟨3, 2, .ro, 0, .hardware, [], false⟩, ⟨1, 0, .ro, 0, .hardware, [], false⟩]⟩,
  ⟨"LANE.PRBS_CFG", 0x0058, 1, 0x0, 1, 0x0, false,
    [⟨5, 5, .rw, 0, .hardware, [], false⟩, ⟨4, 4, .rw, 0, .hardware, [], false⟩, ⟨3, 0, .rw, 3, .hardware, [(0, 4)], false⟩]⟩,
  ⟨"LANE.EYE_SEL", 0x0060, 1, 0x0, 1, 0x0, false,
    [⟨31, 31, .wo, 0, .hardware, [], false⟩, ⟨29, 24, .rw, 0, .hardware, [], false⟩, ⟨22, 16, .rw, 0, .hardware, [(0, 0x3F), (0x41, 0x7F)], false⟩, ⟨9, 8, .rw, 0, .hardware, [(0, 2)], false⟩, ⟨3, 0, .rw, 0, .hardware, [], false⟩]⟩,
  ⟨"LANE.EYE_STAT", 0x0064, 1, 0x0, 1, 0x0, false,
    [⟨2, 2, .ro, 0, .hardware, [], false⟩, ⟨1, 1, .ro, 0, .hardware, [], false⟩, ⟨0, 0, .ro, 0, .hardware, [], false⟩]⟩,
  ⟨"LANE.EYE_ERR", 0x0068, 1, 0x0, 1, 0x0, false,
    [⟨31, 0, .ro, 0, .hardware, [], false⟩]⟩,
  ⟨"LANE.CNT_SNAP", 0x0080, 1, 0x0, 1, 0x0, false,
    [⟨31, 0, .ws, 0, .hardware, [], false⟩]⟩,
  ⟨"LANE.CNT64", 0x0090, 8, 0x4, 1, 0x0, false,
    [⟨31, 0, .ro, 0, .hardware, [], false⟩]⟩,
  ⟨"LANE.CNT32", 0x00B0, 8, 0x4, 1, 0x0, false,
    [⟨31, 0, .ro, 0, .hardware, [], false⟩]⟩,
  ⟨"LANE.CNT_SAT", 0x00D0, 1, 0x0, 1, 0x0, false,
    [⟨7, 0, .w1c, 0, .hardware, [], true⟩]⟩]

/-- All registers of LANE. -/
def regsLANE : List RegDesc := regsLANE_1 ++ regsLANE_2

/-- Registers of STR (R615), part 1. -/
def regsSTR_1 : List RegDesc := [
  ⟨"STR.CFG", 0x0000, 1, 0x0, 1, 0x0, false,
    [⟨23, 16, .rw, 0x40, .image, [(1, 255)], false⟩, ⟨0, 0, .rw, 1, .image, [], false⟩]⟩,
  ⟨"STR.CHAN_USE", 0x0004, 1, 0x0, 1, 0x0, false,
    [⟨27, 16, .ro, 0, .hardware, [], false⟩, ⟨11, 0, .ro, 0, .hardware, [], false⟩]⟩,
  ⟨"STR.VSF_EUI_LO", 0x0008, 1, 0x0, 1, 0x0, false,
    [⟨31, 0, .ro, 0x0AD20480, .factory, [], false⟩]⟩,
  ⟨"STR.VSF_EUI_HI", 0x000C, 1, 0x0, 1, 0x0, false,
    [⟨15, 0, .ro, 0x0000025C, .factory, [], false⟩]⟩,
  ⟨"STR.IPADDR", 0x0020, 4, 0x4, 1, 0x0, false,
    [⟨31, 0, .rw, 0, .image, [], false⟩]⟩,
  ⟨"STR.FSEL", 0x0040, 1, 0x0, 1, 0x0, false,
    [⟨8, 8, .rw, 0, .hardware, [], false⟩, ⟨7, 0, .rw, 0, .hardware, [], false⟩]⟩,
  ⟨"STR.FCMD", 0x0044, 1, 0x0, 1, 0x0, true,
    [⟨31, 30, .wo, 0, .hardware, [(0, 2)], false⟩, ⟨8, 8, .wo, 0, .hardware, [], false⟩, ⟨7, 0, .wo, 0, .hardware, [], false⟩]⟩,
  ⟨"STR.FSTAT", 0x0048, 1, 0x0, 1, 0x0, false,
    [⟨31, 28, .ro, 0, .hardware, [], false⟩, ⟨27, 24, .ro, 0, .hardware, [], false⟩, ⟨15, 0, .ro, 0, .hardware, [], false⟩]⟩,
  ⟨"STR.FLATCH", 0x004C, 1, 0x0, 1, 0x0, false,
    [⟨31, 0, .ro, 0, .hardware, [], false⟩]⟩,
  ⟨"STR.FCFG", 0x0100, 13, 0x4, 1, 0x0, false,
    [⟨31, 0, .rw, 0, .image, [], false⟩]⟩,
  ⟨"STR.CNT_SNAP", 0x0200, 1, 0x0, 1, 0x0, false,
    [⟨31, 0, .ws, 0, .hardware, [], false⟩]⟩,
  ⟨"STR.FRAMES", 0x0208, 2, 0x4, 1, 0x0, false,
    [⟨31, 0, .ro, 0, .hardware, [], false⟩]⟩]

/-- Registers of STR (R615), part 2. -/
def regsSTR_2 : List RegDesc := [
  ⟨"STR.DUP", 0x0210, 2, 0x4, 1, 0x0, false,
    [⟨31, 0, .ro, 0, .hardware, [], false⟩]⟩,
  ⟨"STR.CNT32", 0x0218, 10, 0x4, 1, 0x0, false,
    [⟨31, 0, .ro, 0, .hardware, [], false⟩]⟩,
  ⟨"STR.CNT_SAT", 0x0240, 1, 0x0, 1, 0x0, false,
    [⟨9, 0, .w1c, 0, .hardware, [], true⟩]⟩]

/-- All registers of STR. -/
def regsSTR : List RegDesc := regsSTR_1 ++ regsSTR_2

/-- Registers of TB (R615), part 1. -/
def regsTB_1 : List RegDesc := [
  ⟨"TB.CTL", 0x0000, 1, 0x0, 1, 0x0, false,
    [⟨31, 31, .rw, 0, .image, [], false⟩, ⟨1, 0, .rw, 0, .image, [], false⟩]⟩,
  ⟨"TB.PTPCFG", 0x0004, 1, 0x0, 1, 0x0, false,
    [⟨31, 24, .rw, 0x80, .image, [], false⟩, ⟨23, 23, .rw, 1, .image, [], false⟩, ⟨19, 16, .rw, 0, .image, [], false⟩, ⟨15, 8, .rw, 0, .image, [], false⟩, ⟨2, 0, .rw, 0, .image, [(0, 3)], false⟩]⟩,
  ⟨"TB.PTPPRIO", 0x0008, 1, 0x0, 1, 0x0, false,
    [⟨7, 0, .rw, 0x80, .image, [], false⟩]⟩,
  ⟨"TB.SLEW", 0x000C, 1, 0x0, 1, 0x0, false,
    [⟨13, 0, .rw, 0x03E8, .image, [(1, 0x2710)], false⟩]⟩,
  ⟨"TB.STEPTHR", 0x0010, 1, 0x0, 1, 0x0, false,
    [⟨29, 0, .rw, 0x3E8, .image, [(0x64, 0x3B9ACA00)], false⟩]⟩,
  ⟨"TB.LOCKWIN", 0x0014, 1, 0x0, 1, 0x0, false,
    [⟨23, 16, .rw, 0x10, .image, [(1, 255)], false⟩, ⟨15, 0, .rw, 0x64, .image, [(0xA, 0xFFFF)], false⟩]⟩,
  ⟨"TB.CMD", 0x0018, 1, 0x0, 1, 0x0, true,
    [⟨31, 28, .wo, 0, .hardware, [(0, 4)], false⟩, ⟨0, 0, .wo, 0, .hardware, [], false⟩]⟩,
  ⟨"TB.CMD_STAT", 0x001C, 1, 0x0, 1, 0x0, false,
    [⟨2, 0, .ro, 0, .hardware, [], false⟩]⟩,
  ⟨"TB.STAT", 0x0020, 1, 0x0, 1, 0x0, false,
    [⟨13, 13, .w1c, 0, .hardware, [], false⟩, ⟨12, 12, .ro, 0, .hardware, [], false⟩, ⟨10, 8, .ro, 0, .hardware, [], false⟩, ⟨7, 4, .ro, 0, .hardware, [], false⟩, ⟨3, 0, .ro, 0, .hardware, [], false⟩]⟩,
  ⟨"TB.SNAP", 0x0024, 1, 0x0, 1, 0x0, false,
    [⟨31, 0, .ws, 0, .hardware, [], false⟩]⟩,
  ⟨"TB.TIME_SEC_LO", 0x0028, 1, 0x0, 1, 0x0, false,
    [⟨31, 0, .ro, 0, .hardware, [], false⟩]⟩,
  ⟨"TB.TIME_SEC_HI", 0x002C, 1, 0x0, 1, 0x0, false,
    [⟨15, 0, .ro, 0, .hardware, [], false⟩]⟩]

/-- Registers of TB (R615), part 2. -/
def regsTB_2 : List RegDesc := [
  ⟨"TB.TIME_NS", 0x0030, 1, 0x0, 1, 0x0, false,
    [⟨31, 0, .ro, 0, .hardware, [], false⟩]⟩,
  ⟨"TB.TIME_FRAC", 0x0034, 1, 0x0, 1, 0x0, false,
    [⟨15, 0, .ro, 0, .hardware, [], false⟩]⟩,
  ⟨"TB.ROWIDX", 0x0038, 1, 0x0, 1, 0x0, false,
    [⟨31, 0, .ro, 0, .hardware, [], false⟩]⟩,
  ⟨"TB.FREQ", 0x003C, 1, 0x0, 1, 0x0, false,
    [⟨31, 0, .ro, 0, .hardware, [], false⟩]⟩,
  ⟨"TB.OFFSET", 0x0040, 1, 0x0, 1, 0x0, false,
    [⟨31, 0, .ro, 0, .hardware, [], false⟩]⟩,
  ⟨"TB.PHASEREM", 0x0044, 1, 0x0, 1, 0x0, false,
    [⟨31, 0, .ro, 0, .hardware, [], false⟩]⟩,
  ⟨"TB.SET_SEC_LO", 0x0048, 1, 0x0, 1, 0x0, false,
    [⟨31, 0, .rw, 0, .hardware, [], false⟩]⟩,
  ⟨"TB.SET_SEC_HI", 0x004C, 1, 0x0, 1, 0x0, false,
    [⟨15, 0, .rw, 0, .hardware, [], false⟩]⟩,
  ⟨"TB.SET_NS", 0x0050, 1, 0x0, 1, 0x0, false,
    [⟨31, 0, .rw, 0, .hardware, [(0, 999999999)], false⟩]⟩,
  ⟨"TB.GM_ID_LO", 0x0058, 1, 0x0, 1, 0x0, false,
    [⟨31, 0, .ro, 0, .hardware, [], false⟩]⟩,
  ⟨"TB.GM_ID_HI", 0x005C, 1, 0x0, 1, 0x0, false,
    [⟨31, 0, .ro, 0, .hardware, [], false⟩]⟩,
  ⟨"TB.GM_INFO", 0x0060, 1, 0x0, 1, 0x0, false,
    [⟨23, 16, .ro, 0, .hardware, [], false⟩, ⟨15, 0, .ro, 0, .hardware, [], false⟩]⟩]

/-- Registers of TB (R615), part 3. -/
def regsTB_3 : List RegDesc := [
  ⟨"TB.CNT_SNAP", 0x0080, 1, 0x0, 1, 0x0, false,
    [⟨31, 0, .ws, 0, .hardware, [], false⟩]⟩,
  ⟨"TB.CNT32", 0x0084, 5, 0x4, 1, 0x0, false,
    [⟨31, 0, .ro, 0, .hardware, [], false⟩]⟩,
  ⟨"TB.CNT_SAT", 0x0098, 1, 0x0, 1, 0x0, false,
    [⟨4, 0, .w1c, 0, .hardware, [], true⟩]⟩]

/-- All registers of TB. -/
def regsTB : List RegDesc := regsTB_1 ++ regsTB_2 ++ regsTB_3

/-- Registers of TB0 (R615), part 1. -/
def regsTB0_1 : List RegDesc := [
  ⟨"TB0.MEDIASEL", 0x0100, 1, 0x0, 1, 0x0, true,
    [⟨1, 0, .rw, 0, .image, [], false⟩]⟩]

/-- All registers of TB0. -/
def regsTB0 : List RegDesc := regsTB0_1

/-- Registers of CLK (R615), part 1. -/
def regsCLK_1 : List RegDesc := [
  ⟨"CLK.CTL", 0x0000, 1, 0x0, 1, 0x0, false,
    [⟨19, 16, .rw, 0, .image, [(0, 9)], false⟩, ⟨9, 8, .rw, 1, .image, [(0, 2)], false⟩, ⟨1, 0, .rw, 0, .image, [(0, 2)], false⟩]⟩,
  ⟨"CLK.STAT", 0x0004, 1, 0x0, 1, 0x0, false,
    [⟨23, 23, .ro, 0, .hardware, [], false⟩, ⟨22, 22, .ro, 0, .hardware, [], false⟩, ⟨19, 16, .ro, 0xF, .hardware, [], false⟩, ⟨2, 0, .ro, 0, .hardware, [], false⟩]⟩,
  ⟨"CLK.WTR", 0x0008, 1, 0x0, 1, 0x0, false,
    [⟨5, 0, .rw, 5, .image, [(0, 60)], false⟩]⟩,
  ⟨"CLK.PSLOPE", 0x000C, 1, 0x0, 1, 0x0, false,
    [⟨13, 0, .rw, 0x3E8, .image, [(1, 0x2710)], false⟩]⟩,
  ⟨"CLK.PHSTEP", 0x0010, 1, 0x0, 1, 0x0, true,
    [⟨31, 0, .wo, 0, .hardware, [], false⟩]⟩,
  ⟨"CLK.PSTEP_LAST", 0x0014, 1, 0x0, 1, 0x0, false,
    [⟨31, 0, .ro, 0, .hardware, [], false⟩]⟩,
  ⟨"CLK.PHASEREM", 0x0018, 1, 0x0, 1, 0x0, false,
    [⟨31, 0, .ro, 0, .hardware, [], false⟩]⟩,
  ⟨"CLK.XOCFG", 0x001C, 1, 0x0, 1, 0x0, false,
    [⟨23, 0, .rw, 0, .image, [], false⟩]⟩,
  ⟨"CLK.HOSPEC", 0x0020, 1, 0x0, 1, 0x0, false,
    [⟨15, 0, .rw, 0x12C, .image, [], false⟩]⟩,
  ⟨"CLK.SNAP", 0x0024, 1, 0x0, 1, 0x0, false,
    [⟨31, 0, .ws, 0, .hardware, [], false⟩]⟩,
  ⟨"CLK.HOFREQ", 0x0028, 1, 0x0, 1, 0x0, false,
    [⟨31, 0, .ro, 0, .hardware, [], false⟩]⟩,
  ⟨"CLK.HOTIME", 0x002C, 1, 0x0, 1, 0x0, false,
    [⟨31, 0, .ro, 0, .hardware, [], false⟩]⟩]

/-- Registers of CLK (R615), part 2. -/
def regsCLK_2 : List RegDesc := [
  ⟨"CLK.REF_CFG03", 0x0100, 4, 0x20, 1, 0x0, false,
    [⟨31, 28, .rw, 0, .image, [], false⟩, ⟨27, 24, .rw, 3, .image, [(0, 4)], false⟩, ⟨0, 0, .rw, 0, .image, [], false⟩]⟩,
  ⟨"CLK.REF_CFG47", 0x0180, 4, 0x20, 1, 0x0, false,
    [⟨31, 28, .rw, 0, .image, [], false⟩]⟩,
  ⟨"CLK.REF_CFG89", 0x0200, 2, 0x20, 1, 0x0, false,
    [⟨31, 28, .rw, 0, .image, [], false⟩, ⟨17, 16, .rw, 0, .image, [], false⟩]⟩,
  ⟨"CLK.REF_THR", 0x0104, 10, 0x20, 1, 0x0, false,
    [⟨29, 20, .rw, 0x64, .image, [], false⟩, ⟨19, 10, .rw, 0xC8, .image, [], false⟩, ⟨9, 0, .rw, 0x12C, .image, [], false⟩]⟩,
  ⟨"CLK.REF_SUST", 0x0108, 10, 0x20, 1, 0x0, false,
    [⟨23, 16, .rw, 0x0A, .image, [], false⟩, ⟨15, 8, .rw, 0x14, .image, [], false⟩, ⟨7, 0, .rw, 0x64, .image, [], false⟩]⟩,
  ⟨"CLK.REF_STAT", 0x010C, 10, 0x20, 1, 0x0, false,
    [⟨31, 31, .ro, 0, .hardware, [], false⟩, ⟨30, 28, .ro, 1, .hardware, [], false⟩, ⟨27, 24, .ro, 0, .hardware, [], false⟩, ⟨23, 20, .ro, 0, .hardware, [], false⟩, ⟨7, 0, .ro, 0, .hardware, [], false⟩]⟩,
  ⟨"CLK.REF_OFFSET", 0x0110, 10, 0x20, 1, 0x0, false,
    [⟨31, 0, .ro, 0, .hardware, [], false⟩]⟩,
  ⟨"CLK.CNT_SNAP", 0x0400, 1, 0x0, 1, 0x0, false,
    [⟨31, 0, .ws, 0, .hardware, [], false⟩]⟩,
  ⟨"CLK.SWITCH_CNT", 0x0404, 1, 0x0, 1, 0x0, false,
    [⟨31, 0, .ro, 0, .hardware, [], false⟩]⟩,
  ⟨"CLK.HOLD_CNT", 0x0408, 1, 0x0, 1, 0x0, false,
    [⟨31, 0, .ro, 0, .hardware, [], false⟩]⟩,
  ⟨"CLK.CNT_SAT", 0x040C, 1, 0x0, 1, 0x0, false,
    [⟨1, 0, .w1c, 0, .hardware, [], true⟩]⟩,
  ⟨"CLK.LOSS_CNT", 0x0410, 10, 0x10, 1, 0x0, false,
    [⟨31, 0, .ro, 0, .hardware, [], false⟩]⟩]

/-- Registers of CLK (R615), part 3. -/
def regsCLK_3 : List RegDesc := [
  ⟨"CLK.GLITCH_CNT", 0x0414, 10, 0x10, 1, 0x0, false,
    [⟨31, 0, .ro, 0, .hardware, [], false⟩]⟩,
  ⟨"CLK.DISQ_CNT", 0x0418, 10, 0x10, 1, 0x0, false,
    [⟨31, 0, .ro, 0, .hardware, [], false⟩]⟩,
  ⟨"CLK.REF_CNTSAT", 0x041C, 10, 0x10, 1, 0x0, false,
    [⟨2, 0, .w1c, 0, .hardware, [], true⟩]⟩]

/-- All registers of CLK. -/
def regsCLK : List RegDesc := regsCLK_1 ++ regsCLK_2 ++ regsCLK_3

/-- Registers of TDM (R615), part 1. -/
def regsTDM_1 : List RegDesc := [
  ⟨"TDM.START_CFG", 0x0000, 1, 0x0, 1, 0x0, false,
    [⟨31, 31, .rw, 0, .image, [], false⟩, ⟨30, 30, .rw, 0, .image, [], false⟩, ⟨29, 28, .rw, 0, .image, [], false⟩, ⟨24, 24, .rw, 1, .image, [], false⟩, ⟨23, 16, .rw, 0x0A, .image, [(1, 255)], false⟩, ⟨15, 0, .rw, 0x400, .image, [(1, 0xFFFF)], false⟩]⟩,
  ⟨"TDM.CMD", 0x0004, 1, 0x0, 1, 0x0, true,
    [⟨31, 30, .wo, 0, .hardware, [], false⟩]⟩,
  ⟨"TDM.STAT", 0x0008, 1, 0x0, 1, 0x0, false,
    [⟨31, 28, .ro, 0, .hardware, [], false⟩, ⟨27, 24, .ro, 0, .hardware, [], false⟩, ⟨23, 23, .ro, 0, .hardware, [], false⟩, ⟨15, 0, .ro, 0, .hardware, [], false⟩]⟩,
  ⟨"TDM.CNT_SNAP", 0x0080, 1, 0x0, 1, 0x0, false,
    [⟨31, 0, .ws, 0, .hardware, [], false⟩]⟩,
  ⟨"TDM.FRAMES_LO", 0x0084, 1, 0x0, 1, 0x0, false,
    [⟨31, 0, .ro, 0, .hardware, [], false⟩]⟩,
  ⟨"TDM.FRAMES_HI", 0x0088, 1, 0x0, 1, 0x0, false,
    [⟨31, 0, .ro, 0, .hardware, [], false⟩]⟩,
  ⟨"TDM.CNT32", 0x008C, 8, 0x4, 1, 0x0, false,
    [⟨31, 0, .ro, 0, .hardware, [], false⟩]⟩,
  ⟨"TDM.CNT_SAT", 0x00AC, 1, 0x0, 1, 0x0, false,
    [⟨7, 0, .w1c, 0, .hardware, [], true⟩]⟩,
  ⟨"TDM.CFG", 0x0010, 1, 0x0, 1, 0x0, false,
    [⟨31, 31, .rw, 1, .image, [], false⟩, ⟨30, 30, .rw, 0, .image, [], false⟩, ⟨29, 29, .rw, 0, .image, [], false⟩, ⟨28, 28, .rw, 0, .image, [], false⟩, ⟨27, 26, .rw, 2, .image, [(0, 2)], false⟩, ⟨25, 21, .rw, 0, .image, [], false⟩, ⟨20, 16, .rw, 7, .image, [], false⟩, ⟨15, 12, .rw, 3, .image, [(0, 6)], false⟩, ⟨11, 11, .rw, 0, .image, [], false⟩, ⟨10, 10, .rw, 0, .image, [], false⟩, ⟨9, 9, .rw, 0, .image, [], false⟩, ⟨8, 4, .rw, 0x1E, .image, [(0, 30)], false⟩]⟩,
  ⟨"TDM.PHASE", 0x0014, 1, 0x0, 1, 0x0, false,
    [⟨15, 12, .rw, 4, .image, [(1, 15)], false⟩, ⟨10, 0, .rw, 0, .image, [], false⟩]⟩,
  ⟨"TDM.MASK_RX_SHD", 0x0018, 1, 0x0, 1, 0x0, false,
    [⟨31, 0, .rw, 0xFFFFFFFF, .image, [], false⟩]⟩,
  ⟨"TDM.MASK_TX_SHD", 0x001C, 1, 0x0, 1, 0x0, false,
    [⟨31, 0, .rw, 0xFFFFFFFF, .image, [], false⟩]⟩]

/-- Registers of TDM (R615), part 2. -/
def regsTDM_2 : List RegDesc := [
  ⟨"TDM.MASK_RX_ACT", 0x0020, 1, 0x0, 1, 0x0, false,
    [⟨31, 0, .ro, 0, .hardware, [], false⟩]⟩,
  ⟨"TDM.MASK_TX_ACT", 0x0024, 1, 0x0, 1, 0x0, false,
    [⟨31, 0, .ro, 0, .hardware, [], false⟩]⟩,
  ⟨"TDM.CLAIM_STAT", 0x0028, 1, 0x0, 1, 0x0, false,
    [⟨9, 9, .ro, 0, .hardware, [], false⟩, ⟨8, 8, .ro, 0, .hardware, [], false⟩, ⟨7, 6, .ro, 0, .hardware, [], false⟩, ⟨5, 5, .ro, 0, .hardware, [], false⟩, ⟨4, 4, .ro, 0, .hardware, [], false⟩, ⟨3, 0, .ro, 0, .hardware, [], false⟩]⟩,
  ⟨"TDM.CLAIM_LATCH", 0x002C, 1, 0x0, 1, 0x0, false,
    [⟨31, 0, .ro, 0, .hardware, [], false⟩]⟩]

/-- All registers of TDM. -/
def regsTDM : List RegDesc := regsTDM_1 ++ regsTDM_2

/-- Registers of TDM0 (R615), part 1. -/
def regsTDM0_1 : List RegDesc := [
  ⟨"GRP.ROW", 0x0100, 4, 0x10, 1, 0x0, false,
    [⟨31, 0, .rw, 0, .hardware, [], false⟩]⟩,
  ⟨"GRP.CMD", 0x0104, 4, 0x10, 1, 0x0, true,
    [⟨31, 30, .wo, 0, .hardware, [], false⟩, ⟨29, 29, .wo, 0, .hardware, [], false⟩]⟩,
  ⟨"GRP.STAT", 0x0108, 4, 0x10, 1, 0x0, false,
    [⟨31, 28, .ro, 0, .hardware, [], false⟩]⟩]

/-- All registers of TDM0. -/
def regsTDM0 : List RegDesc := regsTDM0_1

/-- Registers of AES (R615), part 1. -/
def regsAES_1 : List RegDesc := [
  ⟨"AESI.START_CFG", 0x1000, 8, 0x100, 1, 0x0, false,
    [⟨31, 31, .rw, 0, .image, [], false⟩, ⟨30, 30, .rw, 0, .image, [], false⟩, ⟨29, 28, .rw, 0, .image, [], false⟩, ⟨24, 24, .rw, 1, .image, [], false⟩, ⟨23, 16, .rw, 0x0A, .image, [(1, 255)], false⟩, ⟨15, 0, .rw, 0x400, .image, [(1, 0xFFFF)], false⟩]⟩,
  ⟨"AESI.CMD", 0x1004, 8, 0x100, 1, 0x0, true,
    [⟨31, 30, .wo, 0, .hardware, [(0, 2)], false⟩]⟩,
  ⟨"AESI.STAT", 0x1008, 8, 0x100, 1, 0x0, false,
    [⟨31, 28, .ro, 0, .hardware, [], false⟩, ⟨27, 24, .ro, 0, .hardware, [], false⟩, ⟨23, 23, .ro, 0, .hardware, [], false⟩, ⟨15, 0, .ro, 0, .hardware, [], false⟩]⟩,
  ⟨"AESI.CNT_SNAP", 0x1080, 8, 0x100, 1, 0x0, false,
    [⟨31, 0, .ws, 0, .hardware, [], false⟩]⟩,
  ⟨"AESI.FRAMES_LO", 0x1084, 8, 0x100, 1, 0x0, false,
    [⟨31, 0, .ro, 0, .hardware, [], false⟩]⟩,
  ⟨"AESI.FRAMES_HI", 0x1088, 8, 0x100, 1, 0x0, false,
    [⟨31, 0, .ro, 0, .hardware, [], false⟩]⟩,
  ⟨"AESI.CNT32", 0x108C, 8, 0x100, 8, 0x4, false,
    [⟨31, 0, .ro, 0, .hardware, [], false⟩]⟩,
  ⟨"AESI.CNT_SAT", 0x10AC, 8, 0x100, 1, 0x0, false,
    [⟨7, 0, .w1c, 0, .hardware, [], true⟩]⟩,
  ⟨"AESI.RX_MODE", 0x100C, 8, 0x100, 1, 0x0, false,
    [⟨2, 2, .rw, 0, .image, [], false⟩, ⟨1, 1, .rw, 0, .image, [], false⟩, ⟨0, 0, .rw, 0, .image, [], false⟩]⟩,
  ⟨"AESI.RX_INFO", 0x1010, 8, 0x100, 1, 0x0, false,
    [⟨31, 31, .ro, 0, .hardware, [], false⟩, ⟨30, 30, .ro, 0, .hardware, [], false⟩, ⟨29, 29, .ro, 0, .hardware, [], false⟩, ⟨23, 20, .ro, 0xF, .hardware, [], false⟩]⟩,
  ⟨"AESI.RX_CS", 0x1014, 8, 0x100, 6, 0x4, false,
    [⟨31, 0, .ro, 0, .hardware, [], false⟩]⟩,
  ⟨"AESO.START_CFG", 0x2000, 8, 0x100, 1, 0x0, false,
    [⟨31, 31, .rw, 0, .image, [], false⟩, ⟨30, 30, .rw, 0, .image, [], false⟩, ⟨29, 28, .rw, 0, .image, [], false⟩, ⟨24, 24, .rw, 1, .image, [], false⟩, ⟨23, 16, .rw, 0x0A, .image, [(1, 255)], false⟩, ⟨15, 0, .rw, 0x400, .image, [(1, 0xFFFF)], false⟩]⟩]

/-- Registers of AES (R615), part 2. -/
def regsAES_2 : List RegDesc := [
  ⟨"AESO.CMD", 0x2004, 8, 0x100, 1, 0x0, true,
    [⟨31, 30, .wo, 0, .hardware, [(0, 2)], false⟩]⟩,
  ⟨"AESO.STAT", 0x2008, 8, 0x100, 1, 0x0, false,
    [⟨31, 28, .ro, 0, .hardware, [], false⟩, ⟨27, 24, .ro, 0, .hardware, [], false⟩, ⟨23, 23, .ro, 0, .hardware, [], false⟩, ⟨15, 0, .ro, 0, .hardware, [], false⟩]⟩,
  ⟨"AESO.CNT_SNAP", 0x2080, 8, 0x100, 1, 0x0, false,
    [⟨31, 0, .ws, 0, .hardware, [], false⟩]⟩,
  ⟨"AESO.FRAMES_LO", 0x2084, 8, 0x100, 1, 0x0, false,
    [⟨31, 0, .ro, 0, .hardware, [], false⟩]⟩,
  ⟨"AESO.FRAMES_HI", 0x2088, 8, 0x100, 1, 0x0, false,
    [⟨31, 0, .ro, 0, .hardware, [], false⟩]⟩,
  ⟨"AESO.CNT32", 0x208C, 8, 0x100, 8, 0x4, false,
    [⟨31, 0, .ro, 0, .hardware, [], false⟩]⟩,
  ⟨"AESO.CNT_SAT", 0x20AC, 8, 0x100, 1, 0x0, false,
    [⟨7, 0, .w1c, 0, .hardware, [], true⟩]⟩,
  ⟨"AESO.TX_MODE", 0x200C, 8, 0x100, 1, 0x0, false,
    [⟨1, 1, .rw, 1, .image, [], false⟩, ⟨0, 0, .rw, 0, .image, [], false⟩]⟩,
  ⟨"AESO.TX_CS", 0x2014, 8, 0x100, 5, 0x4, false,
    [⟨31, 0, .rw, 0, .image, [], false⟩]⟩,
  ⟨"AESO.TX_CS5", 0x2028, 8, 0x100, 1, 0x0, false,
    [⟨23, 0, .rw, 0, .image, [], false⟩]⟩]

/-- All registers of AES. -/
def regsAES : List RegDesc := regsAES_1 ++ regsAES_2

/-- Registers of MADI (R615), part 1. -/
def regsMADI_1 : List RegDesc := [
  ⟨"MADI.START_CFG", 0x0000, 1, 0x0, 1, 0x0, false,
    [⟨31, 31, .rw, 0, .image, [], false⟩, ⟨30, 30, .rw, 0, .image, [], false⟩, ⟨29, 28, .rw, 0, .image, [], false⟩, ⟨24, 24, .rw, 1, .image, [], false⟩, ⟨23, 16, .rw, 0x0A, .image, [(1, 255)], false⟩, ⟨15, 0, .rw, 0x400, .image, [(1, 0xFFFF)], false⟩]⟩,
  ⟨"MADI.CMD", 0x0004, 1, 0x0, 1, 0x0, true,
    [⟨31, 30, .wo, 0, .hardware, [], false⟩]⟩,
  ⟨"MADI.STAT", 0x0008, 1, 0x0, 1, 0x0, false,
    [⟨31, 28, .ro, 0, .hardware, [], false⟩, ⟨27, 24, .ro, 0, .hardware, [], false⟩, ⟨23, 23, .ro, 0, .hardware, [], false⟩, ⟨15, 0, .ro, 0, .hardware, [], false⟩]⟩,
  ⟨"MADI.CNT_SNAP", 0x0080, 1, 0x0, 1, 0x0, false,
    [⟨31, 0, .ws, 0, .hardware, [], false⟩]⟩,
  ⟨"MADI.FRAMES_LO", 0x0084, 1, 0x0, 1, 0x0, false,
    [⟨31, 0, .ro, 0, .hardware, [], false⟩]⟩,
  ⟨"MADI.FRAMES_HI", 0x0088, 1, 0x0, 1, 0x0, false,
    [⟨31, 0, .ro, 0, .hardware, [], false⟩]⟩,
  ⟨"MADI.CNT32", 0x008C, 8, 0x4, 1, 0x0, false,
    [⟨31, 0, .ro, 0, .hardware, [], false⟩]⟩,
  ⟨"MADI.CNT_SAT", 0x00AC, 1, 0x0, 1, 0x0, false,
    [⟨7, 0, .w1c, 0, .hardware, [], true⟩]⟩,
  ⟨"MADI.CFG", 0x0010, 1, 0x0, 1, 0x0, false,
    [⟨1, 1, .rw, 1, .image, [], false⟩, ⟨0, 0, .rw, 0, .image, [], false⟩]⟩,
  ⟨"MADI.RX_ACT", 0x0014, 2, 0x4, 1, 0x0, false,
    [⟨31, 0, .ro, 0, .hardware, [], false⟩]⟩,
  ⟨"MADI.MASK_RX_SHD", 0x001C, 2, 0x4, 1, 0x0, false,
    [⟨31, 0, .rw, 0xFFFFFFFF, .image, [], false⟩]⟩,
  ⟨"MADI.MASK_TX_SHD", 0x0024, 2, 0x4, 1, 0x0, false,
    [⟨31, 0, .rw, 0xFFFFFFFF, .image, [], false⟩]⟩]

/-- Registers of MADI (R615), part 2. -/
def regsMADI_2 : List RegDesc := [
  ⟨"MADI.MASK_RX_ACT", 0x002C, 2, 0x4, 1, 0x0, false,
    [⟨31, 0, .ro, 0, .hardware, [], false⟩]⟩,
  ⟨"MADI.MASK_TX_ACT", 0x0034, 2, 0x4, 1, 0x0, false,
    [⟨31, 0, .ro, 0, .hardware, [], false⟩]⟩,
  ⟨"MADI.TX_CS", 0x0040, 5, 0x4, 1, 0x0, false,
    [⟨31, 0, .rw, 0, .image, [], false⟩]⟩,
  ⟨"MADI.TX_CS5", 0x0054, 1, 0x0, 1, 0x0, false,
    [⟨23, 0, .rw, 0, .image, [], false⟩]⟩]

/-- All registers of MADI. -/
def regsMADI : List RegDesc := regsMADI_1 ++ regsMADI_2

/-- Registers of LNK (R615), part 1. -/
def regsLNK_1 : List RegDesc := [
  ⟨"LNK.STAT", 0x0000, 1, 0x0, 1, 0x0, false,
    [⟨2, 2, .ro, 0, .hardware, [], false⟩, ⟨1, 1, .ro, 0, .hardware, [], false⟩, ⟨0, 0, .ro, 0, .hardware, [], false⟩]⟩,
  ⟨"LNK.CNT_SNAP", 0x0010, 1, 0x0, 1, 0x0, false,
    [⟨31, 0, .ws, 0, .hardware, [], false⟩]⟩,
  ⟨"LNK.ERRCNT", 0x0014, 3, 0x4, 1, 0x0, false,
    [⟨31, 0, .ro, 0, .hardware, [], false⟩]⟩,
  ⟨"LNK.CNT_SAT", 0x0020, 1, 0x0, 1, 0x0, false,
    [⟨2, 0, .w1c, 0, .hardware, [], true⟩]⟩]

/-- All registers of LNK. -/
def regsLNK : List RegDesc := regsLNK_1

/-- Registers of TWN (R615), part 1. -/
def regsTWN_1 : List RegDesc := [
  ⟨"TWN.CFG", 0x0000, 1, 0x0, 1, 0x0, false,
    [⟨31, 31, .rw, 0, .image, [], false⟩, ⟨30, 30, .rw, 0, .image, [], false⟩, ⟨29, 29, .rw, 0, .image, [], false⟩, ⟨23, 8, .rw, 0, .image, [], false⟩, ⟨3, 0, .rw, 1, .image, [(1, 15)], false⟩]⟩,
  ⟨"TWN.CFG2", 0x0004, 1, 0x0, 1, 0x0, false,
    [⟨31, 16, .rw, 0x40, .image, [(1, 0xFFFF)], false⟩, ⟨15, 8, .rw, 0x40, .image, [(4, 255)], false⟩, ⟨1, 0, .rw, 0, .image, [], false⟩]⟩,
  ⟨"TWN.CTL", 0x0008, 1, 0x0, 1, 0x0, false,
    [⟨0, 0, .wo, 0, .hardware, [], false⟩]⟩,
  ⟨"TWN.GEN0", 0x000C, 1, 0x0, 1, 0x0, false,
    [⟨27, 0, .rw, 0, .image, [], false⟩]⟩,
  ⟨"TWN.STAT", 0x0010, 1, 0x0, 1, 0x0, false,
    [⟨31, 28, .ro, 0, .hardware, [], false⟩, ⟨27, 24, .ro, 0, .hardware, [], false⟩, ⟨11, 11, .ro, 0, .hardware, [], false⟩, ⟨10, 10, .ro, 0, .hardware, [], false⟩, ⟨9, 9, .ro, 0, .hardware, [], false⟩, ⟨8, 8, .ro, 0, .hardware, [], false⟩, ⟨2, 2, .ro, 0, .hardware, [], false⟩, ⟨1, 1, .ro, 0, .hardware, [], false⟩, ⟨0, 0, .ro, 0, .hardware, [], false⟩]⟩,
  ⟨"TWN.CLAIM", 0x0014, 1, 0x0, 1, 0x0, false,
    [⟨31, 0, .ro, 0, .hardware, [], false⟩]⟩,
  ⟨"TWN.PCLAIM", 0x0018, 1, 0x0, 1, 0x0, false,
    [⟨31, 0, .ro, 0, .hardware, [], false⟩]⟩,
  ⟨"TWN.TICKOFF", 0x001C, 1, 0x0, 1, 0x0, false,
    [⟨31, 0, .ro, 0, .hardware, [], false⟩]⟩,
  ⟨"TWN.LINKDLY", 0x0020, 1, 0x0, 1, 0x0, false,
    [⟨31, 0, .ro, 0, .hardware, [], false⟩]⟩,
  ⟨"TWN.GRANTSEQ", 0x0024, 1, 0x0, 1, 0x0, false,
    [⟨31, 0, .ro, 0, .hardware, [], false⟩]⟩,
  ⟨"TWN.GRANTRES", 0x0028, 1, 0x0, 1, 0x0, false,
    [⟨3, 0, .ro, 0, .hardware, [], false⟩]⟩,
  ⟨"TWN.REFIP", 0x0030, 1, 0x0, 1, 0x0, false,
    [⟨31, 0, .rw, 0, .image, [], false⟩]⟩]

/-- Registers of TWN (R615), part 2. -/
def regsTWN_2 : List RegDesc := [
  ⟨"TWN.REFMAC_LO", 0x0034, 1, 0x0, 1, 0x0, false,
    [⟨31, 0, .rw, 0, .image, [], false⟩]⟩,
  ⟨"TWN.REFCTL", 0x0038, 1, 0x0, 1, 0x0, false,
    [⟨31, 16, .rw, 0, .image, [], false⟩, ⟨15, 0, .rw, 0, .image, [(1, 0xFFFF)], false⟩]⟩,
  ⟨"TWN.TICKTOL", 0x003C, 1, 0x0, 1, 0x0, false,
    [⟨11, 0, .rw, 0x1F4, .image, [(100, 2000)], false⟩]⟩,
  ⟨"TWN.KEY", 0x0040, 8, 0x4, 1, 0x0, false,
    [⟨31, 0, .wo, 0, .image, [], false⟩]⟩,
  ⟨"TWN.CNT_SNAP", 0x0080, 1, 0x0, 1, 0x0, false,
    [⟨31, 0, .ws, 0, .hardware, [], false⟩]⟩,
  ⟨"TWN.CNT32", 0x0084, 7, 0x4, 1, 0x0, false,
    [⟨31, 0, .ro, 0, .hardware, [], false⟩]⟩,
  ⟨"TWN.CNT_SAT", 0x00A0, 1, 0x0, 1, 0x0, false,
    [⟨6, 0, .w1c, 0, .hardware, [], true⟩]⟩]

/-- All registers of TWN. -/
def regsTWN : List RegDesc := regsTWN_1 ++ regsTWN_2

/-- Registers of REF (R615), part 1. -/
def regsREF_1 : List RegDesc := [
  ⟨"REF.CFG", 0x0000, 1, 0x0, 1, 0x0, false,
    [⟨31, 31, .rw, 0, .image, [], false⟩, ⟨30, 30, .rw, 0, .image, [], false⟩, ⟨29, 29, .rw, 0, .image, [], false⟩, ⟨22, 16, .rw, 4, .image, [(2, 0x40)], false⟩, ⟨15, 0, .rw, 0x60, .image, [], false⟩]⟩,
  ⟨"REF.PORT", 0x0004, 1, 0x0, 1, 0x0, false,
    [⟨15, 0, .rw, 0xB86A, .image, [(1, 0xFFFF)], false⟩]⟩,
  ⟨"REF.CNT_SNAP", 0x0080, 1, 0x0, 1, 0x0, false,
    [⟨31, 0, .ws, 0, .hardware, [], false⟩]⟩,
  ⟨"REF.CNT32", 0x0084, 3, 0x4, 1, 0x0, false,
    [⟨31, 0, .ro, 0, .hardware, [], false⟩]⟩,
  ⟨"REF.CNT_SAT", 0x0090, 1, 0x0, 1, 0x0, false,
    [⟨2, 0, .w1c, 0, .hardware, [], true⟩]⟩,
  ⟨"REF.PCFG", 0x0100, 8, 0x40, 1, 0x0, false,
    [⟨31, 31, .rw, 0, .image, [], false⟩, ⟨25, 24, .rw, 0, .image, [], false⟩, ⟨15, 0, .rw, 0, .image, [], false⟩]⟩,
  ⟨"REF.IPA", 0x0104, 8, 0x40, 1, 0x0, false,
    [⟨31, 0, .rw, 0, .image, [], false⟩]⟩,
  ⟨"REF.IPB", 0x0108, 8, 0x40, 1, 0x0, false,
    [⟨31, 0, .rw, 0, .image, [], false⟩]⟩,
  ⟨"REF.MACA_LO", 0x010C, 8, 0x40, 1, 0x0, false,
    [⟨31, 0, .rw, 0, .image, [], false⟩]⟩,
  ⟨"REF.MACB_LO", 0x0110, 8, 0x40, 1, 0x0, false,
    [⟨31, 0, .rw, 0, .image, [], false⟩]⟩,
  ⟨"REF.MAC_HI", 0x0114, 8, 0x40, 1, 0x0, false,
    [⟨31, 16, .rw, 0, .image, [], false⟩, ⟨15, 0, .rw, 0, .image, [], false⟩]⟩,
  ⟨"REF.PSTAT", 0x0118, 8, 0x40, 1, 0x0, false,
    [⟨31, 28, .ro, 0, .hardware, [], false⟩, ⟨27, 24, .ro, 0, .hardware, [], false⟩, ⟨23, 16, .ro, 0, .hardware, [], false⟩, ⟨15, 8, .ro, 0, .hardware, [], false⟩, ⟨7, 4, .ro, 0, .hardware, [], false⟩]⟩]

/-- Registers of REF (R615), part 2. -/
def regsREF_2 : List RegDesc := [
  ⟨"REF.GMAX", 0x011C, 8, 0x40, 1, 0x0, false,
    [⟨27, 0, .ro, 0, .hardware, [], false⟩]⟩,
  ⟨"REF.KEY", 0x0120, 8, 0x40, 8, 0x4, false,
    [⟨31, 0, .wo, 0, .image, [], false⟩]⟩]

/-- All registers of REF. -/
def regsREF : List RegDesc := regsREF_1 ++ regsREF_2

/-- Registers of PWR (R615), part 1. -/
def regsPWR_1 : List RegDesc := [
  ⟨"PWR.CTL", 0x0000, 1, 0x0, 1, 0x0, false,
    [⟨23, 16, .rw, 0, .image, [(0, 0x40)], false⟩, ⟨1, 1, .rw, 0, .image, [], false⟩, ⟨0, 0, .rw, 0, .image, [], false⟩]⟩,
  ⟨"PWR.STAT", 0x0004, 1, 0x0, 1, 0x0, false,
    [⟨31, 28, .ro, 0, .hardware, [], false⟩, ⟨27, 27, .ro, 0, .hardware, [], false⟩, ⟨7, 0, .ro, 0, .hardware, [], false⟩]⟩,
  ⟨"PWR.BOOST_CFG", 0x0008, 1, 0x0, 1, 0x0, false,
    [⟨31, 24, .rw, 0xC8, .image, [(0x3C, 0xC8)], false⟩, ⟨23, 16, .rw, 0x3C, .image, [(0x24, 0xC8)], false⟩, ⟨15, 8, .rw, 0x18, .image, [], false⟩, ⟨7, 0, .rw, 0x50, .image, [], false⟩]⟩,
  ⟨"PWR.BOOST_SLEW", 0x000C, 1, 0x0, 1, 0x0, false,
    [⟨15, 8, .rw, 0x0A, .image, [(1, 0x32)], false⟩, ⟨7, 0, .rw, 0x78, .image, [(4, 0xC8)], false⟩]⟩,
  ⟨"PWR.XF_STAT", 0x0010, 1, 0x0, 1, 0x0, false,
    [⟨31, 31, .ro, 0, .hardware, [], false⟩, ⟨23, 16, .ro, 0, .hardware, [], false⟩]⟩,
  ⟨"PWR.XF_CLAIM", 0x0014, 1, 0x0, 1, 0x0, false,
    [⟨31, 0, .ro, 0, .hardware, [], false⟩]⟩,
  ⟨"PWR.CNT_SNAP", 0x0020, 1, 0x0, 1, 0x0, false,
    [⟨31, 0, .ws, 0, .hardware, [], false⟩]⟩,
  ⟨"PWR.LIMIT_CNT", 0x0024, 1, 0x0, 1, 0x0, false,
    [⟨31, 0, .ro, 0, .hardware, [], false⟩]⟩,
  ⟨"PWR.BUSLOW_CNT", 0x0028, 1, 0x0, 1, 0x0, false,
    [⟨31, 0, .ro, 0, .hardware, [], false⟩]⟩,
  ⟨"PWR.XFCRC", 0x002C, 1, 0x0, 1, 0x0, false,
    [⟨31, 0, .ro, 0, .hardware, [], false⟩]⟩,
  ⟨"PWR.XFSYNC", 0x0030, 1, 0x0, 1, 0x0, false,
    [⟨31, 0, .ro, 0, .hardware, [], false⟩]⟩,
  ⟨"PWR.CNT_SAT", 0x0034, 1, 0x0, 1, 0x0, false,
    [⟨3, 0, .w1c, 0, .hardware, [], true⟩]⟩]

/-- Registers of PWR (R615), part 2. -/
def regsPWR_2 : List RegDesc := [
  ⟨"PWR.CH_CFG", 0x1000, 8, 0x100, 1, 0x0, false,
    [⟨31, 22, .rw, 0x37E, .image, [(0x64, 0x3B6)], false⟩, ⟨15, 8, .rw, 0x3C, .image, [(0x2D, 0x4B)], false⟩, ⟨3, 0, .rw, 6, .image, [(2, 15)], false⟩]⟩,
  ⟨"PWR.CH_ILIM", 0x1004, 8, 0x100, 1, 0x0, false,
    [⟨7, 0, .rw, 0x8C, .image, [(8, 0xA0)], false⟩]⟩,
  ⟨"PWR.CH_CMD", 0x1008, 8, 0x100, 1, 0x0, false,
    [⟨1, 0, .wo, 0, .hardware, [], false⟩]⟩,
  ⟨"PWR.CH_STAT", 0x100C, 8, 0x100, 1, 0x0, false,
    [⟨31, 28, .ro, 0, .hardware, [], false⟩, ⟨27, 26, .ro, 0, .hardware, [], false⟩, ⟨25, 25, .ro, 0, .hardware, [], false⟩, ⟨24, 24, .ro, 0, .hardware, [], false⟩, ⟨23, 23, .ro, 0, .hardware, [], false⟩, ⟨22, 22, .ro, 0, .hardware, [], false⟩, ⟨9, 8, .ro, 0, .hardware, [], false⟩, ⟨7, 0, .ro, 0, .hardware, [], false⟩]⟩,
  ⟨"PWR.CH_LATCH", 0x1010, 8, 0x100, 1, 0x0, false,
    [⟨31, 0, .ro, 0, .hardware, [], false⟩]⟩,
  ⟨"PWR.CH_CORR", 0x1014, 8, 0x100, 1, 0x0, false,
    [⟨31, 16, .ro, 0, .hardware, [], false⟩, ⟨15, 0, .ro, 0, .hardware, [], false⟩]⟩,
  ⟨"PWR.CH_CORRCFG", 0x1018, 8, 0x100, 1, 0x0, false,
    [⟨0, 0, .rw, 1, .image, [], false⟩]⟩,
  ⟨"PWR.CH_Z", 0x101C, 8, 0x100, 1, 0x0, false,
    [⟨15, 0, .ro, 0, .hardware, [], false⟩]⟩,
  ⟨"PWR.CH_ZLIM", 0x1020, 8, 0x100, 1, 0x0, false,
    [⟨31, 16, .rw, 0x0640, .image, [], false⟩, ⟨15, 0, .rw, 0x00C8, .image, [], false⟩]⟩,
  ⟨"PWR.CH_CNT_SNAP", 0x1040, 8, 0x100, 1, 0x0, false,
    [⟨31, 0, .ws, 0, .hardware, [], false⟩]⟩,
  ⟨"PWR.CH_LIMCYC_LO", 0x1044, 8, 0x100, 1, 0x0, false,
    [⟨31, 0, .ro, 0, .hardware, [], false⟩]⟩,
  ⟨"PWR.CH_LIMCYC_HI", 0x1048, 8, 0x100, 1, 0x0, false,
    [⟨31, 0, .ro, 0, .hardware, [], false⟩]⟩]

/-- Registers of PWR (R615), part 3. -/
def regsPWR_3 : List RegDesc := [
  ⟨"PWR.CH_CNT32", 0x104C, 8, 0x100, 5, 0x4, false,
    [⟨31, 0, .ro, 0, .hardware, [], false⟩]⟩,
  ⟨"PWR.CH_CNT_SAT", 0x1060, 8, 0x100, 1, 0x0, false,
    [⟨4, 0, .w1c, 0, .hardware, [], true⟩]⟩,
  ⟨"PWR.XFO_CTL", 0x8000, 1, 0x0, 1, 0x0, false,
    [⟨0, 0, .rw, 0, .image, [], false⟩]⟩,
  ⟨"PWR.TLM", 0x8100, 20, 0x4, 1, 0x0, false,
    [⟨31, 0, .ro, 0, .hardware, [], false⟩]⟩]

/-- All registers of PWR. -/
def regsPWR : List RegDesc := regsPWR_1 ++ regsPWR_2 ++ regsPWR_3

/-! ### Names of the registers and fields -/

/-- Base of local port p: TDM0 to 15 are 0 to 15, AES inputs 16 to 23, AES outputs 24 to 31, MADI 32 and 33
(the port numbers of the group-5 events in R486). -/
def portBase (p : Nat) : Nat :=
  if p < 16 then 0x300000 + 0x10000 * p
  else if p < 24 then 0x401000 + 0x100 * (p - 16)
  else if p < 32 then 0x402000 + 0x100 * (p - 24)
  else 0x410000 + 0x10000 * (p - 32)

def Reg.HIF_ID : Nat := 0x000000
def Fld.HIF_ID_DEVICE : Fd := ⟨Reg.HIF_ID, 31, 16⟩
def Fld.HIF_ID_VENDOR : Fd := ⟨Reg.HIF_ID, 15, 0⟩
def Reg.HIF_REV : Nat := 0x000004
def Fld.HIF_REV_STEP : Fd := ⟨Reg.HIF_REV, 15, 0⟩
def Reg.HIF_LINK : Nat := 0x000008
def Fld.HIF_LINK_GEN : Fd := ⟨Reg.HIF_LINK, 19, 16⟩
def Fld.HIF_LINK_WIDTH : Fd := ⟨Reg.HIF_LINK, 10, 8⟩
def Reg.HIF_DBADDR_LO : Nat := 0x000010
def Fld.HIF_DBADDR_LO_ADDR : Fd := ⟨Reg.HIF_DBADDR_LO, 31, 12⟩
def Reg.HIF_DBADDR_HI : Nat := 0x000014
def Fld.HIF_DBADDR_HI_ADDR : Fd := ⟨Reg.HIF_DBADDR_HI, 15, 0⟩
def Reg.HIF_STADDR_LO : Nat := 0x000018
def Fld.HIF_STADDR_LO_ADDR : Fd := ⟨Reg.HIF_STADDR_LO, 31, 12⟩
def Reg.HIF_STADDR_HI : Nat := 0x00001C
def Fld.HIF_STADDR_HI_ADDR : Fd := ⟨Reg.HIF_STADDR_HI, 15, 0⟩
def Reg.HIF_HCTL : Nat := 0x000020
def Fld.HIF_HCTL_EN : Fd := ⟨Reg.HIF_HCTL, 0, 0⟩
def Reg.HIF_HSTAT : Nat := 0x000024
def Fld.HIF_HSTAT_DBFAULT : Fd := ⟨Reg.HIF_HSTAT, 1, 1⟩
def Fld.HIF_HSTAT_STFAULT : Fd := ⟨Reg.HIF_HSTAT, 0, 0⟩
def Reg.HIF_WAKE : Nat := 0x000028
def Fld.HIF_WAKE_GO : Fd := ⟨Reg.HIF_WAKE, 0, 0⟩
def Reg.HIF_PWRSTAT : Nat := 0x00002C
def Fld.HIF_PWRSTAT_STATE : Fd := ⟨Reg.HIF_PWRSTAT, 1, 0⟩
def Reg.HIF_ACCERR_ADDR : Nat := 0x000030
def Fld.HIF_ACCERR_ADDR_WIN : Fd := ⟨Reg.HIF_ACCERR_ADDR, 31, 31⟩
def Fld.HIF_ACCERR_ADDR_OFFSET : Fd := ⟨Reg.HIF_ACCERR_ADDR, 22, 0⟩
def Reg.HIF_CNT_SNAP : Nat := 0x000040
def Fld.HIF_CNT_SNAP_SNAP : Fd := ⟨Reg.HIF_CNT_SNAP, 31, 0⟩
def Reg.HIF_DBERR_CNT : Nat := 0x000044
def Fld.HIF_DBERR_CNT_COUNT : Fd := ⟨Reg.HIF_DBERR_CNT, 31, 0⟩
def Reg.HIF_ACCERR_CNT : Nat := 0x000048
def Fld.HIF_ACCERR_CNT_COUNT : Fd := ⟨Reg.HIF_ACCERR_CNT, 31, 0⟩
def Reg.HIF_RXNORING_CNT : Nat := 0x00004C
def Fld.HIF_RXNORING_CNT_COUNT : Fd := ⟨Reg.HIF_RXNORING_CNT, 31, 0⟩
def Reg.HIF_CNT_SAT : Nat := 0x000050
def Fld.HIF_CNT_SAT_SAT : Fd := ⟨Reg.HIF_CNT_SAT, 2, 0⟩
def Reg.RING_BASE_LO (i : Nat) : Nat := 0x010000 + 0x40 * i
def Fld.RING_BASE_LO_ADDR (i : Nat) : Fd := ⟨(Reg.RING_BASE_LO i), 31, 0⟩
def Reg.RING_BASE_HI (i : Nat) : Nat := 0x010004 + 0x40 * i
def Fld.RING_BASE_HI_ADDR (i : Nat) : Fd := ⟨(Reg.RING_BASE_HI i), 15, 0⟩
def Reg.RING_CFG (i : Nat) : Nat := 0x010008 + 0x40 * i
def Fld.RING_CFG_EN (i : Nat) : Fd := ⟨(Reg.RING_CFG i), 31, 31⟩
def Fld.RING_CFG_TYPE (i : Nat) : Fd := ⟨(Reg.RING_CFG i), 27, 24⟩
def Fld.RING_CFG_LOGSZ (i : Nat) : Fd := ⟨(Reg.RING_CFG i), 19, 16⟩
def Fld.RING_CFG_CQ (i : Nat) : Fd := ⟨(Reg.RING_CFG i), 13, 8⟩
def Fld.RING_CFG_VEC (i : Nat) : Fd := ⟨(Reg.RING_CFG i), 4, 0⟩
def Reg.RING_CFG2 (i : Nat) : Nat := 0x01000C + 0x40 * i
def Fld.RING_CFG2_NCHM1 (i : Nat) : Fd := ⟨(Reg.RING_CFG2 i), 31, 24⟩
def Fld.RING_CFG2_ICNT (i : Nat) : Fd := ⟨(Reg.RING_CFG2 i), 15, 8⟩
def Fld.RING_CFG2_IROWS (i : Nat) : Fd := ⟨(Reg.RING_CFG2 i), 7, 0⟩
def Reg.RING_CTL (i : Nat) : Nat := 0x010010 + 0x40 * i
def Fld.RING_CTL_RESET (i : Nat) : Fd := ⟨(Reg.RING_CTL i), 0, 0⟩
def Reg.RING_STAT (i : Nat) : Nat := 0x010014 + 0x40 * i
def Fld.RING_STAT_STATE (i : Nat) : Fd := ⟨(Reg.RING_STAT i), 31, 28⟩
def Fld.RING_STAT_REASON (i : Nat) : Fd := ⟨(Reg.RING_STAT i), 27, 24⟩
def Fld.RING_STAT_GEN (i : Nat) : Fd := ⟨(Reg.RING_STAT i), 23, 16⟩
def Fld.RING_STAT_IDX (i : Nat) : Fd := ⟨(Reg.RING_STAT i), 15, 0⟩
def Reg.RING_CNT_SNAP (i : Nat) : Nat := 0x010018 + 0x40 * i
def Fld.RING_CNT_SNAP_SNAP (i : Nat) : Fd := ⟨(Reg.RING_CNT_SNAP i), 31, 0⟩
def Reg.RING_DESC_LO (i : Nat) : Nat := 0x01001C + 0x40 * i
def Fld.RING_DESC_LO_COUNT (i : Nat) : Fd := ⟨(Reg.RING_DESC_LO i), 31, 0⟩
def Reg.RING_DESC_HI (i : Nat) : Nat := 0x010020 + 0x40 * i
def Fld.RING_DESC_HI_COUNT (i : Nat) : Fd := ⟨(Reg.RING_DESC_HI i), 31, 0⟩
def Reg.RING_ERR_CNT (i : Nat) : Nat := 0x010024 + 0x40 * i
def Fld.RING_ERR_CNT_COUNT (i : Nat) : Fd := ⟨(Reg.RING_ERR_CNT i), 31, 0⟩
def Reg.RING_MISS_CNT (i : Nat) : Nat := 0x010028 + 0x40 * i
def Fld.RING_MISS_CNT_COUNT (i : Nat) : Fd := ⟨(Reg.RING_MISS_CNT i), 31, 0⟩
def Reg.RING_LATE_CNT (i : Nat) : Nat := 0x01002C + 0x40 * i
def Fld.RING_LATE_CNT_COUNT (i : Nat) : Fd := ⟨(Reg.RING_LATE_CNT i), 31, 0⟩
def Reg.RING_CNT_SAT (i : Nat) : Nat := 0x010030 + 0x40 * i
def Fld.RING_CNT_SAT_SAT (i : Nat) : Fd := ⟨(Reg.RING_CNT_SAT i), 2, 0⟩
def Reg.XLT_CTL : Nat := 0x020000
def Fld.XLT_CTL_EN : Fd := ⟨Reg.XLT_CTL, 0, 0⟩
def Reg.XLT_STAT : Nat := 0x020004
def Fld.XLT_STAT_LOCKED : Fd := ⟨Reg.XLT_STAT, 24, 16⟩
def Fld.XLT_STAT_OPEN : Fd := ⟨Reg.XLT_STAT, 15, 8⟩
def Fld.XLT_STAT_FRFAULT : Fd := ⟨Reg.XLT_STAT, 1, 1⟩
def Fld.XLT_STAT_LKFULL : Fd := ⟨Reg.XLT_STAT, 0, 0⟩
def Reg.XLT_ROOT_LO : Nat := 0x020008
def Fld.XLT_ROOT_LO_ADDR : Fd := ⟨Reg.XLT_ROOT_LO, 31, 12⟩
def Reg.XLT_ROOT_HI : Nat := 0x02000C
def Fld.XLT_ROOT_HI_ADDR : Fd := ⟨Reg.XLT_ROOT_HI, 19, 0⟩
def Reg.XLT_INV_CTL : Nat := 0x020010
def Fld.XLT_INV_CTL_GO : Fd := ⟨Reg.XLT_INV_CTL, 31, 31⟩
def Fld.XLT_INV_CTL_SCOPE : Fd := ⟨Reg.XLT_INV_CTL, 1, 0⟩
def Reg.XLT_INV_ADDR_LO : Nat := 0x020014
def Fld.XLT_INV_ADDR_LO_ADDR : Fd := ⟨Reg.XLT_INV_ADDR_LO, 31, 12⟩
def Reg.XLT_INV_ADDR_HI : Nat := 0x020018
def Fld.XLT_INV_ADDR_HI_ADDR : Fd := ⟨Reg.XLT_INV_ADDR_HI, 15, 0⟩
def Reg.XLT_INV_STAT : Nat := 0x02001C
def Fld.XLT_INV_STAT_BUSY : Fd := ⟨Reg.XLT_INV_STAT, 0, 0⟩
def Reg.XLT_CNT_SNAP : Nat := 0x020020
def Fld.XLT_CNT_SNAP_SNAP : Fd := ⟨Reg.XLT_CNT_SNAP, 31, 0⟩
def Reg.XLT_LOOKUP_LO : Nat := 0x020028
def Fld.XLT_LOOKUP_LO_COUNT : Fd := ⟨Reg.XLT_LOOKUP_LO, 31, 0⟩
def Reg.XLT_LOOKUP_HI : Nat := 0x02002C
def Fld.XLT_LOOKUP_HI_COUNT : Fd := ⟨Reg.XLT_LOOKUP_HI, 31, 0⟩
def Reg.XLT_MISS_LO : Nat := 0x020030
def Fld.XLT_MISS_LO_COUNT : Fd := ⟨Reg.XLT_MISS_LO, 31, 0⟩
def Reg.XLT_MISS_HI : Nat := 0x020034
def Fld.XLT_MISS_HI_COUNT : Fd := ⟨Reg.XLT_MISS_HI, 31, 0⟩
def Reg.XLT_FAULT_CNT : Nat := 0x020038
def Fld.XLT_FAULT_CNT_COUNT : Fd := ⟨Reg.XLT_FAULT_CNT, 31, 0⟩
def Reg.XLT_HARD_CNT : Nat := 0x02003C
def Fld.XLT_HARD_CNT_COUNT : Fd := ⟨Reg.XLT_HARD_CNT, 31, 0⟩
def Reg.XLT_FOVF_CNT : Nat := 0x020040
def Fld.XLT_FOVF_CNT_COUNT : Fd := ⟨Reg.XLT_FOVF_CNT, 31, 0⟩
def Reg.XLT_CNT_SAT : Nat := 0x020044
def Fld.XLT_CNT_SAT_SAT : Fd := ⟨Reg.XLT_CNT_SAT, 2, 0⟩
def Reg.XLT_LAST_FAULT (j : Nat) : Nat := 0x020050 + 0x4 * j
def Fld.XLT_LAST_FAULT_RECORD (j : Nat) : Fd := ⟨(Reg.XLT_LAST_FAULT j), 31, 0⟩
def Reg.EVT_STATUS (j : Nat) : Nat := 0x030000 + 0x4 * j
def Fld.EVT_STATUS_STATUS (j : Nat) : Fd := ⟨(Reg.EVT_STATUS j), 31, 0⟩
def Reg.EVT_ENABLE (j : Nat) : Nat := 0x030020 + 0x4 * j
def Fld.EVT_ENABLE_ENABLE (j : Nat) : Fd := ⟨(Reg.EVT_ENABLE j), 31, 0⟩
def Reg.EVT_GCFG (j : Nat) : Nat := 0x030040 + 0x4 * j
def Fld.EVT_GCFG_RINGEN (j : Nat) : Fd := ⟨(Reg.EVT_GCFG j), 31, 31⟩
def Fld.EVT_GCFG_RING (j : Nat) : Fd := ⟨(Reg.EVT_GCFG j), 29, 24⟩
def Fld.EVT_GCFG_VECEN (j : Nat) : Fd := ⟨(Reg.EVT_GCFG j), 15, 15⟩
def Fld.EVT_GCFG_VEC (j : Nat) : Fd := ⟨(Reg.EVT_GCFG j), 4, 0⟩
def Reg.EVT_FAULT_CFG : Nat := 0x030060
def Fld.EVT_FAULT_CFG_VECEN : Fd := ⟨Reg.EVT_FAULT_CFG, 15, 15⟩
def Fld.EVT_FAULT_CFG_VEC : Fd := ⟨Reg.EVT_FAULT_CFG, 4, 0⟩
def Reg.EVT_RAISE : Nat := 0x030064
def Fld.EVT_RAISE_SOURCE : Fd := ⟨Reg.EVT_RAISE, 7, 0⟩
def Reg.EVT_STAT : Nat := 0x030068
def Fld.EVT_STAT_PENDING : Fd := ⟨Reg.EVT_STAT, 8, 0⟩
def Reg.EVT_CNT_SNAP : Nat := 0x030080
def Fld.EVT_CNT_SNAP_SNAP : Fd := ⟨Reg.EVT_CNT_SNAP, 31, 0⟩
def Reg.EVT_OVFL_CNT : Nat := 0x030084
def Fld.EVT_OVFL_CNT_COUNT : Fd := ⟨Reg.EVT_OVFL_CNT, 31, 0⟩
def Reg.EVT_CNT_SAT : Nat := 0x030088
def Fld.EVT_CNT_SAT_SAT : Fd := ⟨Reg.EVT_CNT_SAT, 0, 0⟩
def Reg.EVT_INFO (j : Nat) : Nat := 0x030400 + 0x4 * j
def Fld.EVT_INFO_INFO (j : Nat) : Fd := ⟨(Reg.EVT_INFO j), 31, 0⟩
def Reg.MBX_CNT_SNAP : Nat := 0x040000
def Fld.MBX_CNT_SNAP_SNAP : Fd := ⟨Reg.MBX_CNT_SNAP, 31, 0⟩
def Reg.MBX_HREJ_CNT : Nat := 0x040004
def Fld.MBX_HREJ_CNT_COUNT : Fd := ⟨Reg.MBX_HREJ_CNT, 31, 0⟩
def Reg.MBX_BUSERR_CNT : Nat := 0x040008
def Fld.MBX_BUSERR_CNT_COUNT : Fd := ⟨Reg.MBX_BUSERR_CNT, 31, 0⟩
def Reg.MBX_TWREJ_CNT : Nat := 0x04000C
def Fld.MBX_TWREJ_CNT_COUNT : Fd := ⟨Reg.MBX_TWREJ_CNT, 31, 0⟩
def Reg.MBX_CNT_SAT : Nat := 0x040010
def Fld.MBX_CNT_SAT_SAT : Fd := ⟨Reg.MBX_CNT_SAT, 2, 0⟩
def Reg.MBX_LASTW (j : Nat) : Nat := 0x040100 + 0x4 * j
def Fld.MBX_LASTW_WRITER (j : Nat) : Fd := ⟨(Reg.MBX_LASTW j), 7, 0⟩
def Reg.BOOT_STAT : Nat := 0x050000
def Fld.BOOT_STAT_SRC : Fd := ⟨Reg.BOOT_STAT, 31, 30⟩
def Fld.BOOT_STAT_PHASE : Fd := ⟨Reg.BOOT_STAT, 29, 27⟩
def Fld.BOOT_STAT_TRIESA : Fd := ⟨Reg.BOOT_STAT, 23, 22⟩
def Fld.BOOT_STAT_TRIESB : Fd := ⟨Reg.BOOT_STAT, 21, 20⟩
def Fld.BOOT_STAT_REJA : Fd := ⟨Reg.BOOT_STAT, 12, 8⟩
def Fld.BOOT_STAT_REJB : Fd := ⟨Reg.BOOT_STAT, 4, 0⟩
def Reg.BOOT_IMG_SEQ : Nat := 0x050004
def Fld.BOOT_IMG_SEQ_SEQ : Fd := ⟨Reg.BOOT_IMG_SEQ, 31, 0⟩
def Reg.BOOT_IMG_INFO : Nat := 0x050008
def Fld.BOOT_IMG_INFO_SVN : Fd := ⟨Reg.BOOT_IMG_INFO, 31, 24⟩
def Fld.BOOT_IMG_INFO_DBG : Fd := ⟨Reg.BOOT_IMG_INFO, 17, 16⟩
def Fld.BOOT_IMG_INFO_KEYIDX : Fd := ⟨Reg.BOOT_IMG_INFO, 8, 8⟩
def Fld.BOOT_IMG_INFO_CONSOLEIN : Fd := ⟨Reg.BOOT_IMG_INFO, 0, 0⟩
def Reg.BOOT_RST_CAUSE : Nat := 0x05000C
def Fld.BOOT_RST_CAUSE_CAUSE : Fd := ⟨Reg.BOOT_RST_CAUSE, 3, 0⟩
def Reg.BOOT_RST_CTL : Nat := 0x050010
def Fld.BOOT_RST_CTL_KEY : Fd := ⟨Reg.BOOT_RST_CTL, 31, 24⟩
def Fld.BOOT_RST_CTL_GO : Fd := ⟨Reg.BOOT_RST_CTL, 0, 0⟩
def Reg.BOOT_NEXT : Nat := 0x050014
def Fld.BOOT_NEXT_NEXT : Fd := ⟨Reg.BOOT_NEXT, 1, 0⟩
def Reg.BOOT_STRAP : Nat := 0x050018
def Fld.BOOT_STRAP_MODE : Fd := ⟨Reg.BOOT_STRAP, 1, 0⟩
def Reg.BOOT_SEQ_STAT : Nat := 0x05001C
def Fld.BOOT_SEQ_STAT_RESULT : Fd := ⟨Reg.BOOT_SEQ_STAT, 31, 28⟩
def Fld.BOOT_SEQ_STAT_INDEX : Fd := ⟨Reg.BOOT_SEQ_STAT, 15, 0⟩
def Reg.BOOT_ARB : Nat := 0x050020
def Fld.BOOT_ARB_COUNT : Fd := ⟨Reg.BOOT_ARB, 6, 0⟩
def Reg.BOOT_KEYSTAT : Nat := 0x050024
def Fld.BOOT_KEYSTAT_REVOKED0 : Fd := ⟨Reg.BOOT_KEYSTAT, 2, 2⟩
def Fld.BOOT_KEYSTAT_PROG1 : Fd := ⟨Reg.BOOT_KEYSTAT, 1, 1⟩
def Fld.BOOT_KEYSTAT_PROG0 : Fd := ⟨Reg.BOOT_KEYSTAT, 0, 0⟩
def Reg.BOOT_FUSE_CTL : Nat := 0x050028
def Fld.BOOT_FUSE_CTL_KEY : Fd := ⟨Reg.BOOT_FUSE_CTL, 31, 24⟩
def Fld.BOOT_FUSE_CTL_OP : Fd := ⟨Reg.BOOT_FUSE_CTL, 3, 0⟩
def Reg.BOOT_FUSE_STAT : Nat := 0x05002C
def Fld.BOOT_FUSE_STAT_RESULT : Fd := ⟨Reg.BOOT_FUSE_STAT, 1, 0⟩
def Reg.BOOT_FUSE_DATA (j : Nat) : Nat := 0x050030 + 0x4 * j
def Fld.BOOT_FUSE_DATA_DATA (j : Nat) : Fd := ⟨(Reg.BOOT_FUSE_DATA j), 31, 0⟩
def Reg.BOOT_UID (j : Nat) : Nat := 0x050060 + 0x4 * j
def Fld.BOOT_UID_UID (j : Nat) : Fd := ⟨(Reg.BOOT_UID j), 31, 0⟩
def Reg.BOOT_DBG_STAT : Nat := 0x050070
def Fld.BOOT_DBG_STAT_LEVEL : Fd := ⟨Reg.BOOT_DBG_STAT, 1, 0⟩
def Reg.SUP_VBUS_CFG : Nat := 0x060000
def Fld.SUP_VBUS_CFG_PFW : Fd := ⟨Reg.SUP_VBUS_CFG, 8, 0⟩
def Reg.SUP_SAG_CFG : Nat := 0x060004
def Fld.SUP_SAG_CFG_EN : Fd := ⟨Reg.SUP_SAG_CFG, 31, 31⟩
def Fld.SUP_SAG_CFG_LVL : Fd := ⟨Reg.SUP_SAG_CFG, 25, 16⟩
def Fld.SUP_SAG_CFG_HYST : Fd := ⟨Reg.SUP_SAG_CFG, 11, 8⟩
def Fld.SUP_SAG_CFG_SLOPE : Fd := ⟨Reg.SUP_SAG_CFG, 7, 0⟩
def Reg.SUP_SAG_TIME : Nat := 0x060008
def Fld.SUP_SAG_TIME_MARGIN : Fd := ⟨Reg.SUP_SAG_TIME, 15, 8⟩
def Fld.SUP_SAG_TIME_HOLD : Fd := ⟨Reg.SUP_SAG_TIME, 7, 0⟩
def Reg.SUP_CORE_CFG : Nat := 0x06000C
def Fld.SUP_CORE_CFG_PHASES : Fd := ⟨Reg.SUP_CORE_CFG, 29, 28⟩
def Fld.SUP_CORE_CFG_ILIM : Fd := ⟨Reg.SUP_CORE_CFG, 23, 16⟩
def Fld.SUP_CORE_CFG_FSW : Fd := ⟨Reg.SUP_CORE_CFG, 15, 8⟩
def Reg.SUP_VCORE : Nat := 0x060010
def Fld.SUP_VCORE_VMEAS : Fd := ⟨Reg.SUP_VCORE, 31, 16⟩
def Fld.SUP_VCORE_PH_ACT : Fd := ⟨Reg.SUP_VCORE, 15, 14⟩
def Fld.SUP_VCORE_VSET : Fd := ⟨Reg.SUP_VCORE, 7, 0⟩
def Reg.SUP_CORE_ACT : Nat := 0x060014
def Fld.SUP_CORE_ACT_ILIM_ACT : Fd := ⟨Reg.SUP_CORE_ACT, 31, 24⟩
def Fld.SUP_CORE_ACT_FSW_ACT : Fd := ⟨Reg.SUP_CORE_ACT, 23, 16⟩
def Fld.SUP_CORE_ACT_ICORE : Fd := ⟨Reg.SUP_CORE_ACT, 15, 0⟩
def Reg.SUP_RAIL_STAT : Nat := 0x060018
def Fld.SUP_RAIL_STAT_CLATCH : Fd := ⟨Reg.SUP_RAIL_STAT, 31, 31⟩
def Fld.SUP_RAIL_STAT_LASTRAIL : Fd := ⟨Reg.SUP_RAIL_STAT, 23, 20⟩
def Fld.SUP_RAIL_STAT_LASTCAUSE : Fd := ⟨Reg.SUP_RAIL_STAT, 19, 16⟩
def Fld.SUP_RAIL_STAT_PFW : Fd := ⟨Reg.SUP_RAIL_STAT, 7, 7⟩
def Fld.SUP_RAIL_STAT_OV : Fd := ⟨Reg.SUP_RAIL_STAT, 6, 6⟩
def Fld.SUP_RAIL_STAT_SAG : Fd := ⟨Reg.SUP_RAIL_STAT, 5, 5⟩
def Fld.SUP_RAIL_STAT_OK : Fd := ⟨Reg.SUP_RAIL_STAT, 4, 0⟩
def Reg.SUP_CNT_SNAP : Nat := 0x060020
def Fld.SUP_CNT_SNAP_SNAP : Fd := ⟨Reg.SUP_CNT_SNAP, 31, 0⟩
def Reg.SUP_SAG_CNT : Nat := 0x060024
def Fld.SUP_SAG_CNT_COUNT : Fd := ⟨Reg.SUP_SAG_CNT, 31, 0⟩
def Reg.SUP_PFW_CNT : Nat := 0x060028
def Fld.SUP_PFW_CNT_COUNT : Fd := ⟨Reg.SUP_PFW_CNT, 31, 0⟩
def Reg.SUP_OV_CNT : Nat := 0x06002C
def Fld.SUP_OV_CNT_COUNT : Fd := ⟨Reg.SUP_OV_CNT, 31, 0⟩
def Reg.SUP_RAILFLT_CNT : Nat := 0x060030
def Fld.SUP_RAILFLT_CNT_COUNT : Fd := ⟨Reg.SUP_RAILFLT_CNT, 31, 0⟩
def Reg.SUP_CNT_SAT : Nat := 0x060034
def Fld.SUP_CNT_SAT_SAT : Fd := ⟨Reg.SUP_CNT_SAT, 3, 0⟩
def Reg.SUP_PWR_CTL : Nat := 0x068000
def Fld.SUP_PWR_CTL_REQ : Fd := ⟨Reg.SUP_PWR_CTL, 1, 0⟩
def Reg.SUP_PWR_STAT : Nat := 0x068004
def Fld.SUP_PWR_STAT_REASON : Fd := ⟨Reg.SUP_PWR_STAT, 31, 28⟩
def Fld.SUP_PWR_STAT_WSRC : Fd := ⟨Reg.SUP_PWR_STAT, 27, 24⟩
def Fld.SUP_PWR_STAT_STATE : Fd := ⟨Reg.SUP_PWR_STAT, 1, 0⟩
def Reg.SUP_STBY_CFG : Nat := 0x068008
def Fld.SUP_STBY_CFG_WOLEN : Fd := ⟨Reg.SUP_STBY_CFG, 31, 31⟩
def Fld.SUP_STBY_CFG_PINEN : Fd := ⟨Reg.SUP_STBY_CFG, 30, 30⟩
def Fld.SUP_STBY_CFG_ALMEN : Fd := ⟨Reg.SUP_STBY_CFG, 29, 29⟩
def Fld.SUP_STBY_CFG_WAKETGT : Fd := ⟨Reg.SUP_STBY_CFG, 28, 28⟩
def Fld.SUP_STBY_CFG_PORT : Fd := ⟨Reg.SUP_STBY_CFG, 25, 24⟩
def Fld.SUP_STBY_CFG_ETYPE : Fd := ⟨Reg.SUP_STBY_CFG, 15, 0⟩
def Reg.SUP_WOL_KEY_LO : Nat := 0x06800C
def Fld.SUP_WOL_KEY_LO_KEY : Fd := ⟨Reg.SUP_WOL_KEY_LO, 31, 0⟩
def Reg.SUP_WOL_KEY_HI : Nat := 0x068010
def Fld.SUP_WOL_KEY_HI_KEY : Fd := ⟨Reg.SUP_WOL_KEY_HI, 31, 0⟩
def Reg.SUP_ALARM_SEC_LO : Nat := 0x068014
def Fld.SUP_ALARM_SEC_LO_SEC : Fd := ⟨Reg.SUP_ALARM_SEC_LO, 31, 0⟩
def Reg.SUP_ALARM_SEC_HI : Nat := 0x068018
def Fld.SUP_ALARM_SEC_HI_SEC : Fd := ⟨Reg.SUP_ALARM_SEC_HI, 15, 0⟩
def Reg.SUP_SAGDEPTH : Nat := 0x06801C
def Fld.SUP_SAGDEPTH_DEPTH : Fd := ⟨Reg.SUP_SAGDEPTH, 2, 0⟩
def Reg.SWT_FG_CTL : Nat := 0x070000
def Fld.SWT_FG_CTL_GO : Fd := ⟨Reg.SWT_FG_CTL, 31, 31⟩
def Fld.SWT_FG_CTL_TEST : Fd := ⟨Reg.SWT_FG_CTL, 27, 24⟩
def Fld.SWT_FG_CTL_CHANNEL : Fd := ⟨Reg.SWT_FG_CTL, 2, 0⟩
def Reg.SWT_FG_STAT : Nat := 0x070004
def Fld.SWT_FG_STAT_RESULT : Fd := ⟨Reg.SWT_FG_STAT, 31, 28⟩
def Fld.SWT_FG_STAT_TEST : Fd := ⟨Reg.SWT_FG_STAT, 27, 24⟩
def Reg.SWT_FG_ADDR : Nat := 0x070008
def Fld.SWT_FG_ADDR_ADDR : Fd := ⟨Reg.SWT_FG_ADDR, 31, 0⟩
def Reg.SWT_CORE_CFG : Nat := 0x07000C
def Fld.SWT_CORE_CFG_EN : Fd := ⟨Reg.SWT_CORE_CFG, 31, 31⟩
def Fld.SWT_CORE_CFG_PERIOD : Fd := ⟨Reg.SWT_CORE_CFG, 7, 0⟩
def Reg.SWT_CORE_FAIL (j : Nat) : Nat := 0x070010 + 0x4 * j
def Fld.SWT_CORE_FAIL_FAIL (j : Nat) : Fd := ⟨(Reg.SWT_CORE_FAIL j), 31, 0⟩
def Reg.SWT_EYE_CFG : Nat := 0x070030
def Fld.SWT_EYE_CFG_EN : Fd := ⟨Reg.SWT_EYE_CFG, 31, 31⟩
def Fld.SWT_EYE_CFG_PERIOD : Fd := ⟨Reg.SWT_EYE_CFG, 23, 16⟩
def Fld.SWT_EYE_CFG_WMIN : Fd := ⟨Reg.SWT_EYE_CFG, 13, 8⟩
def Fld.SWT_EYE_CFG_HMIN : Fd := ⟨Reg.SWT_EYE_CFG, 6, 0⟩
def Reg.SWT_SENSE_CFG : Nat := 0x070034
def Fld.SWT_SENSE_CFG_EN : Fd := ⟨Reg.SWT_SENSE_CFG, 0, 0⟩
def Reg.SWT_EYE_RES (j : Nat) : Nat := 0x070040 + 0x4 * j
def Fld.SWT_EYE_RES_VALID (j : Nat) : Fd := ⟨(Reg.SWT_EYE_RES j), 31, 31⟩
def Fld.SWT_EYE_RES_WIDTH (j : Nat) : Fd := ⟨(Reg.SWT_EYE_RES j), 29, 24⟩
def Fld.SWT_EYE_RES_HEIGHT (j : Nat) : Fd := ⟨(Reg.SWT_EYE_RES j), 22, 16⟩
def Reg.SWT_AGING : Nat := 0x070060
def Fld.SWT_AGING_LIMIT : Fd := ⟨Reg.SWT_AGING, 31, 31⟩
def Fld.SWT_AGING_DEGR : Fd := ⟨Reg.SWT_AGING, 15, 0⟩
def Reg.SWT_AGE_MON (j : Nat) : Nat := 0x070080 + 0x4 * j
def Fld.SWT_AGE_MON_DEGR (j : Nat) : Fd := ⟨(Reg.SWT_AGE_MON j), 15, 0⟩
def Reg.SWT_LIFE_H (j : Nat) : Nat := 0x070100 + 0x4 * j
def Fld.SWT_LIFE_H_HOURS (j : Nat) : Fd := ⟨(Reg.SWT_LIFE_H j), 31, 0⟩
def Reg.SWT_LIFEUSED : Nat := 0x070180
def Fld.SWT_LIFEUSED_HOURS : Fd := ⟨Reg.SWT_LIFEUSED, 31, 0⟩
def Reg.SWT_STBYHRS : Nat := 0x070184
def Fld.SWT_STBYHRS_HOURS : Fd := ⟨Reg.SWT_STBYHRS, 31, 0⟩
def Reg.SWT_LIFE_SAT : Nat := 0x070188
def Fld.SWT_LIFE_SAT_SAT : Fd := ⟨Reg.SWT_LIFE_SAT, 29, 0⟩
def Reg.SWT_CNT_SNAP : Nat := 0x070200
def Fld.SWT_CNT_SNAP_SNAP : Fd := ⟨Reg.SWT_CNT_SNAP, 31, 0⟩
def Reg.SWT_CORE_TESTS : Nat := 0x070204
def Fld.SWT_CORE_TESTS_COUNT : Fd := ⟨Reg.SWT_CORE_TESTS, 31, 0⟩
def Reg.SWT_FG_REFUSED : Nat := 0x070208
def Fld.SWT_FG_REFUSED_COUNT : Fd := ⟨Reg.SWT_FG_REFUSED, 31, 0⟩
def Reg.SWT_FAILS : Nat := 0x07020C
def Fld.SWT_FAILS_COUNT : Fd := ⟨Reg.SWT_FAILS, 31, 0⟩
def Reg.SWT_CNT_SAT : Nat := 0x070210
def Fld.SWT_CNT_SAT_SAT : Fd := ⟨Reg.SWT_CNT_SAT, 2, 0⟩
def Reg.ENG_PROFILE : Nat := 0x080010
def Fld.ENG_PROFILE_FS : Fd := ⟨Reg.ENG_PROFILE, 19, 16⟩
def Fld.ENG_PROFILE_POLICY : Fd := ⟨Reg.ENG_PROFILE, 9, 8⟩
def Fld.ENG_PROFILE_LATENCY : Fd := ⟨Reg.ENG_PROFILE, 0, 0⟩
def Reg.ENG_PROFILE_STAT : Nat := 0x080014
def Fld.ENG_PROFILE_STAT_REFUSED : Fd := ⟨Reg.ENG_PROFILE_STAT, 16, 16⟩
def Fld.ENG_PROFILE_STAT_GAUGE : Fd := ⟨Reg.ENG_PROFILE_STAT, 15, 12⟩
def Fld.ENG_PROFILE_STAT_FS_ACT : Fd := ⟨Reg.ENG_PROFILE_STAT, 11, 8⟩
def Fld.ENG_PROFILE_STAT_POLICY_ACT : Fd := ⟨Reg.ENG_PROFILE_STAT, 5, 4⟩
def Fld.ENG_PROFILE_STAT_LATENCY_ACT : Fd := ⟨Reg.ENG_PROFILE_STAT, 0, 0⟩
def Reg.ENG_GUARD : Nat := 0x080020
def Fld.ENG_GUARD_SELVAGE : Fd := ⟨Reg.ENG_GUARD, 12, 8⟩
def Fld.ENG_GUARD_MUSTRES : Fd := ⟨Reg.ENG_GUARD, 2, 0⟩
def Reg.ENG_GUARD_STAT : Nat := 0x080024
def Fld.ENG_GUARD_STAT_BUDGET : Fd := ⟨Reg.ENG_GUARD_STAT, 31, 16⟩
def Fld.ENG_GUARD_STAT_CHKSTEP : Fd := ⟨Reg.ENG_GUARD_STAT, 11, 8⟩
def Fld.ENG_GUARD_STAT_UNFIT : Fd := ⟨Reg.ENG_GUARD_STAT, 0, 0⟩
def Reg.ENG_CNT_SNAP : Nat := 0x080030
def Fld.ENG_CNT_SNAP_SNAP : Fd := ⟨Reg.ENG_CNT_SNAP, 31, 0⟩
def Reg.ENG_STITCH_CNT : Nat := 0x080034
def Fld.ENG_STITCH_CNT_COUNT : Fd := ⟨Reg.ENG_STITCH_CNT, 31, 0⟩
def Reg.ENG_SHED_CNT : Nat := 0x080038
def Fld.ENG_SHED_CNT_COUNT : Fd := ⟨Reg.ENG_SHED_CNT, 31, 0⟩
def Reg.ENG_TPREF_CNT : Nat := 0x08003C
def Fld.ENG_TPREF_CNT_COUNT : Fd := ⟨Reg.ENG_TPREF_CNT, 31, 0⟩
def Reg.ENG_SWAPFAIL_CNT : Nat := 0x080040
def Fld.ENG_SWAPFAIL_CNT_COUNT : Fd := ⟨Reg.ENG_SWAPFAIL_CNT, 31, 0⟩
def Reg.ENG_CNT_SAT : Nat := 0x080044
def Fld.ENG_CNT_SAT_SAT : Fd := ⟨Reg.ENG_CNT_SAT, 3, 0⟩
def Reg.ENG_MIGRATE : Nat := 0x080048
def Fld.ENG_MIGRATE_GO : Fd := ⟨Reg.ENG_MIGRATE, 9, 9⟩
def Fld.ENG_MIGRATE_DIR : Fd := ⟨Reg.ENG_MIGRATE, 8, 8⟩
def Fld.ENG_MIGRATE_CORE : Fd := ⟨Reg.ENG_MIGRATE, 6, 0⟩
def Reg.ENG_MIGRATE_STAT : Nat := 0x08004C
def Fld.ENG_MIGRATE_STAT_BUSY3 : Fd := ⟨Reg.ENG_MIGRATE_STAT, 31, 31⟩
def Fld.ENG_MIGRATE_STAT_CORE3 : Fd := ⟨Reg.ENG_MIGRATE_STAT, 30, 24⟩
def Fld.ENG_MIGRATE_STAT_BUSY2 : Fd := ⟨Reg.ENG_MIGRATE_STAT, 23, 23⟩
def Fld.ENG_MIGRATE_STAT_CORE2 : Fd := ⟨Reg.ENG_MIGRATE_STAT, 22, 16⟩
def Fld.ENG_MIGRATE_STAT_BUSY1 : Fd := ⟨Reg.ENG_MIGRATE_STAT, 15, 15⟩
def Fld.ENG_MIGRATE_STAT_CORE1 : Fd := ⟨Reg.ENG_MIGRATE_STAT, 14, 8⟩
def Fld.ENG_MIGRATE_STAT_BUSY0 : Fd := ⟨Reg.ENG_MIGRATE_STAT, 7, 7⟩
def Fld.ENG_MIGRATE_STAT_CORE0 : Fd := ⟨Reg.ENG_MIGRATE_STAT, 6, 0⟩
def Reg.ENG_MIGRATE_RES : Nat := 0x080050
def Fld.ENG_MIGRATE_RES_RESULT : Fd := ⟨Reg.ENG_MIGRATE_RES, 2, 0⟩
def Reg.ENG_TP_STAT : Nat := 0x080054
def Fld.ENG_TP_STAT_DEPTH : Fd := ⟨Reg.ENG_TP_STAT, 12, 0⟩
def Reg.CLU_CLU_INFO (i : Nat) : Nat := 0x090000 + 0x10000 * i
def Fld.CLU_CLU_INFO_SPARE (i : Nat) : Fd := ⟨(Reg.CLU_CLU_INFO i), 9, 8⟩
def Fld.CLU_CLU_INFO_CLUSTER (i : Nat) : Fd := ⟨(Reg.CLU_CLU_INFO i), 3, 0⟩
def Reg.CLU_DIGEST_SNAP (i : Nat) : Nat := 0x090010 + 0x10000 * i
def Fld.CLU_DIGEST_SNAP_SNAP (i : Nat) : Fd := ⟨(Reg.CLU_DIGEST_SNAP i), 31, 0⟩
def Reg.CLU_DIGEST_LO (i : Nat) : Nat := 0x090014 + 0x10000 * i
def Fld.CLU_DIGEST_LO_DIGEST (i : Nat) : Fd := ⟨(Reg.CLU_DIGEST_LO i), 31, 0⟩
def Reg.CLU_DIGEST_HI (i : Nat) : Nat := 0x090018 + 0x10000 * i
def Fld.CLU_DIGEST_HI_DIGEST (i : Nat) : Fd := ⟨(Reg.CLU_DIGEST_HI i), 31, 0⟩
def Reg.CLU_DIGEST_ROW (i : Nat) : Nat := 0x09001C + 0x10000 * i
def Fld.CLU_DIGEST_ROW_ROWIDX (i : Nat) : Fd := ⟨(Reg.CLU_DIGEST_ROW i), 31, 0⟩
def Reg.CLU_DIGEST_STITCH (i : Nat) : Nat := 0x090020 + 0x10000 * i
def Fld.CLU_DIGEST_STITCH_MASK (i : Nat) : Fd := ⟨(Reg.CLU_DIGEST_STITCH i), 7, 0⟩
def Reg.CLU_CORE_CTL (i j : Nat) : Nat := 0x091000 + 0x10000 * i + 0x100 * j
def Fld.CLU_CORE_CTL_CLRFAULT (i j : Nat) : Fd := ⟨(Reg.CLU_CORE_CTL i j), 1, 1⟩
def Fld.CLU_CORE_CTL_HALT (i j : Nat) : Fd := ⟨(Reg.CLU_CORE_CTL i j), 0, 0⟩
def Reg.CLU_CORE_STAT (i j : Nat) : Nat := 0x091004 + 0x10000 * i + 0x100 * j
def Fld.CLU_CORE_STAT_CNTSAT (i j : Nat) : Fd := ⟨(Reg.CLU_CORE_STAT i j), 31, 31⟩
def Fld.CLU_CORE_STAT_PHYS (i j : Nat) : Fd := ⟨(Reg.CLU_CORE_STAT i j), 27, 20⟩
def Fld.CLU_CORE_STAT_STATE (i j : Nat) : Fd := ⟨(Reg.CLU_CORE_STAT i j), 19, 17⟩
def Fld.CLU_CORE_STAT_BANK (i j : Nat) : Fd := ⟨(Reg.CLU_CORE_STAT i j), 16, 16⟩
def Fld.CLU_CORE_STAT_PC (i j : Nat) : Fd := ⟨(Reg.CLU_CORE_STAT i j), 12, 0⟩
def Reg.CLU_CORE_FAULT (i j : Nat) : Nat := 0x091008 + 0x10000 * i + 0x100 * j
def Fld.CLU_CORE_FAULT_CAUSE (i j : Nat) : Fd := ⟨(Reg.CLU_CORE_FAULT i j), 23, 20⟩
def Fld.CLU_CORE_FAULT_BANK (i j : Nat) : Fd := ⟨(Reg.CLU_CORE_FAULT i j), 16, 16⟩
def Fld.CLU_CORE_FAULT_PC (i j : Nat) : Fd := ⟨(Reg.CLU_CORE_FAULT i j), 12, 0⟩
def Reg.CLU_CORE_FADDR (i j : Nat) : Nat := 0x09100C + 0x10000 * i + 0x100 * j
def Fld.CLU_CORE_FADDR_ADDR (i j : Nat) : Fd := ⟨(Reg.CLU_CORE_FADDR i j), 31, 0⟩
def Reg.CLU_CORE_SATROWS (i j : Nat) : Nat := 0x091010 + 0x10000 * i + 0x100 * j
def Fld.CLU_CORE_SATROWS_COUNT (i j : Nat) : Fd := ⟨(Reg.CLU_CORE_SATROWS i j), 31, 0⟩
def Reg.CLU_CORE_PEAK (i j : Nat) : Nat := 0x091014 + 0x10000 * i + 0x100 * j
def Fld.CLU_CORE_PEAK_CYCLES (i j : Nat) : Fd := ⟨(Reg.CLU_CORE_PEAK i j), 31, 0⟩
def Reg.CLU_CORE_BUDGET (i j : Nat) : Nat := 0x091018 + 0x10000 * i + 0x100 * j
def Fld.CLU_CORE_BUDGET_FULL (i j : Nat) : Fd := ⟨(Reg.CLU_CORE_BUDGET i j), 31, 16⟩
def Fld.CLU_CORE_BUDGET_MUST (i j : Nat) : Fd := ⟨(Reg.CLU_CORE_BUDGET i j), 15, 0⟩
def Reg.CLU_CORE_STITCH (i j : Nat) : Nat := 0x09101C + 0x10000 * i + 0x100 * j
def Fld.CLU_CORE_STITCH_COUNT (i j : Nat) : Fd := ⟨(Reg.CLU_CORE_STITCH i j), 31, 0⟩
def Reg.CLU_CORE_OUTCFG (i j : Nat) : Nat := 0x091020 + 0x10000 * i + 0x100 * j
def Fld.CLU_CORE_OUTCFG_STSAT (i j : Nat) : Fd := ⟨(Reg.CLU_CORE_OUTCFG i j), 31, 31⟩
def Fld.CLU_CORE_OUTCFG_DIGN (i j : Nat) : Fd := ⟨(Reg.CLU_CORE_OUTCFG i j), 9, 0⟩
def Reg.CLU_CORE_BANKS (i j : Nat) : Nat := 0x091024 + 0x10000 * i + 0x100 * j
def Fld.CLU_CORE_BANKS_PGEN (i j : Nat) : Fd := ⟨(Reg.CLU_CORE_BANKS i j), 31, 20⟩
def Fld.CLU_CORE_BANKS_CGEN (i j : Nat) : Fd := ⟨(Reg.CLU_CORE_BANKS i j), 19, 8⟩
def Fld.CLU_CORE_BANKS_PREADY (i j : Nat) : Fd := ⟨(Reg.CLU_CORE_BANKS i j), 3, 3⟩
def Fld.CLU_CORE_BANKS_CREADY (i j : Nat) : Fd := ⟨(Reg.CLU_CORE_BANKS i j), 2, 2⟩
def Fld.CLU_CORE_BANKS_CBANK (i j : Nat) : Fd := ⟨(Reg.CLU_CORE_BANKS i j), 1, 1⟩
def Fld.CLU_CORE_BANKS_PBANK (i j : Nat) : Fd := ⟨(Reg.CLU_CORE_BANKS i j), 0, 0⟩
def Reg.MTX_CTL : Nat := 0x190000
def Fld.MTX_CTL_EN : Fd := ⟨Reg.MTX_CTL, 0, 0⟩
def Reg.MTX_TBL_STAT : Nat := 0x190004
def Fld.MTX_TBL_STAT_UNFIT : Fd := ⟨Reg.MTX_TBL_STAT, 4, 4⟩
def Fld.MTX_TBL_STAT_CHECKING : Fd := ⟨Reg.MTX_TBL_STAT, 3, 3⟩
def Fld.MTX_TBL_STAT_SHBAD : Fd := ⟨Reg.MTX_TBL_STAT, 2, 2⟩
def Fld.MTX_TBL_STAT_SHREADY : Fd := ⟨Reg.MTX_TBL_STAT, 1, 1⟩
def Fld.MTX_TBL_STAT_ACTIVE : Fd := ⟨Reg.MTX_TBL_STAT, 0, 0⟩
def Reg.MTX_TBL_CTL : Nat := 0x190008
def Fld.MTX_TBL_CTL_SWAP : Fd := ⟨Reg.MTX_TBL_CTL, 1, 1⟩
def Fld.MTX_TBL_CTL_CHECK : Fd := ⟨Reg.MTX_TBL_CTL, 0, 0⟩
def Reg.MTX_SHD_LEN : Nat := 0x19000C
def Fld.MTX_SHD_LEN_COUNT : Fd := ⟨Reg.MTX_SHD_LEN, 18, 0⟩
def Reg.MTX_ACT_LEN : Nat := 0x190010
def Fld.MTX_ACT_LEN_COUNT : Fd := ⟨Reg.MTX_ACT_LEN, 18, 0⟩
def Reg.MTX_CAPACITY : Nat := 0x190014
def Fld.MTX_CAPACITY_COUNT : Fd := ⟨Reg.MTX_CAPACITY, 18, 0⟩
def Reg.MTX_SHD_SEL : Nat := 0x190018
def Fld.MTX_SHD_SEL_INDEX : Fd := ⟨Reg.MTX_SHD_SEL, 17, 0⟩
def Reg.MTX_SHD_GAIN : Nat := 0x19001C
def Fld.MTX_SHD_GAIN_GAIN : Fd := ⟨Reg.MTX_SHD_GAIN, 31, 0⟩
def Reg.MTX_SHD_ROUTE : Nat := 0x190020
def Fld.MTX_SHD_ROUTE_DST : Fd := ⟨Reg.MTX_SHD_ROUTE, 26, 16⟩
def Fld.MTX_SHD_ROUTE_SRC : Fd := ⟨Reg.MTX_SHD_ROUTE, 10, 0⟩
def Reg.MTX_XP_SEL : Nat := 0x190024
def Fld.MTX_XP_SEL_GLIDE : Fd := ⟨Reg.MTX_XP_SEL, 31, 18⟩
def Fld.MTX_XP_SEL_INDEX : Fd := ⟨Reg.MTX_XP_SEL, 17, 0⟩
def Reg.MTX_XP_GAIN : Nat := 0x190028
def Fld.MTX_XP_GAIN_GAIN : Fd := ⟨Reg.MTX_XP_GAIN, 31, 0⟩
def Reg.MTX_XP_CUR : Nat := 0x19002C
def Fld.MTX_XP_CUR_GAIN : Fd := ⟨Reg.MTX_XP_CUR, 31, 0⟩
def Reg.MTX_CNT_SNAP : Nat := 0x190030
def Fld.MTX_CNT_SNAP_SNAP : Fd := ⟨Reg.MTX_CNT_SNAP, 31, 0⟩
def Reg.MTX_STITCH_CNT : Nat := 0x190034
def Fld.MTX_STITCH_CNT_COUNT : Fd := ⟨Reg.MTX_STITCH_CNT, 31, 0⟩
def Reg.MTX_SAT_CNT : Nat := 0x190038
def Fld.MTX_SAT_CNT_COUNT : Fd := ⟨Reg.MTX_SAT_CNT, 31, 0⟩
def Reg.MTX_GLIDEFULL_CNT : Nat := 0x19003C
def Fld.MTX_GLIDEFULL_CNT_COUNT : Fd := ⟨Reg.MTX_GLIDEFULL_CNT, 31, 0⟩
def Reg.MTX_SWAPREF_CNT : Nat := 0x190040
def Fld.MTX_SWAPREF_CNT_COUNT : Fd := ⟨Reg.MTX_SWAPREF_CNT, 31, 0⟩
def Reg.MTX_CNT_SAT : Nat := 0x190044
def Fld.MTX_CNT_SAT_SAT : Fd := ⟨Reg.MTX_CNT_SAT, 3, 0⟩
def Reg.MTX_GLIDE_STAT : Nat := 0x190048
def Fld.MTX_GLIDE_STAT_ACTIVE : Fd := ⟨Reg.MTX_GLIDE_STAT, 14, 0⟩
def Reg.DLY_CTL : Nat := 0x1A0000
def Fld.DLY_CTL_EN : Fd := ⟨Reg.DLY_CTL, 0, 0⟩
def Reg.DLY_POOL : Nat := 0x1A0004
def Fld.DLY_POOL_QUARTERS : Fd := ⟨Reg.DLY_POOL, 7, 0⟩
def Reg.DLY_XF_STAT : Nat := 0x1A0008
def Fld.DLY_XF_STAT_ACTIVE : Fd := ⟨Reg.DLY_XF_STAT, 8, 0⟩
def Reg.DLY_CNT_SNAP : Nat := 0x1A0010
def Fld.DLY_CNT_SNAP_SNAP : Fd := ⟨Reg.DLY_CNT_SNAP, 31, 0⟩
def Reg.DLY_STITCH_CNT : Nat := 0x1A0014
def Fld.DLY_STITCH_CNT_COUNT : Fd := ⟨Reg.DLY_STITCH_CNT, 31, 0⟩
def Reg.DLY_XFFULL_CNT : Nat := 0x1A0018
def Fld.DLY_XFFULL_CNT_COUNT : Fd := ⟨Reg.DLY_XFFULL_CNT, 31, 0⟩
def Reg.DLY_CNT_SAT : Nat := 0x1A001C
def Fld.DLY_CNT_SAT_SAT : Fd := ⟨Reg.DLY_CNT_SAT, 1, 0⟩
def Reg.DLY_LINE_BASE (j : Nat) : Nat := 0x1A1000 + 0x10 * j
def Fld.DLY_LINE_BASE_BASE (j : Nat) : Fd := ⟨(Reg.DLY_LINE_BASE j), 19, 0⟩
def Reg.DLY_LINE_LEN (j : Nat) : Nat := 0x1A1004 + 0x10 * j
def Fld.DLY_LINE_LEN_LEN (j : Nat) : Fd := ⟨(Reg.DLY_LINE_LEN j), 20, 0⟩
def Reg.DLY_LINE_DELAY (j : Nat) : Nat := 0x1A1008 + 0x10 * j
def Fld.DLY_LINE_DELAY_XF (j : Nat) : Fd := ⟨(Reg.DLY_LINE_DELAY j), 31, 31⟩
def Fld.DLY_LINE_DELAY_DELAY (j : Nat) : Fd := ⟨(Reg.DLY_LINE_DELAY j), 19, 0⟩
def Reg.DLY_LINE_STAT (j : Nat) : Nat := 0x1A100C + 0x10 * j
def Fld.DLY_LINE_STAT_EN (j : Nat) : Fd := ⟨(Reg.DLY_LINE_STAT j), 31, 31⟩
def Fld.DLY_LINE_STAT_XFACT (j : Nat) : Fd := ⟨(Reg.DLY_LINE_STAT j), 30, 30⟩
def Fld.DLY_LINE_STAT_DELAY (j : Nat) : Fd := ⟨(Reg.DLY_LINE_STAT j), 19, 0⟩
def Reg.SST_CFG : Nat := 0x1B0000
def Fld.SST_CFG_HOLD : Fd := ⟨Reg.SST_CFG, 7, 0⟩
def Reg.SST_MAP_SEL : Nat := 0x1B0004
def Fld.SST_MAP_SEL_CLASS : Fd := ⟨Reg.SST_MAP_SEL, 23, 16⟩
def Fld.SST_MAP_SEL_INDEX : Fd := ⟨Reg.SST_MAP_SEL, 15, 0⟩
def Reg.SST_MAP_DATA : Nat := 0x1B0008
def Fld.SST_MAP_DATA_V : Fd := ⟨Reg.SST_MAP_DATA, 15, 15⟩
def Fld.SST_MAP_DATA_SLOT : Fd := ⟨Reg.SST_MAP_DATA, 13, 0⟩
def Reg.SST_SHD_SEL : Nat := 0x1B000C
def Fld.SST_SHD_SEL_CLASS : Fd := ⟨Reg.SST_SHD_SEL, 23, 16⟩
def Fld.SST_SHD_SEL_INDEX : Fd := ⟨Reg.SST_SHD_SEL, 15, 0⟩
def Reg.SST_SHD_DATA : Nat := 0x1B0010
def Fld.SST_SHD_DATA_ENTRY : Fd := ⟨Reg.SST_SHD_DATA, 15, 0⟩
def Reg.SST_MAP_CTL : Nat := 0x1B0014
def Fld.SST_MAP_CTL_SWAP : Fd := ⟨Reg.SST_MAP_CTL, 1, 1⟩
def Fld.SST_MAP_CTL_CHECK : Fd := ⟨Reg.SST_MAP_CTL, 0, 0⟩
def Reg.SST_MAP_STAT : Nat := 0x1B0018
def Fld.SST_MAP_STAT_DUPSLOT : Fd := ⟨Reg.SST_MAP_STAT, 29, 16⟩
def Fld.SST_MAP_STAT_CHECKING : Fd := ⟨Reg.SST_MAP_STAT, 3, 3⟩
def Fld.SST_MAP_STAT_SHBAD : Fd := ⟨Reg.SST_MAP_STAT, 2, 2⟩
def Fld.SST_MAP_STAT_SHREADY : Fd := ⟨Reg.SST_MAP_STAT, 1, 1⟩
def Fld.SST_MAP_STAT_ACTIVE : Fd := ⟨Reg.SST_MAP_STAT, 0, 0⟩
def Reg.SST_CNT_SNAP : Nat := 0x1B0020
def Fld.SST_CNT_SNAP_SNAP : Fd := ⟨Reg.SST_CNT_SNAP, 31, 0⟩
def Reg.SST_DECAY_CNT : Nat := 0x1B0024
def Fld.SST_DECAY_CNT_COUNT : Fd := ⟨Reg.SST_DECAY_CNT, 31, 0⟩
def Reg.SST_MAPREF_CNT : Nat := 0x1B0028
def Fld.SST_MAPREF_CNT_COUNT : Fd := ⟨Reg.SST_MAPREF_CNT, 31, 0⟩
def Reg.SST_CNT_SAT : Nat := 0x1B002C
def Fld.SST_CNT_SAT_SAT : Fd := ⟨Reg.SST_CNT_SAT, 1, 0⟩
def Reg.SST_PEEK_SEL : Nat := 0x1B0030
def Fld.SST_PEEK_SEL_SLOT : Fd := ⟨Reg.SST_PEEK_SEL, 13, 0⟩
def Reg.SST_PEEK_VAL : Nat := 0x1B0034
def Fld.SST_PEEK_VAL_VALUE : Fd := ⟨Reg.SST_PEEK_VAL, 31, 0⟩
def Reg.SST_PEEK_AGE : Nat := 0x1B0038
def Fld.SST_PEEK_AGE_AGE : Fd := ⟨Reg.SST_PEEK_AGE, 7, 0⟩
def Reg.FAB_QOWN0 (j : Nat) : Nat := 0x1C0000 + 0x4 * j
def Fld.FAB_QOWN0_Q3 (j : Nat) : Fd := ⟨(Reg.FAB_QOWN0 j), 31, 24⟩
def Fld.FAB_QOWN0_Q2 (j : Nat) : Fd := ⟨(Reg.FAB_QOWN0 j), 23, 16⟩
def Fld.FAB_QOWN0_Q1 (j : Nat) : Fd := ⟨(Reg.FAB_QOWN0 j), 15, 8⟩
def Fld.FAB_QOWN0_Q0 (j : Nat) : Fd := ⟨(Reg.FAB_QOWN0 j), 7, 0⟩
def Reg.FAB_QOWN2 (j : Nat) : Nat := 0x1C0008 + 0x4 * j
def Fld.FAB_QOWN2_Q3 (j : Nat) : Fd := ⟨(Reg.FAB_QOWN2 j), 31, 24⟩
def Fld.FAB_QOWN2_Q2 (j : Nat) : Fd := ⟨(Reg.FAB_QOWN2 j), 23, 16⟩
def Fld.FAB_QOWN2_Q1 (j : Nat) : Fd := ⟨(Reg.FAB_QOWN2 j), 15, 8⟩
def Fld.FAB_QOWN2_Q0 (j : Nat) : Fd := ⟨(Reg.FAB_QOWN2 j), 7, 0⟩
def Reg.FAB_QOWN40 (j : Nat) : Nat := 0x1C00A0 + 0x4 * j
def Fld.FAB_QOWN40_Q3 (j : Nat) : Fd := ⟨(Reg.FAB_QOWN40 j), 31, 24⟩
def Fld.FAB_QOWN40_Q2 (j : Nat) : Fd := ⟨(Reg.FAB_QOWN40 j), 23, 16⟩
def Fld.FAB_QOWN40_Q1 (j : Nat) : Fd := ⟨(Reg.FAB_QOWN40 j), 15, 8⟩
def Fld.FAB_QOWN40_Q0 (j : Nat) : Fd := ⟨(Reg.FAB_QOWN40 j), 7, 0⟩
def Reg.FAB_CNT_SNAP : Nat := 0x1C0100
def Fld.FAB_CNT_SNAP_SNAP : Fd := ⟨Reg.FAB_CNT_SNAP, 31, 0⟩
def Reg.FAB_REFUSE_CNT : Nat := 0x1C0104
def Fld.FAB_REFUSE_CNT_COUNT : Fd := ⟨Reg.FAB_REFUSE_CNT, 31, 0⟩
def Reg.FAB_CNT_SAT : Nat := 0x1C0108
def Fld.FAB_CNT_SAT_SAT : Fd := ⟨Reg.FAB_CNT_SAT, 0, 0⟩
def Reg.FAB_REFUSE_ADDR : Nat := 0x1C010C
def Fld.FAB_REFUSE_ADDR_ADDR : Fd := ⟨Reg.FAB_REFUSE_ADDR, 31, 0⟩
def Reg.FAB_REFUSE_SRC : Nat := 0x1C0110
def Fld.FAB_REFUSE_SRC_SRC : Fd := ⟨Reg.FAB_REFUSE_SRC, 7, 0⟩
def Reg.FAB_WMAX_RT : Nat := 0x1C0114
def Fld.FAB_WMAX_RT_WAIT : Fd := ⟨Reg.FAB_WMAX_RT, 15, 0⟩
def Reg.NET_CFG (i : Nat) : Nat := 0x200000 + 0x10000 * i
def Fld.NET_CFG_PVID (i : Nat) : Fd := ⟨(Reg.NET_CFG i), 31, 20⟩
def Fld.NET_CFG_FWDUC (i : Nat) : Fd := ⟨(Reg.NET_CFG i), 18, 18⟩
def Fld.NET_CFG_FWD (i : Nat) : Fd := ⟨(Reg.NET_CFG i), 17, 17⟩
def Fld.NET_CFG_RSFEC (i : Nat) : Fd := ⟨(Reg.NET_CFG i), 16, 16⟩
def Fld.NET_CFG_MAXFRM (i : Nat) : Fd := ⟨(Reg.NET_CFG i), 13, 0⟩
def Reg.NET_CTL (i : Nat) : Nat := 0x200004 + 0x10000 * i
def Fld.NET_CTL_SPEED (i : Nat) : Fd := ⟨(Reg.NET_CTL i), 2, 0⟩
def Reg.NET_STAT (i : Nat) : Nat := 0x200008 + 0x10000 * i
def Fld.NET_STAT_LINK (i : Nat) : Fd := ⟨(Reg.NET_STAT i), 8, 8⟩
def Fld.NET_STAT_LPITX (i : Nat) : Fd := ⟨(Reg.NET_STAT i), 7, 7⟩
def Fld.NET_STAT_LPIRX (i : Nat) : Fd := ⟨(Reg.NET_STAT i), 6, 6⟩
def Fld.NET_STAT_PAUSED (i : Nat) : Fd := ⟨(Reg.NET_STAT i), 5, 5⟩
def Fld.NET_STAT_SPEED_ACT (i : Nat) : Fd := ⟨(Reg.NET_STAT i), 2, 0⟩
def Reg.NET_MAC_ADDR_LO (i : Nat) : Nat := 0x20000C + 0x10000 * i
def Fld.NET_MAC_ADDR_LO_ADDR (i : Nat) : Fd := ⟨(Reg.NET_MAC_ADDR_LO i), 31, 0⟩
def Reg.NET_MAC_ADDR_HI (i : Nat) : Nat := 0x200010 + 0x10000 * i
def Fld.NET_MAC_ADDR_HI_ADDR (i : Nat) : Fd := ⟨(Reg.NET_MAC_ADDR_HI i), 15, 0⟩
def Reg.NET_PCP_MAP (i : Nat) : Nat := 0x200014 + 0x10000 * i
def Fld.NET_PCP_MAP_MAP (i : Nat) : Fd := ⟨(Reg.NET_PCP_MAP i), 23, 0⟩
def Reg.NET_RXBUF (i : Nat) : Nat := 0x200018 + 0x10000 * i
def Fld.NET_RXBUF_SHARE (i : Nat) : Fd := ⟨(Reg.NET_RXBUF i), 15, 0⟩
def Reg.NET_TXQ_THR (i j : Nat) : Nat := 0x200020 + 0x10000 * i + 0x4 * j
def Fld.NET_TXQ_THR_STEPPED (i j : Nat) : Fd := ⟨(Reg.NET_TXQ_THR i j), 8, 8⟩
def Fld.NET_TXQ_THR_THR (i j : Nat) : Fd := ⟨(Reg.NET_TXQ_THR i j), 7, 0⟩
def Reg.NET_FC_CFG (i : Nat) : Nat := 0x200040 + 0x10000 * i
def Fld.NET_FC_CFG_PFC_TX (i : Nat) : Fd := ⟨(Reg.NET_FC_CFG i), 23, 16⟩
def Fld.NET_FC_CFG_PFC_RX (i : Nat) : Fd := ⟨(Reg.NET_FC_CFG i), 15, 8⟩
def Fld.NET_FC_CFG_PAUSE_TX (i : Nat) : Fd := ⟨(Reg.NET_FC_CFG i), 1, 1⟩
def Fld.NET_FC_CFG_PAUSE_RX (i : Nat) : Fd := ⟨(Reg.NET_FC_CFG i), 0, 0⟩
def Reg.NET_FC_THR (i : Nat) : Nat := 0x200044 + 0x10000 * i
def Fld.NET_FC_THR_XOFF (i : Nat) : Fd := ⟨(Reg.NET_FC_THR i), 31, 16⟩
def Fld.NET_FC_THR_XON (i : Nat) : Fd := ⟨(Reg.NET_FC_THR i), 15, 0⟩
def Reg.NET_GCL_CFG (i : Nat) : Nat := 0x200080 + 0x10000 * i
def Fld.NET_GCL_CFG_EN (i : Nat) : Fd := ⟨(Reg.NET_GCL_CFG i), 31, 31⟩
def Fld.NET_GCL_CFG_SCHEDQ (i : Nat) : Fd := ⟨(Reg.NET_GCL_CFG i), 23, 16⟩
def Fld.NET_GCL_CFG_CYCLE (i : Nat) : Fd := ⟨(Reg.NET_GCL_CFG i), 2, 0⟩
def Reg.NET_GCL_LEN (i : Nat) : Nat := 0x200084 + 0x10000 * i
def Fld.NET_GCL_LEN_LEN (i : Nat) : Fd := ⟨(Reg.NET_GCL_LEN i), 8, 0⟩
def Reg.NET_GCL_CTL (i : Nat) : Nat := 0x200088 + 0x10000 * i
def Fld.NET_GCL_CTL_SWAP (i : Nat) : Fd := ⟨(Reg.NET_GCL_CTL i), 0, 0⟩
def Reg.NET_GCL_STAT (i : Nat) : Nat := 0x20008C + 0x10000 * i
def Fld.NET_GCL_STAT_EN (i : Nat) : Fd := ⟨(Reg.NET_GCL_STAT i), 31, 31⟩
def Fld.NET_GCL_STAT_CYCLE (i : Nat) : Fd := ⟨(Reg.NET_GCL_STAT i), 26, 24⟩
def Fld.NET_GCL_STAT_ENTRY (i : Nat) : Fd := ⟨(Reg.NET_GCL_STAT i), 23, 16⟩
def Fld.NET_GCL_STAT_LEN (i : Nat) : Fd := ⟨(Reg.NET_GCL_STAT i), 8, 0⟩
def Reg.NET_TSCFG (i : Nat) : Nat := 0x2000C0 + 0x10000 * i
def Fld.NET_TSCFG_DEFTB (i : Nat) : Fd := ⟨(Reg.NET_TSCFG i), 1, 0⟩
def Reg.NET_RX_ADJ (i : Nat) : Nat := 0x2000C4 + 0x10000 * i
def Fld.NET_RX_ADJ_ADJ (i : Nat) : Fd := ⟨(Reg.NET_RX_ADJ i), 31, 0⟩
def Reg.NET_TX_ADJ (i : Nat) : Nat := 0x2000C8 + 0x10000 * i
def Fld.NET_TX_ADJ_ADJ (i : Nat) : Fd := ⟨(Reg.NET_TX_ADJ i), 31, 0⟩
def Reg.NET_TXTS_CTL (i : Nat) : Nat := 0x2000D0 + 0x10000 * i
def Fld.NET_TXTS_CTL_POP (i : Nat) : Fd := ⟨(Reg.NET_TXTS_CTL i), 0, 0⟩
def Reg.NET_TXTS_INFO (i : Nat) : Nat := 0x2000D4 + 0x10000 * i
def Fld.NET_TXTS_INFO_VALID (i : Nat) : Fd := ⟨(Reg.NET_TXTS_INFO i), 31, 31⟩
def Fld.NET_TXTS_INFO_TB (i : Nat) : Fd := ⟨(Reg.NET_TXTS_INFO i), 29, 28⟩
def Fld.NET_TXTS_INFO_DEPTH (i : Nat) : Fd := ⟨(Reg.NET_TXTS_INFO i), 21, 16⟩
def Fld.NET_TXTS_INFO_TAG (i : Nat) : Fd := ⟨(Reg.NET_TXTS_INFO i), 15, 0⟩
def Reg.NET_TXTS_NS_LO (i : Nat) : Nat := 0x2000D8 + 0x10000 * i
def Fld.NET_TXTS_NS_LO_NS (i : Nat) : Fd := ⟨(Reg.NET_TXTS_NS_LO i), 31, 0⟩
def Reg.NET_TXTS_NS_HI (i : Nat) : Nat := 0x2000DC + 0x10000 * i
def Fld.NET_TXTS_NS_HI_NS (i : Nat) : Fd := ⟨(Reg.NET_TXTS_NS_HI i), 31, 0⟩
def Reg.NET_TXTS_FRAC (i : Nat) : Nat := 0x2000E0 + 0x10000 * i
def Fld.NET_TXTS_FRAC_FRAC (i : Nat) : Fd := ⟨(Reg.NET_TXTS_FRAC i), 15, 0⟩
def Reg.NET_EEE_CFG (i : Nat) : Nat := 0x200100 + 0x10000 * i
def Fld.NET_EEE_CFG_TWRX (i : Nat) : Fd := ⟨(Reg.NET_EEE_CFG i), 31, 16⟩
def Fld.NET_EEE_CFG_EN (i : Nat) : Fd := ⟨(Reg.NET_EEE_CFG i), 0, 0⟩
def Reg.NET_EEE_STAT (i : Nat) : Nat := 0x200104 + 0x10000 * i
def Fld.NET_EEE_STAT_TWTX (i : Nat) : Fd := ⟨(Reg.NET_EEE_STAT i), 31, 16⟩
def Fld.NET_EEE_STAT_NEGOK (i : Nat) : Fd := ⟨(Reg.NET_EEE_STAT i), 0, 0⟩
def Reg.NET_CNT_SNAP (i : Nat) : Nat := 0x200300 + 0x10000 * i
def Fld.NET_CNT_SNAP_SNAP (i : Nat) : Fd := ⟨(Reg.NET_CNT_SNAP i), 31, 0⟩
def Reg.NET_CNT64 (i j : Nat) : Nat := 0x200310 + 0x10000 * i + 0x4 * j
def Fld.NET_CNT64_COUNT (i j : Nat) : Fd := ⟨(Reg.NET_CNT64 i j), 31, 0⟩
def Reg.NET_CNT32 (i j : Nat) : Nat := 0x200340 + 0x10000 * i + 0x4 * j
def Fld.NET_CNT32_COUNT (i j : Nat) : Fd := ⟨(Reg.NET_CNT32 i j), 31, 0⟩
def Reg.NET_CNT_SAT (i : Nat) : Nat := 0x200370 + 0x10000 * i
def Fld.NET_CNT_SAT_SAT (i : Nat) : Fd := ⟨(Reg.NET_CNT_SAT i), 11, 0⟩
def Reg.NET_GCL_SHD (i j : Nat) : Nat := 0x201000 + 0x10000 * i + 0x4 * j
def Fld.NET_GCL_SHD_GATES (i j : Nat) : Fd := ⟨(Reg.NET_GCL_SHD i j), 31, 24⟩
def Fld.NET_GCL_SHD_INTERVAL (i j : Nat) : Fd := ⟨(Reg.NET_GCL_SHD i j), 23, 0⟩
def Reg.NET_GCL_ACT (i j : Nat) : Nat := 0x201400 + 0x10000 * i + 0x4 * j
def Fld.NET_GCL_ACT_GATES (i j : Nat) : Fd := ⟨(Reg.NET_GCL_ACT i j), 31, 24⟩
def Fld.NET_GCL_ACT_INTERVAL (i j : Nat) : Fd := ⟨(Reg.NET_GCL_ACT i j), 23, 0⟩
def Reg.FDB_SEL : Nat := 0x200200
def Fld.FDB_SEL_INDEX : Fd := ⟨Reg.FDB_SEL, 10, 0⟩
def Reg.FDB_LO : Nat := 0x200204
def Fld.FDB_LO_MAC : Fd := ⟨Reg.FDB_LO, 31, 0⟩
def Reg.FDB_HI : Nat := 0x200208
def Fld.FDB_HI_V : Fd := ⟨Reg.FDB_HI, 31, 31⟩
def Fld.FDB_HI_PORTS : Fd := ⟨Reg.FDB_HI, 29, 26⟩
def Fld.FDB_HI_VID : Fd := ⟨Reg.FDB_HI, 25, 14⟩
def Reg.FDB_MAC : Nat := 0x20020C
def Fld.FDB_MAC_MAC01 : Fd := ⟨Reg.FDB_MAC, 15, 0⟩
def Reg.LANE_CFG (i : Nat) : Nat := 0x240000 + 0x10000 * i
def Fld.LANE_CFG_TXREF (i : Nat) : Fd := ⟨(Reg.LANE_CFG i), 4, 4⟩
def Fld.LANE_CFG_PRX (i : Nat) : Fd := ⟨(Reg.LANE_CFG i), 3, 3⟩
def Fld.LANE_CFG_PTX (i : Nat) : Fd := ⟨(Reg.LANE_CFG i), 2, 2⟩
def Fld.LANE_CFG_RXPOL (i : Nat) : Fd := ⟨(Reg.LANE_CFG i), 1, 1⟩
def Fld.LANE_CFG_TXPOL (i : Nat) : Fd := ⟨(Reg.LANE_CFG i), 0, 0⟩
def Reg.LANE_STAT (i : Nat) : Nat := 0x240004 + 0x10000 * i
def Fld.LANE_STAT_FROZEN (i : Nat) : Fd := ⟨(Reg.LANE_STAT i), 10, 10⟩
def Fld.LANE_STAT_SIGDET (i : Nat) : Fd := ⟨(Reg.LANE_STAT i), 9, 9⟩
def Fld.LANE_STAT_EIDLE_TX (i : Nat) : Fd := ⟨(Reg.LANE_STAT i), 8, 8⟩
def Fld.LANE_STAT_MODE (i : Nat) : Fd := ⟨(Reg.LANE_STAT i), 6, 4⟩
def Fld.LANE_STAT_STATE (i : Nat) : Fd := ⟨(Reg.LANE_STAT i), 3, 0⟩
def Reg.LANE_TXFIR (i : Nat) : Nat := 0x240008 + 0x10000 * i
def Fld.LANE_TXFIR_PRE (i : Nat) : Fd := ⟨(Reg.LANE_TXFIR i), 28, 24⟩
def Fld.LANE_TXFIR_MAIN (i : Nat) : Fd := ⟨(Reg.LANE_TXFIR i), 22, 16⟩
def Fld.LANE_TXFIR_POST (i : Nat) : Fd := ⟨(Reg.LANE_TXFIR i), 12, 8⟩
def Reg.LANE_RXEQ_CFG (i : Nat) : Nat := 0x24000C + 0x10000 * i
def Fld.LANE_RXEQ_CFG_FRZRUN (i : Nat) : Fd := ⟨(Reg.LANE_RXEQ_CFG i), 15, 8⟩
def Fld.LANE_RXEQ_CFG_ADAPT (i : Nat) : Fd := ⟨(Reg.LANE_RXEQ_CFG i), 1, 0⟩
def Reg.LANE_DRIFT_CFG (i : Nat) : Nat := 0x240010 + 0x10000 * i
def Fld.LANE_DRIFT_CFG_ACT (i : Nat) : Fd := ⟨(Reg.LANE_DRIFT_CFG i), 16, 16⟩
def Fld.LANE_DRIFT_CFG_TOL1 (i : Nat) : Fd := ⟨(Reg.LANE_DRIFT_CFG i), 15, 8⟩
def Fld.LANE_DRIFT_CFG_TOL (i : Nat) : Fd := ⟨(Reg.LANE_DRIFT_CFG i), 7, 0⟩
def Reg.LANE_RXEQ_APP (i : Nat) : Nat := 0x240014 + 0x10000 * i
def Fld.LANE_RXEQ_APP_GAIN (i : Nat) : Fd := ⟨(Reg.LANE_RXEQ_APP i), 11, 8⟩
def Fld.LANE_RXEQ_APP_PEAK (i : Nat) : Fd := ⟨(Reg.LANE_RXEQ_APP i), 4, 0⟩
def Reg.LANE_RXEQ_SNAP (i : Nat) : Nat := 0x240018 + 0x10000 * i
def Fld.LANE_RXEQ_SNAP_GAIN (i : Nat) : Fd := ⟨(Reg.LANE_RXEQ_SNAP i), 11, 8⟩
def Fld.LANE_RXEQ_SNAP_PEAK (i : Nat) : Fd := ⟨(Reg.LANE_RXEQ_SNAP i), 4, 0⟩
def Reg.LANE_RXEQ_MAN (i : Nat) : Nat := 0x24001C + 0x10000 * i
def Fld.LANE_RXEQ_MAN_GAIN (i : Nat) : Fd := ⟨(Reg.LANE_RXEQ_MAN i), 11, 8⟩
def Fld.LANE_RXEQ_MAN_PEAK (i : Nat) : Fd := ⟨(Reg.LANE_RXEQ_MAN i), 4, 0⟩
def Reg.LANE_DFE_APP (i j : Nat) : Nat := 0x240020 + 0x10000 * i + 0x4 * j
def Fld.LANE_DFE_APP_TAP_D (i j : Nat) : Fd := ⟨(Reg.LANE_DFE_APP i j), 30, 24⟩
def Fld.LANE_DFE_APP_TAP_C (i j : Nat) : Fd := ⟨(Reg.LANE_DFE_APP i j), 22, 16⟩
def Fld.LANE_DFE_APP_TAP_B (i j : Nat) : Fd := ⟨(Reg.LANE_DFE_APP i j), 14, 8⟩
def Fld.LANE_DFE_APP_TAP_A (i j : Nat) : Fd := ⟨(Reg.LANE_DFE_APP i j), 6, 0⟩
def Reg.LANE_DFE_APP2 (i : Nat) : Nat := 0x240028 + 0x10000 * i
def Fld.LANE_DFE_APP2_TAP_B (i : Nat) : Fd := ⟨(Reg.LANE_DFE_APP2 i), 14, 8⟩
def Fld.LANE_DFE_APP2_TAP_A (i : Nat) : Fd := ⟨(Reg.LANE_DFE_APP2 i), 6, 0⟩
def Reg.LANE_DFE_SNAP (i j : Nat) : Nat := 0x240030 + 0x10000 * i + 0x4 * j
def Fld.LANE_DFE_SNAP_TAP_D (i j : Nat) : Fd := ⟨(Reg.LANE_DFE_SNAP i j), 30, 24⟩
def Fld.LANE_DFE_SNAP_TAP_C (i j : Nat) : Fd := ⟨(Reg.LANE_DFE_SNAP i j), 22, 16⟩
def Fld.LANE_DFE_SNAP_TAP_B (i j : Nat) : Fd := ⟨(Reg.LANE_DFE_SNAP i j), 14, 8⟩
def Fld.LANE_DFE_SNAP_TAP_A (i j : Nat) : Fd := ⟨(Reg.LANE_DFE_SNAP i j), 6, 0⟩
def Reg.LANE_DFE_SNAP2 (i : Nat) : Nat := 0x240038 + 0x10000 * i
def Fld.LANE_DFE_SNAP2_TAP_B (i : Nat) : Fd := ⟨(Reg.LANE_DFE_SNAP2 i), 14, 8⟩
def Fld.LANE_DFE_SNAP2_TAP_A (i : Nat) : Fd := ⟨(Reg.LANE_DFE_SNAP2 i), 6, 0⟩
def Reg.LANE_DFE_MAN (i j : Nat) : Nat := 0x240040 + 0x10000 * i + 0x4 * j
def Fld.LANE_DFE_MAN_TAP_D (i j : Nat) : Fd := ⟨(Reg.LANE_DFE_MAN i j), 30, 24⟩
def Fld.LANE_DFE_MAN_TAP_C (i j : Nat) : Fd := ⟨(Reg.LANE_DFE_MAN i j), 22, 16⟩
def Fld.LANE_DFE_MAN_TAP_B (i j : Nat) : Fd := ⟨(Reg.LANE_DFE_MAN i j), 14, 8⟩
def Fld.LANE_DFE_MAN_TAP_A (i j : Nat) : Fd := ⟨(Reg.LANE_DFE_MAN i j), 6, 0⟩
def Reg.LANE_DFE_MAN2 (i : Nat) : Nat := 0x240048 + 0x10000 * i
def Fld.LANE_DFE_MAN2_TAP_B (i : Nat) : Fd := ⟨(Reg.LANE_DFE_MAN2 i), 14, 8⟩
def Fld.LANE_DFE_MAN2_TAP_A (i : Nat) : Fd := ⟨(Reg.LANE_DFE_MAN2 i), 6, 0⟩
def Reg.LANE_LOOP_CTL (i : Nat) : Nat := 0x240050 + 0x10000 * i
def Fld.LANE_LOOP_CTL_MODE (i : Nat) : Fd := ⟨(Reg.LANE_LOOP_CTL i), 1, 0⟩
def Reg.LANE_LOOP_STAT (i : Nat) : Nat := 0x240054 + 0x10000 * i
def Fld.LANE_LOOP_STAT_RESULT (i : Nat) : Fd := ⟨(Reg.LANE_LOOP_STAT i), 3, 2⟩
def Fld.LANE_LOOP_STAT_MODE (i : Nat) : Fd := ⟨(Reg.LANE_LOOP_STAT i), 1, 0⟩
def Reg.LANE_PRBS_CFG (i : Nat) : Nat := 0x240058 + 0x10000 * i
def Fld.LANE_PRBS_CFG_RXEN (i : Nat) : Fd := ⟨(Reg.LANE_PRBS_CFG i), 5, 5⟩
def Fld.LANE_PRBS_CFG_TXEN (i : Nat) : Fd := ⟨(Reg.LANE_PRBS_CFG i), 4, 4⟩
def Fld.LANE_PRBS_CFG_PATTERN (i : Nat) : Fd := ⟨(Reg.LANE_PRBS_CFG i), 3, 0⟩
def Reg.LANE_EYE_SEL (i : Nat) : Nat := 0x240060 + 0x10000 * i
def Fld.LANE_EYE_SEL_GO (i : Nat) : Fd := ⟨(Reg.LANE_EYE_SEL i), 31, 31⟩
def Fld.LANE_EYE_SEL_PHASE (i : Nat) : Fd := ⟨(Reg.LANE_EYE_SEL i), 29, 24⟩
def Fld.LANE_EYE_SEL_VOFF (i : Nat) : Fd := ⟨(Reg.LANE_EYE_SEL i), 22, 16⟩
def Fld.LANE_EYE_SEL_SUB (i : Nat) : Fd := ⟨(Reg.LANE_EYE_SEL i), 9, 8⟩
def Fld.LANE_EYE_SEL_DWELL (i : Nat) : Fd := ⟨(Reg.LANE_EYE_SEL i), 3, 0⟩
def Reg.LANE_EYE_STAT (i : Nat) : Nat := 0x240064 + 0x10000 * i
def Fld.LANE_EYE_STAT_ABORT (i : Nat) : Fd := ⟨(Reg.LANE_EYE_STAT i), 2, 2⟩
def Fld.LANE_EYE_STAT_BUSY (i : Nat) : Fd := ⟨(Reg.LANE_EYE_STAT i), 1, 1⟩
def Fld.LANE_EYE_STAT_DONE (i : Nat) : Fd := ⟨(Reg.LANE_EYE_STAT i), 0, 0⟩
def Reg.LANE_EYE_ERR (i : Nat) : Nat := 0x240068 + 0x10000 * i
def Fld.LANE_EYE_ERR_ERR (i : Nat) : Fd := ⟨(Reg.LANE_EYE_ERR i), 31, 0⟩
def Reg.LANE_CNT_SNAP (i : Nat) : Nat := 0x240080 + 0x10000 * i
def Fld.LANE_CNT_SNAP_SNAP (i : Nat) : Fd := ⟨(Reg.LANE_CNT_SNAP i), 31, 0⟩
def Reg.LANE_CNT64 (i j : Nat) : Nat := 0x240090 + 0x10000 * i + 0x4 * j
def Fld.LANE_CNT64_COUNT (i j : Nat) : Fd := ⟨(Reg.LANE_CNT64 i j), 31, 0⟩
def Reg.LANE_CNT32 (i j : Nat) : Nat := 0x2400B0 + 0x10000 * i + 0x4 * j
def Fld.LANE_CNT32_COUNT (i j : Nat) : Fd := ⟨(Reg.LANE_CNT32 i j), 31, 0⟩
def Reg.LANE_CNT_SAT (i : Nat) : Nat := 0x2400D0 + 0x10000 * i
def Fld.LANE_CNT_SAT_SAT (i : Nat) : Fd := ⟨(Reg.LANE_CNT_SAT i), 7, 0⟩
def Reg.STR_CFG : Nat := 0x2A0000
def Fld.STR_CFG_TIMEOUT : Fd := ⟨Reg.STR_CFG, 23, 16⟩
def Fld.STR_CFG_EARLY : Fd := ⟨Reg.STR_CFG, 0, 0⟩
def Reg.STR_CHAN_USE : Nat := 0x2A0004
def Fld.STR_CHAN_USE_RX : Fd := ⟨Reg.STR_CHAN_USE, 27, 16⟩
def Fld.STR_CHAN_USE_TX : Fd := ⟨Reg.STR_CHAN_USE, 11, 0⟩
def Reg.STR_VSF_EUI_LO : Nat := 0x2A0008
def Fld.STR_VSF_EUI_LO_EUI : Fd := ⟨Reg.STR_VSF_EUI_LO, 31, 0⟩
def Reg.STR_VSF_EUI_HI : Nat := 0x2A000C
def Fld.STR_VSF_EUI_HI_EUI : Fd := ⟨Reg.STR_VSF_EUI_HI, 15, 0⟩
def Reg.STR_IPADDR (j : Nat) : Nat := 0x2A0020 + 0x4 * j
def Fld.STR_IPADDR_ADDR (j : Nat) : Fd := ⟨(Reg.STR_IPADDR j), 31, 0⟩
def Reg.STR_FSEL : Nat := 0x2A0040
def Fld.STR_FSEL_DIR : Fd := ⟨Reg.STR_FSEL, 8, 8⟩
def Fld.STR_FSEL_SLOT : Fd := ⟨Reg.STR_FSEL, 7, 0⟩
def Reg.STR_FCMD : Nat := 0x2A0044
def Fld.STR_FCMD_OP : Fd := ⟨Reg.STR_FCMD, 31, 30⟩
def Fld.STR_FCMD_DIR : Fd := ⟨Reg.STR_FCMD, 8, 8⟩
def Fld.STR_FCMD_SLOT : Fd := ⟨Reg.STR_FCMD, 7, 0⟩
def Reg.STR_FSTAT : Nat := 0x2A0048
def Fld.STR_FSTAT_STATE : Fd := ⟨Reg.STR_FSTAT, 31, 28⟩
def Fld.STR_FSTAT_REASON : Fd := ⟨Reg.STR_FSTAT, 27, 24⟩
def Fld.STR_FSTAT_INCARN : Fd := ⟨Reg.STR_FSTAT, 15, 0⟩
def Reg.STR_FLATCH : Nat := 0x2A004C
def Fld.STR_FLATCH_LATCH : Fd := ⟨Reg.STR_FLATCH, 31, 0⟩
def Reg.STR_FCFG (j : Nat) : Nat := 0x2A0100 + 0x4 * j
def Fld.STR_FCFG_WORD (j : Nat) : Fd := ⟨(Reg.STR_FCFG j), 31, 0⟩
def Reg.STR_CNT_SNAP : Nat := 0x2A0200
def Fld.STR_CNT_SNAP_SNAP : Fd := ⟨Reg.STR_CNT_SNAP, 31, 0⟩
def Reg.STR_FRAMES (j : Nat) : Nat := 0x2A0208 + 0x4 * j
def Fld.STR_FRAMES_COUNT (j : Nat) : Fd := ⟨(Reg.STR_FRAMES j), 31, 0⟩
def Reg.STR_DUP (j : Nat) : Nat := 0x2A0210 + 0x4 * j
def Fld.STR_DUP_COUNT (j : Nat) : Fd := ⟨(Reg.STR_DUP j), 31, 0⟩
def Reg.STR_CNT32 (j : Nat) : Nat := 0x2A0218 + 0x4 * j
def Fld.STR_CNT32_COUNT (j : Nat) : Fd := ⟨(Reg.STR_CNT32 j), 31, 0⟩
def Reg.STR_CNT_SAT : Nat := 0x2A0240
def Fld.STR_CNT_SAT_SAT : Fd := ⟨Reg.STR_CNT_SAT, 9, 0⟩
def Reg.TB_CTL (i : Nat) : Nat := 0x2B0000 + 0x10000 * i
def Fld.TB_CTL_EN (i : Nat) : Fd := ⟨(Reg.TB_CTL i), 31, 31⟩
def Fld.TB_CTL_SOURCE (i : Nat) : Fd := ⟨(Reg.TB_CTL i), 1, 0⟩
def Reg.TB_PTPCFG (i : Nat) : Nat := 0x2B0004 + 0x10000 * i
def Fld.TB_PTPCFG_PRIO1 (i : Nat) : Fd := ⟨(Reg.TB_PTPCFG i), 31, 24⟩
def Fld.TB_PTPCFG_SONLY (i : Nat) : Fd := ⟨(Reg.TB_PTPCFG i), 23, 23⟩
def Fld.TB_PTPCFG_PORTS (i : Nat) : Fd := ⟨(Reg.TB_PTPCFG i), 19, 16⟩
def Fld.TB_PTPCFG_DOMAIN (i : Nat) : Fd := ⟨(Reg.TB_PTPCFG i), 15, 8⟩
def Fld.TB_PTPCFG_PROFILE (i : Nat) : Fd := ⟨(Reg.TB_PTPCFG i), 2, 0⟩
def Reg.TB_PTPPRIO (i : Nat) : Nat := 0x2B0008 + 0x10000 * i
def Fld.TB_PTPPRIO_PRIO2 (i : Nat) : Fd := ⟨(Reg.TB_PTPPRIO i), 7, 0⟩
def Reg.TB_SLEW (i : Nat) : Nat := 0x2B000C + 0x10000 * i
def Fld.TB_SLEW_LIMIT (i : Nat) : Fd := ⟨(Reg.TB_SLEW i), 13, 0⟩
def Reg.TB_STEPTHR (i : Nat) : Nat := 0x2B0010 + 0x10000 * i
def Fld.TB_STEPTHR_THR (i : Nat) : Fd := ⟨(Reg.TB_STEPTHR i), 29, 0⟩
def Reg.TB_LOCKWIN (i : Nat) : Nat := 0x2B0014 + 0x10000 * i
def Fld.TB_LOCKWIN_CNT (i : Nat) : Fd := ⟨(Reg.TB_LOCKWIN i), 23, 16⟩
def Fld.TB_LOCKWIN_WIN (i : Nat) : Fd := ⟨(Reg.TB_LOCKWIN i), 15, 0⟩
def Reg.TB_CMD (i : Nat) : Nat := 0x2B0018 + 0x10000 * i
def Fld.TB_CMD_OP (i : Nat) : Fd := ⟨(Reg.TB_CMD i), 31, 28⟩
def Fld.TB_CMD_BOFF (i : Nat) : Fd := ⟨(Reg.TB_CMD i), 0, 0⟩
def Reg.TB_CMD_STAT (i : Nat) : Nat := 0x2B001C + 0x10000 * i
def Fld.TB_CMD_STAT_RESULT (i : Nat) : Fd := ⟨(Reg.TB_CMD_STAT i), 2, 0⟩
def Reg.TB_STAT (i : Nat) : Nat := 0x2B0020 + 0x10000 * i
def Fld.TB_STAT_JUMPREF (i : Nat) : Fd := ⟨(Reg.TB_STAT i), 13, 13⟩
def Fld.TB_STAT_GM (i : Nat) : Fd := ⟨(Reg.TB_STAT i), 12, 12⟩
def Fld.TB_STAT_MPORT (i : Nat) : Fd := ⟨(Reg.TB_STAT i), 10, 8⟩
def Fld.TB_STAT_REASON (i : Nat) : Fd := ⟨(Reg.TB_STAT i), 7, 4⟩
def Fld.TB_STAT_STATE (i : Nat) : Fd := ⟨(Reg.TB_STAT i), 3, 0⟩
def Reg.TB_SNAP (i : Nat) : Nat := 0x2B0024 + 0x10000 * i
def Fld.TB_SNAP_SNAP (i : Nat) : Fd := ⟨(Reg.TB_SNAP i), 31, 0⟩
def Reg.TB_TIME_SEC_LO (i : Nat) : Nat := 0x2B0028 + 0x10000 * i
def Fld.TB_TIME_SEC_LO_VALUE (i : Nat) : Fd := ⟨(Reg.TB_TIME_SEC_LO i), 31, 0⟩
def Reg.TB_TIME_SEC_HI (i : Nat) : Nat := 0x2B002C + 0x10000 * i
def Fld.TB_TIME_SEC_HI_VALUE (i : Nat) : Fd := ⟨(Reg.TB_TIME_SEC_HI i), 15, 0⟩
def Reg.TB_TIME_NS (i : Nat) : Nat := 0x2B0030 + 0x10000 * i
def Fld.TB_TIME_NS_VALUE (i : Nat) : Fd := ⟨(Reg.TB_TIME_NS i), 31, 0⟩
def Reg.TB_TIME_FRAC (i : Nat) : Nat := 0x2B0034 + 0x10000 * i
def Fld.TB_TIME_FRAC_VALUE (i : Nat) : Fd := ⟨(Reg.TB_TIME_FRAC i), 15, 0⟩
def Reg.TB_ROWIDX (i : Nat) : Nat := 0x2B0038 + 0x10000 * i
def Fld.TB_ROWIDX_ROWIDX (i : Nat) : Fd := ⟨(Reg.TB_ROWIDX i), 31, 0⟩
def Reg.TB_FREQ (i : Nat) : Nat := 0x2B003C + 0x10000 * i
def Fld.TB_FREQ_VALUE (i : Nat) : Fd := ⟨(Reg.TB_FREQ i), 31, 0⟩
def Reg.TB_OFFSET (i : Nat) : Nat := 0x2B0040 + 0x10000 * i
def Fld.TB_OFFSET_VALUE (i : Nat) : Fd := ⟨(Reg.TB_OFFSET i), 31, 0⟩
def Reg.TB_PHASEREM (i : Nat) : Nat := 0x2B0044 + 0x10000 * i
def Fld.TB_PHASEREM_VALUE (i : Nat) : Fd := ⟨(Reg.TB_PHASEREM i), 31, 0⟩
def Reg.TB_SET_SEC_LO (i : Nat) : Nat := 0x2B0048 + 0x10000 * i
def Fld.TB_SET_SEC_LO_VALUE (i : Nat) : Fd := ⟨(Reg.TB_SET_SEC_LO i), 31, 0⟩
def Reg.TB_SET_SEC_HI (i : Nat) : Nat := 0x2B004C + 0x10000 * i
def Fld.TB_SET_SEC_HI_VALUE (i : Nat) : Fd := ⟨(Reg.TB_SET_SEC_HI i), 15, 0⟩
def Reg.TB_SET_NS (i : Nat) : Nat := 0x2B0050 + 0x10000 * i
def Fld.TB_SET_NS_VALUE (i : Nat) : Fd := ⟨(Reg.TB_SET_NS i), 31, 0⟩
def Reg.TB_GM_ID_LO (i : Nat) : Nat := 0x2B0058 + 0x10000 * i
def Fld.TB_GM_ID_LO_ID (i : Nat) : Fd := ⟨(Reg.TB_GM_ID_LO i), 31, 0⟩
def Reg.TB_GM_ID_HI (i : Nat) : Nat := 0x2B005C + 0x10000 * i
def Fld.TB_GM_ID_HI_ID (i : Nat) : Fd := ⟨(Reg.TB_GM_ID_HI i), 31, 0⟩
def Reg.TB_GM_INFO (i : Nat) : Nat := 0x2B0060 + 0x10000 * i
def Fld.TB_GM_INFO_CLASS (i : Nat) : Fd := ⟨(Reg.TB_GM_INFO i), 23, 16⟩
def Fld.TB_GM_INFO_STEPS (i : Nat) : Fd := ⟨(Reg.TB_GM_INFO i), 15, 0⟩
def Reg.TB_CNT_SNAP (i : Nat) : Nat := 0x2B0080 + 0x10000 * i
def Fld.TB_CNT_SNAP_SNAP (i : Nat) : Fd := ⟨(Reg.TB_CNT_SNAP i), 31, 0⟩
def Reg.TB_CNT32 (i j : Nat) : Nat := 0x2B0084 + 0x10000 * i + 0x4 * j
def Fld.TB_CNT32_COUNT (i j : Nat) : Fd := ⟨(Reg.TB_CNT32 i j), 31, 0⟩
def Reg.TB_CNT_SAT (i : Nat) : Nat := 0x2B0098 + 0x10000 * i
def Fld.TB_CNT_SAT_SAT (i : Nat) : Fd := ⟨(Reg.TB_CNT_SAT i), 4, 0⟩
def Reg.TB0_MEDIASEL : Nat := 0x2B0100
def Fld.TB0_MEDIASEL_SEL : Fd := ⟨Reg.TB0_MEDIASEL, 1, 0⟩
def Reg.CLK_CTL : Nat := 0x2F0000
def Fld.CLK_CTL_MSEL : Fd := ⟨Reg.CLK_CTL, 19, 16⟩
def Fld.CLK_CTL_BW : Fd := ⟨Reg.CLK_CTL, 9, 8⟩
def Fld.CLK_CTL_MODE : Fd := ⟨Reg.CLK_CTL, 1, 0⟩
def Reg.CLK_STAT : Nat := 0x2F0004
def Fld.CLK_STAT_MLOCK : Fd := ⟨Reg.CLK_STAT, 23, 23⟩
def Fld.CLK_STAT_HISTOK : Fd := ⟨Reg.CLK_STAT, 22, 22⟩
def Fld.CLK_STAT_SEL : Fd := ⟨Reg.CLK_STAT, 19, 16⟩
def Fld.CLK_STAT_STATE : Fd := ⟨Reg.CLK_STAT, 2, 0⟩
def Reg.CLK_WTR : Nat := 0x2F0008
def Fld.CLK_WTR_SEC : Fd := ⟨Reg.CLK_WTR, 5, 0⟩
def Reg.CLK_PSLOPE : Nat := 0x2F000C
def Fld.CLK_PSLOPE_LIMIT : Fd := ⟨Reg.CLK_PSLOPE, 13, 0⟩
def Reg.CLK_PHSTEP : Nat := 0x2F0010
def Fld.CLK_PHSTEP_STEP : Fd := ⟨Reg.CLK_PHSTEP, 31, 0⟩
def Reg.CLK_PSTEP_LAST : Nat := 0x2F0014
def Fld.CLK_PSTEP_LAST_VALUE : Fd := ⟨Reg.CLK_PSTEP_LAST, 31, 0⟩
def Reg.CLK_PHASEREM : Nat := 0x2F0018
def Fld.CLK_PHASEREM_VALUE : Fd := ⟨Reg.CLK_PHASEREM, 31, 0⟩
def Reg.CLK_XOCFG : Nat := 0x2F001C
def Fld.CLK_XOCFG_TRIM : Fd := ⟨Reg.CLK_XOCFG, 23, 0⟩
def Reg.CLK_HOSPEC : Nat := 0x2F0020
def Fld.CLK_HOSPEC_SEC : Fd := ⟨Reg.CLK_HOSPEC, 15, 0⟩
def Reg.CLK_SNAP : Nat := 0x2F0024
def Fld.CLK_SNAP_SNAP : Fd := ⟨Reg.CLK_SNAP, 31, 0⟩
def Reg.CLK_HOFREQ : Nat := 0x2F0028
def Fld.CLK_HOFREQ_FREQ : Fd := ⟨Reg.CLK_HOFREQ, 31, 0⟩
def Reg.CLK_HOTIME : Nat := 0x2F002C
def Fld.CLK_HOTIME_TIME : Fd := ⟨Reg.CLK_HOTIME, 31, 0⟩
def Reg.CLK_REF_CFG03 (j : Nat) : Nat := 0x2F0100 + 0x20 * j
def Fld.CLK_REF_CFG03_PRIO (j : Nat) : Fd := ⟨(Reg.CLK_REF_CFG03 j), 31, 28⟩
def Fld.CLK_REF_CFG03_QL (j : Nat) : Fd := ⟨(Reg.CLK_REF_CFG03 j), 27, 24⟩
def Fld.CLK_REF_CFG03_EDGE (j : Nat) : Fd := ⟨(Reg.CLK_REF_CFG03 j), 0, 0⟩
def Reg.CLK_REF_CFG47 (j : Nat) : Nat := 0x2F0180 + 0x20 * j
def Fld.CLK_REF_CFG47_PRIO (j : Nat) : Fd := ⟨(Reg.CLK_REF_CFG47 j), 31, 28⟩
def Reg.CLK_REF_CFG89 (j : Nat) : Nat := 0x2F0200 + 0x20 * j
def Fld.CLK_REF_CFG89_PRIO (j : Nat) : Fd := ⟨(Reg.CLK_REF_CFG89 j), 31, 28⟩
def Fld.CLK_REF_CFG89_TBSEL (j : Nat) : Fd := ⟨(Reg.CLK_REF_CFG89 j), 17, 16⟩
def Reg.CLK_REF_THR (j : Nat) : Nat := 0x2F0104 + 0x20 * j
def Fld.CLK_REF_THR_WATCH (j : Nat) : Fd := ⟨(Reg.CLK_REF_THR j), 29, 20⟩
def Fld.CLK_REF_THR_WARN (j : Nat) : Fd := ⟨(Reg.CLK_REF_THR j), 19, 10⟩
def Fld.CLK_REF_THR_DISQ (j : Nat) : Fd := ⟨(Reg.CLK_REF_THR j), 9, 0⟩
def Reg.CLK_REF_SUST (j : Nat) : Nat := 0x2F0108 + 0x20 * j
def Fld.CLK_REF_SUST_HYST (j : Nat) : Fd := ⟨(Reg.CLK_REF_SUST j), 23, 16⟩
def Fld.CLK_REF_SUST_UP (j : Nat) : Fd := ⟨(Reg.CLK_REF_SUST j), 15, 8⟩
def Fld.CLK_REF_SUST_DOWN (j : Nat) : Fd := ⟨(Reg.CLK_REF_SUST j), 7, 0⟩
def Reg.CLK_REF_STAT (j : Nat) : Nat := 0x2F010C + 0x20 * j
def Fld.CLK_REF_STAT_WTRRUN (j : Nat) : Fd := ⟨(Reg.CLK_REF_STAT j), 31, 31⟩
def Fld.CLK_REF_STAT_STAGE (j : Nat) : Fd := ⟨(Reg.CLK_REF_STAT j), 30, 28⟩
def Fld.CLK_REF_STAT_QL (j : Nat) : Fd := ⟨(Reg.CLK_REF_STAT j), 27, 24⟩
def Fld.CLK_REF_STAT_MEASFS (j : Nat) : Fd := ⟨(Reg.CLK_REF_STAT j), 23, 20⟩
def Fld.CLK_REF_STAT_WTRLEFT (j : Nat) : Fd := ⟨(Reg.CLK_REF_STAT j), 7, 0⟩
def Reg.CLK_REF_OFFSET (j : Nat) : Nat := 0x2F0110 + 0x20 * j
def Fld.CLK_REF_OFFSET_OFFSET (j : Nat) : Fd := ⟨(Reg.CLK_REF_OFFSET j), 31, 0⟩
def Reg.CLK_CNT_SNAP : Nat := 0x2F0400
def Fld.CLK_CNT_SNAP_SNAP : Fd := ⟨Reg.CLK_CNT_SNAP, 31, 0⟩
def Reg.CLK_SWITCH_CNT : Nat := 0x2F0404
def Fld.CLK_SWITCH_CNT_COUNT : Fd := ⟨Reg.CLK_SWITCH_CNT, 31, 0⟩
def Reg.CLK_HOLD_CNT : Nat := 0x2F0408
def Fld.CLK_HOLD_CNT_COUNT : Fd := ⟨Reg.CLK_HOLD_CNT, 31, 0⟩
def Reg.CLK_CNT_SAT : Nat := 0x2F040C
def Fld.CLK_CNT_SAT_SAT : Fd := ⟨Reg.CLK_CNT_SAT, 1, 0⟩
def Reg.CLK_LOSS_CNT (j : Nat) : Nat := 0x2F0410 + 0x10 * j
def Fld.CLK_LOSS_CNT_COUNT (j : Nat) : Fd := ⟨(Reg.CLK_LOSS_CNT j), 31, 0⟩
def Reg.CLK_GLITCH_CNT (j : Nat) : Nat := 0x2F0414 + 0x10 * j
def Fld.CLK_GLITCH_CNT_COUNT (j : Nat) : Fd := ⟨(Reg.CLK_GLITCH_CNT j), 31, 0⟩
def Reg.CLK_DISQ_CNT (j : Nat) : Nat := 0x2F0418 + 0x10 * j
def Fld.CLK_DISQ_CNT_COUNT (j : Nat) : Fd := ⟨(Reg.CLK_DISQ_CNT j), 31, 0⟩
def Reg.CLK_REF_CNTSAT (j : Nat) : Nat := 0x2F041C + 0x10 * j
def Fld.CLK_REF_CNTSAT_SAT (j : Nat) : Fd := ⟨(Reg.CLK_REF_CNTSAT j), 2, 0⟩
def Reg.PORT_START_CFG (p : Nat) : Nat := portBase p + 0x0
def Fld.PORT_START_CFG_GRP_EN (p : Nat) : Fd := ⟨(Reg.PORT_START_CFG p), 31, 31⟩
def Fld.PORT_START_CFG_AUTO (p : Nat) : Fd := ⟨(Reg.PORT_START_CFG p), 30, 30⟩
def Fld.PORT_START_CFG_GROUP (p : Nat) : Fd := ⟨(Reg.PORT_START_CFG p), 29, 28⟩
def Fld.PORT_START_CFG_METHOD (p : Nat) : Fd := ⟨(Reg.PORT_START_CFG p), 24, 24⟩
def Fld.PORT_START_CFG_ZCTO (p : Nat) : Fd := ⟨(Reg.PORT_START_CFG p), 23, 16⟩
def Fld.PORT_START_CFG_PRECLK (p : Nat) : Fd := ⟨(Reg.PORT_START_CFG p), 15, 0⟩
def Reg.PORT_CMD (p : Nat) : Nat := portBase p + 0x4
def Fld.PORT_CMD_OP (p : Nat) : Fd := ⟨(Reg.PORT_CMD p), 31, 30⟩
def Reg.PORT_STAT (p : Nat) : Nat := portBase p + 0x8
def Fld.PORT_STAT_STATE (p : Nat) : Fd := ⟨(Reg.PORT_STAT p), 31, 28⟩
def Fld.PORT_STAT_REASON (p : Nat) : Fd := ⟨(Reg.PORT_STAT p), 27, 24⟩
def Fld.PORT_STAT_LOCK (p : Nat) : Fd := ⟨(Reg.PORT_STAT p), 23, 23⟩
def Fld.PORT_STAT_PHASE (p : Nat) : Fd := ⟨(Reg.PORT_STAT p), 15, 0⟩
def Reg.PORT_CNT_SNAP (p : Nat) : Nat := portBase p + 0x80
def Fld.PORT_CNT_SNAP_SNAP (p : Nat) : Fd := ⟨(Reg.PORT_CNT_SNAP p), 31, 0⟩
def Reg.PORT_FRAMES_LO (p : Nat) : Nat := portBase p + 0x84
def Fld.PORT_FRAMES_LO_COUNT (p : Nat) : Fd := ⟨(Reg.PORT_FRAMES_LO p), 31, 0⟩
def Reg.PORT_FRAMES_HI (p : Nat) : Nat := portBase p + 0x88
def Fld.PORT_FRAMES_HI_COUNT (p : Nat) : Fd := ⟨(Reg.PORT_FRAMES_HI p), 31, 0⟩
def Reg.PORT_CNT32 (p j : Nat) : Nat := portBase p + 0x8C + 0x4 * j
def Fld.PORT_CNT32_COUNT (p j : Nat) : Fd := ⟨(Reg.PORT_CNT32 p j), 31, 0⟩
def Reg.PORT_CNT_SAT (p : Nat) : Nat := portBase p + 0xAC
def Fld.PORT_CNT_SAT_SAT (p : Nat) : Fd := ⟨(Reg.PORT_CNT_SAT p), 7, 0⟩
def Reg.TDM_CFG (i : Nat) : Nat := 0x300010 + 0x10000 * i
def Fld.TDM_CFG_MASTER (i : Nat) : Fd := ⟨(Reg.TDM_CFG i), 31, 31⟩
def Fld.TDM_CFG_CLAIMRX (i : Nat) : Fd := ⟨(Reg.TDM_CFG i), 30, 30⟩
def Fld.TDM_CFG_CLAIMTX (i : Nat) : Fd := ⟨(Reg.TDM_CFG i), 29, 29⟩
def Fld.TDM_CFG_TRIS (i : Nat) : Fd := ⟨(Reg.TDM_CFG i), 28, 28⟩
def Fld.TDM_CFG_SWIDTH (i : Nat) : Fd := ⟨(Reg.TDM_CFG i), 27, 26⟩
def Fld.TDM_CFG_OFFSET (i : Nat) : Fd := ⟨(Reg.TDM_CFG i), 25, 21⟩
def Fld.TDM_CFG_SLOTS (i : Nat) : Fd := ⟨(Reg.TDM_CFG i), 20, 16⟩
def Fld.TDM_CFG_FLEN (i : Nat) : Fd := ⟨(Reg.TDM_CFG i), 15, 12⟩
def Fld.TDM_CFG_FSW (i : Nat) : Fd := ⟨(Reg.TDM_CFG i), 11, 11⟩
def Fld.TDM_CFG_FSPOL (i : Nat) : Fd := ⟨(Reg.TDM_CFG i), 10, 10⟩
def Fld.TDM_CFG_BCKEDGE (i : Nat) : Fd := ⟨(Reg.TDM_CFG i), 9, 9⟩
def Fld.TDM_CFG_CSLOT (i : Nat) : Fd := ⟨(Reg.TDM_CFG i), 8, 4⟩
def Reg.TDM_PHASE (i : Nat) : Nat := 0x300014 + 0x10000 * i
def Fld.TDM_PHASE_PHTOL (i : Nat) : Fd := ⟨(Reg.TDM_PHASE i), 15, 12⟩
def Fld.TDM_PHASE_FSOFF (i : Nat) : Fd := ⟨(Reg.TDM_PHASE i), 10, 0⟩
def Reg.TDM_MASK_RX_SHD (i : Nat) : Nat := 0x300018 + 0x10000 * i
def Fld.TDM_MASK_RX_SHD_MASK (i : Nat) : Fd := ⟨(Reg.TDM_MASK_RX_SHD i), 31, 0⟩
def Reg.TDM_MASK_TX_SHD (i : Nat) : Nat := 0x30001C + 0x10000 * i
def Fld.TDM_MASK_TX_SHD_MASK (i : Nat) : Fd := ⟨(Reg.TDM_MASK_TX_SHD i), 31, 0⟩
def Reg.TDM_MASK_RX_ACT (i : Nat) : Nat := 0x300020 + 0x10000 * i
def Fld.TDM_MASK_RX_ACT_MASK (i : Nat) : Fd := ⟨(Reg.TDM_MASK_RX_ACT i), 31, 0⟩
def Reg.TDM_MASK_TX_ACT (i : Nat) : Nat := 0x300024 + 0x10000 * i
def Fld.TDM_MASK_TX_ACT_MASK (i : Nat) : Fd := ⟨(Reg.TDM_MASK_TX_ACT i), 31, 0⟩
def Reg.TDM_CLAIM_STAT (i : Nat) : Nat := 0x300028 + 0x10000 * i
def Fld.TDM_CLAIM_STAT_VALIDB (i : Nat) : Fd := ⟨(Reg.TDM_CLAIM_STAT i), 9, 9⟩
def Fld.TDM_CLAIM_STAT_VALIDA (i : Nat) : Fd := ⟨(Reg.TDM_CLAIM_STAT i), 8, 8⟩
def Fld.TDM_CLAIM_STAT_ACCEPTED (i : Nat) : Fd := ⟨(Reg.TDM_CLAIM_STAT i), 7, 6⟩
def Fld.TDM_CLAIM_STAT_FADING (i : Nat) : Fd := ⟨(Reg.TDM_CLAIM_STAT i), 5, 5⟩
def Fld.TDM_CLAIM_STAT_LATCHED (i : Nat) : Fd := ⟨(Reg.TDM_CLAIM_STAT i), 4, 4⟩
def Fld.TDM_CLAIM_STAT_HELD (i : Nat) : Fd := ⟨(Reg.TDM_CLAIM_STAT i), 3, 0⟩
def Reg.TDM_CLAIM_LATCH (i : Nat) : Nat := 0x30002C + 0x10000 * i
def Fld.TDM_CLAIM_LATCH_LC (i : Nat) : Fd := ⟨(Reg.TDM_CLAIM_LATCH i), 31, 0⟩
def Reg.GRP_ROW (j : Nat) : Nat := 0x300100 + 0x10 * j
def Fld.GRP_ROW_ROW (j : Nat) : Fd := ⟨(Reg.GRP_ROW j), 31, 0⟩
def Reg.GRP_CMD (j : Nat) : Nat := 0x300104 + 0x10 * j
def Fld.GRP_CMD_OP (j : Nat) : Fd := ⟨(Reg.GRP_CMD j), 31, 30⟩
def Fld.GRP_CMD_PIN (j : Nat) : Fd := ⟨(Reg.GRP_CMD j), 29, 29⟩
def Reg.GRP_STAT (j : Nat) : Nat := 0x300108 + 0x10 * j
def Fld.GRP_STAT_RESULT (j : Nat) : Fd := ⟨(Reg.GRP_STAT j), 31, 28⟩
def Reg.AESI_RX_MODE (i : Nat) : Nat := 0x40100C + 0x100 * i
def Fld.AESI_RX_MODE_W20 (i : Nat) : Fd := ⟨(Reg.AESI_RX_MODE i), 2, 2⟩
def Fld.AESI_RX_MODE_VZERO (i : Nat) : Fd := ⟨(Reg.AESI_RX_MODE i), 1, 1⟩
def Fld.AESI_RX_MODE_TRANSP (i : Nat) : Fd := ⟨(Reg.AESI_RX_MODE i), 0, 0⟩
def Reg.AESI_RX_INFO (i : Nat) : Nat := 0x401010 + 0x100 * i
def Fld.AESI_RX_INFO_NONAUDIO (i : Nat) : Fd := ⟨(Reg.AESI_RX_INFO i), 31, 31⟩
def Fld.AESI_RX_INFO_V (i : Nat) : Fd := ⟨(Reg.AESI_RX_INFO i), 30, 30⟩
def Fld.AESI_RX_INFO_CSVALID (i : Nat) : Fd := ⟨(Reg.AESI_RX_INFO i), 29, 29⟩
def Fld.AESI_RX_INFO_MEASFS (i : Nat) : Fd := ⟨(Reg.AESI_RX_INFO i), 23, 20⟩
def Reg.AESI_RX_CS (i j : Nat) : Nat := 0x401014 + 0x100 * i + 0x4 * j
def Fld.AESI_RX_CS_BYTES (i j : Nat) : Fd := ⟨(Reg.AESI_RX_CS i j), 31, 0⟩
def Reg.AESO_TX_MODE (i : Nat) : Nat := 0x40200C + 0x100 * i
def Fld.AESO_TX_MODE_AUTOFS (i : Nat) : Fd := ⟨(Reg.AESO_TX_MODE i), 1, 1⟩
def Fld.AESO_TX_MODE_TRANSP (i : Nat) : Fd := ⟨(Reg.AESO_TX_MODE i), 0, 0⟩
def Reg.AESO_TX_CS (i j : Nat) : Nat := 0x402014 + 0x100 * i + 0x4 * j
def Fld.AESO_TX_CS_BYTES (i j : Nat) : Fd := ⟨(Reg.AESO_TX_CS i j), 31, 0⟩
def Reg.AESO_TX_CS5 (i : Nat) : Nat := 0x402028 + 0x100 * i
def Fld.AESO_TX_CS5_BYTES (i : Nat) : Fd := ⟨(Reg.AESO_TX_CS5 i), 23, 0⟩
def Reg.MADI_CFG (i : Nat) : Nat := 0x410010 + 0x10000 * i
def Fld.MADI_CFG_AUTOFS (i : Nat) : Fd := ⟨(Reg.MADI_CFG i), 1, 1⟩
def Fld.MADI_CFG_CH56 (i : Nat) : Fd := ⟨(Reg.MADI_CFG i), 0, 0⟩
def Reg.MADI_RX_ACT (i j : Nat) : Nat := 0x410014 + 0x10000 * i + 0x4 * j
def Fld.MADI_RX_ACT_CH (i j : Nat) : Fd := ⟨(Reg.MADI_RX_ACT i j), 31, 0⟩
def Reg.MADI_MASK_RX_SHD (i j : Nat) : Nat := 0x41001C + 0x10000 * i + 0x4 * j
def Fld.MADI_MASK_RX_SHD_CH (i j : Nat) : Fd := ⟨(Reg.MADI_MASK_RX_SHD i j), 31, 0⟩
def Reg.MADI_MASK_TX_SHD (i j : Nat) : Nat := 0x410024 + 0x10000 * i + 0x4 * j
def Fld.MADI_MASK_TX_SHD_CH (i j : Nat) : Fd := ⟨(Reg.MADI_MASK_TX_SHD i j), 31, 0⟩
def Reg.MADI_MASK_RX_ACT (i j : Nat) : Nat := 0x41002C + 0x10000 * i + 0x4 * j
def Fld.MADI_MASK_RX_ACT_CH (i j : Nat) : Fd := ⟨(Reg.MADI_MASK_RX_ACT i j), 31, 0⟩
def Reg.MADI_MASK_TX_ACT (i j : Nat) : Nat := 0x410034 + 0x10000 * i + 0x4 * j
def Fld.MADI_MASK_TX_ACT_CH (i j : Nat) : Fd := ⟨(Reg.MADI_MASK_TX_ACT i j), 31, 0⟩
def Reg.MADI_TX_CS (i j : Nat) : Nat := 0x410040 + 0x10000 * i + 0x4 * j
def Fld.MADI_TX_CS_BYTES (i j : Nat) : Fd := ⟨(Reg.MADI_TX_CS i j), 31, 0⟩
def Reg.MADI_TX_CS5 (i : Nat) : Nat := 0x410054 + 0x10000 * i
def Fld.MADI_TX_CS5_BYTES (i : Nat) : Fd := ⟨(Reg.MADI_TX_CS5 i), 23, 0⟩
def Reg.LNK_STAT : Nat := 0x430000
def Fld.LNK_STAT_REPLAY : Fd := ⟨Reg.LNK_STAT, 2, 2⟩
def Fld.LNK_STAT_SAG : Fd := ⟨Reg.LNK_STAT, 1, 1⟩
def Fld.LNK_STAT_LOCK : Fd := ⟨Reg.LNK_STAT, 0, 0⟩
def Reg.LNK_CNT_SNAP : Nat := 0x430010
def Fld.LNK_CNT_SNAP_SNAP : Fd := ⟨Reg.LNK_CNT_SNAP, 31, 0⟩
def Reg.LNK_ERRCNT (j : Nat) : Nat := 0x430014 + 0x4 * j
def Fld.LNK_ERRCNT_COUNT (j : Nat) : Fd := ⟨(Reg.LNK_ERRCNT j), 31, 0⟩
def Reg.LNK_CNT_SAT : Nat := 0x430020
def Fld.LNK_CNT_SAT_SAT : Fd := ⟨Reg.LNK_CNT_SAT, 2, 0⟩
def Reg.TWN_CFG : Nat := 0x440000
def Fld.TWN_CFG_EN : Fd := ⟨Reg.TWN_CFG, 31, 31⟩
def Fld.TWN_CFG_RSTEN : Fd := ⟨Reg.TWN_CFG, 30, 30⟩
def Fld.TWN_CFG_UNIT : Fd := ⟨Reg.TWN_CFG, 29, 29⟩
def Fld.TWN_CFG_PAIRID : Fd := ⟨Reg.TWN_CFG, 23, 8⟩
def Fld.TWN_CFG_PRIO : Fd := ⟨Reg.TWN_CFG, 3, 0⟩
def Reg.TWN_CFG2 : Nat := 0x440004
def Fld.TWN_CFG2_SETTLE : Fd := ⟨Reg.TWN_CFG2, 31, 16⟩
def Fld.TWN_CFG2_LINKTO : Fd := ⟨Reg.TWN_CFG2, 15, 8⟩
def Fld.TWN_CFG2_REFNET : Fd := ⟨Reg.TWN_CFG2, 1, 0⟩
def Reg.TWN_CTL : Nat := 0x440008
def Fld.TWN_CTL_JOIN : Fd := ⟨Reg.TWN_CTL, 0, 0⟩
def Reg.TWN_GEN0 : Nat := 0x44000C
def Fld.TWN_GEN0_GEN : Fd := ⟨Reg.TWN_GEN0, 27, 0⟩
def Reg.TWN_STAT : Nat := 0x440010
def Fld.TWN_STAT_STATE : Fd := ⟨Reg.TWN_STAT, 31, 28⟩
def Fld.TWN_STAT_REASON : Fd := ⟨Reg.TWN_STAT, 27, 24⟩
def Fld.TWN_STAT_SKEW : Fd := ⟨Reg.TWN_STAT, 11, 11⟩
def Fld.TWN_STAT_DIV : Fd := ⟨Reg.TWN_STAT, 10, 10⟩
def Fld.TWN_STAT_PALIVE : Fd := ⟨Reg.TWN_STAT, 9, 9⟩
def Fld.TWN_STAT_ESTAB : Fd := ⟨Reg.TWN_STAT, 8, 8⟩
def Fld.TWN_STAT_TLUP : Fd := ⟨Reg.TWN_STAT, 2, 2⟩
def Fld.TWN_STAT_LANE5 : Fd := ⟨Reg.TWN_STAT, 1, 1⟩
def Fld.TWN_STAT_LANE4 : Fd := ⟨Reg.TWN_STAT, 0, 0⟩
def Reg.TWN_CLAIM : Nat := 0x440014
def Fld.TWN_CLAIM_VALUE : Fd := ⟨Reg.TWN_CLAIM, 31, 0⟩
def Reg.TWN_PCLAIM : Nat := 0x440018
def Fld.TWN_PCLAIM_VALUE : Fd := ⟨Reg.TWN_PCLAIM, 31, 0⟩
def Reg.TWN_TICKOFF : Nat := 0x44001C
def Fld.TWN_TICKOFF_VALUE : Fd := ⟨Reg.TWN_TICKOFF, 31, 0⟩
def Reg.TWN_LINKDLY : Nat := 0x440020
def Fld.TWN_LINKDLY_VALUE : Fd := ⟨Reg.TWN_LINKDLY, 31, 0⟩
def Reg.TWN_GRANTSEQ : Nat := 0x440024
def Fld.TWN_GRANTSEQ_SEQ : Fd := ⟨Reg.TWN_GRANTSEQ, 31, 0⟩
def Reg.TWN_GRANTRES : Nat := 0x440028
def Fld.TWN_GRANTRES_RES : Fd := ⟨Reg.TWN_GRANTRES, 3, 0⟩
def Reg.TWN_REFIP : Nat := 0x440030
def Fld.TWN_REFIP_ADDR : Fd := ⟨Reg.TWN_REFIP, 31, 0⟩
def Reg.TWN_REFMAC_LO : Nat := 0x440034
def Fld.TWN_REFMAC_LO_ADDR : Fd := ⟨Reg.TWN_REFMAC_LO, 31, 0⟩
def Reg.TWN_REFCTL : Nat := 0x440038
def Fld.TWN_REFCTL_MAC01 : Fd := ⟨Reg.TWN_REFCTL, 31, 16⟩
def Fld.TWN_REFCTL_REFPORT : Fd := ⟨Reg.TWN_REFCTL, 15, 0⟩
def Reg.TWN_TICKTOL : Nat := 0x44003C
def Fld.TWN_TICKTOL_TOL : Fd := ⟨Reg.TWN_TICKTOL, 11, 0⟩
def Reg.TWN_KEY (j : Nat) : Nat := 0x440040 + 0x4 * j
def Fld.TWN_KEY_KEY (j : Nat) : Fd := ⟨(Reg.TWN_KEY j), 31, 0⟩
def Reg.TWN_CNT_SNAP : Nat := 0x440080
def Fld.TWN_CNT_SNAP_SNAP : Fd := ⟨Reg.TWN_CNT_SNAP, 31, 0⟩
def Reg.TWN_CNT32 (j : Nat) : Nat := 0x440084 + 0x4 * j
def Fld.TWN_CNT32_COUNT (j : Nat) : Fd := ⟨(Reg.TWN_CNT32 j), 31, 0⟩
def Reg.TWN_CNT_SAT : Nat := 0x4400A0
def Fld.TWN_CNT_SAT_SAT : Fd := ⟨Reg.TWN_CNT_SAT, 6, 0⟩
def Reg.REF_CFG : Nat := 0x450000
def Fld.REF_CFG_EN : Fd := ⟨Reg.REF_CFG, 31, 31⟩
def Fld.REF_CFG_DIVACT : Fd := ⟨Reg.REF_CFG, 30, 30⟩
def Fld.REF_CFG_RSTACT : Fd := ⟨Reg.REF_CFG, 29, 29⟩
def Fld.REF_CFG_MISS : Fd := ⟨Reg.REF_CFG, 22, 16⟩
def Fld.REF_CFG_HOLDOFF : Fd := ⟨Reg.REF_CFG, 15, 0⟩
def Reg.REF_PORT : Nat := 0x450004
def Fld.REF_PORT_PORT : Fd := ⟨Reg.REF_PORT, 15, 0⟩
def Reg.REF_CNT_SNAP : Nat := 0x450080
def Fld.REF_CNT_SNAP_SNAP : Fd := ⟨Reg.REF_CNT_SNAP, 31, 0⟩
def Reg.REF_CNT32 (j : Nat) : Nat := 0x450084 + 0x4 * j
def Fld.REF_CNT32_COUNT (j : Nat) : Fd := ⟨(Reg.REF_CNT32 j), 31, 0⟩
def Reg.REF_CNT_SAT : Nat := 0x450090
def Fld.REF_CNT_SAT_SAT : Fd := ⟨Reg.REF_CNT_SAT, 2, 0⟩
def Reg.REF_PCFG (j : Nat) : Nat := 0x450100 + 0x40 * j
def Fld.REF_PCFG_EN (j : Nat) : Fd := ⟨(Reg.REF_PCFG j), 31, 31⟩
def Fld.REF_PCFG_PORT (j : Nat) : Fd := ⟨(Reg.REF_PCFG j), 25, 24⟩
def Fld.REF_PCFG_PAIRID (j : Nat) : Fd := ⟨(Reg.REF_PCFG j), 15, 0⟩
def Reg.REF_IPA (j : Nat) : Nat := 0x450104 + 0x40 * j
def Fld.REF_IPA_ADDR (j : Nat) : Fd := ⟨(Reg.REF_IPA j), 31, 0⟩
def Reg.REF_IPB (j : Nat) : Nat := 0x450108 + 0x40 * j
def Fld.REF_IPB_ADDR (j : Nat) : Fd := ⟨(Reg.REF_IPB j), 31, 0⟩
def Reg.REF_MACA_LO (j : Nat) : Nat := 0x45010C + 0x40 * j
def Fld.REF_MACA_LO_ADDR (j : Nat) : Fd := ⟨(Reg.REF_MACA_LO j), 31, 0⟩
def Reg.REF_MACB_LO (j : Nat) : Nat := 0x450110 + 0x40 * j
def Fld.REF_MACB_LO_ADDR (j : Nat) : Fd := ⟨(Reg.REF_MACB_LO j), 31, 0⟩
def Reg.REF_MAC_HI (j : Nat) : Nat := 0x450114 + 0x40 * j
def Fld.REF_MAC_HI_A (j : Nat) : Fd := ⟨(Reg.REF_MAC_HI j), 31, 16⟩
def Fld.REF_MAC_HI_B (j : Nat) : Fd := ⟨(Reg.REF_MAC_HI j), 15, 0⟩
def Reg.REF_PSTAT (j : Nat) : Nat := 0x450118 + 0x40 * j
def Fld.REF_PSTAT_STA (j : Nat) : Fd := ⟨(Reg.REF_PSTAT j), 31, 28⟩
def Fld.REF_PSTAT_STB (j : Nat) : Fd := ⟨(Reg.REF_PSTAT j), 27, 24⟩
def Fld.REF_PSTAT_MISSA (j : Nat) : Fd := ⟨(Reg.REF_PSTAT j), 23, 16⟩
def Fld.REF_PSTAT_MISSB (j : Nat) : Fd := ⟨(Reg.REF_PSTAT j), 15, 8⟩
def Fld.REF_PSTAT_LASTDEC (j : Nat) : Fd := ⟨(Reg.REF_PSTAT j), 7, 4⟩
def Reg.REF_GMAX (j : Nat) : Nat := 0x45011C + 0x40 * j
def Fld.REF_GMAX_GMAX (j : Nat) : Fd := ⟨(Reg.REF_GMAX j), 27, 0⟩
def Reg.REF_KEY (j k : Nat) : Nat := 0x450120 + 0x40 * j + 0x4 * k
def Fld.REF_KEY_KEY (j k : Nat) : Fd := ⟨(Reg.REF_KEY j k), 31, 0⟩
def Reg.PWR_CTL : Nat := 0x460000
def Fld.PWR_CTL_LOOKAHEAD : Fd := ⟨Reg.PWR_CTL, 23, 16⟩
def Fld.PWR_CTL_XFEN : Fd := ⟨Reg.PWR_CTL, 1, 1⟩
def Fld.PWR_CTL_BOOSTEN : Fd := ⟨Reg.PWR_CTL, 0, 0⟩
def Reg.PWR_STAT : Nat := 0x460004
def Fld.PWR_STAT_BSTATE : Fd := ⟨Reg.PWR_STAT, 31, 28⟩
def Fld.PWR_STAT_LIMIT : Fd := ⟨Reg.PWR_STAT, 27, 27⟩
def Fld.PWR_STAT_LIMATT : Fd := ⟨Reg.PWR_STAT, 7, 0⟩
def Reg.PWR_BOOST_CFG : Nat := 0x460008
def Fld.PWR_BOOST_CFG_RAILMAX : Fd := ⟨Reg.PWR_BOOST_CFG, 31, 24⟩
def Fld.PWR_BOOST_CFG_RAILMIN : Fd := ⟨Reg.PWR_BOOST_CFG, 23, 16⟩
def Fld.PWR_BOOST_CFG_HEAD : Fd := ⟨Reg.PWR_BOOST_CFG, 15, 8⟩
def Fld.PWR_BOOST_CFG_HEAD0 : Fd := ⟨Reg.PWR_BOOST_CFG, 7, 0⟩
def Reg.PWR_BOOST_SLEW : Nat := 0x46000C
def Fld.PWR_BOOST_SLEW_RISE : Fd := ⟨Reg.PWR_BOOST_SLEW, 15, 8⟩
def Fld.PWR_BOOST_SLEW_IINLIM : Fd := ⟨Reg.PWR_BOOST_SLEW, 7, 0⟩
def Reg.PWR_XF_STAT : Nat := 0x460010
def Fld.PWR_XF_STAT_LOCK : Fd := ⟨Reg.PWR_XF_STAT, 31, 31⟩
def Fld.PWR_XF_STAT_CHMASK : Fd := ⟨Reg.PWR_XF_STAT, 23, 16⟩
def Reg.PWR_XF_CLAIM : Nat := 0x460014
def Fld.PWR_XF_CLAIM_CLAIM : Fd := ⟨Reg.PWR_XF_CLAIM, 31, 0⟩
def Reg.PWR_CNT_SNAP : Nat := 0x460020
def Fld.PWR_CNT_SNAP_SNAP : Fd := ⟨Reg.PWR_CNT_SNAP, 31, 0⟩
def Reg.PWR_LIMIT_CNT : Nat := 0x460024
def Fld.PWR_LIMIT_CNT_COUNT : Fd := ⟨Reg.PWR_LIMIT_CNT, 31, 0⟩
def Reg.PWR_BUSLOW_CNT : Nat := 0x460028
def Fld.PWR_BUSLOW_CNT_COUNT : Fd := ⟨Reg.PWR_BUSLOW_CNT, 31, 0⟩
def Reg.PWR_XFCRC : Nat := 0x46002C
def Fld.PWR_XFCRC_COUNT : Fd := ⟨Reg.PWR_XFCRC, 31, 0⟩
def Reg.PWR_XFSYNC : Nat := 0x460030
def Fld.PWR_XFSYNC_COUNT : Fd := ⟨Reg.PWR_XFSYNC, 31, 0⟩
def Reg.PWR_CNT_SAT : Nat := 0x460034
def Fld.PWR_CNT_SAT_SAT : Fd := ⟨Reg.PWR_CNT_SAT, 3, 0⟩
def Reg.PWR_CH_CFG (j : Nat) : Nat := 0x461000 + 0x100 * j
def Fld.PWR_CH_CFG_VFS (j : Nat) : Fd := ⟨(Reg.PWR_CH_CFG j), 31, 22⟩
def Fld.PWR_CH_CFG_IDLEF (j : Nat) : Fd := ⟨(Reg.PWR_CH_CFG j), 15, 8⟩
def Fld.PWR_CH_CFG_DEADT (j : Nat) : Fd := ⟨(Reg.PWR_CH_CFG j), 3, 0⟩
def Reg.PWR_CH_ILIM (j : Nat) : Nat := 0x461004 + 0x100 * j
def Fld.PWR_CH_ILIM_ILIM (j : Nat) : Fd := ⟨(Reg.PWR_CH_ILIM j), 7, 0⟩
def Reg.PWR_CH_CMD (j : Nat) : Nat := 0x461008 + 0x100 * j
def Fld.PWR_CH_CMD_OP (j : Nat) : Fd := ⟨(Reg.PWR_CH_CMD j), 1, 0⟩
def Reg.PWR_CH_STAT (j : Nat) : Nat := 0x46100C + 0x100 * j
def Fld.PWR_CH_STAT_STATE (j : Nat) : Fd := ⟨(Reg.PWR_CH_STAT j), 31, 28⟩
def Fld.PWR_CH_STAT_SRC (j : Nat) : Fd := ⟨(Reg.PWR_CH_STAT j), 27, 26⟩
def Fld.PWR_CH_STAT_FADING (j : Nat) : Fd := ⟨(Reg.PWR_CH_STAT j), 25, 25⟩
def Fld.PWR_CH_STAT_HELD (j : Nat) : Fd := ⟨(Reg.PWR_CH_STAT j), 24, 24⟩
def Fld.PWR_CH_STAT_CORRSAT (j : Nat) : Fd := ⟨(Reg.PWR_CH_STAT j), 23, 23⟩
def Fld.PWR_CH_STAT_ZVALID (j : Nat) : Fd := ⟨(Reg.PWR_CH_STAT j), 22, 22⟩
def Fld.PWR_CH_STAT_TRIPWIN (j : Nat) : Fd := ⟨(Reg.PWR_CH_STAT j), 9, 8⟩
def Fld.PWR_CH_STAT_HELDROWS (j : Nat) : Fd := ⟨(Reg.PWR_CH_STAT j), 7, 0⟩
def Reg.PWR_CH_LATCH (j : Nat) : Nat := 0x461010 + 0x100 * j
def Fld.PWR_CH_LATCH_LC (j : Nat) : Fd := ⟨(Reg.PWR_CH_LATCH j), 31, 0⟩
def Reg.PWR_CH_CORR (j : Nat) : Nat := 0x461014 + 0x100 * j
def Fld.PWR_CH_CORR_GAIN (j : Nat) : Fd := ⟨(Reg.PWR_CH_CORR j), 31, 16⟩
def Fld.PWR_CH_CORR_OFFSET (j : Nat) : Fd := ⟨(Reg.PWR_CH_CORR j), 15, 0⟩
def Reg.PWR_CH_CORRCFG (j : Nat) : Nat := 0x461018 + 0x100 * j
def Fld.PWR_CH_CORRCFG_EN (j : Nat) : Fd := ⟨(Reg.PWR_CH_CORRCFG j), 0, 0⟩
def Reg.PWR_CH_Z (j : Nat) : Nat := 0x46101C + 0x100 * j
def Fld.PWR_CH_Z_ZEST (j : Nat) : Fd := ⟨(Reg.PWR_CH_Z j), 15, 0⟩
def Reg.PWR_CH_ZLIM (j : Nat) : Nat := 0x461020 + 0x100 * j
def Fld.PWR_CH_ZLIM_ZHI (j : Nat) : Fd := ⟨(Reg.PWR_CH_ZLIM j), 31, 16⟩
def Fld.PWR_CH_ZLIM_ZLO (j : Nat) : Fd := ⟨(Reg.PWR_CH_ZLIM j), 15, 0⟩
def Reg.PWR_CH_CNT_SNAP (j : Nat) : Nat := 0x461040 + 0x100 * j
def Fld.PWR_CH_CNT_SNAP_SNAP (j : Nat) : Fd := ⟨(Reg.PWR_CH_CNT_SNAP j), 31, 0⟩
def Reg.PWR_CH_LIMCYC_LO (j : Nat) : Nat := 0x461044 + 0x100 * j
def Fld.PWR_CH_LIMCYC_LO_COUNT (j : Nat) : Fd := ⟨(Reg.PWR_CH_LIMCYC_LO j), 31, 0⟩
def Reg.PWR_CH_LIMCYC_HI (j : Nat) : Nat := 0x461048 + 0x100 * j
def Fld.PWR_CH_LIMCYC_HI_COUNT (j : Nat) : Fd := ⟨(Reg.PWR_CH_LIMCYC_HI j), 31, 0⟩
def Reg.PWR_CH_CNT32 (j k : Nat) : Nat := 0x46104C + 0x100 * j + 0x4 * k
def Fld.PWR_CH_CNT32_COUNT (j k : Nat) : Fd := ⟨(Reg.PWR_CH_CNT32 j k), 31, 0⟩
def Reg.PWR_CH_CNT_SAT (j : Nat) : Nat := 0x461060 + 0x100 * j
def Fld.PWR_CH_CNT_SAT_SAT (j : Nat) : Fd := ⟨(Reg.PWR_CH_CNT_SAT j), 4, 0⟩
def Reg.PWR_XFO_CTL : Nat := 0x468000
def Fld.PWR_XFO_CTL_EN : Fd := ⟨Reg.PWR_XFO_CTL, 0, 0⟩
def Reg.PWR_TLM (j : Nat) : Nat := 0x468100 + 0x4 * j
def Fld.PWR_TLM_VALUE (j : Nat) : Fd := ⟨(Reg.PWR_TLM j), 31, 0⟩
def Fld.LANE_CFG_EN (i : Nat) : Fd := ⟨Reg.LANE_CFG i, 5, 5⟩

/-! ### Address look-up -/

/-- The registers of the 64 KiB window number `w` of W0 (R614). -/
def windowRegs (w : Nat) : List RegDesc :=
  if w = 0x0 then (regsHIF) else
  if w = 0x1 then (regsRING) else
  if w = 0x2 then (regsXLT) else
  if w = 0x3 then (regsEVT) else
  if w = 0x4 then (regsMBX) else
  if w = 0x5 then (regsBOOT) else
  if w = 0x6 then (regsSUP) else
  if w = 0x7 then (regsSWT) else
  if w = 0x8 then (regsENG) else
  if 0x9 ≤ w ∧ w ≤ 0x18 then (regsCLU) else
  if w = 0x19 then (regsMTX) else
  if w = 0x1A then (regsDLY) else
  if w = 0x1B then (regsSST) else
  if w = 0x1C then (regsFAB) else
  if 0x20 ≤ w ∧ w ≤ 0x23 then (if w = 0x20 then regsNET0 ++ regsNET else regsNET) else
  if 0x24 ≤ w ∧ w ≤ 0x29 then (if w < 0x28 then regsLANE03 ++ regsLANE else regsLANE45 ++ regsLANE) else
  if w = 0x2A then (regsSTR) else
  if 0x2B ≤ w ∧ w ≤ 0x2E then (if w = 0x2B then regsTB0 ++ regsTB else regsTB) else
  if w = 0x2F then (regsCLK) else
  if 0x30 ≤ w ∧ w ≤ 0x3F then (if w = 0x30 then regsTDM0 ++ regsTDM else regsTDM) else
  if w = 0x40 then (regsAES) else
  if 0x41 ≤ w ∧ w ≤ 0x42 then (regsMADI) else
  if w = 0x43 then (regsLNK) else
  if w = 0x44 then (regsTWN) else
  if w = 0x45 then (regsREF) else
  if w = 0x46 then (regsPWR) else
  []

/-- Does offset `o` of the block lie on the row's register? -/
def RegDesc.hits (d : RegDesc) (o : Nat) : Bool :=
  decide (d.off ≤ o) && decide ((o - d.off) / d.s1 < d.n1) &&
    decide ((o - d.off) % d.s1 / d.s2 < d.n2) && decide ((o - d.off) % d.s1 % d.s2 = 0)

/-- The row of R615 that lists W0 address `a`, if any. -/
def regDesc (a : Nat) : Option RegDesc :=
  (windowRegs (a / 0x10000)).find? (fun d => d.hits (a % 0x10000))

/-- The reset word that a row's fields make (R11). -/
def RegDesc.resetOf (d : RegDesc) : Nat :=
  d.fields.foldl (fun n f => n + f.reset * 2 ^ f.lsb) 0

/-- Base of the shadow words of flow slot `k` (0 to 255 receive, 256 to 511 transmit), which the host reaches
through STR.FSEL and FCFG0 to FCFG12; an address of the model's own beyond W0 (log entry 6). -/
def fcfgBase : Nat := 0x1000000

/-- Reset words of the flow configuration, word number `w` (FCFG table of the streams chapter). -/
def fcfgReset (w : Nat) : Nat :=
  if w = 0 then 0x00010000 else if w = 1 then 0x0DA00001 else if w = 7 then 0x006040B8
  else if w = 9 then 0x00010000 else if w = 12 then 0x20000000 else 0

/-- Base of the forwarding-table entries that NET0.FDB_SEL, FDB_LO, FDB_HI and FDB_MAC reach; 16 bytes per entry, an
address of the model's own beyond W0 (log entry 6). -/
def fdbBase : Nat := 0x1100000

/-- Reset value of the word at `a`: the Reset column of its row; CLU_INFO and CORE_STAT.PHYS depend on the index. -/
def resetNat (a : Nat) : Nat :=
  if 0x1000000 ≤ a then (if a < 0x1008000 then fcfgReset (a % 0x40 / 4) else 0)
  else if 0x90000 ≤ a ∧ a < 0x190000 ∧ a % 0x10000 = 0 then (a / 0x10000 - 9) + (a / 0x10000 - 9) / 4 * 256
  else if 0x90000 ≤ a ∧ a < 0x190000 ∧ 0x1000 ≤ a % 0x10000 ∧ a % 0x10000 < 0x1800 ∧ a % 0x100 = 4 then
    (8 * (a / 0x10000 - 9) + a % 0x10000 / 0x100 - 0x10) * 0x100000
  else match regDesc a with
    | some d => d.resetOf
    | none => 0

/-- Reset value of the word at `a`. -/
def resetWord (a : Nat) : Word := BitVec.ofNat 32 (resetNat a)

end Sys2Proof.Machine
end

