-- ==== Sys2Proof/Machine/Types.lean ====
section
/-! DEFINITION. Plain data types of the state that several blocks share: the lane vectors, banks, results in flight and
cores of the engine. -/

namespace Sys2Proof.Machine

/-- Eight lanes (R51). -/
structure V8 (α : Type) where
  l0 : α
  l1 : α
  l2 : α
  l3 : α
  l4 : α
  l5 : α
  l6 : α
  l7 : α
  deriving DecidableEq, Repr

/-- The same value in every lane. -/
def vBroadcast {α : Type} (x : α) : V8 α := ⟨x, x, x, x, x, x, x, x⟩

/-- Lane `i`. -/
def vLane {α : Type} (v : V8 α) (i : Fin 8) : α :=
  match i with
  | 0 => v.l0 | 1 => v.l1 | 2 => v.l2 | 3 => v.l3 | 4 => v.l4 | 5 => v.l5 | 6 => v.l6 | 7 => v.l7

/-- The vector whose lane `i` is `f i`. -/
def vOf {α : Type} (f : Fin 8 → α) : V8 α := ⟨f 0, f 1, f 2, f 3, f 4, f 5, f 6, f 7⟩

/-- The lanes in order. -/
def vList {α : Type} (v : V8 α) : List α := [v.l0, v.l1, v.l2, v.l3, v.l4, v.l5, v.l6, v.l7]

/-- Lane-wise map. -/
def vMap {α β : Type} (f : α → β) (v : V8 α) : V8 β := vOf (fun i => f (vLane v i))

/-- Lane-wise combination of two vectors. -/
def vZip {α β γ : Type} (f : α → β → γ) (v : V8 α) (w : V8 β) : V8 γ := vOf (fun i => f (vLane v i) (vLane w i))

/-- One register bank of a core: the registers of R51 and the banked control registers of R54. -/
structure Bank where
  d : Table (V8 Word)
  a : Table (V8 Acc)
  p : Table Word
  b : Table Word
  l : Table Word
  m : Table Word
  s : Table Word
  /-- Word address of the next instruction; 0x2000 after the last word of program memory (R90). -/
  pc : Nat
  link : PcWord
  flags : BitVec 8
  cmode : BitVec 3
  lc0 : Word
  la0 : BitVec 29
  lc1 : Word
  la1 : BitVec 29
  deriving DecidableEq, Repr

/-- A bank after R53: everything 0. -/
def bankReset : Bank := ⟨[], [], [], [], [], [], [], 0, 0, 0, 0, 0, 0, 0, 0⟩

/-- A result on its way to a register (R74). -/
inductive Write where
  | d (n : Nat) (v : V8 Word)
  /-- An accumulator; `fwd` marks accumulations, whose value a further accumulation reads one cycle later. -/
  | a (n : Nat) (v : V8 Acc) (fwd : Bool)
  | p (n : Nat) (v : Word)
  | b (n : Nat) (v : Word)
  | l (n : Nat) (v : Word)
  | m (n : Nat) (v : Word)
  | s (n : Nat) (v : Word)
  /-- FLAGS[3:0] (R101). -/
  | nzcv (f : BitVec 4)
  /-- Sticky flags set (R55). -/
  | sticky (f : BitVec 8)
  /-- A control register written by WRC (R115), CALL (R110) or LOOP (R112). -/
  | ctrl (idx : Nat) (v : Word)
  deriving DecidableEq, Repr

/-- A result in flight: cycles until it is readable, the bank it retires into (R81), and the write. -/
structure Flight where
  left : Nat
  bank1 : Bool
  wr : Write
  deriving DecidableEq, Repr

/-- Core states of R86. -/
inductive CoreState where
  | reset | idle | row | handler | wait | halted | faulted
  deriving DecidableEq, Repr

/-- The codes of R86. -/
def coreStateCode : CoreState → Nat
  | .reset => 0 | .idle => 1 | .row => 2 | .handler => 3 | .wait => 4 | .halted => 5 | .faulted => 6

/-- A transfer channel that runs (R69): direction (true: working RAM to shared memory), working-RAM address, shared
address, byte count, the word address and bank of its XFER, and the beats of 64 bytes that have moved. -/
structure Xfer where
  toShared : Bool
  ram : Nat
  shared : Nat
  count : Nat
  pc : Nat
  bank1 : Bool
  moved : Nat
  deriving DecidableEq, Repr

/-- The fade that scales posted words (R150, R151). -/
inductive Fade where
  | none
  /-- Fade-in of a program cast on with FADE; its first row. -/
  | fadeIn (start : Word)
  /-- Bind-off; its first row. -/
  | bindOff (start : Word)
  deriving DecidableEq, Repr

/-- What the digest of R156 takes from one core's row. -/
structure RowPost where
  run : Bool
  posted : Bool
  /-- Working RAM 0x00 to 0x1F as at WAITROW. -/
  window : List Byte
  /-- Posted OUTPORT positions with their words, after fade scaling. -/
  words : List (Nat × Word)
  dropped : Bool
  /-- CYCLE at WAITROW (R426). -/
  cycles : Nat
  deriving DecidableEq, Repr

/-- No row program ran. -/
def rowPostNone : RowPost := ⟨false, false, [], [], false, 0⟩

/-- One logical core (R48 to R87). -/
structure Core where
  state : CoreState
  bank0 : Bank
  bank1 : Bank
  /-- CYCLE: number of the next issue cycle (R54). -/
  cycle : Nat
  shed : Bool
  gie : Bool
  ien : BitVec 3
  dbPending : Bool
  /-- The pending doorbell came with the tick that is about to start, so that this tick does not discard it (R138). -/
  dbNew : Bool
  /-- TPIDX and bank-1 S15 that the pending doorbell carries (R140). -/
  dbIndex : BitVec 16
  dbValue : Word
  xfPending : Bool
  mbsel : BitVec 4
  rej : BitVec 4
  done : BitVec 4
  err : BitVec 4
  busy : BitVec 4
  tpidx : BitVec 16
  rowidx : Word
  /-- The handler was accepted in WAIT (true) or in ROW (false), R86. -/
  fromWait : Bool
  /-- A row program waits for the handler's RETI (R83). -/
  rowOwed : Bool
  /-- The engine tick came with HALT = 1 while a handler ran: the core enters HALTED at its RETI (log entry 126). -/
  haltOwed : Bool
  /-- A program swap waits for the handler's RETI (R149): KEEP flag, FADE flag, VALUE, and whether COEF is named. -/
  swapOwed : Option (Bool × Bool × Word × Bool)
  flights : List Flight
  /-- Delay-slot words still to come (R77, R111); the branch ahead of them was taken to `target`, or not. -/
  slots : Nat
  /-- Words of bank 0 behind an untaken branch still to come when the running handler was accepted (R111). -/
  heldSlots : Nat
  taken : Bool
  target : Nat
  /-- No interrupt is accepted at the end of the last issue cycle (R79). -/
  noAccept : Bool
  /-- Channels an XWAIT stalls on (R108). -/
  xwait : BitVec 4
  xfers : Table (Option Xfer)
  /-- The last store into working RAM: address, bytes, and the cycle in which it issued (R71). -/
  stored : Option (Nat × Nat × Nat)
  ram : Table Byte
  coef0 : Table Byte
  coef1 : Table Byte
  prog0 : Table Word
  prog1 : Table Word
  /-- The open OUTPORT page; a listed position has its mask bit set (R65). -/
  outport : Table (Option Word)
  /-- The row program or its handlers set SAT or AOV in this row (CORE_SATROWS). -/
  satRow : Bool
  /-- The guard evaluated this core in this row (R125). -/
  judged : Bool
  fade : Fade
  /-- The program was cast on at the tick of row k - 1 and waits in IDLE for row k (R149). -/
  castHold : Bool
  /-- The core moved to another physical core at this tick: 96 cycles pass before it starts (R154). -/
  moved : Bool
  post : RowPost
  deriving DecidableEq, Repr

/-- A core after full reset (R53, R86); its memories read 0 (log entry 5). -/
def coreReset : Core where
  state := .reset
  bank0 := bankReset
  bank1 := bankReset
  cycle := 0
  shed := false
  gie := false
  ien := 0
  dbPending := false
  dbNew := false
  dbIndex := 0
  dbValue := 0
  xfPending := false
  mbsel := 0
  rej := 0
  done := 0
  err := 0
  busy := 0
  tpidx := 0
  rowidx := 0
  fromWait := false
  rowOwed := false
  haltOwed := false
  swapOwed := none
  flights := []
  slots := 0
  heldSlots := 0
  taken := false
  target := 0
  noAccept := false
  xwait := 0
  xfers := []
  stored := none
  ram := []
  coef0 := []
  coef1 := []
  prog0 := []
  prog1 := []
  outport := []
  satRow := false
  judged := false
  fade := .none
  castHold := false
  moved := false
  post := rowPostNone

end Sys2Proof.Machine
end

