-- ==== Sys2Proof/Machine/Flags.lean ====
section
/-! DEFINITION. The engine's arithmetic with its flags: products and saturation (R56, R57), rounding and extraction
(R58, R59), Q1.31 overflow (R60), and the condition flags of scalar instructions (R101) and conditions (R109). Operands
are turned into integers, the result is formed exactly, and it is narrowed at the end. -/

namespace Sys2Proof.Machine

/-- The exact shifted product of R57, in units of 2^-63. -/
def prod (a b : Word) : Int := 2 * (a.toInt * b.toInt)

/-- Q9.63 saturation (R57): the lane, and whether it saturated. -/
def sat72 (x : Int) : Acc × Bool :=
  if x < -(2 ^ 71) then (BitVec.ofNat 72 (2 ^ 71), true)
  else if 2 ^ 71 ≤ x then (BitVec.ofNat 72 (2 ^ 71 - 1), true)
  else (BitVec.ofInt 72 x, false)

/-- `v / 2^n` rounded by mode `rnd` (R59): 0 half to even, 1 half up, otherwise truncate toward minus infinity. -/
def roundDiv (rnd : Nat) (n : Nat) (v : Int) : Int :=
  let kept := v / 2 ^ n
  let f := v % 2 ^ n
  let h : Int := 2 ^ (n - 1)
  if rnd = 0 then
    (if h < f then kept + 1 else if f = h then (if kept % 2 = 1 then kept + 1 else kept) else kept)
  else if rnd = 1 then (if h ≤ f then kept + 1 else kept)
  else kept

/-- The Q1.31 overflow rule of R58 and R60: saturate (`satm` false) or wrap, and whether the value was out of range. -/
def qsat (satm : Bool) (x : Int) : Word × Bool :=
  if -(2 ^ 31) ≤ x ∧ x < 2 ^ 31 then (BitVec.ofInt 32 x, false)
  else if satm then (BitVec.ofInt 32 x, true)
  else if x < 0 then (BitVec.ofNat 32 0x80000000, true)
  else (BitVec.ofNat 32 0x7FFFFFFF, true)

/-- CMODE.RND as a number. -/
def cmRnd (cm : BitVec 3) : Nat := cm.toNat % 4

/-- CMODE.SATM. -/
def cmSatm (cm : BitVec 3) : Bool := cm.getLsbD 2

/-- Extraction of a 72-bit value (R58): scale, round bits [31:0] away, test the range. -/
def extract (cm : BitVec 3) (sc : Nat) (x : Int) : Word × Bool :=
  qsat (cmSatm cm) (roundDiv (cmRnd cm) 32 (x * 2 ^ sc))

/-- FLAGS[3:0] from a 32-bit result with carry and overflow: bit 3 V, bit 2 C, bit 1 N, bit 0 Z (FLAGS table). -/
def nzcvOf (r : Word) (c v : Bool) : BitVec 4 :=
  BitVec.ofBool v ++ BitVec.ofBool c ++ BitVec.ofBool r.msb ++ BitVec.ofBool (r == 0)

/-- SA + SB + carry-in with FLAGS[3:0] (R101). -/
def addFlags (a b : Word) (cin : Bool) : Word × BitVec 4 :=
  let n := a.toNat + b.toNat + cin.toNat
  let z := a.toInt + b.toInt + (cin.toNat : Int)
  let r := BitVec.ofNat 32 n
  (r, nzcvOf r (decide (2 ^ 32 ≤ n)) (decide (z < -(2 ^ 31) ∨ 2 ^ 31 ≤ z)))

/-- A result whose C and V are 0 (R101). -/
def logicFlags (r : Word) : Word × BitVec 4 := (r, nzcvOf r false false)

/-- A shift result with the last bit shifted out as C (R101). -/
def shiftFlags (r : Word) (c : Bool) : Word × BitVec 4 := (r, nzcvOf r c false)

/-- Shift left (R101). -/
def shlFlags (a : Word) (n : Nat) : Word × BitVec 4 :=
  shiftFlags (a <<< n) (decide (n ≠ 0) && a.getLsbD (32 - n))

/-- Arithmetic shift right (R101). -/
def shraFlags (a : Word) (n : Nat) : Word × BitVec 4 :=
  shiftFlags (a.sshiftRight n) (decide (n ≠ 0) && a.getLsbD (n - 1))

/-- Logical shift right (R101). -/
def shrlFlags (a : Word) (n : Nat) : Word × BitVec 4 :=
  shiftFlags (a >>> n) (decide (n ≠ 0) && a.getLsbD (n - 1))

/-- The conditions of R109 on FLAGS[3:0] and CSTAT.SHED. -/
def condHolds (cond : BitVec 4) (f : BitVec 8) (shed : Bool) : Bool :=
  let z := f.getLsbD 0
  let n := f.getLsbD 1
  let c := f.getLsbD 2
  let v := f.getLsbD 3
  match cond.toNat with
  | 0 => z
  | 1 => !z
  | 2 => c
  | 3 => !c
  | 4 => n
  | 5 => !n
  | 6 => v
  | 7 => !v
  | 8 => c && !z
  | 9 => !c || z
  | 10 => n == v
  | 11 => n != v
  | 12 => !z && (n == v)
  | 13 => z || (n != v)
  | 14 => true
  | _ => shed

end Sys2Proof.Machine
end

