-- ==== Sys2Proof/Machine/Operands.lean ====
section
/-! DEFINITION. Operand forms of the engine instructions: the register classes (R102), reads of a bank, circular
addressing (R72), the regions of the core address map (R61), the retirement of results (R74, R76, R81) and the control
registers (R54). -/

namespace Sys2Proof.Machine

def zeroV : V8 Word := vBroadcast 0
def zeroA : V8 Acc := vBroadcast 0

def bankD (k : Bank) (n : Nat) : V8 Word := k.d.get (fun _ => zeroV) n
def bankA (k : Bank) (n : Nat) : V8 Acc := k.a.get (fun _ => zeroA) n
def bankP (k : Bank) (n : Nat) : Word := k.p.get (fun _ => 0) n
def bankB (k : Bank) (n : Nat) : Word := k.b.get (fun _ => 0) n
def bankL (k : Bank) (n : Nat) : Word := k.l.get (fun _ => 0) n
def bankM (k : Bank) (n : Nat) : Word := k.m.get (fun _ => 0) n
def bankS (k : Bank) (n : Nat) : Word := k.s.get (fun _ => 0) n

/-- Bank 1 while a handler runs, bank 0 otherwise (R52, R86). -/
def Core.inBank1 (c : Core) : Bool := c.state == .handler

/-- The running bank. -/
def Core.bank (c : Core) : Bank := if c.inBank1 then c.bank1 else c.bank0

/-- Replace a bank. -/
def Core.setBank (c : Core) (b1 : Bool) (k : Bank) : Core :=
  if b1 then { c with bank1 := k } else { c with bank0 := k }

/-- The wrap of R72 on an address or pointer already summed. -/
def circWrap (x bn ln : Word) : Word :=
  if ln = 0 then x
  else if bn + ln ≤ x then x - ln
  else if x < bn then x + ln
  else x

/-- circ(p, m, b, l) of R72. -/
def circ (p m bn ln : Word) : Word := circWrap (p + m) bn ln

/-- circ of pointer `n` of bank `k`. -/
def bankCirc (k : Bank) (n : Nat) (m : Word) : Word := circ (bankP k n) m (bankB k n) (bankL k n)

/-- Sign extension to a register word. -/
def sext {w : Nat} (x : BitVec w) : Word := x.signExtend 32

/-- Zero extension to a register word. -/
def zext {w : Nat} (x : BitVec w) : Word := x.setWidth 32

/-! ### Register classes (R102) -/

/-- Read a 32-bit register class: S, P, B, L or M. -/
def bankWord (k : Bank) (cl n : Nat) : Word :=
  match cl with
  | 0 => bankS k n
  | 1 => bankP k n
  | 2 => bankB k n
  | 3 => bankL k n
  | _ => bankM k n

/-- The write of a 32-bit register class. -/
def classWrite (cl n : Nat) (v : Word) : Write :=
  match cl with
  | 0 => .s n v
  | 1 => .p n v
  | 2 => .b n v
  | 3 => .l n v
  | _ => .m n v

/-! ### Regions of the core address map (R61) -/

inductive Region where
  | ram | inport | outport | coef | mailbox | fullFlags | shared | none
  deriving DecidableEq, Repr

/-- The region that byte address `a` lies in. -/
def regionOf (a : Nat) : Region :=
  if a < 0x1E000 then .ram
  else if a < 0x1E800 then .inport
  else if a < 0x1F000 then .none
  else if a < 0x1F800 then .outport
  else if a < 0x20000 then .none
  else if a < 0x30000 then .coef
  else if a < 0x32000 then .none
  else if a < 0x32100 then .mailbox
  else if a < 0x32108 then .fullFlags
  else if a < 0x10000000 then .none
  else if a < 0x16000000 then .shared
  else .none

/-- The cause of a load or store at `a` under R649, or none: address fault 2, misalignment 3, read-only 4. -/
def accessFault (a : Nat) (vec store : Bool) : Option Nat :=
  match regionOf a with
  | .none => some 2
  | .shared => some 2
  | r =>
    if a % (if vec then 32 else 4) ≠ 0 then some 3
    else if vec && (r == .mailbox || r == .fullFlags) then some 3
    else if store && (r == .inport || r == .coef || r == .fullFlags) then some 4
    else Option.none

/-! ### Bytes and words -/

/-- A word from four bytes, least significant first (R6). -/
def leWord (b0 b1 b2 b3 : Byte) : Word := b3 ++ b2 ++ b1 ++ b0

/-- The bytes of a word, least significant first. -/
def leBytes (w : Word) : List Byte :=
  [w.extractLsb' 0 8, w.extractLsb' 8 8, w.extractLsb' 16 8, w.extractLsb' 24 8]

/-- What an unlisted byte of memory reads as (log entry 5). -/
def memDefault : Nat → Byte := fun _ => 0

/-- One byte. -/
def memByte (m : Table Byte) (a : Nat) : Byte := m.get memDefault a

/-- Write one byte. -/
def memSetByte (m : Table Byte) (a : Nat) (b : Byte) : Table Byte := m.set memDefault a b

/-- The little-endian word at byte address `a`. -/
def memWord (m : Table Byte) (a : Nat) : Word :=
  leWord (memByte m a) (memByte m (a + 1)) (memByte m (a + 2)) (memByte m (a + 3))

/-- Write bytes at rising addresses. -/
def memSetBytes (m : Table Byte) (a : Nat) : List Byte → Table Byte
  | [] => m
  | b :: t => memSetBytes (memSetByte m a b) (a + 1) t

/-- Write a little-endian word. -/
def memSetWord (m : Table Byte) (a : Nat) (w : Word) : Table Byte := memSetBytes m a (leBytes w)

/-- `n` bytes from address `a`. -/
def memBytes (m : Table Byte) (a : Nat) : Nat → List Byte
  | 0 => []
  | n + 1 => memByte m a :: memBytes m (a + 1) n

/-- The canonical form of a byte memory. -/
def Memory.wf (m : Table Byte) : Bool := Table.wf memDefault m

/-! ### Retirement (R74, R76, R81) -/

/-- Apply one result to a bank. FLAGS is RW: a write sets every field, and a
hardware set of the same cycle comes after it (R10, R54, R55; log entry 38). A reserved CMODE.RND keeps RND (R115). -/
def bankApply (k : Bank) : Write → Bank
  | .d n v => { k with d := k.d.set (fun _ => zeroV) n v }
  | .a n v _ => { k with a := k.a.set (fun _ => zeroA) n v }
  | .p n v => { k with p := k.p.set (fun _ => 0) n v }
  | .b n v => { k with b := k.b.set (fun _ => 0) n v }
  | .l n v => { k with l := k.l.set (fun _ => 0) n v }
  | .m n v => { k with m := k.m.set (fun _ => 0) n v }
  | .s n v => { k with s := k.s.set (fun _ => 0) n v }
  | .nzcv f => { k with flags := (k.flags &&& 0xF0#8) ||| f.setWidth 8 }
  | .sticky f => { k with flags := k.flags ||| f }
  | .ctrl i v =>
    match i with
    | 0x01 => { k with link := v.setWidth 13 }
    | 0x02 => { k with flags := v.setWidth 8 &&& 0xEF#8 }
    | 0x03 =>
      { k with cmode := if v.toNat % 4 = 3 then (v.setWidth 3 &&& 4#3) ||| (k.cmode &&& 3#3) else v.setWidth 3 }
    | 0x04 => { k with lc0 := v }
    | 0x05 => { k with la0 := v.setWidth 29 &&& 0x1FFF1FFF#29 }
    | 0x06 => { k with lc1 := v }
    | 0x07 => { k with la1 := v.setWidth 29 &&& 0x1FFF1FFF#29 }
    | _ => k

/-- Apply one result to a core: the unbanked control registers here, the rest in the bank it was issued from. -/
def Core.apply (c : Core) (b1 : Bool) (w : Write) : Core :=
  match w with
  | .ctrl 0x0B v => { c with gie := v.getLsbD 0 }
  | .ctrl 0x0C v => { c with ien := v.setWidth 3 }
  | .ctrl 0x0E v => { c with mbsel := v.setWidth 4 }
  | .ctrl 0x0F v =>
    { c with rej := c.rej &&& ~~~(v.extractLsb' 12 4), done := c.done &&& ~~~(v.extractLsb' 8 4),
             err := c.err &&& ~~~(v.extractLsb' 4 4) }
  | w => c.setBank b1 (bankApply (if b1 then c.bank1 else c.bank0) w)

/-- Is the write a hardware set of sticky flags? Those apply after every other write of the cycle (R55). -/
def Write.isSticky : Write → Bool
  | .sticky _ => true
  | _ => false

/-- Apply the results of `fs` in order of issue, those for which `p` holds. -/
def Core.applyAll (p : Flight → Bool) (c : Core) : List Flight → Core
  | [] => c
  | f :: t => Core.applyAll p (if p f then c.apply f.bank1 f.wr else c) t

/-- One core cycle ends: results due at its end are written in order of issue, sticky sets last. -/
def Core.tickOnce (c : Core) : Core :=
  let due := c.flights.filter (fun f => f.left ≤ 1)
  let later := (c.flights.filter (fun f => !(f.left ≤ 1))).map (fun f => { f with left := f.left - 1 })
  let c1 := Core.applyAll (fun f => !f.wr.isSticky) { c with flights := later, cycle := (c.cycle + 1) % 2 ^ 32 } due
  Core.applyAll (fun f => f.wr.isSticky) c1 due

/-- `n` core cycles end. -/
def Core.advance (c : Core) : Nat → Core
  | 0 => c
  | n + 1 => Core.advance c.tickOnce n

/-- Every result in flight retires on schedule, with no further issue; no latency exceeds 100 cycles. CYCLE does not
count on. -/
def Core.drain (c : Core) : Core := { Core.advance c (if c.flights.isEmpty then 0 else 100) with cycle := c.cycle }

/-- Put a result in flight, `n` cycles from being readable. -/
def Core.push (c : Core) (n : Nat) (b1 : Bool) (w : Write) : Core :=
  { c with flights := c.flights ++ [⟨n, b1, w⟩] }

/-- What a further accumulation into A`n` starts from: the latest accumulation still in flight, else the register
(R74, R93). -/
def Core.accView (c : Core) (b1 : Bool) (n : Nat) : V8 Acc :=
  c.flights.foldl
    (fun v f => match f.wr with
      | .a m x true => if m = n ∧ f.bank1 = b1 then x else v
      | _ => v)
    (bankA (if b1 then c.bank1 else c.bank0) n)

/-! ### Control-register reads (R54) -/

/-- Loop addresses: last word in [28:16], first word in [12:0]. -/
def laOf (last first : Nat) : Word := BitVec.ofNat 32 (last % 0x2000 * 0x10000 + first % 0x2000)
def laLast (x : BitVec 29) : Nat := x.toNat / 0x10000
def laFirst (x : BitVec 29) : Nat := x.toNat % 0x2000

/-- The control register `idx` of the running bank, `cid` the logical core, `mbFull` whether the watched mailbox is
full; an unlisted index reads 0. -/
def Core.readCtrl (c : Core) (cid : Nat) (mbFull : Bool) (idx : Nat) : Word :=
  let k := c.bank
  match idx with
  | 0x00 => BitVec.ofNat 32 (k.pc % 0x2000)
  | 0x01 => k.link.setWidth 32
  | 0x02 => k.flags.setWidth 32
  | 0x03 => k.cmode.setWidth 32
  | 0x04 => k.lc0
  | 0x05 => k.la0.setWidth 32
  | 0x06 => k.lc1
  | 0x07 => k.la1.setWidth 32
  | 0x08 => BitVec.ofNat 32 cid
  | 0x09 => c.rowidx
  | 0x0A => BitVec.ofNat 32 c.cycle
  | 0x0B => BitVec.ofNat 32 (c.shed.toNat * 8 + c.inBank1.toNat * 4 + c.gie.toNat)
  | 0x0C => c.ien.setWidth 32
  | 0x0D => BitVec.ofNat 32 (mbFull.toNat * 4 + c.xfPending.toNat * 2 + c.dbPending.toNat)
  | 0x0E => c.mbsel.setWidth 32
  | 0x0F => (c.rej ++ c.done ++ c.err ++ c.busy).setWidth 32
  | 0x10 => c.tpidx.setWidth 32
  | _ => 0

end Sys2Proof.Machine
end

