-- ==== Sys2Proof/Machine/TypesRow.lean ====
section
/-! DEFINITION. State of the row scheduler, the sample fabric, the die link, the event sources and the mailboxes. -/

namespace Sys2Proof.Machine

/-- A timed record that waits for its tick: a timed parameter of R140, or a direct write to a timed register (R169),
which waits for the next engine tick. -/
structure TpRec where
  direct : Bool
  row : Word
  cls : Nat
  flags : Nat
  index : Nat
  target : Nat
  value : Word
  deriving DecidableEq, Repr

/-- A pending migration request (R153 to R155). -/
structure Migration where
  core : Nat
  back : Bool
  waited : Nat
  deriving DecidableEq, Repr

/-- A cluster's final digest (R156, R157). -/
structure Digest where
  value : DWord
  row : Word
  stitch : BitVec 8
  deriving DecidableEq, Repr

/-- The row scheduler, gauge and guard. -/
structure RowS where
  /-- Index of the current row (R15, R318). -/
  rowIdx : Word
  /-- Row ticks run. -/
  ticks : Bool
  /-- The next row tick is the first of a new grid; its index comes from the time (R318). -/
  fresh : Bool
  /-- Row of the media time base when row ticks began to run: the tick that comes first is that of a later row. -/
  fromRow : Word
  /-- Gauge step in effect (R38). -/
  gauge : Nat
  /-- SAG is asserted towards the main die (R130). -/
  sag : Bool
  /-- The step that sag handling calls for when SAG asserted. -/
  sagStep : Nat
  /-- A recovery toward the lowest step runs (R38, R130). -/
  recovering : Bool
  /-- An input page is open, and its row index ROWIDX (R54, R139). -/
  pageOpen : Bool
  openRow : Word
  /-- The engine tick of the current row has come (R26, R648). -/
  ticked : Bool
  /-- The row is between its engine tick and its stop point. -/
  inWindow : Bool
  /-- Progress of the row since the engine tick, up to the last gauge change: the sum of (16 - step) times the time, in
  units of which a row period has 2 * 10^9. -/
  accU : Nat
  sinceU : Nat
  tpq : List TpRec
  /-- LATENCY change accepted, effective at the next row tick (R648). -/
  pendLatency : Option Bool
  /-- POLICY change accepted, effective at the next row tick (R42). -/
  pendPolicy : Bool
  /-- SELVAGE and MUSTRES in effect since the last engine tick (R122). -/
  selvage : Nat
  mustres : Nat
  /-- A PROFILE or GUARD write awaits its engine tick for the fit test (R129, R174). -/
  fitDue : Bool
  /-- Slots that started to decay since the last row tick (R162). -/
  decayRow : Nat
  /-- SHED was set for some core in this row, counted (R137). -/
  shedRow : Bool
  migration : Option Migration
  digests : Table Digest
  deriving DecidableEq, Repr

def digestNone : Digest := ⟨0, 0, 0⟩

def rowReset : RowS where
  rowIdx := 0
  ticks := false
  fresh := true
  fromRow := 0
  gauge := 0
  sag := false
  sagStep := 0
  recovering := false
  pageOpen := false
  openRow := 0
  ticked := false
  inWindow := false
  accU := 0
  sinceU := 0
  tpq := []
  pendLatency := none
  pendPolicy := false
  selvage := 8
  mustres := 4
  fitDue := false
  decayRow := 0
  shedRow := false
  migration := none
  digests := []

/-- One slot of the sample store (R159 to R163). -/
structure Slot where
  /-- Word in the read page. -/
  rd : Word
  /-- Word in the write page, and whether it was written. -/
  wr : Word
  written : Bool
  /-- Last value written. -/
  v : Word
  /-- Pages closed without a write, counted from H + 64 on while `fresh` (R163). -/
  r : Nat
  /-- No write since full reset. -/
  fresh : Bool
  /-- The count has just reached HOLD + 1 (R162). -/
  decayDue : Bool
  deriving DecidableEq, Repr

/-- A slot after full reset (R163): its r starts at H + 64 (FabS.r0). -/
def slotReset : Slot := ⟨0, 0, false, 0, 0, true, false⟩

/-- A gain glide (R176). -/
structure Glide where
  entry : Nat
  g0 : Word
  target : Word
  n : Nat
  m : Nat
  /-- Gain used in the last pass. -/
  last : Word
  deriving DecidableEq, Repr

/-- A delay line (R179 to R182): inputs newest first, the crossfade with its old delay and row, and the next position of its
buffer (log entry 12). -/
structure DlyLine where
  hist : List Word
  xfade : Option (Nat × Nat)
  pos : Nat
  deriving DecidableEq, Repr

def dlyReset : DlyLine := ⟨[], none, 0⟩

/-- An output of the matrix or delay pass that waits for the stop point: index, entries or cycles needed, word, and
whether it saturated. -/
structure PassOut where
  idx : Nat
  need : Nat
  word : Word
  sat : Bool
  deriving DecidableEq, Repr

/-- Sample store, maps, matrix, delay, shared memory. -/
structure FabS where
  slots : Table Slot
  /-- The r of a slot at full reset: H + 64 with the H of that moment (R163). -/
  r0 : Nat
  map0 : Table (BitVec 16)
  map1 : Table (BitVec 16)
  glides : List Glide
  mtxOut : List PassOut
  dlyOut : List PassOut
  /-- Some valid matrix output was not written in the row (R173). -/
  mtxStitch : Bool
  lines : Table DlyLine
  shared : Table Byte
  deriving DecidableEq, Repr

def fabReset : FabS := ⟨[], 72, [], [], [], [], [], false, [], []⟩

/-- A flit of types 0x5 to 0x9 in a sender: its SEQ, type and payload (R21, R22). -/
structure SeqFlit where
  seq : Nat
  typ : Nat
  payload : BitVec 96
  deriving DecidableEq, Repr

/-- One end of the die link (R23, R24). -/
structure LinkEnd where
  nextSeq : Nat
  expSeq : Nat
  unacked : List SeqFlit
  queue : List (Nat × BitVec 96)
  credit : Nat
  nakSent : Bool
  deriving DecidableEq, Repr

def linkEndReset : LinkEnd := ⟨0, 0, [], [], 0, false⟩

/-- The die link: both ends, and the errors counted in the row (CRC, BADTYPE, MODLATE). -/
structure LinkS where
  main : LinkEnd
  sup : LinkEnd
  rowErr : BitVec 3
  deriving DecidableEq, Repr

def linkReset : LinkS := ⟨linkEndReset, linkEndReset, 0⟩

/-- Delivery state of one event source (R488). -/
structure EvtSrc where
  count : Nat
  row : Word
  /-- The record waited at least one pass for a slot or a ring in RUN (OVF). -/
  waited : Bool
  /-- An occurrence while enabled since the last pass (R491). -/
  since : Bool
  deriving DecidableEq, Repr

def evtSrcReset : EvtSrc := ⟨0, 0, false, false⟩

/-- One mailbox (R494). -/
structure Mbx where
  word : Word
  full : Bool
  deriving DecidableEq, Repr

def mbxReset : Mbx := ⟨0, false⟩

/-- Events and mailboxes. -/
structure EvtS where
  src : Table EvtSrc
  box : Table Mbx
  /-- Sticky reject bits of host writes (R495, R497). -/
  rej : BitVec 64
  twrej : BitVec 8
  twbusy : BitVec 8
  /-- The supply die may send the next word for MB56 + i (R498). -/
  supMay : BitVec 8
  deriving DecidableEq, Repr

def evtReset : EvtS := ⟨[], [], 0, 0, 0, 0xFF⟩

end Sys2Proof.Machine
end

