-- ==== Sys2Proof/Machine/TypesLane.lean ====
section
/-! DEFINITION. State of the serial lanes beyond their registers (R262 to R294). -/

namespace Sys2Proof.Machine

/-- Equalisation values (R278): CTLE gain and peaking, and DFE taps 1 to 10. -/
structure EqTaps where
  gain : Nat
  peak : Nat
  taps : List Int
  deriving DecidableEq, Repr

def eqZero : EqTaps := ⟨0, 0, []⟩

/-- One lane. STATE, MODE, FROZEN, SIGDET and EIDLE_TX, the applied values and the snapshot are in its registers. -/
structure LaneS where
  /-- The estimator's values (R280). -/
  est : EqTaps
  /-- The receiver is in electrical idle (R283). -/
  rxIdle : Bool
  /-- A host eye-scan point runs (R291). -/
  eye : Bool
  /-- Precoder states of transmit and receive (R266). -/
  preTx : BitVec 2
  preRx : BitVec 2
  /-- Fill of the elastic buffer of a twin lane (R274). -/
  fill : Nat
  /-- The loopback that runs began while the unit was a paired twin (R598). -/
  loopPaired : Bool
  /-- The pattern generator's last bits, 0 before it starts, and the checker's; how many bits have seeded the checker (R288). -/
  gen : Nat
  chk : Nat
  seeded : Nat
  /-- The part of a symbol that the last count-clock edge left over, in parts of 491,520,000. -/
  owed : Nat
  deriving DecidableEq, Repr

def laneReset : LaneS := ⟨eqZero, false, false, 0, 0, 16, false, 0, 0, 0, 0⟩

end Sys2Proof.Machine
end

