-- ==== Sys2Proof/Machine/TypesLoc.lean ====
section
/-! DEFINITION. State of claim reception, of the local ports (R353 to R388) and of the power stage (R389 to R418). -/

namespace Sys2Proof.Machine

/-- Claim reception with hold and fade (R366, R394). -/
structure ClaimSt where
  /-- Latched claim Lc. -/
  lc : Option Word
  /-- Source of the last accepted frame: 0 none, 1 A or LOCAL, 2 B or XFEED. -/
  src : Nat
  /-- Consecutive held rows. -/
  held : Nat
  /-- Lc has been cleared: the next frame accepted starts a fade-in. -/
  cleared : Bool
  /-- Place m of the fade-in in the next row. -/
  fadeIn : Option Nat
  /-- Words accepted last. -/
  words : List Word
  deriving DecidableEq, Repr

def claimReset : ClaimSt := ⟨none, 0, 0, false, none, []⟩

/-- One channel in OPENING or CLOSING (R376). -/
inductive ZState where
  | wait
  /-- Fading after the timeout; place m of the next row. -/
  | fade (m : Nat)
  | done
  deriving DecidableEq, Repr

/-- One local port; STATE, REASON, LOCK and PHASE are in its STAT. Ports 0 to 15 are TDM, 16 to 23 AES3 inputs, 24 to 31 AES3
outputs, 32 and 33 MADI (numbered in their order in the event instances, with MADI after the outputs). -/
structure LocPort where
  /-- Data start row of a group start or of PRECLK; row of a pre-clock bind-off; first row of a re-step bind-off (R383). -/
  startAt : Option Word
  stopAt : Option Word
  rebind : Option Word
  /-- Cast on by AUTO as an ungrouped port (R363). -/
  solo : Bool
  /-- Consecutive good frames and the phase of the first, in ns; consecutive frame errors; rows locked in FAULT. -/
  run : Nat
  cand : Nat
  errs : Nat
  lockRows : Nat
  commitDue : Bool
  /-- First row of OPENING or CLOSING, whether its timeout has expired, and the channels of both directions. -/
  zfrom : Word
  zlate : Bool
  zin : List ZState
  zout : List ZState
  /-- Input words of the frame before; output words of the row before and of this row; claim word at the row tick. -/
  rxPrev : List Word
  txPrev : List Word
  txNow : List Word
  claimNow : Word
  claim : ClaimSt
  /-- Channel-status bits of the block being received, oldest first (R369). -/
  cap : Option (List Bool)
  /-- Frame of the channel-status block sent next, and the status latched at its start (R370). -/
  txPos : Nat
  txCs : List Byte
  deriving DecidableEq, Repr

def locPortReset : LocPort where
  startAt := none
  stopAt := none
  rebind := none
  solo := false
  run := 0
  cand := 0
  errs := 0
  lockRows := 0
  commitDue := false
  zfrom := 0
  zlate := false
  zin := []
  zout := []
  rxPrev := []
  txPrev := []
  txNow := []
  claimNow := 0
  claim := claimReset
  cap := none
  txPos := 0
  txCs := []

/-- A start group (R379, R380): the operation that is pending with its row, and whether it waits for the START ball. -/
structure LocGroup where
  pend : Option (Nat × Word)
  pin : Bool
  deriving DecidableEq, Repr

def locGroupReset : LocGroup := ⟨none, false⟩

structure LocS where
  port : Table LocPort
  group : Table LocGroup
  deriving DecidableEq, Repr

def locReset : LocS := ⟨[], []⟩

/-- One amplifier channel; STATE and SRC are in its CH_STAT. Words are 24-bit numbers (R389). -/
structure AmpCh where
  claim : ClaimSt
  /-- The delay line, newest first. -/
  line : List Word
  /-- Rows of a START or STOPPING ramp done; gain in 64ths from which STOPPING falls; attenuation in dB (R409, R412). -/
  ramp : Nat
  base : Nat
  att : Nat
  /-- Consecutive limited cycles; times of trips in the last 10 s in microseconds, newest first. -/
  limRun : Nat
  trips : List Nat
  /-- 1 s in TRIPPED has passed, and the retry waits for the bus (R413). -/
  retryDue : Bool
  /-- Consecutive estimates outside the limits and consecutive unused windows (R414). -/
  zbad : Nat
  zunused : Nat
  /-- The voltage intended in the row before, in microvolts; gain and offset that the correction loop has formed, in 2^-20 of the
  units of CH_CORR (R399, R400). -/
  intended : Int
  accGain : Int
  accOff : Int
  deriving DecidableEq, Repr

def ampChReset : AmpCh := ⟨claimReset, [], 0, 64, 0, 0, [], false, 0, 0, 0, 0, 0⟩

/-- A tunnelled access that waits for its answer (R416): tag, write, W0 address. -/
structure Tunnel where
  tag : Nat
  wr : Bool
  addr : Nat
  deriving DecidableEq, Repr

/-- The power stage of the supply die, and the main die's part in its path. -/
structure AmpS where
  ch : Table AmpCh
  /-- Row expected next, none while rows are not counted; rows without a source (R393). -/
  expect : Option Word
  quiet : Nat
  /-- The ROW flit of the row being received, row and claim word, and its modulation flits (R25); the rate in effect at the last
  ROW flit (R397). -/
  rowFlit : Option (Word × Word)
  rate : Option Nat
  lo : Option (List Word)
  hi : Option (List Word)
  /-- Cross-feed receiver (R397): consecutive good frames while unlocked, consecutive discards, and the last valid frame: row,
  claim word, CHMASK, words. -/
  xfGood : Nat
  xfBad : Nat
  xf : Option (Word × Word × Nat × List Word)
  /-- Conditions on the bus and the rail: bus low, RAILOV, OTEMP, boost short of its target (R405 to R407). -/
  busLow : Bool
  railOv : Bool
  otemp : Bool
  short : Bool
  /-- The envelope of R403 held at L = 0, the boost's target, and the rail it regulates to. -/
  hist : Nat
  target : Nat
  rail : Nat
  /-- Limiter gain g_lim in 2^-31 (R405). -/
  glim : Nat
  /-- Main die: words of the row for the modulators, for the cross-feed, the claim word, at the row tick (R389). -/
  words : List Word
  claimNow : Word
  /-- Tunnelled accesses and the next tag. -/
  tunnels : List Tunnel
  nextTag : Nat
  deriving DecidableEq, Repr

def ampReset : AmpS where
  ch := []
  expect := none
  quiet := 0
  rowFlit := none
  rate := none
  lo := none
  hi := none
  xfGood := 0
  xfBad := 0
  xf := none
  busLow := false
  railOv := false
  otemp := false
  short := false
  hist := 0
  target := 0
  rail := 0
  glim := 2 ^ 31
  words := []
  claimNow := 0
  tunnels := []
  nextTag := 0

end Sys2Proof.Machine
end

