-- ==== Sys2Proof/Machine/TypesHost.lean ====
section
/-! DEFINITION. State of the host interface: rings (R428 to R455), translation unit and faults (R457 to R480). -/

namespace Sys2Proof.Machine

/-- A fetched descriptor (R433): its 32 bytes, its index in the ring, the ring generation at the fetch, whether its tag was
outstanding (R437), and the fault that ended its fetch (R476). -/
structure Desc where
  bytes : List Byte
  didx : Nat
  gen : Nat
  dup : Bool
  lost : Option Nat
  deriving DecidableEq, Repr

/-- Time and identity that the completion of a received frame carries (R443). -/
structure RxInfo where
  ts : Nat
  info1 : Nat
  info2 : Nat
  deriving DecidableEq, Repr

/-- A transfer in progress: descriptor, opcode, bytes moved, byte count, bytes collected or to be written, and the data of
a received frame. -/
structure Transfer where
  desc : Desc
  op : Nat
  off : Nat
  len : Nat
  buf : List Byte
  rx : Option RxInfo
  deriving DecidableEq, Repr

/-- What an access to host memory serves (R466). -/
inductive AccFor where
  | doorbell
  | status
  | fetch (ring : Nat)
  | data (ring : Nat)
  | entry (ring : Nat)
  | play (ring : Nat)
  | record (ring : Nat)
  deriving DecidableEq, Repr

/-- What the completion of a RESUME waits for (R475): the completion of the aborted descriptor, by its CQ and fault, or the first
request of what was restarted. -/
inductive CompGate where
  | free
  | written (cq fid : Nat)
  | issued (what : AccFor)
  deriving DecidableEq, Repr

/-- A completion without its place in the ring (R434); `ts` none takes the time of the write. -/
structure Comp where
  ring : Nat
  op : Nat
  tag : Nat
  didx : Nat
  gen : Nat
  irq : Bool
  status : Nat
  info0 : Nat
  info1 : Nat
  info2 : Nat
  flags : Nat
  ts : Option Nat
  gate : CompGate
  deriving DecidableEq, Repr

/-- What waits to be written into a device-produced ring. -/
inductive RingEntry where
  | comp (c : Comp)
  /-- The first 12 bytes of an event record (R489), and whether its write has outlasted its pass. -/
  | event (bytes : List Byte) (late : Bool)
  /-- The first 30 bytes of a fault record (R471). -/
  | fault (bytes : List Byte)
  deriving DecidableEq, Repr

/-- An RT block taken (R446): first row, descriptor, the rows read or recorded so far as words in channel order, rows
that play as silence from there on, and whether its data is complete. A descriptor that is not taken, and whose completion waits for
its place in the ring's order (R438), is held as a block that has ended. -/
structure RtBlock where
  k : Word
  desc : Desc
  rows : List (List Word)
  failed : Bool
  complete : Bool
  /-- Its completion has been queued. -/
  signalled : Bool
  /-- STATUS and INFO0 of one that was not taken. -/
  ended : Option (Nat × Nat)
  deriving DecidableEq, Repr

/-- One ring as the device holds it. STATE, REASON and GEN are in RING.STAT. -/
structure Ring where
  /-- Device index: CI of a host-produced ring, PI of a device-produced ring. -/
  idx : Nat
  /-- Host index as last accepted from the doorbell page. -/
  seen : Nat
  /-- Entries reserved in a COMPLETION ring (R432). -/
  reserved : Nat
  /-- Descriptors fetched in the present row (R438). -/
  rowFetch : Nat
  fetched : List Desc
  active : Option Transfer
  /-- Posted receive buffers (R443) and received frames that wait for one transfer to end. -/
  posted : List Desc
  rxWait : List (List Byte × RxInfo)
  blocks : List RtBlock
  /-- BULK_TX: completions that wait until so many earlier frames of their transmit queue, none for every queue, have completed
  (R438). -/
  owed : List (Option Nat × Nat × Comp)
  /-- First row of the last block taken, and the due block of the last doorbell read that is not yet judged (R446). -/
  due : Option Word
  outq : List RingEntry
  /-- Completions without a vector sent, and row ticks the oldest has waited (R439). -/
  unsig : Nat
  age : Nat
  /-- Outstanding tags with the CQ position of their completion (R437). -/
  tags : List (Nat × Option Nat)
  /-- Entries written since the ring was enabled (R489). -/
  seq : Nat
  deriving DecidableEq, Repr

def ringReset : Ring where
  idx := 0
  seen := 0
  reserved := 0
  rowFetch := 0
  fetched := []
  active := none
  posted := []
  rxWait := []
  blocks := []
  owed := []
  due := none
  outq := []
  unsig := 0
  age := 0
  tags := []
  seq := 0

/-- Where an access stands: at the entry of a walk level with the address of the table and the R and W so far, or at its
data. -/
inductive AccAt where
  | walk (level table : Nat) (r w : Bool)
  /-- Host physical address and byte count of the read. -/
  | data (pa n : Nat)
  deriving DecidableEq, Repr

/-- An access that waits for a read of host memory: for the entry of its walk, or for its data. -/
structure HostAcc where
  id : Nat
  what : AccFor
  wr : Bool
  cls : Nat
  /-- IO virtual address and byte count still to do. -/
  iova : Nat
  len : Nat
  /-- Bytes still to write, or bytes read so far. -/
  bytes : List Byte
  pos : AccAt
  /-- The read is on the link (R468). -/
  sent : Bool
  /-- The translation it uses, or the walk it runs, lies in the scope of the invalidation that runs (R465). -/
  inv : Bool
  deriving DecidableEq, Repr

/-- One translation of the TLB (R462). -/
structure Tlb where
  base : Nat
  size : Nat
  pa : Nat
  r : Bool
  w : Bool
  lk : Bool
  deriving DecidableEq, Repr

/-- An open fault (R470): identifier, what it served, and the byte offset that a resume starts from. -/
structure OpenFault where
  fid : Nat
  what : AccFor
  deriving DecidableEq, Repr

/-- The host interface and the translation unit. -/
structure HostS where
  rings : Table Ring
  /-- Descriptors fetched from COMMAND and BULK_TX rings in the present row (R438). -/
  rowFetch : Nat
  /-- SEQ of the status page (R426). -/
  seq : Nat
  /-- Rings that raised doorbell-error in the present row. -/
  dbErr : List Nat
  accs : List HostAcc
  nextId : Nat
  /-- Translations, most recently used first. -/
  tlb : List Tlb
  faults : List OpenFault
  nextFid : Nat
  /-- The FAULT ring's own write faulted, and the ring has not been reset since (R473). -/
  frDown : Bool
  /-- MSI-X table words (four to a vector) and pending bits (R420). -/
  msix : Table Word
  pba : BitVec 32
  /-- LOAD of the row that ended (R426). -/
  load : Nat
  /-- The last row that ticked, and the last row before and the first after the last gap in the row ticks (R454). -/
  lastRow : Option Word
  gap : Option (Word × Word)
  deriving DecidableEq, Repr

/-- Vector control words of the MSI-X table come up masked (log entry 26). -/
def msixReset (i : Nat) : Word := if i % 4 = 3 then 1 else 0

def hostReset : HostS where
  rings := []
  rowFetch := 0
  seq := 0
  dbErr := []
  accs := []
  nextId := 0
  tlb := []
  faults := []
  nextFid := 1
  frDown := false
  msix := []
  pba := 0
  load := 0
  lastRow := none
  gap := none

end Sys2Proof.Machine
end

