-- ==== Sys2Proof/Machine/TypesNet.lean ====
section
/-! DEFINITION. State of the network ports (R190 to R221). -/

namespace Sys2Proof.Machine

/-- A frame in a transmit queue (R203): bytes from destination address to the end of the payload, its queue and priority,
where it comes from (0 to 3: forwarded, from that ingress port; 4 house cores; 5 stream unit; 6 host), a timestamp request
(owner is the host; tag), the host descriptor whose completion waits for it, and a mark: the number that the copies of one
forwarded frame share in the packet buffer (R198), or the transmit slot of a frame of the stream unit. -/
structure TxFrame where
  bytes : List Byte
  queue : Nat
  pcp : Nat
  src : Nat
  stamp : Option (Bool × Nat)
  host : Option (Nat × Desc)
  mark : Nat
  deriving DecidableEq, Repr

/-- The frame in transmission: the port it is still arriving on by cut-through, whether the ingress found it bad (R202),
and the time base and time of its timestamp (R216), in 2^-16 ns. -/
structure TxNow where
  frame : TxFrame
  cut : Option Nat
  bad : Bool
  tb : Nat
  time : Nat
  deriving DecidableEq, Repr

/-- An entry of the transmit timestamp queue (R218): owner is the host, tag, time base, NS and FRAC. -/
structure TxStamp where
  host : Bool
  tag : Nat
  tb : Nat
  ns : Nat
  frac : Nat
  deriving DecidableEq, Repr

/-- Forwarding of the frame that is being received, decided before its end (R197, R199): egress ports, whether no
forwarding-table entry matched, and the ports that send it by cut-through. -/
structure CutRx where
  ports : List Nat
  miss : Bool
  sent : List Nat
  deriving DecidableEq, Repr

/-- A gate list that waits for its cycle start (R212): GATES and INTERVAL of its entries, EN, CYCLE and SCHEDQ. -/
structure GateList where
  entries : List (Nat × Nat)
  en : Bool
  cycle : Nat
  schedq : BitVec 8
  deriving DecidableEq, Repr

/-- One port. -/
structure PortS where
  /-- Queued frames in the order they were queued. -/
  queue : List TxFrame
  tx : Option TxNow
  cut : Option CutRx
  /-- Halts that run: PAUSE, and PFC by priority (R205). -/
  haltAll : Bool
  halts : BitVec 8
  /-- XOFF was sent last: PAUSE, and PFC by priority (R207). -/
  xoffAll : Bool
  xoff : BitVec 8
  /-- Active gate list and scheduled class; EN, CYCLE, entry and length are in GCL_STAT. -/
  gates : List (Nat × Nat)
  schedq : BitVec 8
  pend : Option GateList
  /-- A gate cycle runs, and a scheduled frame was dropped in it (R210). -/
  cycling : Bool
  dropped : Bool
  stamps : List TxStamp
  /-- Count-clock edge up to which LPI_TIME has counted the low-power idle that runs (R214). -/
  lpiFrom : Nat
  deriving DecidableEq, Repr

def portReset : PortS where
  queue := []
  tx := none
  cut := none
  haltAll := false
  halts := 0
  xoffAll := false
  xoff := 0
  gates := []
  schedq := 0
  pend := none
  cycling := false
  dropped := false
  stamps := []
  lpiFrom := 0

/-- An entry of the forwarding table (R196). -/
structure FdbEntry where
  valid : Bool
  ports : BitVec 4
  vid : Nat
  mac : Nat
  deriving DecidableEq, Repr

def fdbNone : FdbEntry := ⟨false, 0, 0, 0⟩

/-- The network ports; the number of the next forwarded frame in the packet buffer. -/
structure NetS where
  port : Table PortS
  fdb : Table FdbEntry
  nextCopy : Nat
  deriving DecidableEq, Repr

def netReset : NetS := ⟨[], [], 0⟩

end Sys2Proof.Machine
end

