-- ==== Sys2Proof/Machine/TypesOut.lean ====
section
/-! DEFINITION. What the block sends out. The model keeps it in `State.outbox`, newest first (log entry 3). -/

namespace Sys2Proof.Machine

/-- What a ball shows that carries no signal (R375, R629): driven low, high impedance, with a pull-down or a pull-up, electrical
idle or a differential 0, unpowered. -/
inductive BallLevel where
  | low
  | z
  | zDown
  | zUp
  | idle
  | unpowered
  deriving DecidableEq, Repr

/-- One thing sent out of the block. -/
inductive Output where
  /-- A die-link flit, toward the main die or toward the supply die (R21). -/
  | flit (toMain : Bool) (f : BitVec 128)
  /-- A write of bytes to host memory at an IO virtual address (R466). -/
  | hostWrite (addr : Nat) (data : List Byte)
  /-- A read of host memory (R468): ring or purpose tag, address, length. -/
  | hostRead (tag : Nat) (addr : Nat) (len : Nat)
  /-- An MSI-X message on a vector (R491). -/
  | msix (vec : Nat)
  /-- An event occurrence as the house cores receive it (R492). -/
  | house (event : Nat) (info : Word)
  /-- The word that a read access returns. -/
  | answer (w : Word)
  /-- The fabric's bus error to an on-chip master (R496). -/
  | busError
  /-- A frame put on a network port: port, bytes without FCS, and whether its FCS is good (R201, R202). -/
  | frame (port : Nat) (bytes : List Byte) (good : Bool)
  /-- A frame that the house cores receive (R194), with its receive timestamp: time base and time in 2^-16 ns (R217). -/
  | houseFrame (port : Nat) (bytes : List Byte) (tb time : Nat)
  /-- A frame of a TDM port bit clock by bit clock (R356): whether FS and SDO are launched on the rising edge of BCK, the level of
  FS where the port drives it, and SDO; none is high impedance. -/
  | tdm (port : Nat) (rising : Bool) (fs : List Bool) (sdo : List (Option Bool))
  /-- A frame of an AES3 output or of a MADI port: its subframes, and the JK sync symbols that follow it (R373). -/
  | localFrame (port : Nat) (words : List Word) (sync : Nat)
  /-- A cross-feed frame (R395): its bytes. -/
  | xfeed (bytes : List Byte)
  /-- A twin-link frame: its bytes (R510). -/
  | twin (bytes : List Byte)
  /-- What a modulator plays in a row (R389, R399): channel, sample, depth of modulation in 2^-23 of the rail after correction and
  feed-forward, idle frequency in kHz and dead time in ns. -/
  | modulate (ch : Nat) (sample depth : Int) (idle dead : Nat)
  /-- The target of the tracking boost and the rail it regulates to (R403), in V / (20 * 2^23 * 28,224,000). -/
  | boost (target rail : Nat)
  /-- An image that is programmed into a slot of the boot flash (R588). -/
  | flash (slot : Nat) (bytes : List Byte)
  /-- A level on a ball of the package, by name (R629). -/
  | ball (name : String) (level : Bool)
  /-- What named balls show from now on, without a signal (R375, R629). -/
  | balls (l : List (String × BallLevel))
  /-- A rising edge on a ball (R324). -/
  | edge (name : String)
  /-- A clock that the clock unit drives, and its frequency in Hz, 0 where it stops (R324). -/
  | clock (name : String) (hz : Nat)
  deriving DecidableEq, Repr

end Sys2Proof.Machine
end

