-- ==== Sys2Proof/Machine/TypesStr.lean ====
section
/-! DEFINITION. State of the stream unit (R222 to R261). -/

namespace Sys2Proof.Machine

/-- A Malraing copy held or recorded for a row (R235): row, claim word, and the samples of a held copy. -/
structure Copy where
  row : Word
  claim : Word
  words : List Word
  deriving DecidableEq, Repr

/-- One flow slot; receive slots are 0 to 255, transmit slots 256 to 511. -/
structure FlowSlot where
  /-- Codes of R241, and REASON (R244). -/
  state : Nat
  reason : Nat
  incarn : Nat
  /-- The 13 configuration words in effect. -/
  cfg : List Word
  /-- Latched incarnation or SSRC (FLATCH). -/
  latch : Nat
  /-- Rows E - 63 to E with a written copy and its claim word (R235). -/
  hist : List (Word × Word)
  early : Option Copy
  /-- Rows without a copy (R239), and whether the row that closes next has one. -/
  quiet : Nat
  wrote : Bool
  /-- Last row of a bind-off frame that was accepted (R242). -/
  lastRow : Option Word
  /-- First output row of a transmit slot, or pages of a receive bind-off done. -/
  start : Word
  fade : Nat
  /-- First row of a transmit bind-off. -/
  offRow : Option Word
  /-- Last words written (R242). -/
  words : List Word
  /-- Time in ns of the media time base at which DRAIN began (R243). -/
  drain : Nat
  /-- Jitter buffer: rows and their samples (R253). -/
  jit : List (Word × List Word)
  /-- Sequence number expected next (R260). -/
  seq : Option Nat
  /-- Transmit packets: rows gathered since j0, whether a packet is gathered, and whether it is sent (R252, R256). -/
  gather : Option (Word × Bool × List (List Word))
  /-- LATE or LATE_OLD, and MISSING, counted in the row (R237). -/
  lateRow : Bool
  missRow : Bool
  /-- FRAMES and DUP, the event counters by their index in the register window, and their SAT bits (R260). -/
  frames : Nat
  dup : Nat
  events : Table Nat
  sat : BitVec 10
  deriving DecidableEq, Repr

def flowReset : FlowSlot where
  state := 0
  reason := 0
  incarn := 0
  cfg := []
  latch := 0
  hist := []
  early := none
  quiet := 0
  wrote := false
  lastRow := none
  start := 0
  fade := 0
  offRow := none
  words := []
  drain := 0
  jit := []
  seq := none
  gather := none
  lateRow := false
  missRow := false
  frames := 0
  dup := 0
  events := []
  sat := 0

/-- The stream unit; `dead` marks that the receive deadline of the row that closes next has passed for packet formats. -/
structure StrS where
  flow : Table FlowSlot
  dead : Bool
  deriving DecidableEq, Repr

def strReset : StrS := ⟨[], false⟩

end Sys2Proof.Machine
end

