-- ==== Sys2Proof/Machine/TypesSys.lean ====
section
/-! DEFINITION. State of supply management (R538 to R569), boot and reset (R570 to R593) and swatch (R594 to R612). -/

namespace Sys2Proof.Machine

/-- A power-state transition that runs (R558, R560, R564). -/
inductive PowerMove where
  | none
  /-- To Idle (2) or Active (3) at the next row tick. -/
  | atTick (target : Nat)
  /-- Entering Standby; a wake source that occurred meanwhile. -/
  | entering (wake : Nat)
  /-- Leaving Standby. -/
  | waking
  deriving DecidableEq, Repr

structure SupS where
  /-- The node has left Off. -/
  powered : Bool
  move : PowerMove
  /-- The rail restart that runs (R555); times of rail faults in the last 10 s, in milliseconds, newest first. -/
  restart : Option Nat
  faults : List Nat
  /-- Events of the supply die that firmware raises once the main die runs (R555, R568): number and INFO, oldest first. -/
  owed : List (Nat × Nat)
  /-- Doorbell reads and status writes are stopped until the first row tick in Active after a Standby (R454, R564). -/
  paused : Bool
  deriving DecidableEq, Repr

def supReset : SupS := ⟨true, .none, none, [], [], false⟩

/-- The image that runs (R576): bytes, source (0 A, 1 B, 2 host). -/
structure Image where
  bytes : List Byte
  src : Nat
  deriving DecidableEq, Repr

/-- Fuses (R589). -/
structure Fuses where
  key0 : Option (List Byte)
  key1 : Option (List Byte)
  revoked : Bool
  count : Nat
  deriving DecidableEq, Repr

/-- Instructions of the JTAG port (R590). -/
inductive JtagInstr where
  | bypass | idcode | samplePreload | extest | debug
  deriving DecidableEq, Repr

structure BootS where
  /-- Causes that hold the main die in full reset, by code (R570). -/
  causes : List Nat
  /-- The reset that ends next is a power-on from Off (R582). -/
  cold : Bool
  /-- Sources still to try in order (R579); the first source failed, and with which reason. -/
  order : List Nat
  fell : Option Nat
  image : Option Image
  /-- Source last booted (R564). -/
  last : Option Nat
  /-- Boot events that wait for RUNNING (R593). -/
  events : List (Nat × Nat)
  /-- The slot booted is on trial until 10 s after DONE (R580). -/
  trial : Bool
  /-- The start-up sequence (R585): the record that runs, row ticks that a WAITROWS still waits for, whether a timed WRITE
  waits for its tick, and whether its unit refused it there. -/
  seqAt : Nat
  seqRows : Nat
  seqTick : Bool
  seqBad : Bool
  fuses : Fuses
  /-- The fuse operation that runs: its OP, and the key or count that it blows. -/
  fuseOp : Option (Nat × Nat)
  /-- The instruction selected at the JTAG port (R590). -/
  jtag : JtagInstr
  /-- Ring of the IMAGE_LOAD whose image boots from RECOVERY, and completes at DONE (R588). -/
  hostLoad : Option Nat
  /-- Rings whose IMAGE_LOAD programs the other slot (R588). -/
  programs : List Nat
  deriving DecidableEq, Repr

/-- Power-on: nothing booted, fuses blank (log entry 22). -/
def bootReset : BootS := ⟨[], true, [], none, none, none, [], false, 0, 0, false, false, ⟨none, none, false, 0⟩,
  none, .idcode, none, []⟩

/-- One record copy of the life counters (R610). -/
structure LifeRec where
  seq : Word
  words : List Word
  deriving DecidableEq, Repr

structure SwtS where
  /-- The foreground swatch that runs: test code and channel. -/
  fg : Option (Nat × Nat)
  /-- The memory march has begun (R605); its result is due at RUNNING in `BootS.events`. -/
  marching : Bool
  /-- Core tests: for each group, the place in the order of R599 and the physical core under test. -/
  place : Table Nat
  testing : Table (Option Nat)
  /-- Sense converter due next, and the one released (R603). -/
  trimNext : Nat
  trimming : Option Nat
  /-- Gain and offset of the last good trim of each sense converter (R603), in 0.01 %. -/
  trims : Table (Int × Int)
  /-- Gain and offset constants of each channel's correction loop (R604), in 0.01 %. -/
  loops : Table (Int × Int)
  /-- Seconds toward the next hour of each bin; 30 is Standby (R608). -/
  seconds : Table Nat
  /-- VBASE in 5 mV (R607). -/
  vbase : Nat
  /-- Life records in the non-volatile store, and the copy written last (R610). -/
  store : Table (Option LifeRec)
  copy : Nat
  saveSeq : Word
  deriving DecidableEq, Repr

def swtReset : SwtS := ⟨none, false, [], [], 0, none, [], [], [], 0x96, [], 0, 0⟩

end Sys2Proof.Machine
end

