-- ==== Sys2Proof/Machine/TypesTime.lean ====
section
/-! DEFINITION. State of the time bases (R295 to R322) and of the clock unit (R323 to R352). -/

namespace Sys2Proof.Machine

/-- A re-step in progress on a time base (R312 to R317). -/
inductive Restep where
  | none
  /-- Prepared: the next valid sample steps the time base; row ticks stopped first where it is the media time base. -/
  | prepared
  /-- The media time base waits for the tick that completes its preparation; the bind-off runs from the given row. -/
  | binding (row : Option Word)
  deriving DecidableEq, Repr

/-- The data of one Announce, as the best-master algorithm compares it (R302): who sent it, over which port, and the
grandmaster it names. -/
structure Announce where
  sender : Nat
  port : Nat
  prio1 : Nat
  cls : Nat
  accuracy : Nat
  variance : Nat
  prio2 : Nat
  gm : Nat
  steps : Nat
  /-- Path trace of 802.1AS, and the synchronization metadata TLV of ST 2059-2 (R302). -/
  path : List (BitVec 64)
  tlv : List Byte
  deriving DecidableEq, Repr

/-- One time base. -/
structure TimeBase where
  /-- The accumulator: the value of R295 in units of 2^-16 ns / (3 * 65536 * 10^8), so that an edge of the count clock
  adds a whole number. -/
  acc : Nat
  /-- Phase not yet absorbed (R306), in the same unit. -/
  phase : Int
  /-- FREQ in effect since each count-clock edge, newest first. -/
  hist : List (Nat × Int)
  /-- Consecutive samples: valid in UNSET, above STEPTHR, outside 250 ppm, inside the lock window, outside it, and fit to
  end a holdover with reason JUMP, RANGE or XOLOSS. -/
  good : Nat
  outRun : Nat
  rangeRun : Nat
  inRun : Nat
  offRun : Nat
  relRun : Nat
  /-- The path delay has been measured (R305). -/
  pathOk : Bool
  restep : Restep
  /-- Foreign masters by their last Announce. -/
  masters : List Announce
  /-- The master selected, and the one selected before it was lost. -/
  sel : Option Announce
  last : Option Announce
  /-- Count-clock edge of the entry into HOLDOVER, and whether class 6 was announced then (R335). -/
  holdSince : Nat
  class6 : Bool
  /-- The average that FREQ has still to reach in HOLDOVER, and the edge from which it may move again (R297, R309). -/
  target : Option (Int × Nat)
  /-- With SOURCE = CLOCK: how far the value led the DPLL's time count when it was set, in the unit of the value (R346). -/
  lead : Int
  /-- sequenceId of the Sync taken last from the selected master (R320), and the body of its Follow_Up information TLV. -/
  seqIn : Option (BitVec 16)
  info : List Byte
  deriving DecidableEq, Repr

/-- A time base after power-on (R298). -/
def timeBaseReset : TimeBase where
  acc := 0
  phase := 0
  hist := []
  good := 0
  outRun := 0
  rangeRun := 0
  inRun := 0
  offRun := 0
  relRun := 0
  pathOk := false
  restep := .none
  masters := []
  sel := none
  last := none
  holdSince := 0
  class6 := false
  target := none
  lead := 0
  seqIn := none
  info := []

/-- What FW_CONFIG sets for a time base (R441). -/
structure PtpCfg where
  sync : Option Int
  announce : Option Int
  timeout : Option Nat
  tlv : List Byte
  deriving DecidableEq, Repr

def ptpCfgReset : PtpCfg := ⟨none, none, none, []⟩

/-- The time bases. -/
structure TbS where
  /-- Count-clock edges since power-on. -/
  edges : Nat
  base : Table TimeBase
  fw : Table PtpCfg
  /-- RESULT of a media re-step whose done event waits for the first row tick (R317). -/
  doneDue : Option (Nat × Nat)
  /-- Ports on which firmware sends ESMC (R441), and its LLDP intervals in seconds by port. -/
  esmcOn : BitVec 4
  lldp : Table Nat
  /-- sequenceId of the next PTP message of each kind on each port, by `seqKey` (R320). -/
  seqs : Table (BitVec 16)
  /-- sequenceId and transmit time, in 2^-16 ns, of the Sync whose Follow_Up is due, by time base and port (R220, R302). -/
  syncs : Table (Option (BitVec 16 × Nat))
  deriving DecidableEq, Repr

def tbReset : TbS := ⟨0, [], [], none, 0xF, [], [], []⟩

/-- One reference input (R330 to R340). -/
structure RefIn where
  /-- An edge was accepted since the last loss. -/
  seen : Bool
  /-- Frequency offset, 2^-16 ppm. -/
  offset : Int
  /-- Consecutive 125 ms updates above WATCH, WARN and DISQ, and below each of them less HYST (R340). -/
  upW : Nat
  upN : Nat
  upD : Nat
  downW : Nat
  downN : Nat
  downD : Nat
  /-- Consecutive 1 ms windows within 2 % of nominal (R338). -/
  goodWin : Nat
  /-- Rank that ESMC gives, in force from the next DPLL update (R333). -/
  esmc : Nat
  /-- DPLL updates of wait-to-restore left, for WTRLEFT. -/
  wtr : Nat
  deriving DecidableEq, Repr

def refInReset : RefIn := ⟨false, 0, 0, 0, 0, 0, 0, 0, 0, 4, 0⟩

/-- The clock unit. -/
structure ClkS where
  /-- DPLL frequency and its average held for HOLDOVER, 2^-16 ppm. -/
  freq : Int
  held : Int
  /-- DPLL frequency over the last updates, newest first: frequency and number of updates. -/
  hist : List (Int × Nat)
  /-- Phase not pulled in, in quarters of a picosecond, and the last step in ps (R345). -/
  rem : Int
  lastStep : Int
  /-- Consecutive updates within 10 ns in LOCKING, updates in LOCKED, and the count-clock edge of the entry into HOLDOVER. -/
  lockRun : Nat
  lockedRun : Nat
  holdFrom : Nat
  /-- Time count of the DPLL's output (R331), in the unit of the time bases. -/
  count : Nat
  refs : Table RefIn
  /-- XO_IN runs (R328). -/
  xo : Bool
  deriving DecidableEq, Repr

def clkReset : ClkS := ⟨0, 0, [], 0, 0, 0, 0, 0, 0, [], true⟩

end Sys2Proof.Machine
end

