-- ==== Sys2Proof/Machine/TypesTwn.lean ====
section
/-! DEFINITION. State of the twin unit and the referee (R504 to R531). -/

namespace Sys2Proof.Machine

/-- A MIRROR frame without its acknowledgement: SEQ, records of 24 bytes, copies sent again (R519). -/
structure MirFrame where
  seq : Word
  records : List (List Byte)
  tries : Nat
  deriving DecidableEq, Repr

/-- A REG record held for its row (R518): row, W0 offset, value. -/
structure RegRec where
  row : Word
  off : Nat
  value : Word
  deriving DecidableEq, Repr

/-- The partner's latest HELLO (R511), with this unit's row index at its arrival. -/
structure Hello where
  pairId : Nat
  unit : Nat
  prio : Nat
  estab : Bool
  joinReady : Bool
  claim : Word
  rowIdx : Word
  profile : Word
  guard : Word
  ptpcfg : Word
  ownRow : Word
  deriving DecidableEq, Repr

/-- The digests of one page (R521): row, cluster digests, stitch masks, matrix stitch flag. -/
structure DigestSet where
  row : Word
  digests : List DWord
  masks : List (BitVec 8)
  mtx : Bool
  deriving DecidableEq, Repr

/-- What the referee knows of one unit of a pair (R527): heartbeats heard for rows not yet evaluated as (row, claim word,
STATUS), the latest claim word and STATUS, and consecutive present rows. -/
structure RefUnit where
  heard : List (Word × Word × Word)
  claim : Word
  status : Word
  run : Nat
  deriving DecidableEq, Repr

def refUnitReset : RefUnit := ⟨[], 0, 0, 0⟩

/-- A grant being sent (R529): target unit, NEWGEN, payload and copies sent. -/
structure GrantTx where
  unit : Nat
  newGen : Nat
  payload : List Byte
  copies : Nat
  deriving DecidableEq, Repr

/-- One pair at the referee: GSEQ, rows of hold-off left, rows both units report DIV. Unit states, miss counts and Gmax are
in PSTAT and GMAX; `gmaxSet` says whether a generation has been seen. -/
structure RefPair where
  a : RefUnit
  b : RefUnit
  gmaxSet : Bool
  gseq : Word
  grant : Option GrantTx
  hold : Nat
  divRun : Nat
  deriving DecidableEq, Repr

def refPairReset : RefPair := ⟨refUnitReset, refUnitReset, false, 0, none, 0, 0⟩

/-- The twin unit and the referee. -/
structure TwnS where
  txSeq : Word
  /-- SEQ values accepted last, newest first, at most 64 (R510). -/
  history : List Word
  unacked : List MirFrame
  regHeld : List RegRec
  /-- The last READY reports of value 1 (R146): keys 256 * KIND + core, and 4096 more for the partner's; the row of the report,
  or none once it is old enough for every later tick. -/
  ready : Table (Option (Option Word))
  /-- Whole rows without a HEARTBEAT, one received in the present row, loss already raised (R516). -/
  noHb : Nat
  hbRow : Bool
  lost : Bool
  /-- Rows the twin link has been down; rows of SETTLING left. -/
  downRows : Nat
  settle : Nat
  /-- The pause of R519. -/
  pause : Bool
  hello : Option Hello
  /-- HELLO_SENDs (milliseconds) until a refused unit tries again (R514). -/
  retry : Nat
  /-- The checks have passed; JOINREADY, and a HELLO that shows it has been sent (R515). -/
  checked : Bool
  joinReady : Bool
  joinShown : Bool
  /-- GEN to take at the next row tick (R505). -/
  genDue : Option Nat
  /-- INCARN records taken since the checks passed; values held for JOIN, and whether they are due at the next engine
  tick (R515). -/
  incarns : Nat
  heldRegs : List (Nat × Word)
  heldQueue : List TpRec
  joinDue : Bool
  /-- PINGs sent, twice the delay values of the PONGs, measurement ended (R517). -/
  pings : Nat
  pongs : List Int
  measured : Bool
  /-- The last 16 values of the tick offset, newest first (R517). -/
  deltas : List Int
  /-- Digests of the last rows, own and partner's (R521). -/
  own : List DigestSet
  partner : List DigestSet
  /-- Compared rows since a divergent one, also since PAIRED was entered; by cluster since the stitch masks differed (key
  16: the matrix flags); missing keys: never (R522, R523). -/
  divAge : Nat
  divAgeIn : Nat
  stitchAge : Table Nat
  /-- GSEQ last accepted (R530). -/
  gseq : Option Word
  /-- The grants accepted that wait for their row ticks, oldest first: NEWGEN, RESET (R530, R536). -/
  grants : List (Nat × Bool)
  /-- PRST_OUT is driven active (R531). -/
  prst : Bool
  /-- SEQ of the MBX frame of each twin send (R499). -/
  mbxSeq : Table Word
  pairs : Table RefPair
  deriving DecidableEq, Repr

def twnReset : TwnS where
  txSeq := 0
  history := []
  unacked := []
  regHeld := []
  ready := []
  noHb := 255
  hbRow := false
  lost := true
  downRows := 0
  settle := 0
  pause := false
  hello := none
  retry := 0
  checked := false
  joinReady := false
  joinShown := false
  genDue := none
  incarns := 0
  heldRegs := []
  heldQueue := []
  joinDue := false
  pings := 0
  pongs := []
  measured := false
  deltas := []
  own := []
  partner := []
  divAge := 1024
  divAgeIn := 64
  stitchAge := []
  gseq := none
  grants := []
  prst := false
  mbxSeq := []
  pairs := []

end Sys2Proof.Machine
end

