-- ==== Sys2Proof/Machine/State.lean ====
section
/-! DEFINITION. The state of the block. -/

namespace Sys2Proof.Machine

/-- Why the block stops. No command of this block stops it (notes under Stops). -/
inductive Fault where
  /-- Raised by no command: the type only has to have a value. Safe. -/
  | never
  deriving DecidableEq, Repr

/-- Why a command is refused by the model. -/
inductive Refusal where
  /-- Raised by an arm of `exec` whose command has no meaning yet; no arm is of this kind. Safe: the model stops. -/
  | notModelled (mnemonic : String)
  deriving DecidableEq, Repr

structure State where
  /-- The commands that wait, first in first out (log entry 1). -/
  pending : List Instr
  /-- The registers of W0, W2 and the supply die, by W0 address (R420, R615); an unlisted one reads its reset value. -/
  regs : Table Word
  /-- The running counts behind the captured counters, by the address of the counter (R14). -/
  live : Table Nat
  /-- What the block has sent out, newest first: the model's own record (log entry 3). -/
  outbox : List Output
  /-- The counter that free values are applied to (log entry 4). -/
  free : Nat
  /-- The row: index, pages, gauge, timed parameters, migrations (R119 to R157). -/
  row : RowS
  /-- The sample store, shared memory, matrix and delay lines (R158 to R190). -/
  fab : FabS
  /-- The 128 logical engine cores (R48 to R118). -/
  cores : Table Core
  /-- The two ends of the die link (R21 to R25). -/
  link : LinkS
  /-- Event sources and mailboxes (R481 to R503). -/
  evt : EvtS
  /-- The twin unit and the referee (R504 to R536). -/
  twn : TwnS
  /-- The four time bases and their protocols (R294 to R322). -/
  tb : TbS
  /-- The clock unit and its references (R323 to R350). -/
  clk : ClkS
  /-- Rings, host accesses, translations and open faults (R418 to R480). -/
  host : HostS
  /-- The four network ports and the forwarding table (R191 to R221). -/
  net : NetS
  /-- The receive and transmit flow slots (R222 to R260). -/
  str : StrS
  /-- The six lanes (R261 to R293). -/
  lane : Table LaneS
  /-- The 34 local ports and the start groups (R351 to R388). -/
  loc : LocS
  /-- The power stage: row intake, channels, boost, tunnel (R389 to R417). -/
  amp : AmpS
  /-- Supply management: power state in transition, rail faults (R537 to R568). -/
  sup : SupS
  /-- Reset causes, boot, image, fuses, JTAG (R569 to R593). -/
  boot : BootS
  /-- Swatch and service life, with the non-volatile store (R594 to R612). -/
  swt : SwtS
  deriving DecidableEq, Repr

/-- The state right after the release of a power-on reset: every register at its reset value (an unlisted register reads its
reset value), the boot about to begin, and nothing waiting. -/
def State.reset : State where
  pending := []
  regs := []
  live := []
  outbox := []
  free := 0
  row := rowReset
  fab := fabReset
  cores := []
  link := linkReset
  evt := evtReset
  twn := twnReset
  tb := tbReset
  clk := clkReset
  host := hostReset
  net := netReset
  str := strReset
  lane := []
  loc := locReset
  amp := ampReset
  sup := supReset
  boot := bootReset
  swt := swtReset

/-- The outcome of a command. -/
abbrev Answer := Host.Outcome State Fault Refusal

end Sys2Proof.Machine
end

