-- ==== Sys2Proof/Machine/Ops.lean ====
section
/-! DEFINITION. The named operations over the state: registers and fields, counters (R14), event sources (R481 to R488),
mailboxes (R494 to R499), the die link (R21 to R24), and what goes out. -/

namespace Sys2Proof.Machine

/-! ### Registers and fields -/

/-- The register word at W0 address `a`. -/
def State.reg (s : State) (a : Nat) : Word := s.regs.get resetWord a

/-- Replace the register word at `a`. -/
def State.setReg (s : State) (a : Nat) (w : Word) : State := { s with regs := s.regs.set resetWord a w }

/-- Bits [msb:lsb] of a word as a number. -/
def bitsOf (w : Word) (msb lsb : Nat) : Nat := w.toNat / 2 ^ lsb % 2 ^ (msb + 1 - lsb)

/-- The word with bits [msb:lsb] replaced. -/
def withBits (w : Word) (msb lsb v : Nat) : Word :=
  BitVec.ofNat 32 (w.toNat % 2 ^ lsb + v % 2 ^ (msb + 1 - lsb) * 2 ^ lsb + w.toNat / 2 ^ (msb + 1) * 2 ^ (msb + 1))

/-- The value of a register field. -/
def State.get (s : State) (f : Fd) : Nat := bitsOf (s.reg f.addr) f.msb f.lsb

/-- Is a one-bit field set? -/
def State.on (s : State) (f : Fd) : Bool := s.get f == 1

/-- Hardware sets a register field. -/
def State.put (s : State) (f : Fd) (v : Nat) : State :=
  s.setReg f.addr (withBits (s.reg f.addr) f.msb f.lsb v)

/-- Hardware sets a one-bit field. -/
def State.flag (s : State) (f : Fd) (b : Bool) : State := s.put f b.toNat

/-- A two's-complement number of `n` bits. -/
def signedOf (n v : Nat) : Int := if v < 2 ^ (n - 1) then (v : Int) else (v : Int) - 2 ^ n

/-- An integer as an `n`-bit two's-complement number. -/
def unsignedOf (n : Nat) (x : Int) : Nat := (x % 2 ^ n).toNat

/-- Signed value of a field. -/
def State.getS (s : State) (f : Fd) : Int := signedOf (f.msb + 1 - f.lsb) (s.get f)

/-- Set a signed field. -/
def State.putS (s : State) (f : Fd) (x : Int) : State := s.put f (unsignedOf (f.msb + 1 - f.lsb) x)

/-- `a` is later than `b` as `n`-bit wrapping counters (R8). -/
def laterThan (n a b : Nat) : Bool :=
  let d := (a + 2 ^ n - b % 2 ^ n) % 2 ^ n
  decide (0 < d) && decide (d < 2 ^ (n - 1))

/-- `a` is earlier than `b` as `n`-bit wrapping counters: what is neither equal nor later, half the range apart included (R8). -/
def earlierThan (n a b : Nat) : Bool := decide (2 ^ (n - 1) ≤ (a + 2 ^ n - b % 2 ^ n) % 2 ^ n)

/-! ### Output -/

/-- Send something out. -/
def State.send (s : State) (o : Output) : State := { s with outbox := o :: s.outbox }

/-- A fresh free value: the counter it is applied to advances (log entry 4). -/
def State.bumpFree (s : State) : State := { s with free := s.free + 1 }

/-- Replace the scheduler state. -/
def State.setRow (s : State) (r : RowS) : State := { s with row := r }

/-! ### Standby -/

/-- The node enters Standby, is in it, or leaves it: main-die clocks are stopped or about to be (R560 to R564). -/
def State.asleep (s : State) : Bool :=
  s.get ⟨Reg.SUP_PWR_STAT, 1, 0⟩ == 1 || (match s.sup.move with
    | .entering _ => true
    | .waking => true
    | _ => false)

/-- The count clock runs: XO_IN is there and the node is not in Standby (R298, R328). -/
def State.clockRuns (s : State) : Bool := s.clk.xo && !s.asleep

/-! ### Cores -/

/-- Logical core `c`. -/
def State.core (s : State) (c : Nat) : Core := s.cores.get (fun _ => coreReset) c

/-- Replace logical core `c`. -/
def State.setCore (s : State) (c : Nat) (k : Core) : State :=
  { s with cores := s.cores.set (fun _ => coreReset) c k }

/-- Change logical core `c`. -/
def State.modCore (s : State) (c : Nat) (f : Core → Core) : State := s.setCore c (f (s.core c))

/-! ### Event sources -/

/-- Is event source `n` listed in a table of R486? -/
def eventListed (n : Nat) : Bool :=
  decide (n % 32 < 2) || (decide (2 ≤ n) && decide (n ≤ 11)) || (decide (16 ≤ n) && decide (n ≤ 31)) ||
  (decide (34 ≤ n) && decide (n ≤ 48)) || (decide (66 ≤ n) && decide (n ≤ 73)) ||
  (decide (98 ≤ n) && decide (n ≤ 103)) || (decide (130 ≤ n) && decide (n ≤ 139)) ||
  (decide (162 ≤ n) && decide (n ≤ 167)) || (decide (194 ≤ n) && decide (n ≤ 209)) ||
  (decide (226 ≤ n) && decide (n ≤ 241))

/-- Is source `n` a level source: counter saturation, or mailbox-to-host (R484, R486)? -/
def eventLevel (n : Nat) : Bool := decide (n % 32 = 0) || (decide (16 ≤ n) && decide (n ≤ 31))

/-- Status bit of source `n`. -/
def fdStatus (n : Nat) : Fd := ⟨Reg.EVT_STATUS (n / 32), n % 32, n % 32⟩

/-- Enable bit of source `n`. -/
def fdEnable (n : Nat) : Fd := ⟨Reg.EVT_ENABLE (n / 32), n % 32, n % 32⟩

/-- Delivery state of source `n`. -/
def State.evtSrc (s : State) (n : Nat) : EvtSrc := s.evt.src.get (fun _ => evtSrcReset) n

def State.setEvtSrc (s : State) (n : Nat) (e : EvtSrc) : State :=
  { s with evt := { s.evt with src := s.evt.src.set (fun _ => evtSrcReset) n e } }

/-- ROWIDX that an event record carries: 0 while there are no row ticks (R489). -/
def State.eventRow (s : State) : Word := if s.row.ticks then s.row.rowIdx else 0

/-- One occurrence of source `n` (R482): status bit, INFO, and the pending count when the source is enabled; the house
cores receive it in any case (R492). -/
def State.raise (s : State) (n info : Nat) : State :=
  let s1 := (s.flag (fdStatus n) true).setReg (Reg.EVT_INFO n) (BitVec.ofNat 32 info)
  let e := { s.evtSrc n with row := s.eventRow }
  let s2 := s1.setEvtSrc n (if s.on (fdEnable n) then { e with count := min 255 (e.count + 1), since := true } else e)
  s2.send (.house n (BitVec.ofNat 32 info))

/-- The condition of level source `n` is now `b` (R483): a rise is an occurrence. -/
def State.level (s : State) (n : Nat) (b : Bool) (info : Nat) : State :=
  if b then (if s.on (fdStatus n) then s else s.raise n info) else s.flag (fdStatus n) false

/-- The event group of the block that holds W0 address `a` (R484). -/
def groupOf (a : Nat) : Nat :=
  let w := a / 0x10000
  if w ≤ 4 then 0
  else if w = 5 ∨ w = 7 ∨ w = 0x44 ∨ w = 0x45 then 7
  else if w = 6 ∨ w = 0x43 ∨ w = 0x46 then 6
  else if w ≤ 0x1F then 1
  else if w ≤ 0x29 then 2
  else if w = 0x2A then 3
  else if w ≤ 0x2F then 4
  else 5

/-- The invalid-setting event for a refused write of the register at `a` (R13, R485). -/
def State.invalid (s : State) (a : Nat) : State := s.raise (32 * groupOf a + 1) (a % 0x1000000)

/-! ### Counters (R14) -/

/-- A counter: the address its live count is kept under, and its SAT bit. -/
structure Ctr where
  addr : Nat
  sat : Fd
  deriving DecidableEq, Repr

/-- The live count behind address `a`. -/
def State.liveAt (s : State) (a : Nat) : Nat := s.live.get (fun _ => 0) a

def State.setLive (s : State) (a n : Nat) : State := { s with live := s.live.set (fun _ => 0) a n }

/-- Set a SAT bit: counter saturation of its group rises (R484). -/
def State.setSat (s : State) (f : Fd) : State :=
  (s.flag f true).level (32 * groupOf f.addr) true (f.addr % 0x1000000)

/-- An event counter counts `k` more (R14): at 0xFFFFFFFF it saturates and sets its SAT bit. -/
def State.countBy (s : State) (c : Ctr) (k : Nat) : State :=
  let n := s.liveAt c.addr + k
  if k = 0 then s
  else if 2 ^ 32 - 1 ≤ n then (s.setLive c.addr (2 ^ 32 - 1)).setSat c.sat
  else s.setLive c.addr n

/-- An event counter counts one. -/
def State.count (s : State) (c : Ctr) : State := s.countBy c 1

/-- A byte or frame counter counts `k` more: 64 bits, wrapping (R14). -/
def State.count64 (s : State) (a k : Nat) : State := s.setLive a ((s.liveAt a + k) % 2 ^ 64)

/-- An event counter that is read and cleared (RC) lives in its own register. -/
def State.countReg (s : State) (f sat : Fd) (k : Nat) : State :=
  let n := s.get f + k
  if k = 0 then s
  else if 2 ^ 32 - 1 ≤ n then (s.put f (2 ^ 32 - 1)).setSat sat
  else s.put f n

/-- Capture the 32-bit live counts kept under `as` into their registers. -/
def State.capture32 (s : State) : List Nat → State
  | [] => s
  | a :: t => (s.setReg a (BitVec.ofNat 32 (s.liveAt a))).capture32 t

/-- Capture 64-bit live counts, low word at `a`, high word at `a + 4`. -/
def State.capture64 (s : State) : List Nat → State
  | [] => s
  | a :: t =>
    ((s.setReg a (BitVec.ofNat 32 (s.liveAt a))).setReg (a + 4) (BitVec.ofNat 32 (s.liveAt a / 2 ^ 32))).capture64 t

/-- `n` addresses from `a` in steps of `d`. -/
def addrs (a d : Nat) : Nat → List Nat
  | 0 => []
  | n + 1 => a :: addrs (a + d) d n

/-- The bits of EVT.ENABLEg that exist: those of sources that a table lists; the others are reserved (R12, R486). -/
def enableMask (g : Nat) : Word :=
  BitVec.ofNat 32 ((addrs 0 1 32).foldl (fun m n => if eventListed (32 * g + n) then m + 2 ^ n else m) 0)

/-- The bits of a register that exist where its fields alone do not tell: the enable bits of listed sources. -/
def existing (a : Nat) : Word :=
  if Reg.EVT_ENABLE 0 ≤ a ∧ a < Reg.EVT_ENABLE 8 then enableMask (a / 4 % 8) else 0xFFFFFFFF

/-! ### Swatch results -/

/-- Counters of the swatch unit: 0 CORE_TESTS, 1 FG_REFUSED, 2 FAILS. -/
def ctrSwt (j : Nat) : Ctr := ⟨Reg.SWT_CORE_TESTS + 4 * j, ⟨Reg.SWT_CNT_SAT, j, j⟩⟩

/-- A swatch fails (R601 to R605): test code and place of the failure. -/
def State.failSwatch (s : State) (test place : Nat) : State := (s.count (ctrSwt 2)).raise 239 (test + 256 * place)

/-- The foreground swatch ends with a result, 1 PASSED, 2 FAILED or 3 ABORTED (R604, R612). -/
def State.endForeground (s : State) (result : Nat) : State :=
  match s.swt.fg with
  | some (t, c) =>
    let s1 := s.put Fld.SWT_FG_STAT_RESULT (if result = 3 then 6 else result + 1)
    let s2 := if result = 2 then s1.failSwatch t c else s1
    ({ s2 with swt := { s2.swt with fg := none } } : State).raise 237 (t + 256 * c + 65536 * result)
  | none => s

end Sys2Proof.Machine
end

