-- ==== Sys2Proof/Machine/Link.lean ====
section
/-! DEFINITION. The die link (R21 to R25): flit layout and CRC, sending under credit and the replay window,
acknowledgement, replay, and the error counts of R617. -/

namespace Sys2Proof.Machine

/-- One step of a CRC, most significant bit first: register of `n` bits, polynomial, one message bit. -/
def crcBit (n poly : Nat) (c : Nat) (b : Bool) : Nat :=
  let top := decide (2 ^ (n - 1) ≤ c)
  let c2 := c * 2 % 2 ^ n
  if top != b then Nat.xor c2 poly else c2

/-- The CRC over a list of bits. -/
def crcBits (n poly : Nat) (c : Nat) : List Bool → Nat
  | [] => c
  | b :: t => crcBits n poly (crcBit n poly c b) t

/-- The bits of a number of `n` bits, most significant first. -/
def bitsMsb (v : Nat) : Nat → List Bool
  | 0 => []
  | n + 1 => decide (v / 2 ^ n % 2 = 1) :: bitsMsb v n

/-- The CRC over a list of bytes. -/
def crcBytes (n poly : Nat) (c : Nat) (bs : List Byte) : Nat :=
  bs.foldl (fun c b => crcBits n poly c (bitsMsb b.toNat 8)) c

/-- CRC-16 of R21 over the 14 bytes of header and payload, given as a 112-bit number. -/
def flitCrc (v : Nat) : Nat := crcBits 16 0x1021 0xFFFF (bitsMsb v 112)

/-- A flit: byte 0 in bits [127:120] (R21). -/
def mkFlit (typ seq ackseq credit payload : Nat) : BitVec 128 :=
  let v := ((typ % 16 * 16 + seq % 16) * 256 + (ackseq % 16 * 16 + credit % 16)) * 2 ^ 96 + payload % 2 ^ 96
  BitVec.ofNat 128 (v * 2 ^ 16 + flitCrc v)

def flitType (f : BitVec 128) : Nat := f.toNat / 2 ^ 124
def flitSeq (f : BitVec 128) : Nat := f.toNat / 2 ^ 120 % 16
def flitAck (f : BitVec 128) : Nat := f.toNat / 2 ^ 116 % 16
def flitCredit (f : BitVec 128) : Nat := f.toNat / 2 ^ 112 % 16
def flitPayload (f : BitVec 128) : Nat := f.toNat / 2 ^ 16 % 2 ^ 96
def flitGood (f : BitVec 128) : Bool := flitCrc (f.toNat / 2 ^ 16) == f.toNat % 2 ^ 16

/-- Payload bits [hi:lo]. -/
def payBits (p hi lo : Nat) : Nat := p / 2 ^ lo % 2 ^ (hi + 1 - lo)

/-- Payload of MBX and of the like: an upper field at bit `pos` and the word in [63:32]. -/
def payWord (pos n w : Nat) : Nat := n * 2 ^ pos + w % 2 ^ 32 * 2 ^ 32

/-- The end of the link on the main die (`true`) or the supply die. -/
def State.linkEnd (s : State) (onMain : Bool) : LinkEnd := if onMain then s.link.main else s.link.sup

def State.setLinkEnd (s : State) (onMain : Bool) (e : LinkEnd) : State :=
  if onMain then { s with link := { s.link with main := e } } else { s with link := { s.link with sup := e } }

/-- ACKSEQ that an end sends: SEQ of the last flit accepted in order (R21). -/
def LinkEnd.ackSeq (e : LinkEnd) : Nat := (e.expSeq + 15) % 16

/-- Send a flit that is not sequenced from an end: its ACKSEQ, and 15 free entries, since the model takes every flit
out of the input buffer at its arrival (log entry 10). -/
def State.sendFlit (s : State) (onMain : Bool) (typ payload : Nat) : State :=
  s.send (.flit (!onMain) (mkFlit typ 0 (s.linkEnd onMain).ackSeq 15 payload))

/-- Put one sequenced flit on the wire. -/
def State.wireSeq (s : State) (onMain : Bool) (f : SeqFlit) : State :=
  s.send (.flit (!onMain) (mkFlit f.typ f.seq (s.linkEnd onMain).ackSeq 15 f.payload.toNat))

/-- May an end send a sequenced flit now (R24)? -/
def LinkEnd.maySend (e : LinkEnd) : Bool := decide (0 < e.credit) && decide (e.unacked.length < 8)

/-- Send the head of an end's queue once credit and the replay window allow it (R24). -/
def State.pumpLink (s : State) (onMain : Bool) : State :=
  let e := s.linkEnd onMain
  match e.queue with
  | [] => s
  | (t, p) :: q =>
    if e.maySend then
      let f : SeqFlit := ⟨e.nextSeq, t, p⟩
      (s.setLinkEnd onMain { e with nextSeq := (e.nextSeq + 1) % 16, unacked := e.unacked ++ [f], queue := q,
                                    credit := e.credit - 1 }).wireSeq onMain f
    else s

/-- Hand a sequenced flit to an end: it goes out at once when nothing waits and R24 allows it, else it waits. -/
def State.queueFlit (s : State) (onMain : Bool) (typ payload : Nat) : State :=
  let e := s.linkEnd onMain
  let s1 := s.setLinkEnd onMain { e with queue := e.queue ++ [(typ, BitVec.ofNat 96 payload)] }
  if e.queue.isEmpty then s1.pumpLink onMain else s1

/-- Drop the acknowledged prefix: every flit up to and including the one bearing `a`; none when no flit bears it. -/
def ackPrefix (a : Nat) (u : List SeqFlit) : List SeqFlit :=
  if u.any (fun f => f.seq == a) then (u.dropWhile (fun f => f.seq != a)).drop 1 else u

/-- ACKSEQ and CREDIT of a received flit (R24). -/
def State.takeAck (s : State) (onMain : Bool) (ack credit : Nat) : State :=
  let e := s.linkEnd onMain
  s.setLinkEnd onMain { e with unacked := ackPrefix ack e.unacked, credit := credit }

/-- Replay the unacknowledged flits from the named SEQ onward (R23); none when no flit bears it. -/
def State.replay (s : State) (onMain : Bool) (seq : Nat) : State :=
  ((s.linkEnd onMain).unacked.dropWhile (fun f => f.seq != seq)).foldl (fun s f => s.wireSeq onMain f) s

/-- A supply-die event, or its link errors, as an EVT flit toward the main die (R22, R617). -/
def State.supplyEvent (s : State) (n info : Nat) : State := s.queueFlit false 9 (payWord 88 n info)

/-- The counter of link error kind `i`: 0 CRC, 1 BADTYPE, 2 MODLATE. -/
def ctrLink (i : Nat) : Ctr := ⟨Reg.LNK_ERRCNT i, ⟨Reg.LNK_CNT_SAT, i, i⟩⟩

/-- The main die counts link error kind `i` and notes it for the row's event 205 (R617, R486). -/
def State.countLinkErr (s : State) (i : Nat) : State :=
  let s1 := s.count (ctrLink i)
  { s1 with link := { s1.link with rowErr := s1.link.rowErr ||| BitVec.ofNat 3 (2 ^ i) } }

/-- An error found at one end: the main die counts it; the supply die reports it in an EVT flit, number 205 (R617),
and not while the main die is in full reset (`inReset`). -/
def State.linkErr (s : State) (onMain inReset : Bool) (i : Nat) : State :=
  if onMain then s.countLinkErr i
  else if inReset then s
  else s.supplyEvent 205 (2 ^ i)

/-- Send NAK naming the SEQ expected next (R23, R24). -/
def State.sendNak (s : State) (onMain : Bool) : State :=
  let e := s.linkEnd onMain
  (s.setLinkEnd onMain { e with nakSent := true }).sendFlit onMain 10 (e.expSeq * 2 ^ 92)

end Sys2Proof.Machine
end

