-- ==== Sys2Proof/Machine/Mailbox.lean ====
section
/-! DEFINITION. The mailboxes (R494 to R502) as operations shared by every party that reaches them. -/

namespace Sys2Proof.Machine

def State.mbx (s : State) (n : Nat) : Mbx := s.evt.box.get (fun _ => mbxReset) n

def State.setMbx (s : State) (n : Nat) (m : Mbx) : State :=
  { s with evt := { s.evt with box := s.evt.box.set (fun _ => mbxReset) n m } }

def ctrHrej : Ctr := ⟨Reg.MBX_HREJ_CNT, ⟨Reg.MBX_CNT_SAT, 0, 0⟩⟩
def ctrBuserr : Ctr := ⟨Reg.MBX_BUSERR_CNT, ⟨Reg.MBX_CNT_SAT, 1, 1⟩⟩
def ctrTwrej : Ctr := ⟨Reg.MBX_TWREJ_CNT, ⟨Reg.MBX_CNT_SAT, 2, 2⟩⟩

/-- The mailbox-to-host event of MB16 to MB31 follows the full flag (R486, R501). -/
def State.mbxEvent (s : State) (n : Nat) : State :=
  if 16 ≤ n ∧ n ≤ 31 then s.level n (s.mbx n).full (s.mbx n).word.toNat else s

/-- A write by `writer` (codes of LASTW): an empty mailbox stores the word, a full one rejects it (R494). The flag says
whether it was stored. -/
def State.mbxWrite (s : State) (n : Nat) (w : Word) (writer : Nat) : State × Bool :=
  if (s.mbx n).full then (s, false)
  else (((s.setMbx n ⟨w, true⟩).put (Fld.MBX_LASTW_WRITER n) writer).mbxEvent n, true)

/-- A read: a full mailbox gives its word and empties; an empty one gives 0 (R494). A read that empties one of MB56 to
MB63 sends an MBX flit with the number and the word 0 to the supply die (R498). The flag says whether it was full. -/
def State.mbxRead (s : State) (n : Nat) : State × Word × Bool :=
  if (s.mbx n).full then
    let s1 := (s.setMbx n mbxReset).mbxEvent n
    (if 56 ≤ n then s1.queueFlit true 8 (payWord 90 n 0) else s1, (s.mbx n).word, true)
  else (s, 0, false)

/-- A write by an on-chip master: a full mailbox answers with a bus error, which is counted (R496). -/
def State.mbxWriteOnChip (s : State) (n : Nat) (w : Word) (writer : Nat) : State × Bool :=
  let r := s.mbxWrite n w writer
  if r.2 then r else (r.1.count ctrBuserr, false)

/-- The full flags of MB32i to MB32i + 31 as one word (R61, R495). -/
def State.mbxFullWord (s : State) (i : Nat) : Word :=
  BitVec.ofNat 32 ((addrs 0 1 32).foldl (fun n k => n + (s.mbx (32 * i + k)).full.toNat * 2 ^ k) 0)

/-- A twin send ends as rejected (R499). -/
def State.rejectTwsend (s : State) (i : Nat) : State :=
  let m : BitVec 8 := BitVec.ofNat 8 (2 ^ i)
  (({ s with evt := { s.evt with twrej := s.evt.twrej ||| m, twbusy := s.evt.twbusy &&& ~~~m } }).count ctrTwrej).raise 11
    (0x40 + i)

end Sys2Proof.Machine
end

