-- ==== Sys2Proof/Machine/Fabric.lean ====
section
/-! DEFINITION. The sample store and the channel map (R159 to R168), shared memory and its owners (R183 to R188), and the
rate arithmetic of the row (R119, R121). -/

namespace Sys2Proof.Machine

/-! ### Rates and windows -/

/-- Sample rate in Hz of a code of PROFILE.FS. -/
def rateHz (code : Nat) : Nat :=
  match code with
  | 0 => 44100 | 1 => 48000 | 2 => 88200 | 3 => 96000 | 4 => 176400 | _ => 192000

/-- Sample rate in effect. -/
def State.fs (s : State) : Nat := rateHz (s.get Fld.ENG_PROFILE_STAT_FS_ACT)

/-- FAST is in effect. -/
def State.isFast (s : State) : Bool := s.on Fld.ENG_PROFILE_STAT_LATENCY_ACT

/-- Lowest gauge step of a power policy (R38). -/
def policyStep (code : Nat) : Nat := if code = 0 then 0 else 6

/-- Lowest gauge step of the policy in effect. -/
def State.lowStep (s : State) : Nat := policyStep (s.get Fld.ENG_PROFILE_STAT_POLICY_ACT)

/-- Clock cycles times 4000 * fs from progress `accU` and the time `sinceU` of the last gauge change to the stop point
at step `st` (R119, R173): `k` is 1 for fabric cycles, 2 for core cycles. A row period has 2 * 10^9 units. -/
def cyclesNum (k accU sinceU st sel fs : Nat) : Nat :=
  k * (150 * (accU + (16 - st) * (2000000000 - sinceU)) -
    max (160000 * fs) (3 * (16 - st) * 1000000000 * sel))

/-- The same, floored. -/
def cyclesTo (k accU sinceU st sel fs : Nat) : Nat := cyclesNum k accU sinceU st sel fs / (4000 * fs)

/-- Start of the stage window in a row (R26): its middle in FAST. -/
def windowStart (fast : Bool) : Nat := if fast then 1000000000 else 0

/-- Cycle budget of R121 at step `st`. -/
def budgetAt (fast : Bool) (st sel fs : Nat) : Nat := cyclesTo 2 0 (windowStart fast) st sel fs

/-- Fabric cycles of the stage window, F of R174. -/
def fabricAt (fast : Bool) (st sel fs : Nat) : Nat := cyclesTo 1 0 (windowStart fast) st sel fs

/-- The check step of R128 for a policy and MUSTRES. -/
def checkStep (policy mustres : Nat) : Nat := min 15 (policyStep policy + mustres)

/-- Matrix entries that fit at `f` fabric cycles, C of R174. -/
def mtxCapacity (f : Nat) : Nat := 64 * (f - 24)

/-- Lmax of R171, the crosspoints of R47. -/
def mtxLmax (fast : Bool) (fs : Nat) : Nat := if fast || decide (96000 < fs) then 131072 else 262144

/-! ### Channel map -/

/-- Number of endpoints of a class; 0 for a reserved class (R47, R164). -/
def classSize (cls : Nat) : Nat :=
  match cls with
  | 0x01 => 2048 | 0x02 => 512 | 0x03 => 16 | 0x04 => 128 | 0x05 => 256 | 0x06 => 65536 | 0x07 => 2048 | 0x08 => 2048
  | 0x11 => 2048 | 0x12 => 512 | 0x13 => 16 | 0x14 => 128 | 0x15 => 256 | 0x16 => 65536 | 0x17 => 2048 | 0x18 => 2048
  | 0x19 => 8 | 0x1A => 8
  | _ => 0

/-- Key of an endpoint's entry. -/
def mapKey (cls idx : Nat) : Nat := cls * 65536 + idx

/-- Which copy is active (MAP_STAT.ACTIVE). -/
def State.activeMap (s : State) : Table (BitVec 16) :=
  if s.on Fld.SST_MAP_STAT_ACTIVE then s.fab.map1 else s.fab.map0

def State.shadowMap (s : State) : Table (BitVec 16) :=
  if s.on Fld.SST_MAP_STAT_ACTIVE then s.fab.map0 else s.fab.map1

/-- An entry of a map copy; an entry never written is invalid. -/
def mapEntry (m : Table (BitVec 16)) (cls idx : Nat) : BitVec 16 := m.get (fun _ => 0) (mapKey cls idx)

/-- V and SLOT of an entry (R165). -/
def entrySlot (e : BitVec 16) : Option Nat := if e.getLsbD 15 then some (e.toNat % 2 ^ 14) else none

def State.setActiveMap (s : State) (m : Table (BitVec 16)) : State :=
  if s.on Fld.SST_MAP_STAT_ACTIVE then { s with fab := { s.fab with map1 := m } }
  else { s with fab := { s.fab with map0 := m } }

def State.setShadowMap (s : State) (m : Table (BitVec 16)) : State :=
  if s.on Fld.SST_MAP_STAT_ACTIVE then { s with fab := { s.fab with map0 := m } }
  else { s with fab := { s.fab with map1 := m } }

/-- The slots that the source entries of a map name (classes below 0x10). -/
def mapSources (m : Table (BitVec 16)) : List Nat :=
  m.filterMap (fun p => if p.1 < 0x10 * 65536 then entrySlot p.2 else none)

/-- Does a source entry other than key `k` name slot `n`? -/
def slotTaken (m : Table (BitVec 16)) (k n : Nat) : Bool :=
  m.any (fun p => decide (p.1 < 0x10 * 65536) && p.1 != k && entrySlot p.2 == some n)

/-! ### Slots -/

def State.slot (s : State) (n : Nat) : Slot := s.fab.slots.get (fun _ => slotReset) n

def State.setSlot (s : State) (n : Nat) (x : Slot) : State :=
  { s with fab := { s.fab with slots := s.fab.slots.set (fun _ => slotReset) n x } }

/-- A write of slot `n` into the write page (R160, R161). -/
def State.writeSlot (s : State) (n : Nat) (w : Word) : State :=
  s.setSlot n { s.slot n with wr := w, written := true, v := w, r := 0, fresh := false, decayDue := false }

/-- The r of a slot (R161, R163). -/
def slotAge (r0 : Nat) (x : Slot) : Nat := if x.fresh then r0 + x.r else x.r

/-- A source endpoint writes; with an invalid entry it writes nothing (R164). -/
def State.sourceWrite (s : State) (cls idx : Nat) (w : Word) : State :=
  match entrySlot (mapEntry s.activeMap cls idx) with
  | some n => s.writeSlot n w
  | none => s

/-- What a sink endpoint reads from the read page; 0 with an invalid entry (R164), and 0 from a slot without a source
(R163). -/
def State.sinkRead (s : State) (cls idx : Nat) : Word :=
  match entrySlot (mapEntry s.activeMap cls idx) with
  | some n => (s.slot n).rd
  | none => 0

/-- A Q1.31 multiply by num/64, rounded half to even (R152, R161). -/
def scale64 (w : Word) (num : Nat) : Word := BitVec.ofInt 32 (roundDiv 0 6 (w.toInt * num))

/-- The value of R161 that an unwritten slot carries. -/
def carried (hold r : Nat) (v : Word) : Word :=
  if r ≤ hold ∨ hold = 0xFF then v
  else if r < hold + 64 then scale64 v (hold + 64 - r)
  else 0

/-- A slot's page closes (R29, R161). -/
def closeSlot (hold r0 : Nat) (x : Slot) : Slot :=
  if x.written then { x with rd := x.wr, wr := 0, written := false, r := 0, fresh := false, decayDue := false }
  else { x with rd := carried hold (slotAge r0 x + 1) x.v, r := x.r + 1, wr := 0,
                decayDue := x.decayDue || (decide (slotAge r0 x = hold) && decide (hold ≠ 0xFF)) }

/-- The word of a sink endpoint for the output row that starts now (R230): from the read page in DENSE, and in FAST as the
write page stands, or as R161 carries an unwritten slot into the next page. -/
def State.outWord (s : State) (cls idx : Nat) : Word :=
  if !s.isFast then s.sinkRead cls idx
  else match entrySlot (mapEntry s.activeMap cls idx) with
  | some n =>
    if (mapSources s.activeMap).contains n then
      let x := s.slot n
      if x.written then x.wr else carried (s.get Fld.SST_CFG_HOLD) (slotAge s.fab.r0 x + 1) x.v
    else 0
  | none => 0

/-- The pages swap (R26): every slot with a source closes; a slot without one reads 0 (R163). -/
def State.swapPages (s : State) : State :=
  let h := s.get Fld.SST_CFG_HOLD
  let keep := (mapSources s.activeMap).map (fun n => (n, closeSlot h s.fab.r0 (s.slot n)))
  let t := keep.foldl (fun t p => Table.set (fun _ => slotReset) t p.1 p.2) ([] : Table Slot)
  { s with fab := { s.fab with slots := t } }

/-! ### Shared memory -/

/-- The QOWN field of quarter `q` of bank `b`. -/
def fdQown (b q : Nat) : Fd := ⟨0x1C0000 + 4 * b, 8 * q + 7, 8 * q⟩

/-- Owner of the quarter that holds shared offset `off`. -/
def State.ownerAt (s : State) (off : Nat) : Nat := s.get (fdQown (off / 0x200000) (off % 0x200000 / 0x80000))

/-- Masters by their codes of FAB.REFUSE_SRC: 0 to 15 clusters, 0x10 to 0x17 matrix lanes, 0x18 DLY, 0x19 STR, 0x1A HIF,
0x1B house cores. `load` marks a matrix table load by HIF (R184). -/
def admits (owner master : Nat) (load : Bool) : Bool :=
  if master = 0x1B then true
  else if owner = 2 then (decide (0x10 ≤ master) && decide (master ≤ 0x17)) || (master == 0x1A && load)
  else if owner = 3 then master == 0x18
  else if owner = 4 then master == 0x1A
  else if owner = 5 then master == 0x19
  else if 0x10 ≤ owner ∧ owner ≤ 0x1F then master == owner - 0x10 || master == 0x1A
  else false

def ctrRefuse : Ctr := ⟨Reg.FAB_REFUSE_CNT, ⟨Reg.FAB_CNT_SAT, 0, 0⟩⟩

/-- A refused access is counted and recorded (R184). -/
def State.refuseAccess (s : State) (off master : Nat) : State :=
  ((s.count ctrRefuse).setReg Reg.FAB_REFUSE_ADDR (BitVec.ofNat 32 off)).put Fld.FAB_REFUSE_SRC_SRC master

def State.setShared (s : State) (m : Table Byte) : State := { s with fab := { s.fab with shared := m } }

/-- Byte offset in shared memory of entry `i` of matrix table `t` (R170, R183): 64-byte line l lies in bank
40 + (l mod 8), quarter 3, table A in the lower and table B in the upper 256 KiB. -/
def mtxEntryAddr (t i : Nat) : Nat :=
  let l := i / 8
  (40 + l % 8) * 0x200000 + 3 * 0x80000 + t * 0x40000 + l / 8 * 64 + i % 8 * 8

/-- GAIN, SRC and DST (with their reserved bits) of entry `i` of table `t`. -/
def State.mtxEntry (s : State) (t i : Nat) : Word × Nat × Nat :=
  let a := mtxEntryAddr t i
  let r := memWord s.fab.shared (a + 4)
  (memWord s.fab.shared a, r.toNat % 65536, r.toNat / 65536)

/-- Store entry `i` of table `t`. -/
def State.setMtxEntry (s : State) (t i : Nat) (gain : Word) (src dst : Nat) : State :=
  let a := mtxEntryAddr t i
  s.setShared (memSetWord (memSetWord s.fab.shared a gain) (a + 4) (BitVec.ofNat 32 (dst % 65536 * 65536 + src % 65536)))

/-- Active and shadow matrix table numbers. -/
def State.mtxActive (s : State) : Nat := s.get Fld.MTX_TBL_STAT_ACTIVE
def State.mtxShadow (s : State) : Nat := 1 - s.mtxActive

/-- Largest burst of a master (R186). -/
def burstOf (master : Nat) : Nat :=
  if master ≤ 0x17 then 16 else if master = 0x19 ∨ master = 0x1A then 4 else 1

/-- Has a master a path to bank `b` (R186)? -/
def hasPath (master b : Nat) : Bool :=
  if master ≤ 0x0F then decide (2 ≤ b) && decide (b ≤ 39)
  else if master ≤ 0x17 then b == 40 + (master - 0x10)
  else if master ≤ 0x19 then decide (2 ≤ b) && decide (b ≤ 39)
  else if master = 0x1A then decide (2 ≤ b) && decide (b ≤ 47)
  else decide (b ≤ 47)

/-- Is a master's class real-time (R186)? -/
def isRealTime (master : Nat) : Bool := decide (master ≤ 0x19)

/-- Contenders at bank `b` (R188): a path, and admission by an owner of a quarter. -/
def State.contenders (s : State) (b : Nat) : List Nat :=
  (addrs 0 1 0x1C).filter (fun m => hasPath m b &&
    ((addrs 0 1 4).any (fun q => admits (s.get (fdQown b q)) m true)))

/-- The largest wait W of a real-time request of `master` at bank `b` (R188). -/
def State.rtWait (s : State) (master b : Nat) : Nat :=
  let o := (s.contenders b).filter (fun m => m != master)
  let big := o.foldl (fun n m => max n (burstOf m)) 0
  let rt := (o.filter isRealTime).foldl (fun n m => n + burstOf m) 0
  let low := (o.filter (fun m => !isRealTime m)).foldl (fun n m => max n (burstOf m)) 0
  (big - 1) + rt + low + 1

end Sys2Proof.Machine
end

