-- ==== Sys2Proof/Machine/Engine.lean ====
section
/-! DEFINITION. How an engine core issues an instruction: placement and bank rules (R90, R111, R114, R117), faults (R87),
hardware loops (R113), delay slots (R77, R110), memory (R61 to R71), posting (R66), and bank switches (R78 to R84). -/

namespace Sys2Proof.Machine

/-! ### Register-file access of a core's host view -/

/-- Bits of CORE_* registers of logical core `c`. -/
def fdCore (f : Nat → Nat → Fd) (c : Nat) : Fd := f (c / 8) (c % 8)

/-- DIGN of a core. -/
def State.dign (s : State) (c : Nat) : Nat := s.get (fdCore Fld.CLU_CORE_OUTCFG_DIGN c)

/-- Does the mailbox that a core watches hold a word (R78)? -/
def State.watchedFull (s : State) (c : Nat) : Bool := (s.mbx (32 + (s.core c).mbsel.toNat)).full

/-! ### Memory as a core sees it -/

/-- The active coefficient bank (R63). -/
def State.coefBank (s : State) (c : Nat) : Table Byte :=
  if s.on (fdCore Fld.CLU_CORE_BANKS_CBANK c) then (s.core c).coef1 else (s.core c).coef0

/-- The active program bank (R63). -/
def State.progBank (s : State) (c : Nat) : Table Word :=
  if s.on (fdCore Fld.CLU_CORE_BANKS_PBANK c) then (s.core c).prog1 else (s.core c).prog0

/-- The word that program memory holds at the running bank's PC; a word never loaded is 0, a NOP. -/
def State.programWord (s : State) (c : Nat) : Word := (s.progBank c).get (fun _ => 0) (s.core c).bank.pc

/-- A word load outside the mailbox window (R61, R64, R65); its address has passed the checks of R649. -/
def State.coreLoad (s : State) (c a : Nat) : Word :=
  match regionOf a with
  | .ram => memWord (s.core c).ram a
  | .inport => s.sinkRead 0x16 (512 * c + (a - 0x1E000) / 4)
  | .outport => ((s.core c).outport.get (fun _ => none) ((a - 0x1F000) / 4)).getD 0
  | .coef => memWord (s.coefBank c) (a - 0x20000)
  | .fullFlags => s.mbxFullWord ((a - 0x32100) / 4)
  | _ => 0

/-- A vector load: lane i from address + 4i (R62). -/
def State.coreLoadV (s : State) (c a : Nat) : V8 Word := vOf (fun i => s.coreLoad c (a + 4 * i.val))

/-- A word store outside the mailbox window; a store into OUTPORT sets its mask bit (R65). -/
def State.coreStore (s : State) (c a : Nat) (w : Word) : State :=
  match regionOf a with
  | .ram => s.modCore c (fun k => { k with ram := memSetWord k.ram a w, stored := some (a, 4, k.cycle) })
  | .outport =>
    s.modCore c (fun k => { k with outport := k.outport.set (fun _ => none) ((a - 0x1F000) / 4) (some w) })
  | _ => s

/-- A vector store; the note of the last store names its eight words. -/
def State.coreStoreV (s : State) (c a : Nat) (v : V8 Word) : State :=
  (((vList v).zip (addrs 0 4 8)).foldl (fun s p => s.coreStore c (a + p.2) p.1) s).modCore c (fun k =>
    if regionOf a = .ram then { k with stored := some (a, 32, k.cycle) } else k)

/-! ### Sticky flags and faults -/

/-- Put a set of sticky flags in flight with the latency of the main result (R74); a row in which SAT or AOV is set
counts once in CORE_SATROWS. -/
def State.stickySet (s : State) (c lat : Nat) (b1 : Bool) (f : BitVec 8) : State :=
  if f = 0 then s
  else
    let k := s.core c
    let counts := !k.satRow && decide (f &&& 0x60 ≠ 0)
    let s1 := s.setCore c { k.push lat b1 (.sticky f) with satRow := k.satRow || decide (f &&& 0x60 ≠ 0) }
    if counts then s1.countReg (fdCore Fld.CLU_CORE_SATROWS_COUNT c) (fdCore Fld.CLU_CORE_STAT_CNTSAT c) 1 else s1

def flagSAT : BitVec 8 := 0x20
def flagAOV : BitVec 8 := 0x40
def flagMBE : BitVec 8 := 0x80

/-- A mask bit of channel or source `i`. -/
def bit4 (i : Nat) : BitVec 4 := BitVec.ofNat 4 (2 ^ i)

/-- Channels that end: BUSY clears, DONE sets, and a DONE bit that rises makes the transfer-done source pending (R78). -/
def Core.endChannels (k : Core) (mask errs : BitVec 4) : Core :=
  { k with busy := k.busy &&& ~~~mask, done := k.done ||| mask, err := k.err ||| errs,
           xfPending := k.xfPending || decide (mask &&& ~~~k.done ≠ 0) }

/-- A core faults (R87): results already issued retire, running transfers stop with ERR set, the core enters FAULTED,
CORE_FAULT and CORE_FADDR are loaded and the core-fault event is raised. DESIGN CHOICE (log entry 126): of a transfer that is
stopped exactly the beats handed in so far have moved; the 13 bits of PC report word 0x2000, behind program memory, as 0; a
program swap owed to the handler that faults is dropped. -/
def State.coreFault (s : State) (c cause addr pc : Nat) (b1 : Bool) : State :=
  let k := (s.core c).drain
  let k1 := { k.endChannels k.busy k.busy with
    state := .faulted, slots := 0, heldSlots := 0, taken := false, noAccept := false, xwait := 0, xfers := [], rowOwed := false,
    haltOwed := false, swapOwed := none, fade := .none }
  ((((((s.setCore c k1).put (fdCore Fld.CLU_CORE_FAULT_CAUSE c) cause).flag (fdCore Fld.CLU_CORE_FAULT_BANK c) b1).put
    (fdCore Fld.CLU_CORE_FAULT_PC c) (pc % 0x2000)).setReg (Reg.CLU_CORE_FADDR (c / 8) (c % 8)) (BitVec.ofNat 32 addr))).raise
    35 (c + cause * 256)

/-! ### The next word (R113) -/

/-- The loop decision of R113: the bank with its counts decremented, and the next word address. -/
def loopNext (k : Bank) : Bank × Nat :=
  let pc := k.pc
  let (k1, n1, looped) :=
    if k.lc1 ≠ 0 ∧ pc = laLast k.la1 then
      (if 1 < k.lc1.toNat then ({ k with lc1 := k.lc1 - 1 }, laFirst k.la1, true) else ({ k with lc1 := 0 }, pc + 1, false))
    else (k, pc + 1, false)
  if !looped ∧ k1.lc0 ≠ 0 ∧ pc = laLast k1.la0 then
    (if 1 < k1.lc0.toNat then ({ k1 with lc0 := k1.lc0 - 1 }, laFirst k1.la0) else ({ k1 with lc0 := 0 }, n1))
  else (k1, n1)

/-- Is the word at the PC forbidden as a control transfer by R114: at the last word of a running loop or at either of the
two words before it? -/
def loopEndNear (k : Bank) : Bool :=
  (decide (k.lc0 ≠ 0) && decide (k.pc ≤ laLast k.la0) && decide (laLast k.la0 ≤ k.pc + 2)) ||
  (decide (k.lc1 ≠ 0) && decide (k.pc ≤ laLast k.la1) && decide (laLast k.la1 ≤ k.pc + 2))

/-- What an instruction does to the flow of control. -/
inductive Flow where
  | seq
  | taken (target : Nat)
  | untaken
  /-- A LOOP with count 0: two empty cycles, then the word after the body (R112). -/
  | skip (target : Nat)
  /-- RETI: the operation has let its cycles pass (R80). -/
  | back
  deriving DecidableEq, Repr

/-- What the operation of an instruction answers. -/
inductive Issued where
  /-- A fault; the state carries what the instruction still does (R107). -/
  | fault (s : State) (cause addr : Nat)
  | done (s : State) (flow : Flow) (stall : Nat)

/-- After an instruction has issued: choose the next word, count delay slots, and let its cycles pass. -/
def State.afterIssue (s : State) (c : Nat) (b1 : Bool) (flow : Flow) (stall : Nat) : State :=
  if flow = .back then s else
  s.modCore c (fun k =>
    let bk := if b1 then k.bank1 else k.bank0
    let (bk1, n) := loopNext bk
    let last := k.slots == 1
    let next := match flow with
      | .skip t => t
      | _ => if last && k.taken then k.target else n
    let k1 := k.setBank b1 { bk1 with pc := next }
    let k2 := match flow with
      | .taken t => { k1 with slots := 2, taken := true, target := t, noAccept := true }
      | .untaken => { k1 with slots := 2, taken := false, noAccept := false }
      | .skip _ => { k1 with slots := k.slots - 1, noAccept := true }
      | _ => { k1 with slots := k.slots - 1, noAccept := (decide (0 < k.slots) && k.taken) || decide (0 < stall) }
    k2.advance (1 + stall + (match flow with | .skip _ => 2 | _ => 0)))

/-- A core issues one instruction. `ctl`: it may not stand in a delay slot or at a loop's end (R111, R114); `inB0`,
`inB1`: the banks in which it is legal (R117); `legal`: its fields are legal (R90). A core that issues nothing (R86, R108)
is unchanged. -/
def State.issue (s : State) (c : Nat) (ctl inB0 inB1 legal : Bool) (body : State → Issued) : State :=
  let k := s.core c
  let b1 := k.inBank1
  let pc := k.bank.pc
  if (k.state != .row && k.state != .handler) || k.xwait != 0 then s
  else if 0x2000 ≤ pc ∨ !legal ∨ !(if b1 then inB1 else inB0) ∨ (ctl ∧ (0 < k.slots ∨ loopEndNear k.bank)) then
    s.coreFault c 1 0 pc b1
  else match body s with
    | .fault s1 cause addr => s1.coreFault c cause addr pc b1
    | .done s1 flow stall => s1.afterIssue c b1 flow stall

/-- An instruction that only computes within its core and falls through. -/
def State.issueCore (s : State) (c : Nat) (legal : Bool) (f : Core → Core) : State :=
  s.issue c false true true legal (fun s => .done (s.modCore c f) .seq 0)

/-- An instruction of the plain kind: legal in both banks, no control transfer. -/
def State.issuePlain (s : State) (c : Nat) (legal : Bool) (f : State → State) : State :=
  s.issue c false true true legal (fun s => .done (f s) .seq 0)

/-! ### Row start, posting, bank switches -/

/-- The fade applied to a word posted in row `row` (R150 to R152). -/
def fadeWord (f : Fade) (row w : Word) : Word :=
  match f with
  | .none => w
  | .fadeIn start => let j := (row - start).toNat; if j < 63 then scale64 w (j + 1) else w
  | .bindOff start => scale64 w (63 - (row - start).toNat)

/-- The positions of the OUTPORT page whose mask bit is set, in rising order, as posted. -/
def Core.posted (k : Core) : List (Nat × Word) :=
  k.outport.filterMap (fun p => p.2.map (fun w => (p.1, fadeWord k.fade k.rowidx w)))

/-- WAITROW posts the page (R66) and enters WAIT (R84); CORE_PEAK keeps the largest CYCLE. -/
def State.postPage (s : State) (c : Nat) : State :=
  let k := s.core c
  let ws := k.posted
  let s1 := ws.foldl (fun s p => s.sourceWrite 0x06 (512 * c + p.1) p.2) s
  let post : RowPost :=
    { k.post with posted := true, window := memBytes k.ram 0 32, words := ws.filter (fun p => p.1 < s.dign c),
                  cycles := k.cycle }
  let pk := fdCore Fld.CLU_CORE_PEAK_CYCLES c
  (s1.setCore c { k.drain with state := .wait, post := post, slots := 0, noAccept := false }).put pk (max (s.get pk) k.cycle)

/-- A row program starts (R78): bank 0 at word 0. Its first acceptance point is the end of its first issue cycle (R83). -/
def Core.startRow (k : Core) : Core :=
  { k with state := .row, bank0 := { k.bank0 with pc := 0 }, rowOwed := false, slots := 0, heldSlots := 0, taken := false,
           noAccept := true, post := { k.post with run := true } }

/-- The vector word of an accepted source (R78): doorbell, transfer done, mailbox. -/
def Core.acceptSource (k : Core) (mbFull : Bool) : Option Nat :=
  if k.dbPending && k.ien.getLsbD 0 then some 0x08
  else if k.xfPending && k.ien.getLsbD 1 then some 0x10
  else if mbFull && k.ien.getLsbD 2 then some 0x18
  else none

/-- Enter bank 1 at a vector word (R80): acceptance clears the pending bit, and a doorbell loads TPIDX and bank-1 S15
(R140). The words behind an untaken branch of bank 0 wait for the return (R111). The switch cycle is not counted here. -/
def Core.enterHandler (k : Core) (vec : Nat) : Core :=
  let k1 := { k with fromWait := k.state == .wait, state := .handler,
                     bank1 := { k.bank1 with pc := vec }, noAccept := false, slots := 0, heldSlots := k.slots, taken := false }
  if vec = 0x08 then
    { k1 with dbPending := false, tpidx := k.dbIndex,
              bank1 := { k1.bank1 with s := k1.bank1.s.set (fun _ => 0) 15 k.dbValue } }
  else if vec = 0x10 then { k1 with xfPending := false }
  else k1

/-- May an interrupt be accepted at the end of the last cycle (R79)? The switch cycle of a RETI is none in which the core
is in ROW or WAIT (R80; log entry 18). -/
def Core.mayAccept (k : Core) : Bool :=
  k.gie && (k.state == .row || k.state == .wait) && decide (k.xwait = 0) && !k.noAccept

end Sys2Proof.Machine
end

