-- ==== Sys2Proof/Machine/EngineOps.lean ====
section
/-! DEFINITION. The operations that groups of engine instructions share: accumulation, vector and scalar results,
addressing, loads and stores, transfers and branches (R93 to R117). -/

namespace Sys2Proof.Machine

/-- Accumulate into A`ad` (R93, R94, R96): start from 0 or from the latest accumulation, add `x` per lane, saturate. -/
def State.accumulate (s : State) (c ad : Nat) (z : Bool) (x : Fin 8 → Int) : State :=
  let k := s.core c
  let b1 := k.inBank1
  let base := if z then zeroA else k.accView b1 ad
  let r : V8 (Acc × Bool) := vOf (fun i => sat72 ((vLane base i).toInt + x i))
  let s1 := s.setCore c (k.push 3 b1 (.a ad (vMap Prod.fst r) true))
  s1.stickySet c 3 b1 (if (vList r).any Prod.snd then flagAOV else 0)

/-- MAC and MSU (R93). -/
def State.macOp (s : State) (c ad da db : Nat) (bc : Bool) (l : Fin 8) (z neg : Bool) : State :=
  let k := (s.core c).bank
  let b := if bc then vBroadcast (vLane (bankD k db) l) else bankD k db
  s.accumulate c ad z (fun i => (if neg then -1 else 1) * prod (vLane (bankD k da) i) (vLane b i))

/-- Copy or sum of accumulators with a latency of 3 (R96, R103). -/
def Core.pushA (k : Core) (b1 : Bool) (n : Nat) (v : V8 Acc) : Core := k.push 3 b1 (.a n v false)

/-- A vector result into D`dd` with latency `lat`, SAT when a lane overflowed (R98). -/
def State.vecResult (s : State) (c dd lat : Nat) (r : V8 (Word × Bool)) : State :=
  let k := s.core c
  let b1 := k.inBank1
  (s.setCore c (k.push lat b1 (.d dd (vMap Prod.fst r)))).stickySet c lat b1
    (if (vList r).any Prod.snd then flagSAT else 0)

/-- A lane-wise function without flags (R98). -/
def Core.vecPlain (k : Core) (dd : Nat) (v : V8 Word) : Core := k.push 2 k.inBank1 (.d dd v)

/-- VALU with two operands, no flags. -/
def Core.valu2 (k : Core) (dd da db : Nat) (f : Word → Word → Word) : Core :=
  k.vecPlain dd (vZip f (bankD k.bank da) (bankD k.bank db))

/-- VALU with one operand, no flags. -/
def Core.valu1 (k : Core) (dd da : Nat) (f : Word → Word) : Core := k.vecPlain dd (vMap f (bankD k.bank da))

/-- Q1.31 VALU: the exact lane value under qsat (R60). -/
def State.valuQ (s : State) (c dd da db : Nat) (f : Int → Int → Int) : State :=
  let k := (s.core c).bank
  s.vecResult c dd 2 (vZip (fun x y => qsat (cmSatm k.cmode) (f x.toInt y.toInt)) (bankD k da) (bankD k db))

/-- Q1.31 multiply with latency 3 (R60). -/
def State.vmulOp (s : State) (c dd da : Nat) (b : Bank → Fin 8 → Word) : State :=
  let k := (s.core c).bank
  s.vecResult c dd 3 (vOf (fun i => extract k.cmode 0 (prod (vLane (bankD k da) i) (b k i))))

/-- All ones for a true comparison, 0 otherwise (R98). -/
def maskOf (b : Bool) : Word := if b then 0xFFFFFFFF#32 else 0

/-- A scalar result with optional FLAGS[3:0] (R101). -/
def Core.scalarResult (k : Core) (sd : Nat) (f : Bool) (r : Word × BitVec 4) : Core :=
  let k1 := k.push 1 k.inBank1 (.s sd r.1)
  if f then k1.push 1 k.inBank1 (.nzcv r.2) else k1

/-- SALU with two register operands. -/
def Core.salu (k : Core) (sd sa sb : Nat) (f : Bool) (g : Word → Word → Word × BitVec 4) : Core :=
  k.scalarResult sd f (g (bankS k.bank sa) (bankS k.bank sb))

/-- A register move from bank `src1` to bank `dst1` (R102, R103). -/
def Core.moveReg (k : Core) (dst1 src1 : Bool) (dcl dn scl sn : Nat) : Core :=
  let bk := if src1 then k.bank1 else k.bank0
  if dcl = 5 then k.push 2 dst1 (.d dn (bankD bk sn))
  else if dcl = 6 then k.pushA dst1 dn (bankA bk sn)
  else k.push 1 dst1 (classWrite dcl dn (bankWord bk scl sn))

/-- Access address of R105. -/
def accessAddr (k : Bank) (pn : Nat) (mode : BitVec 2) (ofs : BitVec 15) : Nat :=
  (bankCirc k pn (if mode.toNat = 0 then sext ofs else 0)).toNat

/-- The pointer update of R105, in flight with latency 1. -/
def Core.updatePtr (k : Core) (pn : Nat) (mode : BitVec 2) (ofs : BitVec 15) : Core :=
  let b := k.bank
  if mode.toNat = 0 then k
  else k.push 1 k.inBank1
    (.p pn (bankCirc b pn (if mode.toNat = 1 then sext ofs else bankM b (ofs.toNat % 8))))

/-- LDS (R106): a word into S`rg`. In the mailbox window the core stalls (R68), and an empty mailbox sets MBE (R67). -/
def State.ldsOp (s : State) (c rg pn : Nat) (mode : BitVec 2) (ofs : BitVec 15) : Issued :=
  let k := s.core c
  let b1 := k.inBank1
  let a := accessAddr k.bank pn mode ofs
  match accessFault a false false with
  | some cause => .fault s cause a
  | none =>
    let s0 := s.setCore c (k.updatePtr pn mode ofs)
    match regionOf a with
    | .mailbox =>
      let st := (Config.mailboxStall s.free).val
      let (s1, w, full) := s0.bumpFree.mbxRead ((a - 0x32000) / 4)
      .done ((s1.modCore c (fun k => k.push (3 + st) b1 (.s rg w))).stickySet c (3 + st) b1
        (if full then 0 else flagMBE)) .seq st
    | .fullFlags =>
      let st := (Config.mailboxStall s.free).val
      .done (s0.bumpFree.modCore c (fun k => k.push (3 + st) b1 (.s rg (s.coreLoad c a)))) .seq st
    | _ => .done (s0.modCore c (fun k => k.push 3 b1 (.s rg (s.coreLoad c a)))) .seq 0

/-- LDV (R106). -/
def State.ldvOp (s : State) (c rg pn : Nat) (mode : BitVec 2) (ofs : BitVec 15) : Issued :=
  let k := s.core c
  let a := accessAddr k.bank pn mode ofs
  match accessFault a true false with
  | some cause => .fault s cause a
  | none =>
    .done (s.setCore c ((k.updatePtr pn mode ofs).push 3 k.inBank1 (.d rg (s.coreLoadV c a)))) .seq 0

/-- STS (R106): a word; into the mailbox window it stalls, and a full mailbox sets MBE and keeps its word (R67).
The latency of that flag is log entry 17. -/
def State.stsOp (s : State) (c rg pn : Nat) (mode : BitVec 2) (ofs : BitVec 15) : Issued :=
  let k := s.core c
  let b1 := k.inBank1
  let a := accessAddr k.bank pn mode ofs
  let w := bankS k.bank rg
  match accessFault a false true with
  | some cause => .fault s cause a
  | none =>
    let s0 := s.setCore c (k.updatePtr pn mode ofs)
    match regionOf a with
    | .mailbox =>
      let st := (Config.mailboxStall s.free).val
      let (s1, ok) := s0.bumpFree.mbxWriteOnChip ((a - 0x32000) / 4) w (0x10 + c / 8)
      .done (s1.stickySet c (1 + st) b1 (if ok then 0 else flagMBE)) .seq st
    | _ => .done (s0.coreStore c a w) .seq 0

/-- STV (R106). -/
def State.stvOp (s : State) (c rg pn : Nat) (mode : BitVec 2) (ofs : BitVec 15) : Issued :=
  let k := s.core c
  let a := accessAddr k.bank pn mode ofs
  match accessFault a true true with
  | some cause => .fault s cause a
  | none => .done ((s.setCore c (k.updatePtr pn mode ofs)).coreStoreV c a (bankD k.bank rg)) .seq 0

/-- TAP (R94) with the faults of R95 in the order of R649. -/
def State.tapOp (s : State) (c ad pn pc : Nat) (ddir cv cdir neg z : Bool) : Issued :=
  let k := s.core c
  let b := k.bank
  let xa := (bankCirc b pn 0).toNat
  let ca := (bankP b pc).toNat
  let xBad := decide (regionOf xa ≠ .ram) && decide (regionOf xa ≠ .inport) && decide (regionOf xa ≠ .outport)
  let cBad := decide (regionOf ca ≠ .coef)
  let cSize := if cv then 32 else 4
  if xBad then .fault s 2 xa
  else if cBad then .fault s 2 ca
  else if xa % 32 ≠ 0 then .fault s 3 xa
  else if ca % cSize ≠ 0 then .fault s 3 ca
  else
    let x := s.coreLoadV c xa
    let co := if cv then s.coreLoadV c ca else vBroadcast (s.coreLoad c ca)
    let s1 := s.accumulate c ad z (fun i => (if neg then -1 else 1) * prod (vLane x i) (vLane co i))
    let dp : Word := if ddir then 32 else -32
    let dc : Word := if cdir then -(BitVec.ofNat 32 cSize) else BitVec.ofNat 32 cSize
    .done (s1.modCore c (fun k =>
      (k.push 1 k.inBank1 (.p pn (bankCirc b pn dp))).push 1 k.inBank1 (.p pc (bankCirc b pc dc)))) .seq 0

/-- XFER (R107): a busy channel keeps its transfer and sets REJ (R69); a failed check sets ERR and DONE and faults. DESIGN
CHOICE (log entry 126): CORE_FADDR takes the shared address where it alone is bad, and the working-RAM address otherwise, a bad
count and two bad addresses included. -/
def State.xferOp (s : State) (c ch : Nat) (dir : Bool) (pw px sn : Nat) : Issued :=
  let k := s.core c
  let b := k.bank
  let w := (bankP b pw).toNat
  let x := (bankP b px).toNat
  let n := (bankS b sn).toNat
  let countOk := decide (64 ≤ n) && decide (n ≤ 16384) && decide (n % 64 = 0)
  let wOk := decide (w % 64 = 0) && decide (w + n ≤ 0x1E000)
  let xOk := decide (x % 64 = 0) && decide (0x10000000 ≤ x) && decide (x + n ≤ 0x16000000)
  let run : Xfer := ⟨dir, w, x - 0x10000000, n, b.pc, k.inBank1, 0⟩
  if k.busy.getLsbD ch then .done (s.setCore c { k with rej := k.rej ||| bit4 ch }) .seq 0
  else if countOk && wOk && xOk then
    .done (s.setCore c { k with busy := k.busy ||| bit4 ch, xfers := k.xfers.set (fun _ => none) ch (some run) }) .seq 0
  else .fault (s.setCore c (k.endChannels (bit4 ch) (bit4 ch))) 5 (if wOk && !xOk then x else w)

/-- Of 64 bytes for working RAM from address `a`, the memory after they land; bytes of the words `own` that the core itself
stored in this cycle stand (R71). -/
def landBeat (m : Table Byte) (a : Nat) (own : Option (Nat × Nat)) (bs : List Byte) : Table Byte :=
  match own with
  | none => memSetBytes m a bs
  | some (b, n) => memSetBytes (memSetBytes m a bs) b (memBytes m b n)

/-- The words that the core has stored in the cycle that has just ended: a beat of that cycle leaves them alone, and a load of
that cycle has read what stood before the beat (R71). -/
def Core.justStored (k : Core) : Option (Nat × Nat) :=
  match k.stored with
  | some (a, n, cyc) => if k.cycle = cyc + 1 then some (a, n) else none
  | none => none

/-- One beat of 64 bytes of a transfer (R69). -/
def State.moveBeat (s : State) (c : Nat) (x : Xfer) (i : Nat) : State :=
  let sh := x.shared + 64 * i
  let ra := x.ram + 64 * i
  let k := s.core c
  if x.toShared then s.setShared (memSetBytes s.fab.shared sh (memBytes k.ram ra 64))
  else s.setCore c { k with ram := landBeat k.ram ra k.justStored (memBytes s.fab.shared sh 64) }

/-- Move the bytes of a transfer beat by beat (R69, R70): answers the shared offset that the fabric refused, if any. -/
def State.moveBeats (s : State) (c : Nat) (x : Xfer) : Nat → Nat → State × Option Nat
  | 0, _ => (s, none)
  | n + 1, i =>
    let sh := x.shared + 64 * i
    if admits (s.ownerAt sh) (c / 8) false && hasPath (c / 8) (sh / 0x200000) then
      State.moveBeats (s.moveBeat c x i) c x n (i + 1)
    else (s.refuseAccess sh (c / 8), some sh)

/-- A branch to `t` under a condition (R109, R110). -/
def State.branchOp (s : State) (c : Nat) (cond : BitVec 4) (t : Core → Nat) (link : Bool) : Issued :=
  let k := s.core c
  if condHolds cond k.bank.flags k.shed then
    let s1 := if link then s.setCore c (k.push 1 k.inBank1 (.ctrl 1 (BitVec.ofNat 32 (k.bank.pc + 3)))) else s
    .done s1 (.taken (t k)) 0
  else .done s .untaken 0

/-- LOOP (R112). -/
def State.loopOp (s : State) (c : Nat) (inner : Bool) (len : Nat) (count : Word) : Issued :=
  let k := s.core c
  let a := k.bank.pc
  let last := a + 1 + len
  let s1 := s.setCore c ((k.push 1 k.inBank1 (.ctrl (if inner then 5 + 2 else 5) (laOf last (a + 1)))).push 1 k.inBank1
    (.ctrl (if inner then 6 else 4) count))
  if count = 0 then .done s1 (.skip (last + 1)) 0 else .done s1 .seq 0

end Sys2Proof.Machine
end

