-- ==== Sys2Proof/Machine/Twin.lean ====
section
/-! DEFINITION. Twin-link frames (R508, R509) and the parameter mirror (R513, R518). -/

namespace Sys2Proof.Machine

/-! ### Byte orders and CRC-32 -/

/-- A number as `n` bytes, most significant first. -/
def beBytes (v : Nat) : Nat → List Byte
  | 0 => []
  | n + 1 => BitVec.ofNat 8 (v / 256 ^ n) :: beBytes v n

/-- A number as `n` bytes, least significant first. -/
def leBytesN (v : Nat) : Nat → List Byte
  | 0 => []
  | n + 1 => BitVec.ofNat 8 v :: leBytesN (v / 256) n

/-- The number that bytes spell, most significant first. -/
def beNat (bs : List Byte) : Nat := bs.foldl (fun n b => n * 256 + b.toNat) 0

/-- The number that bytes spell, least significant first. -/
def leNat : List Byte → Nat
  | [] => 0
  | b :: t => b.toNat + 256 * leNat t

/-- `n` bytes of a list from offset `off`; missing bytes are left out. -/
def bytesAt (bs : List Byte) (off n : Nat) : List Byte := (bs.drop off).take n

/-- Big-endian field of a frame. -/
def beAt (bs : List Byte) (off n : Nat) : Nat := beNat (bytesAt bs off n)

/-- Little-endian field. -/
def leAt (bs : List Byte) (off n : Nat) : Nat := leNat (bytesAt bs off n)

/-- One step of a reflected CRC-32: register and one message bit. -/
def crc32Bit (poly c : Nat) (b : Bool) : Nat :=
  if (decide (c % 2 = 1)) != b then Nat.xor (c / 2) poly else c / 2

/-- A reflected CRC-32 with initial value and final XOR of all ones; `poly` is the reflected polynomial. -/
def crc32Of (poly : Nat) (bs : List Byte) : Nat :=
  Nat.xor 0xFFFFFFFF (bs.foldl (fun c b => (addrs 0 1 8).foldl (fun c i => crc32Bit poly c (b.getLsbD i)) c) 0xFFFFFFFF)

/-- CRC-32 with polynomial 0x04C1_1DB7, reflected (R509, and the FCS of an Ethernet frame). -/
def crc32 (bs : List Byte) : Nat := crc32Of 0xEDB88320 bs

/-! ### Frames -/

/-- Payload padded with zeros to whole data blocks. -/
def padTo8 (bs : List Byte) : List Byte := bs ++ List.replicate ((8 - bs.length % 8) % 8) 0

/-- The blocks of a frame as bytes, sync headers left out (R509). -/
def twinFrame (ftype : Nat) (seq : Word) (payload : List Byte) : List Byte :=
  let p := padTo8 payload
  let head := beBytes ftype 1 ++ beBytes (p.length / 8) 2 ++ beBytes seq.toNat 4
  beBytes 0x78 1 ++ head ++ p ++ beBytes 0x87 1 ++ beBytes (crc32 (head ++ p)) 4 ++ [0, 0, 0]

/-- The frame with its CRC in order, as FTYPE, SEQ and payload; none when R510 discards it before its type is looked at. -/
def twinParse (bs : List Byte) : Option (Nat × Word × List Byte) :=
  let nw := beAt bs 2 2
  let body := bytesAt bs 1 (7 + 8 * nw)
  if bs.length = 16 + 8 * nw ∧ beAt bs 0 1 = 0x78 ∧ beAt bs (8 + 8 * nw) 1 = 0x87 ∧
      beAt bs (9 + 8 * nw) 4 = crc32 body then
    some (beAt bs 1 1, BitVec.ofNat 32 (beAt bs 4 4), bytesAt bs 8 (8 * nw))
  else none

/-- The twin counts as paired (R513). -/
def State.paired (s : State) : Bool := s.get Fld.TWN_STAT_STATE == 3 || s.get Fld.TWN_STAT_STATE == 4

/-- Send a twin-link frame with the next SEQ. -/
def State.twinSend (s : State) (ftype : Nat) (payload : List Byte) : State :=
  let q := s.twn.txSeq
  ({ s with twn := { s.twn with txSeq := q + 1 } }).send (.twin (twinFrame ftype q payload))

/-- A mirror record of 24 bytes: RTYPE, 3 reserved bytes and the body (R518). -/
def mirRecord (rtype : Nat) (body : List Byte) : List Byte :=
  beBytes rtype 1 ++ [0, 0, 0] ++ body ++ List.replicate (20 - body.length) 0

/-- Send a MIRROR frame with these records and keep it until its ACK (R519). -/
def State.sendMirror (s : State) (records : List (List Byte)) : State :=
  let q := s.twn.txSeq
  let s1 := s.twinSend 0x04 (beBytes records.length 1 ++ List.replicate 7 0 ++ records.flatten)
  { s1 with twn := { s1.twn with unacked := s1.twn.unacked ++ [⟨q, records, 0⟩] } }

/-- The mirror carries one record while the twin is paired; each record goes in a frame of its own (log entry 11). -/
def State.mirror (s : State) (rtype : Nat) (body : List Byte) : State :=
  if s.paired then s.sendMirror [mirRecord rtype body] else s

/-- Key of a READY report. -/
def readyKey (kind core : Nat) : Nat := 256 * kind + core

/-- One of the bits of R146, R168 and R175 changed to `b`: a paired twin reports it. -/
def State.reportReady (s : State) (kind core : Nat) (b : Bool) : State :=
  if s.paired then
    ({ s with twn := { s.twn with ready := s.twn.ready.set (fun _ => none) (readyKey kind core)
                                    (if b then some (some s.row.openRow) else none) } }).mirror 0x03
      (beBytes s.row.openRow.toNat 4 ++ beBytes kind 1 ++ beBytes core 1 ++ beBytes b.toNat 1)
  else s

/-- On a paired twin, have both twins reported readiness by the engine tick four rows before `row`
(R146)? A report carries the row whose page was open, so it was made before the next tick. -/
def State.twinReady (s : State) (kind core : Nat) (row : Word) : Bool :=
  let ok (x : Option (Option Word)) : Bool :=
    match x with
    | some (some r) => laterThan 32 (row - 4).toNat r.toNat
    | some none => true
    | none => false
  !s.paired || (ok (s.twn.ready.get (fun _ => none) (readyKey kind core)) &&
    ok (s.twn.ready.get (fun _ => none) (readyKey kind core + 4096)))

/-- At the engine tick of `row` the reports that are old enough become lasting, whatever rows come later (R146). -/
def State.settleReady (s : State) (row : Word) : State :=
  { s with twn := { s.twn with ready := s.twn.ready.remap (fun _ => none) (fun x =>
      match x with
      | some (some r) => if laterThan 32 (row - 4).toNat r.toNat then some none else x
      | x => x) } }

end Sys2Proof.Machine
end

