-- ==== Sys2Proof/Machine/Sched.lean ====
section
/-! DEFINITION. The row scheduler's operations (R119 to R158): timed parameters, swaps, bind-off, the deadline guard, the
stop point of the cores, migrations and digests. -/

namespace Sys2Proof.Machine

/-! ### Budgets and declarations -/

def coreFULL (s : State) (c : Nat) : Nat := s.get (fdCore Fld.CLU_CORE_BUDGET_FULL c)
def coreMUST (s : State) (c : Nat) : Nat := s.get (fdCore Fld.CLU_CORE_BUDGET_MUST c)
def State.halt (s : State) (c : Nat) : Bool := s.on (fdCore Fld.CLU_CORE_CTL_HALT c)

/-- Is a CORE_BUDGET value a declaration (R127)? -/
def isDeclaration (w : Word) : Bool :=
  let full := w.toNat / 65536
  let must := w.toNat % 65536
  decide (must ≤ full) && (decide (full = 0) == decide (must = 0))

/-- Check step in effect for policy and MUSTRES of the last engine tick (R128). -/
def State.checkStepNow (s : State) : Nat := checkStep (s.get Fld.ENG_PROFILE_STAT_POLICY_ACT) s.row.mustres

/-- Does a declared MUST exceed the budget at the check step (R128)? -/
def State.unfitMust (s : State) (must : Nat) : Bool :=
  decide (budgetAt s.isFast s.checkStepNow s.row.selvage s.fs < must)

/-- Matrix capacity C at the check step, capped at Lmax (CAPACITY). -/
def State.mtxCapNow (s : State) : Nat :=
  min (mtxLmax s.isFast s.fs) (mtxCapacity (fabricAt s.isFast s.checkStepNow s.row.selvage s.fs))

/-- Logical cores that the core table lists; the others are in RESET with nothing in them. -/
def State.listedCores (s : State) : List Nat := s.cores.map Prod.fst

/-! ### Timed-parameter queue -/

def ctrStitch : Ctr := ⟨Reg.ENG_STITCH_CNT, ⟨Reg.ENG_CNT_SAT, 0, 0⟩⟩
def ctrShed : Ctr := ⟨Reg.ENG_SHED_CNT, ⟨Reg.ENG_CNT_SAT, 1, 1⟩⟩
def ctrTpref : Ctr := ⟨Reg.ENG_TPREF_CNT, ⟨Reg.ENG_CNT_SAT, 2, 2⟩⟩
def ctrSwapfail : Ctr := ⟨Reg.ENG_SWAPFAIL_CNT, ⟨Reg.ENG_CNT_SAT, 3, 3⟩⟩

/-- Logical core of a record's TARGET. -/
def TpRec.core (r : TpRec) : Nat := r.target % 128

def TpRec.prog (r : TpRec) : Bool := r.flags % 2 == 1
def TpRec.coef (r : TpRec) : Bool := r.flags / 2 % 2 == 1
def TpRec.keep (r : TpRec) : Bool := r.flags / 4 % 2 == 1
def TpRec.withFade (r : TpRec) : Bool := r.flags / 8 % 2 == 1

/-- The form rules of R140 (BAD_FIELD otherwise). -/
def TpRec.formed (r : TpRec) : Bool :=
  match r.cls with
  | 1 => decide (r.flags = 0) && decide (r.target < 128)
  | 2 => decide (r.flags = 0) && decide (r.index = 0) && decide (r.target % 65536 < 128)
  | 3 => decide (r.flags < 16) && decide (r.index = 0) && decide (r.target < 128) && (r.prog || r.coef) &&
      (r.prog || (!r.keep && !r.withFade)) && (if r.prog then isDeclaration r.value else r.value == 0)
  | 4 => decide (r.flags = 0) && decide (r.index = 0) && decide (r.target < 128) && r.value == 0
  | 5 => decide (r.flags = 0) && decide (r.index = 0) && decide (r.target < 2 ^ 24)
  | _ => false

/-- Does the target exist (BAD_TARGET otherwise)? -/
def TpRec.targetOk (r : TpRec) : Bool :=
  match r.cls with
  | 2 => decide (r.target / 65536 % 4 = 0)
  | 5 => (regDesc r.target).isSome
  | _ => true

/-- Is the register at `a` timed (R616)? -/
def isTimed (a : Nat) : Bool :=
  match regDesc a with
  | some d => d.timed
  | none => false

/-- Is the core in RESET or FAULTED, where a program swap is made one row early (R149)? -/
def State.early (s : State) (c : Nat) : Bool := (s.core c).state == .reset || (s.core c).state == .faulted

/-- Classes 2 and 5 share the row's capacity of 256 (R141). -/
def isDirectCls (c : Nat) : Bool := c == 2 || c == 5

/-- The decision of R141 on a record: a reason code. DEDUCED (log entry 127): the capacity of 256 counts COEF_WORD and UNIT_FIELD
records only, not direct writes of R169; NOTICK also answers while row ticks run but no input page is open yet. -/
def State.tpDecide (s : State) (r : TpRec) : Nat :=
  let c := s.row.openRow
  let d := (r.row - c).toNat
  let late := earlierThan 32 r.row.toNat c.toNat
  let lead := if s.paired then 8 else 2
  let d1 := if r.cls == 3 && r.prog && s.early r.core then d - 1 else d
  let q := s.row.tpq.filter (fun x => !x.direct)
  let same := q.filter (fun x => x.row == r.row)
  if !r.formed then 6
  else if !r.targetOk then 5
  else if r.cls = 5 ∧ !isTimed r.target then 7
  else if !s.row.ticks || !s.row.pageOpen then 9
  else if late || decide (d1 < lead) then 1
  else if 2 ^ 24 < d then 2
  else if r.cls = 3 ∧ r.prog ∧ s.unfitMust (r.value.toNat % 65536) then 8
  else if 4096 ≤ q.length then 3
  else if isDirectCls r.cls then (if 256 ≤ (same.filter (fun x => isDirectCls x.cls)).length then 4 else 0)
  else if same.any (fun x => x.cls == r.cls && x.core == r.core) then 4
  else 0

/-- Queue a record behind the accepted ones. -/
def State.tpPush (s : State) (r : TpRec) : State := s.setRow { s.row with tpq := s.row.tpq ++ [r] }

/-- The 16 bytes of R140. -/
def TpRec.bytes (r : TpRec) : List Byte :=
  leBytesN r.row.toNat 4 ++ leBytesN r.cls 1 ++ leBytesN r.flags 1 ++ leBytesN r.index 2 ++ leBytesN r.target 4 ++
    leBytesN r.value.toNat 4

/-- The record that 16 bytes spell. -/
def tpOfBytes (bs : List Byte) : TpRec :=
  ⟨false, BitVec.ofNat 32 (leAt bs 0 4), leAt bs 4 1, leAt bs 5 1, leAt bs 6 2, leAt bs 8 4, BitVec.ofNat 32 (leAt bs 12 4)⟩

/-- Receive a record (R141): queue it and mirror it, or count the refusal. Answers the reason code. -/
def State.tpSubmit (s : State) (r : TpRec) : State × Nat :=
  let reason := s.tpDecide r
  if reason = 0 then ((s.tpPush r).mirror 0x01 r.bytes, 0) else (s.count ctrTpref, reason)

/-- The row-index sequence breaks: the queue empties, the event is raised with the number of records (R144), and REG records
go with it (R518). -/
def State.tpFlush (s : State) : State :=
  let n := (s.row.tpq.filter (fun x => !x.direct)).length + s.twn.regHeld.length
  let s1 := { s with row := { s.row with tpq := s.row.tpq.filter (fun x => x.direct) },
                     twn := { s.twn with regHeld := [] } }
  (s1.countBy ctrTpref n).raise 39 (min n (2 ^ 32 - 1))

/-- ROWIDX of the engine tick that comes next in the current row (R26, R30). -/
def State.tickRow (s : State) : Word := if s.isFast then s.row.rowIdx else s.row.rowIdx - 1

/-- Does a record take effect at the coming tick? -/
def State.tpDue (s : State) (r : TpRec) : Bool :=
  r.direct || r.row == s.tickRow || (r.cls == 3 && r.prog && s.early r.core && r.row == s.tickRow + 1)

/-- Take the first record for which `p` holds out of a list. -/
def takeFirst {α : Type} (p : α → Bool) : List α → Option (α × List α)
  | [] => none
  | x :: t => if p x then some (x, t) else (takeFirst p t).map (fun y => (y.1, x :: y.2))

/-- Take the first due record of the queue for which `p` holds. -/
def State.tpTake (s : State) (p : TpRec → Bool) : Option (TpRec × State) :=
  (takeFirst (fun r => s.tpDue r && p r) s.row.tpq).map (fun x => (x.1, s.setRow { s.row with tpq := x.2 }))

/-! ### Swaps and bind-off -/

/-- Registers and control registers clear under R53; what R53 keeps stays. -/
def Core.clearRegs (k : Core) : Core :=
  { k with bank0 := bankReset, bank1 := bankReset, shed := false, gie := false, ien := 0, mbsel := 0, rej := 0,
           done := 0, err := 0, tpidx := 0, flights := [], slots := 0, heldSlots := 0, taken := false, noAccept := false,
           xwait := 0 }

/-- A core's program stops for good: RESET, registers cleared (R151). -/
def Core.toReset (k : Core) : Core :=
  { k.clearRegs with state := .reset, fade := .none, rowOwed := false, haltOwed := false, swapOwed := none, castHold := false }

/-- The READY bits follow (R145, R518). -/
def State.setPready (s : State) (c : Nat) (b : Bool) : State :=
  if s.on (fdCore Fld.CLU_CORE_BANKS_PREADY c) == b then s
  else (s.flag (fdCore Fld.CLU_CORE_BANKS_PREADY c) b).reportReady 0 c b

def State.setCready (s : State) (c : Nat) (b : Bool) : State :=
  if s.on (fdCore Fld.CLU_CORE_BANKS_CREADY c) == b then s
  else (s.flag (fdCore Fld.CLU_CORE_BANKS_CREADY c) b).reportReady 1 c b

/-- Swap the coefficient banks (R147). -/
def State.swapCoef (s : State) (c : Nat) : State :=
  let f := fdCore Fld.CLU_CORE_BANKS_CBANK c
  let g := fdCore Fld.CLU_CORE_BANKS_CGEN c
  ((s.flag f (!s.on f)).put g (s.get g + 1)).setCready c false

/-- Swap the program banks: a program cast-on (R147, R148). -/
def State.swapProg (s : State) (c : Nat) (keep : Bool) (value : Word) : State :=
  let f := fdCore Fld.CLU_CORE_BANKS_PBANK c
  let g := fdCore Fld.CLU_CORE_BANKS_PGEN c
  let s1 := ((s.flag f (!s.on f)).put g (s.get g + 1)).setPready c false
  let s2 := s1.setReg (Reg.CLU_CORE_BUDGET (c / 8) (c % 8)) value
  if keep then s2 else s2.modCore c Core.clearRegs

/-- The cast-on itself, with its fade that starts in row `start` (R149, R150). DESIGN CHOICE (log entry 127): where a core became
RESET or FAULTED after the tick of row k - 1, its swap is made at the tick of row k and the program first runs in row k + 1. -/
def State.castOn (s : State) (c : Nat) (keep fade : Bool) (value start : Word) : State :=
  let hold := s.early c
  (s.swapProg c keep value).modCore c (fun k =>
    { k with fade := if fade then .fadeIn start else .none, castHold := hold,
             state := if hold then .idle else k.state })

/-- A swap ends a running bind-off (R151). -/
def Core.endBindoff (k : Core) : Core :=
  match k.fade with
  | .bindOff _ => { k with fade := .none }
  | _ => k

/-- A SWAP record at its tick (R146 to R149). DEDUCED (log entry 127): on a core in HANDLER a swap that names both banks waits for
the RETI whole, so that a COEF_WORD of the same tick goes into the coefficient bank that is active until then. -/
def State.applySwap (s : State) (r : TpRec) : State :=
  let c := r.core
  let ready := (!r.prog || (s.on (fdCore Fld.CLU_CORE_BANKS_PREADY c) && s.twinReady 0 c s.tickRow)) &&
    (!r.coef || (s.on (fdCore Fld.CLU_CORE_BANKS_CREADY c) && s.twinReady 1 c s.tickRow))
  if !ready then (s.count ctrSwapfail).raise 40 c
  else if r.prog && (s.core c).state == .handler then
    s.modCore c (fun k => { k with swapOwed := some (r.keep, r.withFade, r.value, r.coef), fade := .none })
  else
    let s1 := if r.coef then s.swapCoef c else s
    if r.prog then s1.castOn c r.keep r.withFade r.value r.row else s1.modCore c Core.endBindoff

/-- A BINDOFF record at its tick (R151). -/
def State.applyBindoff (s : State) (r : TpRec) : State :=
  s.modCore r.core (fun k =>
    match k.state with
    | .reset => k
    | .idle => k.toReset
    | .halted => k.toReset
    | .faulted => k.toReset
    | _ => { k with fade := .bindOff r.row })

/-- A COEF_WORD record at its tick (R143). -/
def State.applyCoefWord (s : State) (r : TpRec) : State :=
  let off := r.target / 65536
  let b1 := s.on (fdCore Fld.CLU_CORE_BANKS_CBANK r.core)
  s.modCore r.core (fun k =>
    if b1 then { k with coef1 := memSetWord k.coef1 off r.value } else { k with coef0 := memSetWord k.coef0 off r.value })

/-- A doorbell that no handler took is discarded (R138). -/
def State.missDoorbell (s : State) (c : Nat) : State :=
  ((s.modCore c (fun k => { k with dbPending := false, dbNew := false })).count ctrTpref).raise 38 c

/-- A DOORBELL record at its tick (R78, R140). -/
def State.applyDoorbell (s : State) (r : TpRec) : State :=
  let s1 := if (s.core r.core).dbPending && !(s.core r.core).dbNew then s.missDoorbell r.core else s
  s1.modCore r.core (fun k =>
    { k with dbPending := true, dbNew := true, dbIndex := BitVec.ofNat 16 r.index, dbValue := r.value })

/-! ### The guard -/

/-- SHED is set for a core (R125, R137). -/
def State.markShed (s : State) (c : Nat) : State :=
  let s1 := s.modCore c (fun k => { k with shed := true })
  if s.row.shedRow then s1 else (s1.setRow { s1.row with shedRow := true }).count ctrShed

/-- Evaluate a core whose row has `cycles` cycles (R125, R126). -/
def State.judge (s : State) (c cycles : Nat) : State :=
  let tooLong := if coreFULL s c = 0 ∧ coreMUST s c = 0 then decide (s.lowStep < s.row.gauge)
    else decide (cycles < coreFULL s c)
  if tooLong && !(s.core c).shed then s.markShed c else s

/-- The gauge moves to step `g`, `ns` after the row tick (R131): progress is kept exactly, and within the stage window
every evaluated core is judged again (R125). -/
def State.setGauge (s : State) (g ns : Nat) : State :=
  let u := min 2000000000 (2 * s.fs * ns)
  let r := s.row
  if r.inWindow && decide (r.sinceU < u) then
    let acc := r.accU + (16 - r.gauge) * (u - r.sinceU)
    let s1 := s.setRow { r with gauge := g, accU := acc, sinceU := u }
    let cyc := cyclesTo 2 acc u g r.selvage s.fs
    (s1.listedCores.filter (fun c => (s1.core c).judged)).foldl (fun s c => s.judge c cyc) s1
  else
    let s1 := s.setRow { r with gauge := g }
    if r.inWindow then
      (s1.listedCores.filter (fun c => (s1.core c).judged)).foldl
        (fun s c => s.judge c (cyclesTo 2 r.accU r.sinceU g r.selvage s.fs)) s1
    else s1

/-! ### Row start and handlers -/

/-- A fade-in is over with its 63rd row (R150). -/
def Fade.inRow (f : Fade) (row : Word) : Fade :=
  match f with
  | .fadeIn start => let j := (row - start).toNat; if 63 ≤ j ∧ j < 2 ^ 31 then .none else f
  | f => f

/-- A core's part in an engine tick (R83, R86, R125): what it starts, with SHED cleared and OUTPORT cleared. -/
def State.coreTick (s : State) (c budget : Nat) (row : Word) : State :=
  let miss := (s.core c).dbPending && !(s.core c).dbNew
  let s0 := if miss then s.missDoorbell c else s
  let k := { s0.core c with shed := false, outport := [], satRow := false, judged := false, rowidx := row, dbNew := false,
                            cycle := if (s0.core c).moved then 97 else 1, moved := false, post := rowPostNone,
                            castHold := false, stored := none, fade := (s0.core c).fade.inRow row }
  let held := (s0.core c).castHold
  let go (k : Core) (s : State) : State := ((s.setCore c { k with judged := true }).judge c budget)
  match k.state with
  | .reset => s0.setCore c k
  | .faulted => s0.setCore c k
  | .row => s0.setCore c k
  | .handler =>
    if s0.halt c then s0.setCore c { k with rowOwed := false, haltOwed := true }
    else go { k with rowOwed := true, haltOwed := false } s0
  | _ =>
    if held then s0.setCore c k
    else if s0.halt c then s0.setCore c { k with state := .halted }
    else if k.state == .wait && k.gie && k.dbPending && k.ien.getLsbD 0 then
      go { (k.enterHandler 0x08) with rowOwed := true, cycle := k.cycle + 1 } s0
    else go k.startRow s0

/-- What RETI does after its two cycles (R80, R83, R134, R138, R149): the core returns to ROW or WAIT, a swap owed to it is made,
and what the engine tick during the handler left follows: the row program, behind a pending doorbell whose handler starts after
a switch cycle of its own, or HALTED. DESIGN CHOICE (log entry 126): HALT acts as it stood at that tick, and a core whose tick came
with HALT = 1 enters HALTED here. A cast-on made here clears SHED, and the guard judges the core again at the next gauge change
or tick (log entry 127). -/
def State.retiReturn (s : State) (c : Nat) : State :=
  let k := s.core c
  let s1 := s.setCore c { k with state := if k.fromWait then .wait else .row, swapOwed := none,
                                 slots := k.heldSlots, heldSlots := 0, taken := false }
  let s2 := match k.swapOwed with
    | some (keep, fade, value, coef) =>
      (if coef then s1.swapCoef c else s1).castOn c keep fade value k.rowidx
    | none => s1
  s2.modCore c (fun k =>
    if k.haltOwed then { k with state := .halted, haltOwed := false }
    else if k.rowOwed then
      (if k.gie && k.dbPending && k.ien.getLsbD 0 then ({ (k.enterHandler 0x08) with rowOwed := true }).tickOnce else k.startRow)
    else k)

/-! ### The stop point -/

/-- A core at the stop point (R133, R134): the flag says whether it dropped a stitch. -/
def Core.stop (k : Core) : Core × Bool :=
  match k.state with
  | .row =>
    ({ k.drain with state := .wait, slots := 0, heldSlots := 0, taken := false, noAccept := false, xwait := 0,
                    post := { k.post with dropped := true } }, true)
  | .handler =>
    if k.fromWait then ({ k with rowOwed := false }, false)
    else ({ k with fromWait := true, heldSlots := 0, post := { k.post with dropped := true } }, true)
  | _ => (k, false)

/-- A dropped stitch is counted (R137). -/
def State.countStitch (s : State) (c : Nat) : State :=
  (s.countReg (fdCore Fld.CLU_CORE_STITCH_COUNT c) (fdCore Fld.CLU_CORE_OUTCFG_STSAT c) 1).count ctrStitch

/-- The guard stops every core; answers how many dropped a stitch. -/
def State.stopCores (s : State) : State × Nat :=
  s.listedCores.foldl
    (fun (p : State × Nat) c =>
      let r := (p.1.core c).stop
      let s1 := p.1.setCore c r.1
      if r.2 then (s1.countStitch c, p.2 + 1) else (s1, p.2))
    (s, 0)

/-! ### Digests -/

/-- CRC-64 of R156 over a byte stream. -/
def crc64 (bs : List Byte) : Nat :=
  Nat.xor (2 ^ 64 - 1) (crcBytes 64 0x42F0E1EBA9EA3693 (2 ^ 64 - 1) bs)

/-- Items 2 to 6 of R156 for logical core `c`. -/
def State.digestCore (s : State) (c : Nat) : List Byte :=
  let p := (s.core c).post
  leBytesN (p.run.toNat + 2 * p.posted.toNat) 1 ++ leBytesN (s.get (fdCore Fld.CLU_CORE_BANKS_PGEN c)) 2 ++
    leBytesN (s.get (fdCore Fld.CLU_CORE_BANKS_CGEN c)) 2 ++
    (if p.posted then p.window ++ (p.words.map (fun w => leBytesN w.1 2 ++ leBytes w.2)).flatten else [])

/-- The digest of cluster `n` for the row that ends (R156), with its stitch mask (R157). -/
def State.clusterDigest (s : State) (n : Nat) : Digest :=
  let cs := addrs (8 * n) 1 8
  let mask := cs.foldl (fun m c => m + (if (s.core c).post.dropped && (s.core c).post.run then 2 ^ (c % 8) else 0)) 0
  ⟨BitVec.ofNat 64 (crc64 (leBytesN s.row.openRow.toNat 4 ++ (cs.map s.digestCore).flatten)), s.row.openRow,
    BitVec.ofNat 8 mask⟩

/-- The digests of the row become final (R157). -/
def State.finalDigests (s : State) : State :=
  let ds := (addrs 0 1 16).foldl (fun t n => Table.set (fun _ => digestNone) t n (s.clusterDigest n)) ([] : Table Digest)
  s.setRow { s.row with digests := ds }

/-! ### Migrations (R153 to R155) -/

/-- BUSYi and COREi of MIGRATE_STAT. -/
def fdBusy (i : Nat) : Fd := ⟨Reg.ENG_MIGRATE_STAT, 8 * i + 7, 8 * i + 7⟩
def fdServed (i : Nat) : Fd := ⟨Reg.ENG_MIGRATE_STAT, 8 * i + 6, 8 * i⟩

/-- Does core `c` run on its spare? -/
def State.onSpare (s : State) (c : Nat) : Bool := s.on (fdBusy (c / 32)) && s.get (fdServed (c / 32)) == c

/-- Physical core `p` (0 to 127, or 128 + spare) is marked as failed (R601). -/
def State.physFailed (s : State) (p : Nat) : Bool := bitsOf (s.reg (Reg.SWT_CORE_FAIL (p / 32))) (p % 32) (p % 32) == 1

/-- The refusal code of R153 for a request, or 0. A core in RESET moves only for the permanent replacement of R601, from a physical
core that is marked as failed. -/
def State.migrateRefusal (s : State) (c : Nat) (back firmware : Bool) : Nat :=
  if s.row.migration.isSome then 6
  else if !back && ((s.on (fdBusy (c / 32)) && !s.onSpare c) || s.physFailed (128 + c / 32)) then 2
  else if back && !s.onSpare c then 6
  else if back && !firmware && s.physFailed c then 6
  else if s.early c && !(firmware && !back && (s.core c).state == .reset && s.physFailed c) then 3
  else 0

/-- The logical core switches to the other physical core (R154). -/
def State.movePhys (s : State) (c : Nat) (back : Bool) : State :=
  let i := c / 32
  ((s.flag (fdBusy i) (!back)).put (fdServed i) (if back then 0 else c)).put (fdCore Fld.CLU_CORE_STAT_PHYS c)
    (if back then c else 128 + i)

/-- A migration request (R153). -/
def State.migrateRequest (s : State) (c : Nat) (back firmware : Bool) : State :=
  let r := s.migrateRefusal c back firmware
  if r ≠ 0 then
    s.put Fld.ENG_MIGRATE_RES_RESULT r
  else if (s.core c).state == .reset then (s.movePhys c back).put Fld.ENG_MIGRATE_RES_RESULT 1
  else (s.setRow { s.row with migration := some ⟨c, back, 0⟩ }).put Fld.ENG_MIGRATE_RES_RESULT 5

end Sys2Proof.Machine
end

