-- ==== Sys2Proof/Machine/Passes.lean ====
section
/-! DEFINITION. The channel map, matrix and delay operations (R164 to R182), and the passes of a row. -/

namespace Sys2Proof.Machine

def ctrDecay : Ctr := ⟨Reg.SST_DECAY_CNT, ⟨Reg.SST_CNT_SAT, 0, 0⟩⟩
def ctrMapref : Ctr := ⟨Reg.SST_MAPREF_CNT, ⟨Reg.SST_CNT_SAT, 1, 1⟩⟩
def ctrMtxStitch : Ctr := ⟨Reg.MTX_STITCH_CNT, ⟨Reg.MTX_CNT_SAT, 0, 0⟩⟩
def ctrMtxSat : Ctr := ⟨Reg.MTX_SAT_CNT, ⟨Reg.MTX_CNT_SAT, 1, 1⟩⟩
def ctrGlidefull : Ctr := ⟨Reg.MTX_GLIDEFULL_CNT, ⟨Reg.MTX_CNT_SAT, 2, 2⟩⟩
def ctrSwapref : Ctr := ⟨Reg.MTX_SWAPREF_CNT, ⟨Reg.MTX_CNT_SAT, 3, 3⟩⟩
def ctrDlyStitch : Ctr := ⟨Reg.DLY_STITCH_CNT, ⟨Reg.DLY_CNT_SAT, 0, 0⟩⟩
def ctrXffull : Ctr := ⟨Reg.DLY_XFFULL_CNT, ⟨Reg.DLY_CNT_SAT, 1, 1⟩⟩

/-! ### Channel map -/

/-- A MAP_SEL or SHD_SEL value whose class exists and whose index lies in its range. -/
def selOk (w : Word) : Bool := decide (w.toNat % 65536 < classSize (w.toNat / 65536 % 256))

/-- A MAP_SEL write takes effect (R166). -/
def State.applyMapSel (s : State) (w : Word) : State :=
  if selOk w then s.setReg Reg.SST_MAP_SEL (w &&& 0x00FFFFFF) else s.invalid Reg.SST_MAP_SEL

/-- A MAP_DATA write takes effect on the entry that MAP_SEL selects; a second source is refused (R28, R166). -/
def State.applyMapData (s : State) (w : Word) : State :=
  let cls := s.get Fld.SST_MAP_SEL_CLASS
  let idx := s.get Fld.SST_MAP_SEL_INDEX
  let e : BitVec 16 := w.setWidth 16 &&& 0xBFFF
  let taken : Bool :=
    match entrySlot e with
    | some n => decide (cls < 0x10) && slotTaken s.activeMap (mapKey cls idx) n
    | none => false
  if classSize cls ≤ idx then s.invalid Reg.SST_MAP_DATA
  else if taken then (s.count ctrMapref).invalid Reg.SST_MAP_DATA
  else s.setActiveMap (s.activeMap.set (fun _ => 0) (mapKey cls idx) e)

/-- SHREADY of the shadow map changes to `b` (R168, R518). -/
def State.setMapReady (s : State) (b : Bool) : State :=
  if s.on Fld.SST_MAP_STAT_SHREADY == b then s else (s.flag Fld.SST_MAP_STAT_SHREADY b).reportReady 2 0 b

/-- A shadow-map entry is written (R167). -/
def State.writeShadowEntry (s : State) (cls idx : Nat) (e : BitVec 16) : State :=
  ((s.setShadowMap (s.shadowMap.set (fun _ => 0) (mapKey cls idx) (e &&& 0xBFFF))).setMapReady false).flag
    Fld.SST_MAP_STAT_SHBAD false

/-- The shadow-map check starts (R167). -/
def State.startMapCheck (s : State) : State :=
  ((s.setMapReady false).flag Fld.SST_MAP_STAT_SHBAD false).flag Fld.SST_MAP_STAT_CHECKING true

/-- The lowest slot that two source entries of a map name. -/
def dupSlot (m : Table (BitVec 16)) : Option Nat :=
  let ns := mapSources m
  (ns.filter (fun n => decide (1 < ns.count n))).min?

/-- Is a load with an opcode open on a ring, running or faulted (R477)? -/
def State.loadOpen (s : State) (op : Nat) : Bool :=
  s.host.rings.any (fun p => match p.2.active with
    | some t => t.op == op
    | none => false)

/-- The shadow-map check ends (R167); while a LOAD_MAP is open it leaves the shadow unready (R477). -/
def State.endMapCheck (s : State) : State :=
  let s1 := s.flag Fld.SST_MAP_STAT_CHECKING false
  if s.loadOpen 4 then s1
  else match dupSlot s.shadowMap with
  | none => s1.setMapReady true
  | some n => (s1.flag Fld.SST_MAP_STAT_SHBAD true).put Fld.SST_MAP_STAT_DUPSLOT n

/-- The map swap at its tick (R168). -/
def State.swapMap (s : State) : State :=
  if s.on Fld.SST_MAP_STAT_SHREADY && !s.loadOpen 4 && s.twinReady 2 0 s.tickRow then
    (s.flag Fld.SST_MAP_STAT_ACTIVE (!s.on Fld.SST_MAP_STAT_ACTIVE)).setMapReady false
  else (s.count ctrMapref).raise 43 0

/-- A MAP_CTL write at its tick: the swap first, then, for a record, the check (R168, R616). -/
def State.applyMapCtl (s : State) (w : Word) (direct : Bool) : State :=
  let s1 := if w.getLsbD 1 then s.swapMap else s
  if w.getLsbD 0 && !direct then s1.startMapCheck else s1

/-! ### Matrix tables -/

def State.setMtxReady (s : State) (b : Bool) : State :=
  if s.on Fld.MTX_TBL_STAT_SHREADY == b then s else (s.flag Fld.MTX_TBL_STAT_SHREADY b).reportReady 3 0 b

/-- A shadow write clears SHREADY and SHBAD (R171). -/
def State.touchShadowTable (s : State) : State := (s.setMtxReady false).flag Fld.MTX_TBL_STAT_SHBAD false

/-- The shadow-table check starts (R171). -/
def State.startMtxCheck (s : State) : State := s.touchShadowTable.flag Fld.MTX_TBL_STAT_CHECKING true

/-- Are entries `i` to `i + n - 1` of table `t` in order behind DST `d`, with zero reserved bits (R171)? -/
def State.tableSorted (s : State) (t d : Nat) : Nat → Nat → Bool
  | _, 0 => true
  | i, n + 1 =>
    let (_, src, dst) := s.mtxEntry t i
    decide (src < 2048) && decide (dst < 2048) && decide (d ≤ dst) && s.tableSorted t dst (i + 1) n

/-- The shadow-table check ends (R171); while a LOAD_MTX is open it leaves the shadow unready (R477). -/
def State.endMtxCheck (s : State) : State :=
  let len := s.get Fld.MTX_SHD_LEN_COUNT
  let s1 := s.flag Fld.MTX_TBL_STAT_CHECKING false
  if s.loadOpen 5 then s1
  else if len ≤ mtxLmax s.isFast s.fs ∧ s.tableSorted s.mtxShadow 0 0 len then s1.setMtxReady true
  else s1.flag Fld.MTX_TBL_STAT_SHBAD true

def State.setGlides (s : State) (g : List Glide) : State := { s with fab := { s.fab with glides := g } }

/-- The table swap at its tick (R175). -/
def State.swapMtx (s : State) : State :=
  let len := s.get Fld.MTX_SHD_LEN_COUNT
  let fits := decide (len ≤ mtxCapacity (fabricAt s.isFast s.checkStepNow s.row.selvage s.fs))
  if s.on Fld.MTX_TBL_STAT_SHREADY && !s.loadOpen 5 && s.twinReady 3 0 s.tickRow && fits then
    ((((s.put Fld.MTX_SHD_LEN_COUNT (s.get Fld.MTX_ACT_LEN_COUNT)).put Fld.MTX_ACT_LEN_COUNT len).flag
      Fld.MTX_TBL_STAT_ACTIVE (!s.on Fld.MTX_TBL_STAT_ACTIVE)).setMtxReady false).setGlides []
  else (s.count ctrSwapref).raise 45 0

/-- A TBL_CTL write at its tick (R175, R616). -/
def State.applyTblCtl (s : State) (w : Word) (direct : Bool) : State :=
  let s1 := if w.getLsbD 1 then s.swapMtx else s
  if w.getLsbD 0 && !direct then s1.startMtxCheck else s1

/-! ### Glides -/

/-- The glide that runs on an entry. -/
def State.glideOn (s : State) (i : Nat) : Option Glide := s.fab.glides.find? (fun g => g.entry == i)

/-- Gain of a glide in its row `m` (R176). -/
def glideGain (g : Glide) : Word :=
  if g.n = 0 ∨ g.n - 1 ≤ g.m then g.target
  else BitVec.ofInt 32 (g.g0.toInt + (g.target.toInt - g.g0.toInt) * (g.m + 1) / g.n)

/-- Write a GAIN into the active table. -/
def State.setActGain (s : State) (i : Nat) (g : Word) : State :=
  s.setShared (memSetWord s.fab.shared (mtxEntryAddr s.mtxActive i) g)

/-- A glide over rows; with N = 0 the target is the gain of the next pass at once and no glide runs (R176, R177;
log entry 19). -/
def Glide.runs (g : Glide) : Bool := decide (g.n ≠ 0)

/-- A write of XP_GAIN at its tick (R176, R177). -/
def State.applyXpGain (s : State) (t : Word) : State :=
  let i := s.get Fld.MTX_XP_SEL_INDEX
  let n := s.get Fld.MTX_XP_SEL_GLIDE
  let s1 := s.setReg Reg.MTX_XP_GAIN t
  if s.get Fld.MTX_ACT_LEN_COUNT ≤ i then s.invalid Reg.MTX_XP_GAIN
  else
    let rest := s.fab.glides.filter (fun g => g.entry != i)
    let g0 := match s.glideOn i with
      | some g => g.last
      | none => (s.mtxEntry s.mtxActive i).1
    if n ≠ 0 ∧ 16384 ≤ (rest.filter Glide.runs).length then
      (((s1.setGlides rest).setActGain i t).count ctrGlidefull).raise 46 i
    else s1.setGlides (rest ++ [⟨i, g0, t, n, 0, g0⟩])

/-- Has a glide reached its target in a pass? -/
def Glide.reached (g : Glide) : Bool := decide (g.n ≤ g.m) && decide (0 < g.m)

/-- A glide that has reached its target ends: the target goes into the entry (R176). -/
def State.endGlide (s : State) (i : Nat) : State :=
  match s.glideOn i with
  | some g => if g.reached then (s.setGlides (s.fab.glides.filter (fun g => g.entry != i))).setActGain i g.target else s
  | none => s

/-! ### The matrix pass -/

/-- Entries of the active table from index `i` on: index, gain in effect, source, destination. -/
def State.activeEntries (s : State) : Nat → Nat → List (Nat × Word × Nat × Nat)
  | _, 0 => []
  | i, n + 1 =>
    let (g, src, dst) := s.mtxEntry s.mtxActive i
    let gain := match s.glideOn i with
      | some x => glideGain x
      | none => g
    (i, gain, src % 2048, dst % 2048) :: s.activeEntries (i + 1) n

/-- One matrix output (R172): the sum of its entries, extracted; the flag says whether it saturated. -/
def mtxSum (x : Nat → Word) (es : List (Nat × Word × Nat × Nat)) : Word × Bool :=
  let r := es.foldl
    (fun (a : Acc × Bool) e =>
      let t := sat72 (a.1.toInt + (x e.2.2.1).toInt * e.2.1.toInt * 16)
      (t.1, a.2 || t.2))
    ((0 : Acc), false)
  let y := extract 0 0 r.1.toInt
  (y.1, r.2 || y.2)

/-- The outputs of the pass that starts at this tick (R172, R173), each with the entries it needs. -/
def State.mtxPass (s : State) : List PassOut :=
  let es := s.activeEntries 0 (s.get Fld.MTX_ACT_LEN_COUNT)
  let outs := s.activeMap.filterMap (fun p =>
    if p.1 / 65536 = 0x07 ∧ (entrySlot p.2).isSome then some (p.1 % 65536) else none)
  outs.map (fun j =>
    let need := (es.filter (fun e => decide (e.2.2.2 ≤ j))).foldl (fun n e => max n (e.1 + 1)) 0
    let y := mtxSum (fun i => s.sinkRead 0x17 i) (es.filter (fun e => e.2.2.2 == j))
    ⟨j, need, y.1, y.2⟩)

/-- Glides move on by one row, whether a pass runs in it or not: m counts from the tick of the write (R176). -/
def stepGlides (gs : List Glide) : List Glide := gs.map (fun g => { g with m := g.m + 1, last := glideGain g })

/-! ### Delay lines -/

def State.line (s : State) (n : Nat) : DlyLine := s.fab.lines.get (fun _ => dlyReset) n

def State.setLine (s : State) (n : Nat) (l : DlyLine) : State :=
  { s with fab := { s.fab with lines := s.fab.lines.set (fun _ => dlyReset) n l } }

def State.lineLen (s : State) (n : Nat) : Nat := s.get (Fld.DLY_LINE_LEN_LEN n)
def State.lineDelay (s : State) (n : Nat) : Nat := s.get (Fld.DLY_LINE_DELAY_DELAY n)
def State.lineBase (s : State) (n : Nat) : Nat := s.get (Fld.DLY_LINE_BASE_BASE n)

/-- Enabled lines, in rising order. -/
def State.enabledLines (s : State) : List Nat :=
  (s.regs.filterMap (fun p =>
    if Reg.DLY_LINE_LEN 0 ≤ p.1 ∧ p.1 < Reg.DLY_LINE_LEN 2048 ∧ (p.1 - Reg.DLY_LINE_LEN 0) % 16 = 0 ∧
        p.2.toNat % 2 ^ 21 ≠ 0 then
      some ((p.1 - Reg.DLY_LINE_LEN 0) / 16) else none))

/-- Lines that crossfade. -/
def State.fadingLines (s : State) : List Nat := s.fab.lines.filterMap (fun p => if p.2.xfade.isSome then some p.1 else none)

/-- Quarters that the delay unit owns, as bank and quarter, in ascending order (R178). -/
def State.poolQuarters (s : State) : List (Nat × Nat) :=
  ((addrs 0 1 48).map (fun b => (addrs 0 1 4).map (fun q => (b, q)))).flatten.filter
    (fun p => s.get (fdQown p.1 p.2) == 3)

/-- The largest real-time wait among the banks of the pool (R182). -/
def State.poolWait (s : State) : Nat := s.poolQuarters.foldl (fun n p => max n (s.rtWait 0x18 p.1)) 0

/-- The pass bound of R182 in fabric cycles for `n` lines, `x` of them crossfading. -/
def dlyBound (w n x : Nat) : Nat := (n + 3) / 4 + 40 + (2 * ((n + 15) / 16) + (x + 15) / 16) * (w + 1)

/-- A LINE_LEN write at its tick (R179). An enabled line keeps the samples that its new length holds (R180). -/
def State.applyLineLen (s : State) (n : Nat) (w : Word) : State :=
  let len := w.toNat % 2 ^ 21
  let others := s.enabledLines.filter (fun m => m != n)
  let base := 64 * s.lineBase n
  let clash := others.any (fun m =>
    decide (base < 64 * s.lineBase m + 4 * s.lineLen m) && decide (64 * s.lineBase m < base + 4 * len))
  let bound := dlyBound s.poolWait (others.length + 1) s.fadingLines.length
  let bad := decide (len % 16 ≠ 0) || decide (1048576 < len) ||
    decide (s.poolQuarters.length * 0x80000 < base + 4 * len) || clash || decide (len ≤ s.lineDelay n) ||
    decide (fabricAt s.isFast s.checkStepNow s.row.selvage s.fs < bound)
  let old := s.line n
  if len = 0 then (s.setReg (Reg.DLY_LINE_LEN n) 0).setLine n dlyReset
  else if bad then s.invalid (Reg.DLY_LINE_LEN n)
  else (s.put (Fld.DLY_LINE_LEN_LEN n) len).setLine n
    (if s.lineLen n = 0 then { dlyReset with pos := n % 16 } else { old with hist := old.hist.take len, pos := old.pos % len })

/-- A LINE_DELAY write at its tick (R181). -/
def State.applyLineDelay (s : State) (n : Nat) (w : Word) : State :=
  let d := w.toNat % 2 ^ 20
  let old := s.lineDelay n
  let set := (s.put (Fld.DLY_LINE_DELAY_DELAY n) d).flag (Fld.DLY_LINE_DELAY_XF n) (w.getLsbD 31)
  let full := decide (256 ≤ (s.fadingLines.filter (fun m => m != n)).length)
  if s.lineLen n ≤ d then s.invalid (Reg.DLY_LINE_DELAY n)
  else if d = old then set
  else if !w.getLsbD 31 then set.setLine n { s.line n with xfade := none }
  else if full then ((set.setLine n { s.line n with xfade := none }).count ctrXffull).raise 48 n
  else set.setLine n { s.line n with xfade := some (old, 0) }

/-- The saturating sum of two Q1.31 words. -/
def satAdd (x y : Word) : Word := (qsat false (x.toInt + y.toInt)).1

/-- The output of a line whose newest input is the head of `hist` (R180, R181). -/
def lineOut (hist : List Word) (d : Nat) (x : Option (Nat × Nat)) : Word :=
  let at' (i : Nat) : Word := hist.getD i 0
  match x with
  | none => at' d
  | some (old, m) => if 63 < m then at' d else satAdd (scale64 (at' old) (63 - m)) (scale64 (at' d) (m + 1))

/-- The lines' rows of the pass that starts at this tick: the outputs with the fabric cycles each needs, and the lines
afterwards (R180 to R182). -/
def State.dlyPass (s : State) : List PassOut × Table DlyLine :=
  let ns := s.enabledLines
  let w := s.poolWait
  ns.foldl
    (fun (p : List PassOut × Table DlyLine) n =>
      let l := s.line n
      let hist := (s.sinkRead 0x18 n :: l.hist).take (s.lineLen n)
      let done := p.1.length + 1
      let fading := ((ns.take done).filter (fun m => (s.line m).xfade.isSome)).length
      (p.1 ++ [⟨n, dlyBound w done fading, lineOut hist (s.lineDelay n) l.xfade, false⟩],
        p.2.set (fun _ => dlyReset) n ⟨hist, l.xfade.map (fun x => (x.1, x.2 + 1)), (l.pos + 1) % s.lineLen n⟩))
    ([], s.fab.lines)

/-- A row without a pass: its position of every enabled line stays unwritten and reads 0 (R180; log entry 12). -/
def State.dlySkip (s : State) : Table DlyLine :=
  s.enabledLines.foldl
    (fun (t : Table DlyLine) n =>
      let l := s.line n
      t.set (fun _ => dlyReset) n ⟨(0 :: l.hist).take (s.lineLen n), l.xfade.map (fun x => (x.1, x.2 + 1)), (l.pos + 1) % s.lineLen n⟩)
    s.fab.lines

/-- Shared offset of a pool offset (R178). -/
def poolAddr (qs : List (Nat × Nat)) (o : Nat) : Option Nat :=
  (qs[o / 0x80000]?).map (fun p => p.1 * 0x200000 + p.2 * 0x80000 + o % 0x80000)

/-- A line whose position has reached a multiple of 16 writes the beat of its last 16 samples (R182; log entry 12). -/
def State.writeBeat (s : State) (qs : List (Nat × Nat)) (n : Nat) : State :=
  let l := s.line n
  let len := s.lineLen n
  if l.pos % 16 = 0 then
    let first := (l.pos + len - 16) % len
    match poolAddr qs (64 * s.lineBase n + 4 * first) with
    | some a => s.setShared (memSetBytes s.fab.shared a ((addrs 0 1 16).map (fun i => leBytes (l.hist.getD (15 - i) 0))).flatten)
    | none => s
  else s

/-- The beats that fall due with the row of the pass (R182). -/
def State.writeBeats (s : State) : State := s.enabledLines.foldl (fun t n => t.writeBeat s.poolQuarters n) s

/-! ### Passes at the tick and at the stop point -/

/-- Both passes start at the engine tick on the page that opened. -/
def State.startPasses (s : State) : State :=
  let s1 :=
    if s.on Fld.MTX_CTL_EN && !s.swt.marching then
      let i := s.get Fld.MTX_XP_SEL_INDEX
      let used := match s.glideOn i with
        | some g => glideGain g
        | none => (s.mtxEntry s.mtxActive i).1
      let s0 := s.setReg Reg.MTX_XP_CUR (if i < s.get Fld.MTX_ACT_LEN_COUNT then used else 0)
      { s0 with fab := { s0.fab with mtxOut := s.mtxPass, glides := stepGlides s.fab.glides } }
    else { s with fab := { s.fab with mtxOut := [], glides := stepGlides s.fab.glides } }
  if s.on Fld.DLY_CTL_EN && !s.swt.marching then
    let p := s.dlyPass
    ({ s1 with fab := { s1.fab with dlyOut := p.1, lines := p.2 } } : State).writeBeats
  else { s1 with fab := { s1.fab with dlyOut := [], lines := s.dlySkip } }

/-- The outputs that were finished are written; the others make the row a stitch (R173, R182). -/
def State.endPasses (s : State) : State :=
  let f := cyclesTo 1 s.row.accU s.row.sinceU s.row.gauge s.row.selvage s.fs
  let prog := 64 * (f - 24)
  let len := s.get Fld.MTX_ACT_LEN_COUNT
  let ok (o : PassOut) : Bool := decide (o.need ≤ prog) || decide (len ≤ prog)
  let s1 := (s.fab.mtxOut.filter ok).foldl
    (fun s o => let s1 := s.sourceWrite 0x07 o.idx o.word; if o.sat then s1.count ctrMtxSat else s1) s
  let mst := s.fab.mtxOut.any (fun o => !ok o)
  let s2 := if mst then (s1.count ctrMtxStitch).raise 44 0 else s1
  let s3 := (s.fab.dlyOut.filter (fun o => decide (o.need ≤ f))).foldl (fun s o => s.sourceWrite 0x08 o.idx o.word) s2
  let s4 := if s.fab.dlyOut.any (fun o => !decide (o.need ≤ f)) then (s3.count ctrDlyStitch).raise 47 0 else s3
  { s4 with fab := { s4.fab with mtxOut := [], dlyOut := [], mtxStitch := mst } }

/-! ### Quarter ownership (R185) -/

/-- Is the change of quarter `q` of bank `b` from owner `o` to owner `n` accepted? -/
def ownerChangeOk (dlyOn : Bool) (b q o n : Nat) : Bool :=
  let legal := decide (n ≤ 5) || (decide (0x10 ≤ n) && decide (n ≤ 0x1F))
  let fixed := decide (b < 2) || (decide (40 ≤ b) && decide (q = 3))
  let hostOnly := decide (40 ≤ b) && decide (n ≠ 0) && decide (n ≠ 4)
  legal && !fixed && !hostOnly && (decide (o = 0) || decide (n = 0)) &&
    !(dlyOn && (decide (o = 3) || decide (n = 3)))

/-- A QOWN write: each quarter that changes is judged by itself; fixed quarters are read-only, and the delay pool holds at most
128 quarters (R178). -/
def State.writeQown (s : State) (b : Nat) (w : Word) : State :=
  let one (p : State × Bool) (q : Nat) : State × Bool :=
    let o := s.get (fdQown b q)
    let n := bitsOf w (8 * q + 7) (8 * q)
    if o = n ∨ b < 2 ∨ (40 ≤ b ∧ q = 3) then p
    else if ownerChangeOk (s.on Fld.DLY_CTL_EN) b q o n && (n != 3 || decide (p.1.poolQuarters.length < 128)) then
      (p.1.put (fdQown b q) n, p.2)
    else (p.1, true)
  let r := (addrs 0 1 4).foldl one (s, false)
  if r.2 then r.1.invalid (0x1C0000 + 4 * b) else r.1

end Sys2Proof.Machine
end

