-- ==== Sys2Proof/Machine/Ports.lean ====
section
/-! DEFINITION. The register set that every local port shares (R375, R385, R387), and the entries into FAULT and OFF. Ports
0 to 15 are TDM, 16 to 23 AES3 inputs, 24 to 31 AES3 outputs, 32 and 33 MADI, as in the event instances of R486. -/

namespace Sys2Proof.Machine

/-- Event counters of a port by their place: 0 FRAMEERR, 1 FAULTS, 2 ZCTO, 3 PARITY, 4 CRCC, 5 CLAIMSW, 6 CLAIMHOLD,
7 CLAIMFADE. -/
def ctrPort (p j : Nat) : Ctr := ⟨Reg.PORT_CNT32 p j, ⟨Reg.PORT_CNT_SAT p, j, j⟩⟩

def State.lport (s : State) (p : Nat) : LocPort := s.loc.port.get (fun _ => locPortReset) p

def State.setLport (s : State) (p : Nat) (x : LocPort) : State :=
  { s with loc := { s.loc with port := s.loc.port.set (fun _ => locPortReset) p x } }

def State.modLport (s : State) (p : Nat) (f : LocPort → LocPort) : State := s.setLport p (f (s.lport p))

/-- STATE of a port, codes of R375: 0 OFF, 1 ARMED, 2 PRECLK, 3 OPENING, 4 RUN, 5 CLOSING, 6 POSTCLK, 7 FAULT. -/
def State.lstate (s : State) (p : Nat) : Nat := s.get (Fld.PORT_STAT_STATE p)

/-- A change of STATE; entries into RUN, OFF and FAULT raise port-state (R375). -/
def State.setLstate (s : State) (p st : Nat) : State :=
  if s.lstate p = st then s
  else
    let s1 := s.put (Fld.PORT_STAT_STATE p) st
    if st = 0 ∨ st = 4 ∨ st = 7 then s1.raise 162 (p + 256 * st) else s1

/-- What a port forgets when it stops. -/
def LocPort.clear (x : LocPort) : LocPort :=
  { x with startAt := none, stopAt := none, rebind := none, solo := false, errs := 0, lockRows := 0, commitDue := false,
           zlate := false, zin := [], zout := [], claim := claimReset, cap := none }

/-- The balls of a TDM port that sends no frame (R375): as master its BCK and FS are low; SDO is low, or high impedance with
TRIS. -/
def State.idleBalls (s : State) (p : Nat) : List (String × BallLevel) :=
  let name (b : String) : String := b ++ toString p
  let clk : BallLevel := if s.on (Fld.TDM_CFG_MASTER p) then .low else .z
  [(name "BCK", clk), (name "FS", clk), (name "SDO", if s.on (Fld.TDM_CFG_TRIS p) then .z else .low)]

/-- The balls of a port in OFF; AES3 and MADI outputs then send no signal. -/
def State.showIdle (s : State) (p : Nat) : State := if p < 16 ∧ s.lstate p = 0 then s.send (.balls (s.idleBalls p)) else s

/-- Entry into OFF. -/
def State.portOff (s : State) (p : Nat) : State := ((s.modLport p LocPort.clear).setLstate p 0).showIdle p

/-- Entry into FAULT for a reason of R385 (R362, R363). -/
def State.portFault (s : State) (p reason : Nat) : State :=
  ((((s.modLport p LocPort.clear).put (Fld.PORT_STAT_REASON p) reason).setLstate p 7).count (ctrPort p 1)).raise 163 (p + 256 * reason)

/-- Row ticks stop: every port not in OFF enters FAULT with reason NOTICK (R383); one in FAULT stays as it is. -/
def State.noTick (s : State) : State :=
  (addrs 0 1 34).foldl (fun s p => if s.lstate p = 0 ∨ s.lstate p = 7 then s else s.portFault p 5) s

end Sys2Proof.Machine
end

