-- ==== Sys2Proof/Machine/Prbs.lean ====
section
/-! DEFINITION. What a lane sends and receives symbol by symbol in a near-end loopback (R265 to R267, R286, R288): the pattern
generator, the Gray code of PAM4, the precoders, the polarities and the pattern checker (log entry 130). -/

namespace Sys2Proof.Machine

def State.laneS (s : State) (n : Nat) : LaneS := s.lane.get (fun _ => laneReset) n

def State.setLane (s : State) (n : Nat) (x : LaneS) : State := { s with lane := s.lane.set (fun _ => laneReset) n x }

def State.modLane (s : State) (n : Nat) (f : LaneS → LaneS) : State := s.setLane n (f (s.laneS n))

/-- STATE of a lane: 0 OFF, 1 ACQUIRE, 2 LOCK, 3 UP, 4 EIDLE, 5 RETRAIN, 6 LOOP (R275). -/
def State.laneState (s : State) (n : Nat) : Nat := s.get (Fld.LANE_STAT_STATE n)

/-- MODE of a lane, codes of R262. -/
def State.laneMode (s : State) (n : Nat) : Nat := s.get (Fld.LANE_STAT_MODE n)

/-- Event counters by their place: 0 LOCKLOSS, 1 RETRAIN, 2 DRIFT, 3 ELASTIC, 4 EXITSLOW, 5 BLOCKERR, 6 FEC_UNCORR,
7 PRBS_ERR. -/
def ctrLane (n j : Nat) : Ctr := ⟨Reg.LANE_CNT32 n j, ⟨Reg.LANE_CNT_SAT n, j, j⟩⟩

/-- Frame counters by their place: 0 FEC_CORR, 1 FILL_INS, 2 FILL_DEL, 3 PRBS_BITS (R293). -/
def State.countLane (s : State) (n j k : Nat) : State := s.count64 (Reg.LANE_CNT_SNAP n + 0x10 + 8 * j) k

/-- Does a near-end loopback run on a lane? -/
def State.nearEnd (s : State) (n : Nat) : Bool :=
  s.get (Fld.LANE_LOOP_STAT_RESULT n) == 1 &&
    (s.get (Fld.LANE_LOOP_STAT_MODE n) == 1 || s.get (Fld.LANE_LOOP_STAT_MODE n) == 2)

/-! ### Patterns -/

/-- Length of the register behind PATTERN: PRBS7, PRBS9, PRBS15, PRBS31, PRBS13Q. -/
def prbsLen (pattern : Nat) : Nat := match pattern with | 0 => 7 | 1 => 9 | 2 => 15 | 3 => 31 | _ => 13

/-- How long ago the bits were sent whose sum is the next one: x^7 + x^6 + 1, x^9 + x^5 + 1, x^15 + x^14 + 1, x^31 + x^28 + 1,
x^13 + x^12 + x^2 + x + 1 (log entry 130). -/
def prbsTaps (pattern : Nat) : List Nat :=
  match pattern with | 0 => [7, 6] | 1 => [9, 5] | 2 => [15, 14] | 3 => [31, 28] | _ => [13, 12, 2, 1]

/-- The bit that follows the bits in `r`, of which the last one is lowest. -/
def prbsNext (pattern r : Nat) : Bool := (prbsTaps pattern).foldl (fun b t => b != r.testBit (t - 1)) false

/-- `r` with one more bit. -/
def prbsPush (pattern r : Nat) (b : Bool) : Nat := (2 * r + b.toNat) % 2 ^ prbsLen pattern

/-- Does a pattern exist in a mode (R288)? PRBS13Q does in mode 0b100 only. -/
def patternOk (mode pattern : Nat) : Bool := decide (pattern < 4) || (pattern == 4 && mode == 4)

/-! ### Symbols -/

/-- The Gray code of a pair of bits, A first (R265). -/
def grayOf (a b : Bool) : BitVec 2 :=
  match a, b with | false, false => 0 | false, true => 1 | true, true => 2 | true, false => 3

/-- The pair of bits of a Gray code. -/
def ungray (g : BitVec 2) : Bool × Bool := (decide (2 ≤ g.toNat), g == 1 || g == 2)

/-- Inversion of a PAM4 symbol (R267). -/
def flipGray (on : Bool) (g : BitVec 2) : BitVec 2 := if on then 3 - g else g

/-- The transmit precoder (R266): what is sent for `g`, and the state after it. -/
def precode (on : Bool) (last g : BitVec 2) : BitVec 2 × BitVec 2 := if on then (g - last, g - last) else (g, last)

/-- The receive decoder (R266): what is recovered from `p`, and the state after it. -/
def unprecode (on : Bool) (last p : BitVec 2) : BitVec 2 × BitVec 2 := if on then (p + last, p) else (p, last)

/-- How CFG and the loopback treat the symbols of a lane. -/
structure LanePath where
  serial : Bool
  pam : Bool
  ptx : Bool
  prx : Bool
  flip : Bool × Bool
  deriving DecidableEq, Repr

/-- The path of lane `n`: only the serial loopback goes through precoders and polarities (R286). -/
def State.lanePath (s : State) (n : Nat) : LanePath :=
  ⟨s.get (Fld.LANE_LOOP_STAT_MODE n) == 1, s.laneMode n == 4, s.on (Fld.LANE_CFG_PTX n), s.on (Fld.LANE_CFG_PRX n),
    (s.on (Fld.LANE_CFG_TXPOL n), s.on (Fld.LANE_CFG_RXPOL n))⟩

/-- The bits received for one bit sent (NRZ) or two (PAM4). -/
def LanePath.carry (p : LanePath) (x : LaneS) (bits : List Bool) : LaneS × List Bool :=
  if !p.serial then (x, bits)
  else match p.pam, bits with
    | true, [a, b] =>
      let t := precode p.ptx x.preTx (grayOf a b)
      let r := unprecode p.prx x.preRx (flipGray p.flip.2 (flipGray p.flip.1 t.1))
      ({ x with preTx := t.2, preRx := r.2 }, [(ungray r.1).1, (ungray r.1).2])
    | _, _ => (x, bits.map (fun b => b != (p.flip.1 != p.flip.2)))

/-- The generator's next bit. Its register starts at a free value that is not 0. -/
def LaneS.sendBit (x : LaneS) (pattern seed : Nat) : LaneS × Bool :=
  let r := if x.gen = 0 then seed % (2 ^ prbsLen pattern - 1) + 1 else x.gen
  let b := prbsNext pattern r
  ({ x with gen := prbsPush pattern r b }, b)

/-- The checker takes a bit (R288): the first ones seed it, the others are compared; with the lane, the bits compared and those
that differ. -/
def LaneS.checkBit (x : LaneS) (pattern : Nat) (b : Bool) : LaneS × Nat × Nat :=
  if x.seeded < prbsLen pattern then ({ x with chk := prbsPush pattern x.chk b, seeded := x.seeded + 1 }, 0, 0)
  else
    let e := prbsNext pattern x.chk
    ({ x with chk := prbsPush pattern x.chk e }, 1, (b != e).toNat)

/-- Bits into the checker. -/
def LaneS.checkBits (pattern : Nat) : LaneS → List Bool → LaneS × Nat × Nat
  | x, [] => (x, 0, 0)
  | x, b :: bs =>
    let y := x.checkBit pattern b
    let z := y.1.checkBits pattern bs
    (z.1, y.2.1 + z.2.1, y.2.2 + z.2.2)

/-- Bits from the generator. -/
def LaneS.sendBits (pattern seed : Nat) : Nat → LaneS → LaneS × List Bool
  | 0, x => (x, [])
  | k + 1, x =>
    let y := x.sendBit pattern seed
    let z := y.1.sendBits pattern seed k
    (z.1, y.2 :: z.2)

/-- `k` symbols of a lane in near-end loopback, with the bits compared and those that differ. `data` gives the bits that the
transmitter sends without the generator. -/
def LanePath.run (p : LanePath) (pattern seed : Nat) (tx rx : Bool) (data : Nat → Bool) : Nat → LaneS → LaneS × Nat × Nat
  | 0, x => (x, 0, 0)
  | k + 1, x =>
    let w := if p.pam then 2 else 1
    let sent := if tx then x.sendBits pattern seed w else (x, (List.range w).map (fun i => data (2 * k + i)))
    let got := p.carry sent.1 sent.2
    let y := if rx then got.1.checkBits pattern got.2 else (got.1, 0, 0)
    let z := p.run pattern seed tx rx data k y.1
    (z.1, y.2.1 + z.2.1, y.2.2 + z.2.2)

/-- Baud rate of a mode (R262). -/
def baudOf (mode : Nat) : Nat :=
  match mode with | 1 => 1250000000 | 2 => 10312500000 | 3 => 25781250000 | 4 => 26562500000 | 5 => 25781250000 | _ => 0

/-- One count-clock edge of a lane: in near-end loopback its symbols pass, and the checker counts (R288). -/
def State.laneEdge (s : State) (n : Nat) : State :=
  let pattern := s.get (Fld.LANE_PRBS_CFG_PATTERN n)
  let ok := patternOk (s.laneMode n) pattern
  let tx := s.on (Fld.LANE_PRBS_CFG_TXEN n) && ok
  let rx := s.on (Fld.LANE_PRBS_CFG_RXEN n) && ok
  if s.nearEnd n && (tx || rx) then
    let x := s.laneS n
    let t := x.owed + baudOf (s.laneMode n)
    let e := s.tb.edges
    let r := (s.lanePath n).run pattern (Config.prbsSeed n e) tx rx (Config.lineBit n e) (t / 491520000)
      { x with owed := t % 491520000 }
    ((s.setLane n r.1).countLane n 3 r.2.1).countBy (ctrLane n 7) r.2.2
  else s

/-- One count-clock edge of the six lanes. -/
def State.lanesEdge (s : State) : State := (addrs 0 1 6).foldl State.laneEdge s

/-- Generator and checker start anew where PRBS_CFG has changed or a loopback begins. -/
def State.restartPrbs (s : State) (n : Nat) (gen chk : Bool) : State :=
  s.modLane n (fun x => { x with gen := if gen then 0 else x.gen, seeded := if chk then 0 else x.seeded })

end Sys2Proof.Machine
end

