-- ==== Sys2Proof/Machine/TimeOps.lean ====
section
/-! DEFINITION. The time bases (R295 to R322): value, slew, samples, holdover, re-steps, masters; the row index of a
value; and the start and stop of the row ticks (R318, R325). -/

namespace Sys2Proof.Machine

def State.base (s : State) (n : Nat) : TimeBase := s.tb.base.get (fun _ => timeBaseReset) n

def State.setBase (s : State) (n : Nat) (b : TimeBase) : State :=
  { s with tb := { s.tb with base := s.tb.base.set (fun _ => timeBaseReset) n b } }

def State.modBase (s : State) (n : Nat) (f : TimeBase → TimeBase) : State := s.setBase n (f (s.base n))

/-- STATE of a time base, codes of R300. -/
def State.tbState (s : State) (n : Nat) : Nat := s.get (Fld.TB_STAT_STATE n)

/-- LOCKING, LOCKED or HOLDOVER. -/
def State.tbRuns (s : State) (n : Nat) : Bool := decide (2 ≤ s.tbState n) && decide (s.tbState n ≤ 4)

/-- SOURCE = CLOCK. -/
def State.tbClock (s : State) (n : Nat) : Bool := s.get (Fld.TB_CTL_SOURCE n) == 1

/-- Number of the media time base. -/
def State.media (s : State) : Nat := s.get Fld.TB0_MEDIASEL_SEL

/-- Counter `j` of a time base (R322): OUTLIER, JUMPREF, HOLD, MCHG, RESTEP. -/
def ctrTb (n j : Nat) : Ctr := ⟨Reg.TB_CNT32 n j, ⟨Reg.TB_CNT_SAT n, j, j⟩⟩

/-! ### Value -/

/-- Units of the accumulator in 2^-16 ns. -/
def accUnit : Nat := 3 * 65536 * 100000000

/-- Units of the accumulator in 1 ns. -/
def nsUnit : Nat := 65536 * accUnit

/-- Count-clock edges in a second (R296). -/
def edgesPerSecond : Nat := 491520000

/-- Value of a time base in units of 2^-16 ns (R295, R318). -/
def State.tbTime (s : State) (n : Nat) : Nat := (s.base n).acc / accUnit

/-- Value of a time base in whole nanoseconds. -/
def State.tbNs (s : State) (n : Nat) : Nat := s.tbTime n / 65536

/-- Full row count of a value (R318). -/
def rowCount (t fs : Nat) : Nat := t * fs / (1000000000 * 65536)

/-- Row index of the media time base's present value (R318). -/
def State.mediaRow (s : State) : Word := BitVec.ofNat 32 (rowCount (s.tbTime s.media) s.fs)

/-- Phase absorbed at one edge at most: PC = SLEW.LIMIT in 0.01 ppm (R297). -/
def State.slewStep (s : State) (n : Nat) : Nat := 400000 * 65536 * s.get (Fld.TB_SLEW_LIMIT n)

/-- Cut an integer to the range from -m to m. -/
def clampTo (m : Nat) (x : Int) : Int := max (-(m : Int)) (min m x)

/-! ### FREQ -/

/-- Sum of FREQ times edges, and edges, of a history from edge `lo` to edge `hi`. -/
def freqSum (lo : Nat) : Nat → List (Nat × Int) → Int × Nat
  | _, [] => (0, 0)
  | hi, (t, f) :: r =>
    if hi ≤ lo then (0, 0)
    else
      let a := max t lo
      let x := freqSum lo t r
      (x.1 + f * ((hi : Int) - a), x.2 + (hi - a))

/-- The part of a history still in effect at or after edge `lo`. -/
def freqSince (lo : Nat) : Nat → List (Nat × Int) → List (Nat × Int)
  | _, [] => []
  | hi, (t, f) :: r => if hi < lo then [] else (t, f) :: freqSince lo t r

/-- Average FREQ over the last 16 s (R309). -/
def State.avgFreq (s : State) (n : Nat) : Int :=
  let x := freqSum (s.tb.edges - 16 * edgesPerSecond) s.tb.edges (s.base n).hist
  if x.2 = 0 then s.getS (Fld.TB_FREQ_VALUE n) else x.1.fdiv x.2

/-- FREQ takes a value, kept in the history. -/
def State.putFreq (s : State) (n : Nat) (f : Int) : State :=
  let e := s.tb.edges
  (s.modBase n (fun b => { b with hist := freqSince (e - 16 * edgesPerSecond) e ((e, f) :: b.hist) })).putS
    (Fld.TB_FREQ_VALUE n) f

/-- The servo asks for a frequency: hardware holds it within 250 ppm and within SLEW.LIMIT of every value that FREQ had
in the last second (R297). -/
def State.askFreq (s : State) (n : Nat) (f : Int) : State :=
  let lim : Int := s.get (Fld.TB_SLEW_LIMIT n) * 65536 / 100
  let vs := (freqSince (s.tb.edges - edgesPerSecond) s.tb.edges (s.base n).hist).map Prod.snd
  let g := vs.foldl (fun x v => max (v - lim) (min (v + lim) x)) (clampTo (250 * 65536) f)
  s.putFreq n g

/-! ### Time passes -/

/-- In HOLDOVER, FREQ moves on toward the average, at most SLEW.LIMIT in a second (R297, R309). -/
def State.moveHeld (s : State) (n : Nat) : State :=
  match (s.base n).target with
  | some (f, e) =>
    if s.tbState n ≠ 4 then s
    else if s.tb.edges < e then s
    else
      let s1 := s.askFreq n f
      s1.modBase n (fun b => { b with
        target := if s1.getS (Fld.TB_FREQ_VALUE n) = f then none else some (f, s.tb.edges + edgesPerSecond + 1) })
  | none => s

/-- One count-clock edge of an enabled time base (R296): T0 * (1 + FREQ + PC), with PC the part of the remaining phase
that the slew limit lets through. -/
def State.edgeBase (s : State) (n : Nat) : State :=
  if s.tbState n = 0 then s
  else
    let s := s.moveHeld n
    let b := s.base n
    let d := clampTo (s.slewStep n) b.phase
    let inc : Int := 400000 * (65536 * 100000000 + 100 * s.getS (Fld.TB_FREQ_VALUE n)) + d
    s.setBase n { b with acc := ((b.acc : Int) + inc).toNat, phase := b.phase - d }

/-- The time count of the DPLL's output advances by `k` periods of the count clock at its frequency (R331). -/
def State.countDpll (s : State) (k : Nat) : State :=
  let inc : Int := k * 400000 * (65536 * 100000000 + 100 * s.clk.freq)
  { s with clk := { s.clk with count := ((s.clk.count : Int) + inc).toNat } }

/-- Has the media time base reached a whole second since `before`? Its PPSO edge goes out (R324). -/
def State.ppsEdge (s : State) (before : Nat) : State :=
  if s.tbState s.media ≠ 0 ∧ before < s.tbNs s.media / 1000000000 then s.send (.edge "PPSO") else s

/-- One count-clock edge. -/
def State.edge (s : State) : State :=
  let s1 := { s with tb := { s.tb with edges := s.tb.edges + 1 } }
  (((((s1.edgeBase 0).edgeBase 1).edgeBase 2).edgeBase 3).countDpll 1).lanesEdge.ppsEdge (s.tbNs s.media / 1000000000)

/-- One count of the always-on clock, 160 periods of the count clock, while the count clock does not run (R298, R328): PC
is 0. -/
def State.slowEdgeBase (s : State) (n : Nat) : State :=
  if s.tbState n = 0 then s
  else
    let s := s.moveHeld n
    let b := s.base n
    let inc : Int := 160 * 400000 * (65536 * 100000000 + 100 * s.getS (Fld.TB_FREQ_VALUE n))
    s.setBase n { b with acc := ((b.acc : Int) + inc).toNat }

/-- One count of the always-on clock. -/
def State.slowEdge (s : State) : State :=
  let s1 := { s with tb := { s.tb with edges := s.tb.edges + 160 } }
  ((((s1.slowEdgeBase 0).slowEdgeBase 1).slowEdgeBase 2).slowEdgeBase 3).countDpll 160

/-- The clock in effect counts once: what the block does while no command waits (log entry 7). -/
def State.countOnce (s : State) : State :=
  if s.clockRuns then s.edge else if s.sup.powered then s.slowEdge else s

/-! ### Row ticks -/

/-- The media clock's lock changes (R325, R352): once locked, the media master clock runs at 512 * fs (R324). -/
def State.setMlock (s : State) (b : Bool) : State :=
  if s.on Fld.CLK_STAT_MLOCK == b then s
  else
    let s1 := (s.flag Fld.CLK_STAT_MLOCK b).raise 139 b.toNat
    if b then s1.send (.clock "MCLKO" (512 * s.fs)) else s1

/-- The clock outputs stop: the system clock, and MCLKO, WCKO and PPSO low (R324, R326, R328). -/
def State.clocksOff (s : State) : State :=
  (((s.send (.clock "SYSTEM" 0)).send (.clock "MCLKO" 0)).send (.ball "WCKO" false)).send (.ball "PPSO" false)

/-- The DPLL output drives the system clock (R324). -/
def State.clocksOn (s : State) : State := s.send (.clock "SYSTEM" 156250000)

/-- Row ticks stop: no input page is open, no gate cycle runs (R208), local ports fault (R383), MLOCK clears, and the next
row starts a new grid (R318, R325, R41). -/
def State.stopTicks (s : State) : State :=
  ({ s with row := { s.row with ticks := false, fresh := true, pageOpen := false },
            net := { s.net with port := s.net.port.remap (fun _ => portReset) (fun p => { p with cycling := false }) }
   }).noTick.setMlock false

/-- Row ticks stop unless the media time base still gives them (R318). -/
def State.checkTicks (s : State) : State :=
  if s.row.ticks && !s.tbRuns s.media then s.stopTicks else s

/-! ### State changes -/

/-- A change of STATE (R300, R301). -/
def State.setTbState (s : State) (n st : Nat) : State :=
  if s.tbState n = st then s
  else ((s.put (Fld.TB_STAT_STATE n) st).raise 130 (n + 256 * st)).checkTicks

/-- Rank of a clockClass (R332). -/
def rankOfClass (c : Nat) : Nat :=
  if c = 6 ∨ c = 13 then 0
  else if c = 7 ∨ c = 14 then 1
  else if c = 52 ∨ c = 58 ∨ c = 187 ∨ c = 193 then 2
  else if c = 255 then 4
  else 3

/-- DPLL states of R348 by code. -/
def State.dpll (s : State) : Nat := s.get Fld.CLK_STAT_STATE

/-- Time in holdover in seconds (R335). -/
def State.holdSeconds (s : State) (n : Nat) : Nat :=
  let own := (s.tb.edges - (s.base n).holdSince) / edgesPerSecond
  if s.tbClock n && s.dpll == 3 then min own ((s.tb.edges - s.clk.holdFrom) / edgesPerSecond) else own

/-- clockClass, clockAccuracy and offsetScaledLogVariance of a grandmaster (R335). -/
def State.ownQuality (s : State) (n : Nat) : Nat × Nat × Nat :=
  if s.tbClock n && s.dpll == 2 && s.get (Fld.CLK_REF_STAT_QL (s.get Fld.CLK_STAT_SEL)) == 0 then (6, 0x21, 0x4E5D)
  else if s.tbState n = 4 ∧ (s.base n).class6 then
    (if s.holdSeconds n ≤ s.get Fld.CLK_HOSPEC_SEC then 7 else 52, 0xFE, 0xFFFF)
  else (248, 0xFE, 0xFFFF)

/-- What the time base announces of itself. -/
def State.ownAnnounce (s : State) (n : Nat) : Announce :=
  let q := s.ownQuality n
  ⟨Config.clockIdentity n, 7, s.get (Fld.TB_PTPCFG_PRIO1 n), q.1, q.2.1, q.2.2, s.get (Fld.TB_PTPPRIO_PRIO2 n),
    Config.clockIdentity n, 0, [], []⟩

/-- Order of data sets of the best-master algorithms: two that name one grandmaster by steps and sender, others by grandmaster
quality (log entry 25). -/
def Announce.better (a b : Announce) : Bool :=
  let ka := [a.prio1, a.cls, a.accuracy, a.variance, a.prio2, a.gm]
  let kb := [b.prio1, b.cls, b.accuracy, b.variance, b.prio2, b.gm]
  if a.gm = b.gm then decide ([a.steps, a.sender, a.port] < [b.steps, b.sender, b.port]) else decide (ka < kb)

/-- The best of the foreign masters. -/
def bestMaster : List Announce → Option Announce
  | [] => none
  | a :: t =>
    match bestMaster t with
    | none => some a
    | some b => if b.better a then some b else some a

/-- May the time base be grandmaster: not slave-only, a profile, and time to serve (R307, R310)? -/
def State.mayServe (s : State) (n : Nat) : Bool :=
  !s.on (Fld.TB_PTPCFG_SONLY n) && s.get (Fld.TB_PTPCFG_PROFILE n) != 0 && s.tbRuns n

/-- The master registers follow the selection (GM, MPORT, GM_ID, GM_INFO). -/
def State.showMaster (s : State) (n : Nat) : State :=
  let own := s.ownAnnounce n
  let gm := s.mayServe n && (s.base n).sel.isNone
  let s1 := s.flag (Fld.TB_STAT_GM n) gm
  let show1 (a : Announce) (port : Nat) (s : State) : State :=
    (((((s.put (Fld.TB_STAT_MPORT n) port).put (Fld.TB_GM_ID_LO_ID n) a.gm).put (Fld.TB_GM_ID_HI_ID n)
      (a.gm / 2 ^ 32)).put (Fld.TB_GM_INFO_CLASS n) a.cls).put (Fld.TB_GM_INFO_STEPS n) a.steps)
  match (s.base n).sel with
  | some a => show1 a a.port s1
  | none => if gm then show1 own 7 s1 else s1.put (Fld.TB_STAT_MPORT n) 7

/-- The best-master algorithm decides again (R302, R311). -/
def State.selectMaster (s : State) (n : Nat) : State :=
  let b := s.base n
  let best := match bestMaster b.masters with
    | some a => if s.mayServe n && (s.ownAnnounce n).better a then none else some a
    | none => none
  let changed : Bool := match best, b.last with
    | some a, some p => a.sender != p.sender || a.port != p.port
    | _, _ => false
  let same := best.map (fun a => (a.sender, a.port)) == b.sel.map (fun a => (a.sender, a.port))
  let s1 := (s.setBase n { b with sel := best, last := if best.isSome then best else b.last,
                                  seqIn := if same then b.seqIn else none }).showMaster n
  if changed then (s1.count (ctrTb n 3)).raise 133 n else s1

/-- Every run of samples starts afresh. -/
def TimeBase.clearRuns (b : TimeBase) : TimeBase :=
  { b with good := 0, outRun := 0, rangeRun := 0, inRun := 0, offRun := 0, relRun := 0 }

/-- Entry into HOLDOVER for a reason (R309): FREQ goes to its average as fast as R297 lets it, PC 0. In HOLDOVER already, only the
reason changes. -/
def State.enterHoldover (s : State) (n reason : Nat) : State :=
  if s.tbState n = 4 then s.put (Fld.TB_STAT_REASON n) reason
  else
    let f := s.avgFreq n
    let c6 := (s.ownQuality n).1 == 6
    let s1 := (s.modBase n (fun b =>
      { b.clearRuns with phase := 0, holdSince := s.tb.edges, class6 := c6, target := some (f, s.tb.edges + edgesPerSecond + 1) })).askFreq n f
    let s2 := ((s1.put (Fld.TB_STAT_REASON n) reason).count (ctrTb n 2)).setTbState n 4
    s2.raise 132 (n + 256 * reason)

/-- A holdover condition of R309 other than those of a sample: it acts in LOCKING and LOCKED. -/
def State.holdIfRuns (s : State) (n reason : Nat) : State :=
  if s.tbState n = 2 ∨ s.tbState n = 3 then s.enterHoldover n reason else s

/-- Entry into LOCKING. -/
def State.enterLocking (s : State) (n : Nat) : State :=
  (((s.modBase n TimeBase.clearRuns).put (Fld.TB_STAT_REASON n) 0).setTbState n 2).showMaster n

/-- A sample is applied: its offset becomes the phase to absorb, and the servo's frequency is asked for (R306). -/
def State.applySample (s : State) (n : Nat) (offset freq : Int) : State :=
  (s.modBase n (fun b => { b with phase := offset * nsUnit })).askFreq n freq

/-- The value steps by an offset (R305, R312). -/
def State.stepBase (s : State) (n : Nat) (offset : Int) : State :=
  s.modBase n (fun b => { b with acc := ((b.acc : Int) + offset * nsUnit).toNat, phase := 0 })

/-- May a pending re-step take a sample: not in a forced holdover, which only RELEASE ends (R310, R312; log entry 129)? -/
def State.restepTakes (s : State) (n : Nat) (bad : Bool) : Bool :=
  (s.base n).restep == .prepared && !bad && !(s.tbState n == 4 && s.get (Fld.TB_STAT_REASON n) == 5)

/-- A pending re-step steps the time base (R312, R317); the media time base reports it at the first row tick. -/
def State.doRestep (s : State) (n : Nat) (offset freq : Int) : State :=
  let s1 := (((s.stepBase n offset).modBase n (fun b => { b with restep := .none })).askFreq n freq).enterLocking n
  let s2 := (s1.count (ctrTb n 4)).put (Fld.TB_CMD_STAT_RESULT n) 2
  if n = s.media then { s2 with tb := { s2.tb with doneDue := some (n, 2) } } else s2

/-- Jump refused (R308). -/
def State.refuseJump (s : State) (n : Nat) : State :=
  (((s.enterHoldover n 2).flag (Fld.TB_STAT_JUMPREF n) true).count (ctrTb n 1)).raise 131 n

/-- Saturated OFFSET register. -/
def State.showOffset (s : State) (n : Nat) (o : Int) : State := s.putS (Fld.TB_OFFSET_VALUE n) (clampTo (2 ^ 31 - 1) o)

/-- A run goes on or starts afresh. -/
def runOf (b : Bool) (n : Nat) : Nat := if b then n + 1 else 0

/-- The runs of a sample. -/
def State.countRuns (s : State) (n : Nat) (far bad wide : Bool) : State :=
  s.modBase n (fun b =>
    { b with outRun := runOf far b.outRun, rangeRun := runOf bad b.rangeRun, inRun := runOf (!wide) b.inRun,
             offRun := runOf wide b.offRun, relRun := runOf (!far && !bad) b.relRun })

/-- A sample in LOCKING or LOCKED (R300, R306, R308); the runs of R308 go on over a return to LOCKING. -/
def State.sampleLocked (s : State) (n : Nat) (offset freq : Int) (far bad : Bool) : State :=
  let b := s.base n
  let cnt := s.get (Fld.TB_LOCKWIN_CNT n)
  if far && decide (3 ≤ b.outRun) then s.refuseJump n
  else if bad && decide (3 ≤ b.rangeRun) then (s.enterHoldover n 3).raise 131 n
  else
    let s1 := if far then s.count (ctrTb n 0) else if bad then s else s.applySample n offset freq
    if s.tbState n = 2 ∧ cnt ≤ b.inRun then (s1.modBase n (fun b => { b with offRun := 0 })).setTbState n 3
    else if s.tbState n = 3 ∧ cnt ≤ b.offRun then
      (s1.enterLocking n).modBase n (fun x => { x with outRun := b.outRun, rangeRun := b.rangeRun })
    else s1

/-- A sample in HOLDOVER (R310). -/
def State.sampleHold (s : State) (n : Nat) (offset freq : Int) (far bad : Bool) : State :=
  let b := s.base n
  let r := s.get (Fld.TB_STAT_REASON n)
  let s0 := if far then s.count (ctrTb n 0) else s
  if r = 5 then s
  else if r = 2 ∨ r = 3 ∨ r = 9 then
    (if s.get (Fld.TB_LOCKWIN_CNT n) ≤ b.relRun then (s.enterLocking n).applySample n offset freq else s0)
  else if far && decide (3 ≤ b.outRun) then s.refuseJump n
  else if bad && decide (3 ≤ b.rangeRun) then (s.enterHoldover n 3).raise 131 n
  else if far || bad then s0
  else (s.enterLocking n).applySample n offset freq

/-- A sample in UNSET (R305): SOURCE = PTP steps at the third valid one. -/
def State.sampleUnset (s : State) (n : Nat) (offset freq : Int) (bad : Bool) : State :=
  let b := s.base n
  if s.tbClock n then s
  else if bad || !b.pathOk then s.setBase n { b with good := 0 }
  else if b.good < 2 then s.setBase n { b with good := b.good + 1 }
  else ((s.stepBase n offset).askFreq n freq).enterLocking n

/-- A sample of a time base: offset in ns and the servo's frequency estimate in 2^-16 ppm. -/
def State.sample (s : State) (n : Nat) (offset freq : Int) : State :=
  let far := decide ((s.get (Fld.TB_STEPTHR_THR n) : Int) < offset.natAbs)
  let bad := decide (250 * 65536 < freq.natAbs)
  let wide := decide ((s.get (Fld.TB_LOCKWIN_WIN n) : Int) < offset.natAbs)
  let s1 := (s.showOffset n offset).countRuns n far bad wide
  if s.tbState n = 0 then s
  else if s.tbState n = 1 then s1.sampleUnset n offset freq bad
  else if s1.restepTakes n bad then s1.doRestep n offset freq
  else if s.tbState n = 4 then s1.sampleHold n offset freq far bad
  else s1.sampleLocked n offset freq far bad

end Sys2Proof.Machine
end

