-- ==== Sys2Proof/Machine/Xlt.lean ====
section
/-! DEFINITION. The translation unit (R457 to R468): table walks, the TLB, invalidation, and the reads and writes of host
memory that an access sends out. -/

namespace Sys2Proof.Machine

def State.setHost (s : State) (h : HostS) : State := { s with host := h }

/-- What an access came to: it waits for a read, it is complete, or it faults with a cause of R469 at a level. -/
inductive AccResult where
  | waits (s : State)
  | done (s : State) (a : HostAcc)
  | fault (s : State) (a : HostAcc) (cause level : Nat)

/-- Translation on (R457, R460). -/
def State.xltOn (s : State) : Bool := s.on Fld.XLT_CTL_EN

/-- Reads that a class may have outstanding (R468). -/
def classReads (cls : Nat) : Nat := if cls = 2 then 32 else 16

/-- Host physical address of the level-4 table. -/
def State.xltRoot (s : State) : Nat :=
  s.get Fld.XLT_ROOT_LO_ADDR * 4096 + s.get Fld.XLT_ROOT_HI_ADDR * 2 ^ 32

/-- Index of an IO virtual address at a level (R457). -/
def levelIndex (level iova : Nat) : Nat := iova / 2 ^ (12 + 9 * (level - 1)) % 512

/-- Bytes that a leaf at a level maps. -/
def levelSize (level : Nat) : Nat := 2 ^ (12 + 9 * (level - 1))

/-- Address and length of the read that an access waits for. -/
def HostAcc.read (a : HostAcc) : Nat × Nat :=
  match a.pos with
  | .walk level table _ _ => (table + 8 * levelIndex level a.iova, 8)
  | .data pa n => (pa, n)

/-- Reads of a class on the link. -/
def State.readsOut (s : State) (cls : Nat) : Nat := (s.host.accs.filter (fun a => a.cls == cls && a.sent)).length

/-- An access asks for its read: it goes out while its class has a read to spare, else it waits (R468). -/
def State.askRead (s : State) (a : HostAcc) : State :=
  if s.readsOut a.cls < classReads a.cls then
    (s.setHost { s.host with accs := s.host.accs ++ [{ a with sent := true }] }).send (.hostRead a.id a.read.1 a.read.2)
  else s.setHost { s.host with accs := s.host.accs ++ [{ a with sent := false }] }

/-- The first access of a class in a list that waits for a read of its class goes out. -/
def sendFirst (cls : Nat) : List HostAcc → List HostAcc × Option HostAcc
  | [] => ([], none)
  | a :: t =>
    if a.cls = cls ∧ !a.sent ∧ !a.inv then ({ a with sent := true } :: t, some a)
    else let r := sendFirst cls t; (a :: r.1, r.2)

/-- A read of a class came back: the next one that waits goes out. -/
def State.nextRead (s : State) (cls : Nat) : State :=
  let r := sendFirst cls s.host.accs
  match r.2 with
  | some a => (s.setHost { s.host with accs := r.1 }).send (.hostRead a.id a.read.1 a.read.2)
  | none => s

/-! ### The TLB -/

def Tlb.holds (t : Tlb) (iova : Nat) : Bool := decide (t.base ≤ iova) && decide (iova < t.base + t.size)

/-- Number of locked translations. -/
def State.locked (s : State) : Nat := (s.host.tlb.filter Tlb.lk).length

/-- LOCKED and LKFULL follow the TLB (R464). -/
def State.showTlb (s : State) : State :=
  let s1 := s.put Fld.XLT_STAT_LOCKED s.locked
  if s.locked < 256 then s1.flag Fld.XLT_STAT_LKFULL false else s1

/-- Use a translation: it becomes the most recently used. -/
def State.touchTlb (s : State) (t : Tlb) : State :=
  s.setHost { s.host with tlb := t :: s.host.tlb.erase t }

/-- Drop the least recently used unlocked translation. -/
def dropLru (l : List Tlb) : List Tlb :=
  match l.reverse.find? (fun t => !t.lk) with
  | some t => l.erase t
  | none => l

/-- A walk's leaf enters the TLB (R462, R464). -/
def State.insertTlb (s : State) (t : Tlb) : State :=
  let full := decide (256 ≤ s.locked)
  let t1 := { t with lk := t.lk && !full }
  let l := if s.host.tlb.length < 1024 then s.host.tlb else dropLru s.host.tlb
  let s1 := (s.setHost { s.host with tlb := t1 :: l }).put Fld.XLT_STAT_LOCKED
    (s.locked + t1.lk.toNat)
  if t.lk && full then s1.flag Fld.XLT_STAT_LKFULL true else s1

/-! ### Accesses -/

/-- An access goes on with the page at hand: a write is sent and the access moves on, a read is asked for. -/
def State.issueAcc (s : State) (a : HostAcc) (pa room : Nat) : State × Option HostAcc :=
  let n := min a.len room
  if a.wr then
    (s.send (.hostWrite pa (a.bytes.take n)),
      some { a with iova := a.iova + n, len := a.len - n, bytes := a.bytes.drop n })
  else (s.askRead { a with pos := .data pa n }, none)

/-- An access goes on from its IO virtual address: translate, then read or write up to the page's end; `fuel` bounds the
pages it crosses. A translation that lacks the permission leaves the TLB with the fault, so that one granted later is found without
an invalidation (R463). -/
def State.goOn : Nat → State → HostAcc → AccResult
  | 0, s, a => .done s a
  | fuel + 1, s, a =>
    if a.len = 0 then .done s a
    else if 2 ^ 48 ≤ a.iova then .fault s a 4 0
    else if !s.xltOn then
      match s.issueAcc a a.iova (2 ^ 48 - a.iova) with
      | (s1, some b) => s1.goOn fuel b
      | (s1, none) => .waits s1
    else
      let s1 := s.count64 Reg.XLT_LOOKUP_LO 1
      match s1.host.tlb.find? (fun t => t.holds a.iova) with
      | some t =>
        if (if a.wr then t.w else t.r) then
          match (s1.touchTlb t).issueAcc a (t.pa + (a.iova - t.base)) (t.base + t.size - a.iova) with
          | (s2, some b) => s2.goOn fuel b
          | (s2, none) => .waits s2
        else .fault ((s1.setHost { s1.host with tlb := s1.host.tlb.erase t }).showTlb) a 2 0
      | none => .waits ((s1.count64 Reg.XLT_MISS_LO 1).askRead { a with pos := .walk 4 s.xltRoot true true })

/-- Pages that an access can cross. -/
def HostAcc.pages (a : HostAcc) : Nat := a.len / 4096 + 3

/-- Is a table entry out of format (R458)? -/
def badFormat (level e : Nat) : Bool :=
  let leaf := e.testBit 3
  decide (e / 2 ^ 52 ≠ 0) || decide (e / 2 ^ 7 % 32 ≠ 0) || decide (e / 2 ^ 4 % 4 ≠ 0) ||
    (leaf && level == 4) || (!leaf && level == 1) || (!leaf && e.testBit 6) ||
    (leaf && decide (e / 4096 * 4096 % 2 ^ 52 % levelSize level ≠ 0))

/-- An entry of a walk arrives (R459). -/
def State.walkEntry (s : State) (a : HostAcc) (level : Nat) (r w : Bool) (e : Nat) : AccResult :=
  let r2 := r && e.testBit 1
  let w2 := w && e.testBit 2
  let pa := e % 2 ^ 52 / 4096 * 4096
  if !e.testBit 0 then .fault s a 1 level
  else if badFormat level e then .fault s a 3 level
  else if !(if a.wr then w2 else r2) then .fault s a 2 level
  else if e.testBit 3 then
    let size := levelSize level
    let base := a.iova / size * size
    let s1 := s.insertTlb ⟨base, size, pa, r2, w2, e.testBit 6⟩
    match s1.issueAcc a (pa + (a.iova - base)) (base + size - a.iova) with
    | (s2, some b) => s2.goOn a.pages b
    | (s2, none) => .waits s2
  else .waits (s.askRead { a with pos := .walk (level - 1) pa r2 w2 })

/-- A read for an access came back whole, or failed after `data` (R469). -/
def State.accRead (s : State) (a : HostAcc) (ok : Bool) (data : List Byte) : AccResult :=
  match a.pos with
  | .walk level _ r w =>
    if a.inv then .waits (s.setHost { s.host with accs := s.host.accs ++ [{ a with sent := false }] })
    else if ok then s.walkEntry a level r w (leNat (data.take 8))
    else .fault s a 5 level
  | .data _ n =>
    let b := { a with bytes := a.bytes ++ data.take n, inv := false }
    if ok then s.goOn a.pages { b with iova := a.iova + n, len := a.len - n }
    else .fault s { b with iova := a.iova + min data.length n } 6 0

/-- A new access to host memory. -/
def State.newAcc (s : State) (what : AccFor) (wr : Bool) (cls iova len : Nat) (bytes : List Byte) : State × HostAcc :=
  (s.setHost { s.host with nextId := (s.host.nextId + 1) % 2 ^ 16 },
    ⟨s.host.nextId, what, wr, cls, iova, len, bytes, .data 0 0, false, false⟩)

/-! ### Invalidation (R465) -/

/-- Is a translation in the scope? -/
def Tlb.inScope (scope addr : Nat) (t : Tlb) : Bool :=
  if scope = 0 then true else if scope = 1 then !t.lk else t.holds addr

/-- INV_ADDR. -/
def State.invAddr (s : State) : Nat := s.get Fld.XLT_INV_ADDR_LO_ADDR * 4096 + s.get Fld.XLT_INV_ADDR_HI_ADDR * 2 ^ 32

/-- Does an access use a removed translation, or walk for one in the scope? -/
def HostAcc.touched (scope addr : Nat) (gone : List Tlb) (a : HostAcc) : Bool :=
  match a.pos with
  | .walk _ _ _ _ => scope != 2 || a.iova / 2 ^ 30 == addr / 2 ^ 30
  | .data _ _ => gone.any (fun t => t.holds a.iova)

/-- GO = 1: the translations in the scope are removed and BUSY sets. -/
def State.invalidateGo (s : State) : State :=
  let scope := s.get Fld.XLT_INV_CTL_SCOPE
  let addr := s.invAddr
  let gone := s.host.tlb.filter (Tlb.inScope scope addr)
  let s1 := s.setHost { s.host with
    tlb := s.host.tlb.filter (fun t => !Tlb.inScope scope addr t),
    accs := s.host.accs.map (fun a => { a with inv := a.inv || a.touched scope addr gone }) }
  (s1.showTlb).flag Fld.XLT_INV_STAT_BUSY true

/-- Are all requests with removed translations off the link? -/
def State.invalidateMayEnd (s : State) : Bool := s.host.accs.all (fun a => !(a.inv && a.sent))

/-- BUSY clears; the walks in the scope run again from the root. -/
def State.invalidateEnd (s : State) : State :=
  let parked := s.host.accs.filter HostAcc.inv
  let s1 := (s.setHost { s.host with accs := s.host.accs.filter (fun a => !a.inv) }).flag Fld.XLT_INV_STAT_BUSY false
  parked.foldl (fun s a => s.askRead { a with inv := false, pos := .walk 4 s.xltRoot true true }) s1

end Sys2Proof.Machine
end

