-- ==== Sys2Proof/Machine/Ring.lean ====
section
/-! DEFINITION. The rings (R428 to R456) and the faults of their accesses (R469 to R478): entries of device-produced rings,
descriptor fetches, transfers in 256-byte segments, fault records, commit points and aborts. -/

namespace Sys2Proof.Machine

/-! ### Ring fields -/

def State.ring (s : State) (r : Nat) : Ring := s.host.rings.get (fun _ => ringReset) r

def State.setRing (s : State) (r : Nat) (x : Ring) : State :=
  s.setHost { s.host with rings := s.host.rings.set (fun _ => ringReset) r x }

def State.modRing (s : State) (r : Nat) (f : Ring → Ring) : State := s.setRing r (f (s.ring r))

/-- STATE of a ring, codes of R430: 0 IDLE, 1 RUN, 2 DRAINING, 3 STOPPED, 4 BLOCKED. -/
def State.ringState (s : State) (r : Nat) : Nat := s.get (Fld.RING_STAT_STATE r)
def State.ringType (s : State) (r : Nat) : Nat := s.get (Fld.RING_CFG_TYPE r)
def State.ringGen (s : State) (r : Nat) : Nat := s.get (Fld.RING_STAT_GEN r)
def State.ringSize (s : State) (r : Nat) : Nat := 2 ^ s.get (Fld.RING_CFG_LOGSZ r)
def State.ringCq (s : State) (r : Nat) : Nat := s.get (Fld.RING_CFG_CQ r)

/-- IO virtual address of a ring. -/
def State.ringBase (s : State) (r : Nat) : Nat := s.get (Fld.RING_BASE_LO_ADDR r) + 2 ^ 32 * s.get (Fld.RING_BASE_HI_ADDR r)

/-- Is a ring type host-produced (R428)? -/
def hostProduced (t : Nat) : Bool := t == 1 || (decide (5 ≤ t) && decide (t ≤ 8))

/-- A real-time ring type. -/
def isRt (t : Nat) : Bool := t == 5 || t == 6

/-- Difference of 16-bit indices (R429). -/
def idxDiff (a b : Nat) : Nat := (a + 65536 - b % 65536) % 65536

/-- Counter `j` of a ring: ERR, MISS, LATE. -/
def ctrRing (r j : Nat) : Ctr := ⟨Reg.RING_ERR_CNT r + 4 * j, ⟨Reg.RING_CNT_SAT r, j, j⟩⟩
/-- Counter `j` of XLT: FAULT, HARD, FOVF. -/
def ctrXlt (j : Nat) : Ctr := ⟨Reg.XLT_FAULT_CNT + 4 * j, ⟨Reg.XLT_CNT_SAT, j, j⟩⟩
/-- Counter `j` of HIF: DBERR, ACCERR, RXNORING. -/
def ctrHif (j : Nat) : Ctr := ⟨Reg.HIF_DBERR_CNT + 4 * j, ⟨Reg.HIF_CNT_SAT, j, j⟩⟩

/-- The device index moves on. -/
def State.setIdx (s : State) (r i : Nat) : State :=
  (s.modRing r (fun x => { x with idx := i % 65536 })).put (Fld.RING_STAT_IDX r) (i % 65536)

/-- The numbers of rings that hold anything. -/
def State.ringKeys (s : State) : List Nat := s.host.rings.map Prod.fst

/-! ### Descriptors -/

def Desc.op (d : Desc) : Nat := leAt d.bytes 0 1
def Desc.irq (d : Desc) : Bool := (leAt d.bytes 1 1).testBit 0
def Desc.tag (d : Desc) : Nat := leAt d.bytes 2 2
def Desc.p0 (d : Desc) : Nat := leAt d.bytes 4 4
def Desc.addr (d : Desc) : Nat := leAt d.bytes 8 8
def Desc.len (d : Desc) : Nat := leAt d.bytes 16 4
def Desc.p2 (d : Desc) : Nat := leAt d.bytes 20 4
def Desc.p3 (d : Desc) : Nat := leAt d.bytes 24 8

/-- Is an opcode valid on a ring type (R440, R442, R443, R445)? -/
def opValid (t op : Nat) : Bool :=
  if t = 1 then decide (op ≤ 10) else if t = 7 then op == 0x20 else if t = 8 then op == 0x21 else isRt t && op == 0x30

/-! ### Completions and other entries -/

/-- Time of the media time base in ns, 0 while it is DISABLED or UNSET (R434). -/
def State.mediaNs (s : State) : Nat := if s.tbRuns s.media then s.tbNs s.media else 0

/-- The tag of the completion of a descriptor that could not be fetched: it reads 0 in the entry (R476), and it is the tag of
no descriptor (R437). -/
def noTag : Nat := 65536

/-- A completion without times and frame information. -/
def Desc.comp (d : Desc) (r status info0 : Nat) : Comp :=
  ⟨r, d.op, if d.lost.isSome then noTag else d.tag, d.didx, d.gen, d.irq, status, info0, 0, 0, 0, none, .free⟩

/-- The completion of a descriptor that is not executed: its fetch faulted (R476), its tag is outstanding (R437), or its opcode is
not valid (R435). -/
def Desc.refused (d : Desc) (r : Nat) : Comp :=
  match d.lost with
  | some fid => d.comp r 4 fid
  | none => d.comp r (if d.dup then 3 else 1) 0

/-- Put an entry behind those that a ring has still to write. -/
def State.pushEntry (s : State) (r : Nat) (e : RingEntry) : State :=
  s.modRing r (fun x => { x with outq := x.outq ++ [e] })

/-- Queue a completion on its ring's CQ, and count its status (ERR_CNT, LATE_CNT). -/
def State.queueComp (s : State) (c : Comp) : State :=
  let s1 := if c.status = 0 then s else s.count (ctrRing c.ring 0)
  let s2 := if c.status = 0x0B then s1.count (ctrRing c.ring 2) else s1
  s2.pushEntry (s.ringCq c.ring) (.comp c)

/-- Is a frame one that ring `r` waits for, of transmit queue `q` or of any? -/
def TxFrame.ofQueue (r : Nat) (q : Option Nat) (f : TxFrame) : Bool :=
  match f.host with
  | some (x, _) => x == r && (match q with | some n => f.queue == n | none => true)
  | none => false

/-- Frames of a BULK_TX ring, of one transmit queue or of all, that have not completed. -/
def State.framesAhead (s : State) (r : Nat) (q : Option Nat) : Nat :=
  (addrs 0 1 4).foldl (fun n i =>
    let p := s.net.port.get (fun _ => portReset) i
    n + ((p.queue ++ (p.tx.map TxNow.frame).toList).filter (fun f => f.ofQueue r q)).length) 0

/-- Completions of a BULK_TX ring with no earlier frame left go out in their order (R438). -/
def State.payFrames (s : State) (r : Nat) : State :=
  let ready := (s.ring r).owed.filter (fun x => x.2.1 == 0)
  ready.foldl (fun s x => s.queueComp x.2.2) (s.modRing r (fun x => { x with owed := x.owed.filter (fun y => y.2.1 != 0) }))

/-- The completion of a descriptor that is not a frame: on a BULK_TX ring it has its place behind the earlier frames of its
transmit queue (R438). -/
def State.completeDesc (s : State) (r : Nat) (d : Desc) (c : Comp) : State :=
  if s.ringType r = 7 then
    let q : Option Nat := if d.lost.isSome then none else some (d.p0 % 8)
    (s.modRing r (fun x => { x with owed := x.owed ++ [(q, s.framesAhead r q, c)] })).payFrames r
  else s.queueComp c

/-- A frame of a BULK_TX ring completes, and with it what waited behind it. -/
def State.completeFrame (s : State) (r q : Nat) (c : Comp) : State :=
  ((s.queueComp c).modRing r (fun x => { x with owed := x.owed.map (fun y =>
    if y.1 == none || y.1 == some q then (y.1, y.2.1 - 1, y.2.2) else y) })).payFrames r

/-- RT blocks that were not taken complete once every earlier one has (R438). -/
def State.payBlocks (r : Nat) : Nat → State → State
  | 0, s => s
  | fuel + 1, s =>
    match (s.ring r).blocks.find? (fun b => !b.signalled) with
    | some b =>
      match b.ended with
      | some e => ((s.modRing r (fun x => { x with blocks := x.blocks.erase b })).queueComp (b.desc.comp r e.1 e.2)).payBlocks r fuel
      | none => s
    | none => s

/-- The completions of an RT ring whose place has come. -/
def State.settleBlocks (s : State) (r : Nat) : State := s.payBlocks r ((s.ring r).blocks.length + 1)

/-- A descriptor of an RT ring completes in its place without being taken. -/
def State.endBlock (s : State) (r : Nat) (d : Desc) (status info0 : Nat) : State :=
  (s.modRing r (fun x => { x with blocks := x.blocks ++ [⟨BitVec.ofNat 32 d.p0, d, [], false, true, false, some (status, info0)⟩] })).settleBlocks r

/-- PHASE of the entry at index `i` of a ring (R436). -/
def State.phase (s : State) (r i : Nat) : Nat := if i / s.ringSize r % 2 = 0 then 128 else 0

/-- The bytes of an entry at the ring's present index (R434, R471, R489). -/
def State.entryBytes (s : State) (r : Nat) (e : RingEntry) : List Byte :=
  let x := s.ring r
  let g := s.ringGen r
  let ph := s.phase r x.idx
  match e with
  | .comp c =>
    leBytesN c.tag 2 ++ leBytesN c.ring 1 ++ leBytesN c.status 1 ++ leBytesN c.info0 4 ++
      leBytesN (c.ts.getD s.mediaNs) 8 ++ leBytesN c.info1 4 ++ leBytesN c.info2 4 ++ leBytesN c.didx 2 ++
      leBytesN c.flags 1 ++ leBytesN 0 2 ++ leBytesN g 1 ++ leBytesN c.gen 1 ++ leBytesN ph 1
  | .event b _ => b ++ leBytesN x.seq 2 ++ leBytesN g 1 ++ leBytesN ph 1
  | .fault b => b ++ leBytesN g 1 ++ leBytesN ph 1

/-- Send an MSI-X message, or keep it pending while its vector is masked (R420). -/
def State.sendVec (s : State) (v : Nat) : State :=
  if (s.host.msix.get msixReset (4 * v + 3)).getLsbD 0 then
    s.setHost { s.host with pba := s.host.pba ||| BitVec.ofNat 32 (2 ^ v) }
  else s.send (.msix v)

/-- The vector of a COMPLETION ring is sent (R439). -/
def State.signalRing (s : State) (r : Nat) : State :=
  (s.modRing r (fun x => { x with unsig := 0, age := 0 })).sendVec (s.get (Fld.RING_CFG_VEC r))

/-- Replace the first outstanding entry of a tag by one with its completion's position. -/
def placeTag (tag pos : Nat) : List (Nat × Option Nat) → List (Nat × Option Nat)
  | [] => []
  | (t, none) :: l => if t = tag then (t, some pos) :: l else (t, none) :: placeTag tag pos l
  | x :: l => x :: placeTag tag pos l

/-- An event record has been written: what it reports is no longer pending, and a record that outlasted its pass sends its vector now
(R488, R491). -/
def State.eventWritten (s : State) (b : List Byte) (late : Bool) : State :=
  let n := leAt b 0 1
  let e := s.evtSrc n
  let s1 := s.setEvtSrc n { e with count := e.count - leAt b 1 1, waited := false, since := false }
  if late && s.on (Fld.EVT_GCFG_VECEN (n / 32)) then s1.sendVec (s.get (Fld.EVT_GCFG_VEC (n / 32))) else s1

/-- The event of a fault record that has been handled: dma-fault, or rt-hard-fault with HARD (R472). -/
def State.recordDone (s : State) (b : List Byte) : State := s.raise (if (leAt b 3 1).testBit 3 then 9 else 8) (leAt b 0 2)

/-- A fault record that could not be written (R472). -/
def State.recordLost (s : State) (b : List Byte) : State := ((s.recordDone b).count (ctrXlt 2)).raise 10 (leAt b 0 2)

/-- A ring's head entry has been written: the index moves on, and a vector may be due (R432, R437, R439, R491). -/
def State.entryWritten (s : State) (r : Nat) : State :=
  let x := s.ring r
  match x.outq with
  | [] => s
  | e :: t =>
    let s1 := ((s.modRing r (fun x => { x with outq := t, seq := (x.seq + 1) % 65536 })).setIdx r (x.idx + 1)).count64
      (Reg.RING_DESC_LO r) 1
    match e with
    | .comp c =>
      let s2 := s1.modRing r (fun x => { x with reserved := x.reserved - 1, unsig := x.unsig + 1 })
      let s3 := if c.status = 3 then s2 else s2.modRing c.ring (fun y => { y with tags := placeTag c.tag x.idx y.tags })
      if c.irq || decide (s.get (Fld.RING_CFG2_ICNT r) ≤ (s3.ring r).unsig) then s3.signalRing r else s3
    | .event b late => s1.eventWritten b late
    | .fault b =>
      let s2 := s1.recordDone b
      if s.on Fld.EVT_FAULT_CFG_VECEN then s2.sendVec (s.get Fld.EVT_FAULT_CFG_VEC) else s2

/-- Drop a ring's head entry without writing it (R476). -/
def State.dropEntry (s : State) (r : Nat) : State :=
  match (s.ring r).outq with
  | [] => s
  | .comp c :: t =>
    (s.modRing r (fun x => { x with outq := t, reserved := x.reserved - 1 })).modRing c.ring
      (fun y => { y with tags := y.tags.filter (fun p => p != (c.tag, none)) })
  | _ :: t => s.modRing r (fun x => { x with outq := t })

/-! ### Faults -/

/-- Is a fault open for what an access serves? -/
def State.faultOn (s : State) (w : AccFor) : Bool := s.host.faults.any (fun f => f.what == w)

def State.setFaults (s : State) (l : List OpenFault) : State :=
  (s.setHost { s.host with faults := l }).put Fld.XLT_STAT_OPEN l.length

/-- The first identifier from `n` on that is neither 0 nor held by an open fault; `fuel` bounds the search. -/
def freeFid (open_ : List Nat) : Nat → Nat → Nat
  | 0, n => n
  | fuel + 1, n => if n = 0 || open_.contains n then freeFid open_ fuel ((n + 1) % 65536) else n

/-- Take the next fault identifier (R470). -/
def State.takeFid (s : State) : State × Nat :=
  let f := freeFid (s.host.faults.map OpenFault.fid) 66 s.host.nextFid
  (s.setHost { s.host with nextFid := (f + 1) % 65536 }, f)

/-- The FAULT ring in RUN with a free slot (R472). -/
def State.faultRing (s : State) : Option Nat :=
  if s.host.frDown then none
  else
    match (addrs 0 1 64).find? (fun r => s.ringType r == 4 && s.ringState r == 1) with
    | some r =>
      if idxDiff ((s.ring r).idx + (s.ring r).outq.length) (s.ring r).seen < s.ringSize r then some r else none
    | none => none

/-- Put 32 bytes into LAST_FAULT. -/
def State.putLastFault (s : State) (b : List Byte) : State :=
  (addrs 0 1 8).foldl (fun s w => s.setReg (Reg.XLT_LAST_FAULT w) (BitVec.ofNat 32 (leAt b (4 * w) 4))) s

/-- A fault record is handled (R472): LAST_FAULT and the counter at once, the event once the record is written or lost. The flag
says whether a ring takes it. -/
def State.handleRecord (s : State) (b : List Byte) (hard : Bool) : State × Bool :=
  let cnt (s : State) : State := s.count (ctrXlt (if hard then 1 else 0))
  match s.faultRing with
  | some r =>
    let i := ((s.ring r).idx + (s.ring r).outq.length) % 65536
    ((cnt (s.putLastFault (b ++ leBytesN (s.ringGen r) 1 ++ leBytesN (s.phase r i) 1))).pushEntry r (.fault b), true)
  | none => ((cnt (s.putLastFault (b ++ [0, 0]))).recordLost b, false)

/-- Parts of a fault record that depend on what the access serves (R471): OBJ, RING, TAG, DIDX, OPCODE, OFFSET. -/
def State.faultParts (s : State) (w : AccFor) : Nat × Nat × Nat × Nat × Nat × Nat :=
  match w with
  | .doorbell => (3, 128, 0, 0, 0, 0)
  | .status => (3, 128, 0, 0, 0, 0)
  | .fetch r => (1, r, 0, (s.ring r).idx, 0, 0)
  | .data r =>
    match (s.ring r).active with
    | some t => (0, r, t.desc.tag, t.desc.didx, t.desc.op, t.off / 4096 * 4096)
    | none => (0, r, 0, 0, 0, 0)
  | .entry r =>
    match (s.ring r).outq with
    | .comp c :: _ => (2, r, c.tag, (s.ring r).idx, c.op, 0)
    | _ => (2, r, 0, (s.ring r).idx, 0, 0)
  | .play r =>
    match (s.ring r).blocks.find? (fun b => !b.complete) with
    | some b => (0, r, b.desc.tag, b.desc.didx, b.desc.op, 0)
    | none => (0, r, 0, 0, 0, 0)
  | .record r =>
    match (s.ring r).blocks.find? (fun b => !b.complete) with
    | some b => (0, r, b.desc.tag, b.desc.didx, b.desc.op, 0)
    | none => (0, r, 0, 0, 0, 0)

/-- The first 30 bytes of a fault record (R471). -/
def State.faultBytes (s : State) (a : HostAcc) (cause level fid : Nat) (hard : Bool) : List Byte :=
  let p := s.faultParts a.what
  let attr := p.1 * 64 + (!hard).toNat * 16 + hard.toNat * 8 + a.wr.toNat * 4 + a.cls
  leBytesN fid 2 ++ leBytesN cause 1 ++ leBytesN attr 1 ++ leBytesN p.2.1 1 ++ leBytesN level 1 ++ leBytesN p.2.2.1 2 ++
    leBytesN a.iova 8 ++ leBytesN p.2.2.2.2.2 4 ++ leBytesN s.eventRow.toNat 4 ++ leBytesN p.2.2.2.1 2 ++
    leBytesN p.2.2.2.2.1 1 ++ [0, 0, 0]

/-- A ring's state changes. -/
def State.setRingState (s : State) (r st : Nat) : State := s.put (Fld.RING_STAT_STATE r) st

/-- A ring leaves BLOCKED once none of its faults is open (R476). -/
def State.unblock (s : State) (r : Nat) : State :=
  if s.ringState r = 4 ∧ ¬ s.faultOn (.fetch r) ∧ ¬ s.faultOn (.data r) then s.setRingState r 1 else s

/-- Is an opcode valid on a ring now: in RECOVERY a COMMAND ring takes NOP and IMAGE_LOAD only (R587)? -/
def State.opTaken (s : State) (r op : Nat) : Bool :=
  opValid (s.ringType r) op && (s.get Fld.BOOT_STAT_PHASE != 6 || s.ringType r != 1 || op == 0 || op == 10)

/-- Head descriptors that are not executed: their fetch faulted, their tag is outstanding, or their opcode is not valid (R435,
R437, R476). They complete in their place in the ring's order (R438). -/
def State.settleHead (r : Nat) : Nat → State → State
  | 0, s => s
  | fuel + 1, s =>
    let x := s.ring r
    if x.active.isSome || !x.posted.isEmpty || s.ringState r != 1 then s
    else
      match x.fetched with
      | [] => s
      | d :: t =>
        if d.dup || d.lost.isSome || !s.opTaken r d.op then
          let c := d.refused r
          let s1 := s.modRing r (fun x => { x with fetched := t })
          (if isRt (s.ringType r) then s1.endBlock r d c.status c.info0 else s1.completeDesc r d c).settleHead r fuel
        else s

/-- The head descriptors of a ring settle. -/
def State.settle (s : State) (r : Nat) : State := s.settleHead r (s.ring r).fetched.length

/-- A draining ring without a transfer: what it has fetched completes with ABORTED (R451). -/
def State.abortFetched (s : State) (r : Nat) : State :=
  let x := s.ring r
  if s.ringState r = 2 ∧ x.active.isNone then
    (x.posted ++ x.fetched).foldl (fun s d => s.completeDesc r d (if d.lost.isSome then d.refused r else d.comp r 6 0))
      (s.modRing r (fun x => { x with posted := [], fetched := [], rxWait := [] }))
  else s

/-- The active transfer of a ring, of descriptor `d`, ends with a completion. -/
def State.endTransfer (s : State) (r : Nat) (d : Desc) (c : Comp) : State :=
  (((s.modRing r (fun x => { x with active := none })).completeDesc r d c).settle r).abortFetched r

/-- The active transfer of a draining ring ends with ABORTED, and so does all that the ring has fetched (R451). -/
def State.abortActive (s : State) (r : Nat) : State :=
  match (s.ring r).active with
  | some t => s.endTransfer r t.desc (t.desc.comp r 6 0)
  | none => s.abortFetched r

/-- A fault ends as an abort (R475, R476). -/
def State.abortFault (s : State) (fid : Nat) (w : AccFor) : State :=
  match w with
  | .data r =>
    match (s.ring r).active with
    | some t => (s.unblock r).endTransfer r t.desc (t.desc.comp r 4 fid)
    | none => s.unblock r
  | .fetch r =>
    let i := (s.ring r).idx
    let d : Desc := ⟨[], i, s.ringGen r, false, some fid⟩
    (((s.modRing r (fun x => { x with fetched := x.fetched ++ [d] })).setIdx r (i + 1)).unblock r).settle r
  | .entry r => s.dropEntry r
  | _ => s

/-- A hard fault on an RT block (R449, R478): rows read in full play, later ones are silence, and the ring stops. -/
def State.hardBlock (s : State) (r fid : Nat) (a : HostAcc) : State :=
  match (s.ring r).blocks.find? (fun b => !b.complete) with
  | some b =>
    let nch := s.get (Fld.RING_CFG2_NCHM1 r) + 1
    let whole := a.bytes.length / (4 * nch)
    let rows := if a.wr then b.rows
      else (addrs 0 1 whole).map (fun i => (addrs 0 1 nch).map (fun c =>
        BitVec.ofNat 32 (leAt a.bytes (4 * (nch * i + c)) 4)))
    let b2 := { b with rows := rows, failed := true, complete := true, signalled := true }
    let blocks := (s.ring r).blocks
    let left := if a.wr then blocks.erase b else blocks.map (fun y => if y = b then b2 else y)
    (((s.modRing r (fun x => { x with blocks := left })).setRingState r (if s.ringState r = 2 then 2 else 3)).queueComp
      (b.desc.comp r 4 fid)).settleBlocks r
  | none => if s.ringState r = 2 then s else s.setRingState r 3

/-- The due blocks that no RT ring has taken are missed (R446). -/
def State.missDue (s : State) : State :=
  s.ringKeys.foldl (fun s r =>
    if isRt (s.ringType r) then
      let s1 := if (s.ring r).due.isSome && (s.ringState r == 1 || s.ringState r == 4) then (s.count (ctrRing r 1)).raise 7 r else s
      s1.modRing r (fun x => { x with due := none })
    else s) s

/-- The fault record of an entry. -/
def RingEntry.record (e : RingEntry) : Option (List Byte) := match e with
  | .fault b => some b
  | _ => none

/-- The FAULT ring's own write faulted (R473): what it had still to write is dropped and counted, and LAST_FAULT shows that its
record could not be written. -/
def State.faultRingDown (s : State) (r : Nat) : State :=
  let lost := (s.ring r).outq.filterMap RingEntry.record
  let s1 := s.modRing r (fun x => { x with outq := [] })
  let s2 := ((s1.setHost { s1.host with frDown := true }).flag Fld.XLT_STAT_FRFAULT true).raise 4 4
  lost.foldl State.recordLost
    (s2.setReg (Reg.XLT_LAST_FAULT 7) (s2.reg (Reg.XLT_LAST_FAULT 7) &&& 0xFFFF))

/-- An access faults (R472 to R478). -/
def State.handleFault (s : State) (a : HostAcc) (cause level : Nat) : State :=
  match a.what with
  | .entry r =>
    if s.ringType r = 4 then s.faultRingDown r
    else
      let f := s.takeFid
      let h := f.1.handleRecord (f.1.faultBytes a cause level f.2 false) false
      if h.2 then h.1.setFaults (h.1.host.faults ++ [⟨f.2, a.what⟩]) else h.1.abortFault f.2 a.what
  | .fetch r =>
    let f := s.takeFid
    let h := f.1.handleRecord (f.1.faultBytes a cause level f.2 false) false
    if s.ringState r = 2 then
      h.1.modRing (s.ringCq r) (fun y => { y with reserved := y.reserved - 1 })
    else if h.2 then (h.1.setFaults (h.1.host.faults ++ [⟨f.2, a.what⟩])).setRingState r 4 else h.1.abortFault f.2 a.what
  | .data r =>
    let f := s.takeFid
    let h := f.1.handleRecord (f.1.faultBytes a cause level f.2 false) false
    let s1 := h.1.modRing r (fun x => { x with active := x.active.map (fun t =>
      { t with off := t.off / 4096 * 4096, buf := if a.wr then t.buf else t.buf.take (t.off / 4096 * 4096) }) })
    if s.ringState r = 2 then s1.abortActive r
    else if h.2 then (s1.setFaults (s1.host.faults ++ [⟨f.2, a.what⟩])).setRingState r 4 else s1.abortFault f.2 a.what
  | .doorbell =>
    let f := s.takeFid
    let h := f.1.handleRecord (f.1.faultBytes a cause level f.2 true) true
    ((h.1.flag Fld.HIF_HSTAT_DBFAULT true).raise 4 1).missDue
  | .status =>
    let f := s.takeFid
    let h := f.1.handleRecord (f.1.faultBytes a cause level f.2 true) true
    (h.1.flag Fld.HIF_HSTAT_STFAULT true).raise 4 2
  | .play r =>
    let f := s.takeFid
    let h := f.1.handleRecord (f.1.faultBytes a cause level f.2 true) true
    h.1.hardBlock r f.2 a
  | .record r =>
    let f := s.takeFid
    let h := f.1.handleRecord (f.1.faultBytes a cause level f.2 true) true
    h.1.hardBlock r f.2 a

/-! ### Writing entries -/

/-- Is an access for this purpose under way? -/
def State.accOn (s : State) (w : AccFor) : Bool := s.host.accs.any (fun a => a.what == w)

/-- Entry size of a device-produced ring in bytes. -/
def State.entrySize (s : State) (r : Nat) : Nat := if s.ringType r = 3 then 16 else 32

/-- May an entry be written now? The OK of a RESUME waits for what it resumed (R475). -/
def State.gateOpen (s : State) (e : RingEntry) : Bool :=
  match e with
  | .comp c => (match c.gate with
    | .free => true
    | .written cq fid => !(s.ring cq).outq.any (fun e => match e with
      | .comp x => x.status == 4 && x.info0 == fid
      | _ => false)
    | .issued w => !s.host.accs.any (fun a => a.what == w && !a.sent))
  | _ => true

/-- Write what a device-produced ring has queued, until it is empty, waits for a walk, or faults. -/
def State.pumpRing (r : Nat) : Nat → State → State
  | 0, s => s
  | fuel + 1, s =>
    match (s.ring r).outq with
    | [] => s
    | e :: _ =>
      if s.accOn (.entry r) || s.faultOn (.entry r) || s.ringState r == 0 || !s.gateOpen e then s
      else
        let n := s.entrySize r
        let b := s.entryBytes r e
        let p := s.newAcc (.entry r) true 1 (s.ringBase r + (s.ring r).idx % s.ringSize r * n) n b
        match p.1.goOn p.2.pages p.2 with
        | .waits s1 => s1
        | .done s1 _ => (s1.entryWritten r).pumpRing r fuel
        | .fault s1 a c l => (s1.handleFault a c l).pumpRing r fuel

/-- Every ring writes what it has queued. A fault may queue a record on the FAULT ring or a completion, so the rings are
gone through three times. -/
def State.pumpAll (s : State) : State :=
  let once (s : State) : State := s.ringKeys.foldl (fun s r => s.pumpRing r ((s.ring r).outq.length + 1)) s
  once (once (once s))

/-! ### Fetching -/

/-- May a ring's next descriptor be fetched (R432, R438)? -/
def State.mayFetch (s : State) (r : Nat) : Bool :=
  let x := s.ring r
  let cq := s.ringCq r
  let y := s.ring cq
  let limited := s.ringType r == 1 || s.ringType r == 7
  s.ringState r == 1 && hostProduced (s.ringType r) && !s.accOn (.fetch r) && !s.faultOn (.fetch r) && decide (0 < idxDiff x.seen x.idx) &&
    s.ringState cq == 1 && !s.faultOn (.entry cq) && decide (idxDiff y.idx y.seen + y.reserved < s.ringSize cq) &&
    (!limited || (decide (x.rowFetch < 16) && decide (s.host.rowFetch < 128)))

/-- Read the next descriptor of a ring, whose completion has its slot. -/
def State.readDesc (s : State) (r : Nat) : State :=
  let p := s.newAcc (.fetch r) false 1 (s.ringBase r + (s.ring r).idx % s.ringSize r * 32) 32 []
  match p.1.goOn p.2.pages p.2 with
  | .waits s1 => s1
  | .done s1 _ => s1
  | .fault s1 a c l => s1.handleFault a c l

/-- Fetch the next descriptor of a ring, reserving its completion's slot. -/
def State.tryFetch (s : State) (r : Nat) : State :=
  if s.mayFetch r then
    let lim := s.ringType r == 1 || s.ringType r == 7
    let s1 := (s.modRing (s.ringCq r) (fun y => { y with reserved := y.reserved + 1 })).modRing r
      (fun x => { x with rowFetch := x.rowFetch + 1 })
    (s1.setHost { s1.host with rowFetch := s1.host.rowFetch + lim.toNat }).readDesc r
  else s

/-- A descriptor arrives: its tag becomes outstanding, the index moves on, and the next fetch starts (R429, R437). -/
def State.fetched (s : State) (r : Nat) (b : List Byte) : State :=
  let x := s.ring r
  let tag := leAt b 2 2
  let dup := x.tags.any (fun p => p.1 == tag)
  let d : Desc := ⟨b, x.idx, s.ringGen r, dup, none⟩
  let s1 := s.modRing r (fun x =>
    { x with fetched := x.fetched ++ [d], tags := if dup then x.tags else x.tags ++ [(tag, none)] })
  let s2 := ((s1.setIdx r (x.idx + 1)).count64 (Reg.RING_DESC_LO r) 1).settle r
  s2.tryFetch r

/-! ### Transfers -/

/-- Does the fabric admit host bulk to a shared offset (R184)? -/
def State.bulkAdmits (s : State) (off : Nat) : Bool := admits (s.ownerAt off) 0x1A false

/-- Bytes of a transfer land at their destination (R440): the offset in the block of the first byte that the fabric
refuses, if any. -/
def State.deliver (s : State) (t : Transfer) (b : List Byte) : State × Option Nat :=
  let d := t.desc
  let c := d.p0 % 128
  if t.op = 2 then
    let ws := (addrs 0 1 (b.length / 4)).map (fun i => ((d.p2 + t.off) / 4 + i, (BitVec.ofNat 32 (leAt b (4 * i) 4) : Word)))
    let put (m : Table Word) : Table Word := ws.foldl (fun m p => m.set (fun _ => 0) p.1 p.2) m
    let b1 := s.on (fdCore Fld.CLU_CORE_BANKS_PBANK c)
    (s.modCore c (fun k => if b1 then { k with prog0 := put k.prog0 } else { k with prog1 := put k.prog1 }), none)
  else if t.op = 3 then
    let b1 := s.on (fdCore Fld.CLU_CORE_BANKS_CBANK c)
    let a := d.p2 + t.off
    (s.modCore c (fun k =>
      if b1 then { k with coef0 := memSetBytes k.coef0 a b } else { k with coef1 := memSetBytes k.coef1 a b }), none)
  else if t.op = 4 then
    let cls := d.p0 / 65536 % 256
    let es := (addrs 0 1 (b.length / 2)).map (fun i => (d.p0 % 65536 + t.off / 2 + i, (BitVec.ofNat 16 (leAt b (2 * i) 2) : BitVec 16)))
    let m := es.foldl (fun (m : Table (BitVec 16)) p => m.set (fun _ => 0) (mapKey cls p.1) (p.2 &&& 0xBFFF)) s.shadowMap
    (((s.setShadowMap m).setMapReady false).flag Fld.SST_MAP_STAT_SHBAD false, none)
  else if t.op = 5 then
    let es := (addrs 0 1 (b.length / 8)).map (fun i => (d.p0 + t.off / 8 + i, i))
    (es.foldl (fun s p => s.setMtxEntry s.mtxShadow p.1 (BitVec.ofNat 32 (leAt b (8 * p.2) 4)) (leAt b (8 * p.2 + 4) 2)
      (leAt b (8 * p.2 + 6) 2)) s.touchShadowTable, none)
  else if t.op = 6 then
    let a := d.p2 + t.off
    match (addrs 0 64 (b.length / 64)).find? (fun o => !s.bulkAdmits (a + o)) with
    | some o => ((s.setShared (memSetBytes s.fab.shared a (b.take o))).refuseAccess (a + o) 0x1A, some o)
    | none => (s.setShared (memSetBytes s.fab.shared a b), none)
  else (s, none)

/-- Class of a transfer's data (R466): control for FW_CONFIG, else bulk. -/
def Transfer.cls (t : Transfer) : Nat := if t.op = 8 then 1 else 2

/-- Does a transfer write host memory: SHMEM_READ, or a received frame? -/
def Transfer.writes (t : Transfer) : Bool := t.op == 7 || t.op == 0x21

/-- The transfer of a ring, `n` bytes further. -/
def State.advance (s : State) (r n : Nat) (b : List Byte) : State :=
  s.modRing r (fun x => { x with active := x.active.map (fun t =>
    { t with off := t.off + n, buf := if t.op = 8 ∨ t.op = 10 ∨ t.op = 0x20 then t.buf ++ b else t.buf }) })

/-- Write segments of a transfer until it ends, waits or faults. -/
def State.writeSegments (r : Nat) : Nat → State → State
  | 0, s => s
  | fuel + 1, s =>
    match (s.ring r).active with
    | none => s
    | some t =>
      let n := min 256 (t.len - t.off)
      if n = 0 then s
      else
        let a := t.desc.p2 + t.off
        let refused : Option Nat :=
          if t.op = 7 then (addrs 0 64 (n / 64)).find? (fun o => !s.bulkAdmits (a + o)) else none
        let b := if t.op = 7 then memBytes s.fab.shared a n else bytesAt t.buf t.off n
        let p := s.newAcc (.data r) true t.cls (t.desc.addr + t.off) n b
        match refused with
        | some o => (p.1.refuseAccess (a + o) 0x1A).handleFault { p.2 with iova := p.2.iova + o } 7 0
        | none =>
          match p.1.goOn p.2.pages p.2 with
          | .waits s1 => s1
          | .done s1 _ => (s1.advance r n []).writeSegments r fuel
          | .fault s1 a c l => s1.handleFault a c l

/-- Start the next segment of a ring's transfer (R467). -/
def State.nextSegment (s : State) (r : Nat) : State :=
  match (s.ring r).active with
  | none => s
  | some t =>
    if t.off ≥ t.len then s
    else if t.writes then s.writeSegments r (t.len / 256 + 2)
    else
      let p := s.newAcc (.data r) false t.cls (t.desc.addr + t.off) (min 256 (t.len - t.off)) []
      match p.1.goOn p.2.pages p.2 with
      | .waits s1 => s1
      | .done s1 _ => s1
      | .fault s1 a c l => s1.handleFault a c l

/-- The head descriptor of a ring becomes its active transfer. -/
def State.startTransfer (s : State) (r : Nat) (t : Transfer) : State :=
  (s.modRing r (fun x => { x with fetched := x.fetched.drop 1, active := some t })).nextSegment r

/-- A draining ring's transfer ends at a commit point (R451). -/
def State.drainTransfer (s : State) (r : Nat) : State :=
  match (s.ring r).active with
  | some t =>
    if s.ringState r = 2 ∧ t.off < t.len ∧ t.off % 4096 = 0 then s.abortActive r
    else s.nextSegment r
  | none => s

/-- Data of a segment arrived: it lands, and the transfer goes on. -/
def State.segmentRead (s : State) (a : HostAcc) (r : Nat) : State :=
  match (s.ring r).active with
  | none => s
  | some t =>
    let q := s.deliver t a.bytes
    match q.2 with
    | some o => (q.1.advance r o []).handleFault { a with iova := t.desc.addr + t.off + o } 7 0
    | none => (q.1.advance r a.bytes.length a.bytes).drainTransfer r

/-! ### The doorbell page -/

/-- Tags of a COMPLETION ring's users whose completion lies before the host's index are free (R437). -/
def State.freeTags (s : State) (cq idx : Nat) : State :=
  s.ringKeys.foldl (fun s r =>
    if hostProduced (s.ringType r) && s.ringCq r == cq then
      s.modRing r (fun x => { x with tags := x.tags.filter (fun p =>
        match p.2 with
        | some pos => decide (32768 ≤ idxDiff idx (pos + 1))
        | none => true) })
    else s) s

/-- One doorbell word (R424, R425). -/
def State.doorbellWord (s : State) (r w : Nat) : State :=
  let st := s.ringState r
  let idx := w % 65536
  let gen := w / 65536 % 256
  let x := s.ring r
  if !(st == 1 || st == 3 || st == 4) || gen != s.ringGen r then s
  else
    let over_ := if hostProduced (s.ringType r) then idxDiff idx x.idx else idxDiff x.idx idx
    if s.ringSize r < over_ then
      let s1 := s.count (ctrHif 0)
      if s.host.dbErr.contains r then s1
      else (s1.setHost { s1.host with dbErr := r :: s1.host.dbErr }).raise 3 r
    else
      let s1 := s.modRing r (fun x => { x with seen := idx })
      if s.ringType r = 2 then s1.freeTags r idx else s1

/-- The doorbell page arrives: the view of every ring, then the fetches (R424, R438). -/
def State.doorbellPage (s : State) (b : List Byte) : State :=
  let s1 := (addrs 0 1 64).foldl (fun s r => s.doorbellWord r (leAt b (4 * r) 4)) s
  (addrs 0 1 64).foldl (fun s r => s.tryFetch r) s1

/-! ### Accesses that end -/

/-- NS of the media time base at the row tick of row `k` (R447). -/
def State.rowNs (s : State) (k : Word) : Nat :=
  let n : Int := (rowCount (s.tbTime s.media) s.fs : Int) + (k - s.mediaRow).toInt
  ((n.toNat * 1000000000 * 65536 + s.fs - 1) / s.fs) / 65536

/-- Data of a playback block arrived (R447). -/
def State.playRead (s : State) (a : HostAcc) (r : Nat) : State :=
  let nch := s.get (Fld.RING_CFG2_NCHM1 r) + 1
  let rows := (addrs 0 1 64).map (fun i => (addrs 0 1 nch).map (fun c =>
    (BitVec.ofNat 32 (leAt a.bytes (4 * (nch * i + c)) 4) : Word)))
  match (s.ring r).blocks.find? (fun b => !b.complete) with
  | some b => s.modRing r (fun x => { x with blocks := x.blocks.map (fun y =>
      if y = b then { b with rows := rows, complete := true } else y) })
  | none => s

/-- A record block has been written: its completion (R448). -/
def State.recordWritten (s : State) (r : Nat) : State :=
  match (s.ring r).blocks with
  | b :: t =>
    (((s.modRing r (fun x => { x with blocks := t })).queueComp
      { b.desc.comp r 0 b.k.toNat with ts := some (s.rowNs b.k) }).settleBlocks r).settle r
  | [] => s

/-- What an access that is complete leads to. -/
def State.accEnded (s : State) (a : HostAcc) : State :=
  match a.what with
  | .doorbell => s.doorbellPage a.bytes
  | .status => s
  | .fetch r => (s.fetched r a.bytes).abortFetched r
  | .data r =>
    if a.wr then
      match (s.ring r).active with
      | some t => (s.advance r (min 256 (t.len - t.off)) []).drainTransfer r
      | none => s
    else s.segmentRead a r
  | .entry r => s.entryWritten r
  | .play r => s.playRead a r
  | .record r => s.recordWritten r

/-- What an access came to, as the state after it. -/
def AccResult.settle : AccResult → State
  | .waits s => s
  | .done s a => s.accEnded a
  | .fault s a c l => s.handleFault a c l

/-- A ring starts writing a frame into its oldest posted buffer (R443). -/
def State.startRx (s : State) (r : Nat) : State :=
  let x := s.ring r
  match x.active, x.posted, x.rxWait with
  | none, d :: ds, (b, i) :: fs =>
    (s.modRing r (fun x =>
      { x with posted := ds, rxWait := fs, active := some ⟨d, 0x21, 0, b.length, b, some i⟩ })).nextSegment r
  | _, _, _ => s

/-- Received frames that wait for a transfer to end go on. -/
def State.startAllRx (s : State) : State := s.ringKeys.foldl (fun s r => s.startRx r) s

/-- A read of host memory comes back for the request `id` (R469): its data, or that it failed or timed out after this much of it
(R467). -/
def State.readBack (s : State) (id : Nat) (ok : Bool) (data : List Byte) : State :=
  match takeFirst (fun (a : HostAcc) => a.id == id && a.sent) s.host.accs with
  | some (a, rest) =>
    (((s.setHost { s.host with accs := rest }).nextRead a.cls).accRead a ok data).settle.startAllRx.pumpAll
  | none => s

end Sys2Proof.Machine
end

