-- ==== Sys2Proof/Machine/Net.lean ====
section
/-! DEFINITION. The network ports (R190 to R221): frame fields, link state, transmit queues, gates, halts, forwarding and
timestamps. -/

namespace Sys2Proof.Machine

def State.port (s : State) (n : Nat) : PortS := s.net.port.get (fun _ => portReset) n

def State.setPort (s : State) (n : Nat) (p : PortS) : State :=
  { s with net := { s.net with port := s.net.port.set (fun _ => portReset) n p } }

def State.modPort (s : State) (n : Nat) (f : PortS → PortS) : State := s.setPort n (f (s.port n))

/-- Is the link of a port up (R192)? STAT.LINK shows it, and a lane in electrical idle keeps it (R214, R285; log entry 64). -/
def State.linkUp (s : State) (n : Nat) : Bool := s.on (Fld.NET_STAT_LINK n) || s.get (Fld.LANE_STAT_STATE n) == 4

/-- Port type running: 1 1000BASE-X, 2 10GBASE-R, 3 25GBASE-R, 4 50GBASE-R. -/
def State.portType (s : State) (n : Nat) : Nat := s.get (Fld.NET_STAT_SPEED_ACT n)

/-- Largest frame of a port. -/
def State.maxFrm (s : State) (n : Nat) : Nat := s.get (Fld.NET_CFG_MAXFRM n)

/-- Event counters by their place in the window: 0 RX_FCS, 1 RX_RUNT, 2 RX_OVERSIZE, 3 RX_NOBUF, 4 RX_PAUSE, 5 TX_PAUSE,
6 UNDERRUN, 7 STOMP, 8 SCHED_DROP, 9 LINK_DROP, 10 TS_LOST, 11 FWD_MISS. -/
def ctrNet (n j : Nat) : Ctr := ⟨Reg.NET_CNT32 n j, ⟨Reg.NET_CNT_SAT n, j, j⟩⟩

/-- A 64-bit counter by its place: 0 RX_FRAMES, 1 RX_BYTES, 2 TX_FRAMES, 3 TX_BYTES, 4 FWD_FRAMES, 5 LPI_TIME. -/
def State.countNet (s : State) (n j k : Nat) : State := s.count64 (Reg.NET_CNT64 n (2 * j)) k

/-- Fiftieths of a nanosecond that one bit takes on a port type. -/
def bitFiftieths (type : Nat) : Nat := match type with | 1 => 50 | 2 => 5 | 3 => 2 | _ => 1

/-! ### Fields of a frame, given from its destination address on -/

def frameTagged (b : List Byte) : Bool := beAt b 12 2 == 0x8100

/-- Offset of what follows the Ethertype. -/
def frameBody (b : List Byte) : Nat := if frameTagged b then 18 else 14

def frameType (b : List Byte) : Nat := beAt b (frameBody b - 2) 2
def frameDst (b : List Byte) : Nat := beAt b 0 6
def frameMulti (b : List Byte) : Bool := decide (beAt b 0 1 % 2 = 1)

/-- Priority of a frame (R195). -/
def framePcp (b : List Byte) : Nat := if frameTagged b then beAt b 14 2 / 8192 else 0

/-- VLAN of a frame received on a port (R195). -/
def State.frameVid (s : State) (n : Nat) (b : List Byte) : Nat :=
  if frameTagged b then beAt b 14 2 % 4096 else s.get (Fld.NET_CFG_PVID n)

/-- Offset of the UDP header of an IPv4 frame. -/
def frameUdp (b : List Byte) : Option Nat :=
  let a := frameBody b
  if frameType b = 0x0800 ∧ beAt b a 1 / 16 = 4 ∧ beAt b (a + 9) 1 = 17 then some (a + beAt b a 1 % 16 * 4) else none

/-- UDP destination port. -/
def frameDport (b : List Byte) : Option Nat := (frameUdp b).map (fun u => beAt b (u + 2) 2)

/-- IPv4 destination address. -/
def frameDip (b : List Byte) : Nat := beAt b (frameBody b + 16) 4

/-- Offset of the PTP header, and whether its transport is layer 2; none for other frames (R194). -/
def framePtp (b : List Byte) : Option (Nat × Bool) :=
  if frameType b = 0x88F7 then some (frameBody b, true)
  else match frameUdp b with
    | some u => if beAt b (u + 2) 2 = 319 ∨ beAt b (u + 2) 2 = 320 then some (u + 8, false) else none
    | none => none

/-- A frame as it goes out: padded to 60 bytes (R442). -/
def padFrame (b : List Byte) : List Byte := b ++ List.replicate (60 - b.length) 0

/-- Length on the wire from destination address through FCS. -/
def TxFrame.wire (f : TxFrame) : Nat := f.bytes.length + 4

/-- Station address of a port; 0 for none. -/
def State.macOf (s : State) (n : Nat) : Nat :=
  s.get (Fld.NET_MAC_ADDR_HI_ADDR n) * 2 ^ 32 + s.get (Fld.NET_MAC_ADDR_LO_ADDR n)

/-! ### Timestamps -/

/-- The time base that a frame's timestamp captures (R216, R304). -/
def State.stampBase (s : State) (n : Nat) (b : List Byte) : Nat :=
  let dflt := s.get (Fld.NET_TSCFG_DEFTB n)
  match framePtp b with
  | some (o, l2) =>
    let hit (t : Nat) : Bool :=
      let p := s.get (Fld.TB_PTPCFG_PROFILE t)
      s.tbState t != 0 && (if l2 then p == 3 else p == 1 || p == 2) && s.get (Fld.TB_PTPCFG_DOMAIN t) == beAt b (o + 4) 1
    match (addrs 0 1 4).find? hit with
    | some t => t
    | none => dflt
  | none => dflt

/-- Time in 2^-16 ns of `bits` bits on a port. -/
def State.bitsTime (s : State) (n bits : Nat) : Nat := bits * bitFiftieths (s.portType n) * 65536 / 50

/-- Receive timestamp of a frame whose last bit arrives now (R215): time base and time. -/
def State.rxStamp (s : State) (n : Nat) (b : List Byte) : Nat × Nat :=
  let t := s.stampBase n b
  (t, ((s.tbTime t : Int) - s.bitsTime n (8 * b.length) + s.getS (Fld.NET_RX_ADJ_ADJ n)).toNat)

/-- Transmit timestamp of a frame whose first preamble bit leaves now. -/
def State.txStamp (s : State) (n : Nat) (b : List Byte) : Nat × Nat :=
  let t := s.stampBase n b
  (t, ((s.tbTime t : Int) + s.bitsTime n 64 + s.getS (Fld.NET_TX_ADJ_ADJ n)).toNat)

/-! ### Dropped frames and the link -/

/-- A frame's host completion (R442). -/
def State.completeTx (s : State) (f : TxFrame) (status flags : Nat) : State :=
  match f.host with
  | some (r, d) => s.completeFrame r f.queue { d.comp r status f.wire with flags := flags }
  | none => s

/-- A frame is lost with the link (R191, R192). -/
def State.linkDrop (s : State) (n : Nat) (f : TxFrame) : State := (s.count (ctrNet n 9)).completeTx f 9 0

/-- A frame of the house cores for a queue of a port (R193, R203): one that MAXFRM cannot hold is not sent, and counts in
LINK_DROP. -/
def State.houseFrame (s : State) (n q : Nat) (stamp : Option (Bool × Nat)) (b : List Byte) : State :=
  let f : TxFrame := ⟨padFrame b, q, 0, 4, stamp, none, 0⟩
  if s.linkUp n && decide (f.wire ≤ s.maxFrm n) then s.modPort n (fun p => { p with queue := p.queue ++ [f] }) else s.linkDrop n f

/-- Offer a frame to a port's queues (R192, R203). -/
def State.queueFrame (s : State) (n : Nat) (f : TxFrame) : State :=
  if s.linkUp n then s.modPort n (fun p => { p with queue := p.queue ++ [f] }) else s.linkDrop n f

/-- STAT.PAUSED follows the halts. -/
def State.showHalts (s : State) (n : Nat) : State :=
  s.flag (Fld.NET_STAT_PAUSED n) ((s.port n).haltAll || (s.port n).halts != 0)

/-- A time base with ports, all of them down, loses its network (R309). -/
def State.checkBasePorts (t : Nat) (s : State) : State :=
  let m := s.get (Fld.TB_PTPCFG_PORTS t)
  if !s.tbClock t && m != 0 && (addrs 0 1 4).all (fun p => !m.testBit p || !s.linkUp p) then s.holdIfRuns t 4 else s

/-- The time bases that a port serves when its link goes down. -/
def State.checkPorts (s : State) (n : Nat) : State :=
  (addrs 0 1 4).foldl (fun s t => if (s.get (Fld.TB_PTPCFG_PORTS t)).testBit n then s.checkBasePorts t else s) s

/-- LPI_TIME counts the low-power idle that runs, in whole microseconds (R214). -/
def State.countLpi (s : State) (n : Nat) : State :=
  if s.on (Fld.NET_STAT_LPITX n) then
    let us := (s.tb.edges - (s.port n).lpiFrom) * 25 / 12288
    (s.modPort n (fun p => { p with lpiFrom := p.lpiFrom + us * 12288 / 25 })).countNet n 5 us
  else s

/-- The link of a port goes down (R192, R221). -/
def State.dropLink (s : State) (n : Nat) : State :=
  if s.linkUp n then
    let s := s.countLpi n
    let p := s.port n
    let s1 := s.setPort n { p with queue := [], tx := none, cut := none, haltAll := false, halts := 0 }
    let s2 := ((s1.flag (Fld.NET_STAT_LINK n) false).flag (Fld.NET_STAT_LPITX n) false).showHalts n
    let s3 := match p.tx with
      | some t => s2.linkDrop n t.frame
      | none => s2
    let s4 := p.queue.foldl (fun s f => s.linkDrop n f) s3
    (if s.on (Fld.NET_STAT_LINK n) then s4.raise 66 n else s4).checkPorts n
  else s

/-- STAT.LINK of a port shows that its lane is UP or RETRAIN; each change raises link-change (R192, R276). -/
def State.showLink (s : State) (n : Nat) : State :=
  let up := s.get (Fld.LANE_STAT_STATE n) == 3 || s.get (Fld.LANE_STAT_STATE n) == 5
  if up == s.on (Fld.NET_STAT_LINK n) then s
  else (s.flag (Fld.NET_STAT_LINK n) up).raise 66 (n + if up then 256 else 0)

/-! ### Gates -/

/-- Do the port's gates run (R208)? -/
def State.gated (s : State) (n : Nat) : Bool :=
  s.on (Fld.NET_GCL_STAT_EN n) && s.row.ticks && (s.port n).cycling

/-- GATES of the running entry; all open where no list runs. -/
def State.gatesNow (s : State) (n : Nat) : BitVec 8 :=
  if s.gated n then
    match (s.port n).gates[s.get (Fld.NET_GCL_STAT_ENTRY n)]? with
    | some e => BitVec.ofNat 8 e.1
    | none => 0xFF
  else 0xFF

/-- Start of entry `i` in its cycle, in ns. -/
def entryStart (es : List (Nat × Nat)) (i : Nat) : Nat := ((es.take i).map Prod.snd).foldl (· + ·) 0

/-- Start of the first entry that closes queue `q`, from an entry that starts at `t`; none where none does. -/
def firstClosed (q : Nat) : Nat → List (Nat × Nat) → Option Nat
  | _, [] => none
  | t, (g, i) :: r => if g.testBit q then firstClosed q (t + i) r else some t

/-- Is queue `q` open for the time of `bits` bits, `since` ns after the running entry began (R209)? The cycle has
2^CYCLE * 10^9 / fs ns. -/
def State.gateRoom (s : State) (n q since bits : Nat) : Bool :=
  if s.gated n then
    let es := (s.port n).gates
    let i := s.get (Fld.NET_GCL_STAT_ENTRY n)
    let t := entryStart es i
    let stop := 50 * (t + since) + bits * bitFiftieths (s.portType n)
    decide (stop * s.fs ≤ 50 * 2 ^ s.get (Fld.NET_GCL_STAT_CYCLE n) * 1000000000) &&
      (match firstClosed q t (es.drop i) with
       | some e => decide (stop ≤ 50 * e)
       | none => true)
  else true

/-- Scheduled frames of queues that are open in `before` and closed now are dropped (R210). -/
def State.closeGates (s : State) (n : Nat) (before : BitVec 8) : State :=
  let p := s.port n
  let shut := before &&& ~~~ s.gatesNow n &&& p.schedq
  let goes (f : TxFrame) : Bool := shut.getLsbD f.queue
  let lost := p.queue.filter goes
  let s1 := s.setPort n { p with queue := p.queue.filter (fun f => !goes f), dropped := p.dropped || !lost.isEmpty }
  let s2 := lost.foldl (fun s f => (s.count (ctrNet n 8)).completeTx f 0x0A 0) s1
  if !lost.isEmpty && !p.dropped then s2.raise 68 n else s2

/-- The shadow gate list (R212). -/
def State.shadowGates (s : State) (n : Nat) : GateList :=
  ⟨(addrs 0 1 (s.get (Fld.NET_GCL_LEN_LEN n))).map (fun i =>
      (s.get (Fld.NET_GCL_SHD_GATES n i), s.get (Fld.NET_GCL_SHD_INTERVAL n i))),
    s.on (Fld.NET_GCL_CFG_EN n), s.get (Fld.NET_GCL_CFG_CYCLE n), BitVec.ofNat 8 (s.get (Fld.NET_GCL_CFG_SCHEDQ n))⟩

/-- A gate-list swap at its tick (R212): refused, or it waits for the cycle start. -/
def State.applyGclSwap (s : State) (n : Nat) : State :=
  let g := s.shadowGates n
  if g.entries.isEmpty || decide (256 < g.entries.length) || g.entries.any (fun e => e.2 == 0) then
    s.invalid (Reg.NET_GCL_CTL n)
  else s.modPort n (fun p => { p with pend := some g })

/-- CYCLE that decides the next cycle start: that of the list in effect, and of the waiting one where none runs. -/
def State.nextCycle (s : State) (n : Nat) : Option Nat :=
  if s.on (Fld.NET_GCL_STAT_EN n) then some (s.get (Fld.NET_GCL_STAT_CYCLE n)) else (s.port n).pend.map GateList.cycle

/-- A gate cycle starts (R208, R212). -/
def State.startCycle (s : State) (n : Nat) : State :=
  let before := s.gatesNow n
  let s1 := match (s.port n).pend with
    | some g =>
      (((s.modPort n (fun p => { p with gates := g.entries, schedq := g.schedq, pend := none })).flag
        (Fld.NET_GCL_STAT_EN n) g.en).put (Fld.NET_GCL_STAT_CYCLE n) g.cycle).put (Fld.NET_GCL_STAT_LEN n) g.entries.length
    | none => s
  let s2 := (s1.modPort n (fun p => { p with cycling := s1.on (Fld.NET_GCL_STAT_EN n) })).put (Fld.NET_GCL_STAT_ENTRY n) 0
  (s2.closeGates n before).modPort n (fun p => { p with dropped := false })

/-- The next entry of a running cycle begins, unless the cycle ends before it (R208). -/
def State.startEntry (s : State) (n : Nat) : State :=
  let i := s.get (Fld.NET_GCL_STAT_ENTRY n) + 1
  let es := (s.port n).gates
  if s.gated n ∧ i < es.length ∧ entryStart es i * s.fs < 2 ^ s.get (Fld.NET_GCL_STAT_CYCLE n) * 1000000000 then
    (s.put (Fld.NET_GCL_STAT_ENTRY n) i).closeGates n (s.gatesNow n)
  else s

/-! ### Transmission -/

/-- Queue of priority `p` on a port. -/
def State.pcpQueue (s : State) (n p : Nat) : Nat := s.get (Fld.NET_PCP_MAP_MAP n) / 8 ^ p % 8

/-- Is a queue halted (R205)? -/
def State.queueHalted (s : State) (n q : Nat) : Bool :=
  (s.port n).haltAll || (addrs 0 1 8).any (fun p => (s.port n).halts.getLsbD p && s.pcpQueue n p == q)

/-- The head frame of a queue. -/
def headOf (q : Nat) (l : List TxFrame) : Option TxFrame := l.find? (fun f => f.queue == q)

/-- May queue `q` start its head frame (R203, R206, R209)? -/
def State.startable (s : State) (n since q : Nat) : Option TxFrame :=
  match headOf q (s.port n).queue with
  | some f =>
    if !s.queueHalted n q && (s.gatesNow n).getLsbD q && s.gateRoom n q since (8 * (f.wire + 8)) then some f else none
  | none => none

/-- The frame that starts: the head of the highest queue that may (R203). -/
def State.choice (s : State) (n since : Nat) : Option TxFrame :=
  [7, 6, 5, 4, 3, 2, 1, 0].findSome? (s.startable n since)

/-- A port may start a frame: its link is up, it sends nothing and is awake. -/
def State.portFree (s : State) (n : Nat) : Bool :=
  s.linkUp n && (s.port n).tx.isNone && !s.on (Fld.NET_STAT_LPITX n)

/-- Start the next frame, `since` ns after the running gate entry began. -/
def State.startTx (s : State) (n since : Nat) : State :=
  match s.portFree n, s.choice n since with
  | true, some f =>
    let t := s.txStamp n f.bytes
    s.modPort n (fun p => { p with queue := p.queue.erase f, tx := some ⟨f, none, false, t.1, t.2⟩ })
  | _, _ => s

/-- The timestamp of a frame that has been sent (R218, R219): the entry is pushed, or lost. Answers the completion's
FLAGS. -/
def State.pushStamp (s : State) (n : Nat) (t : TxNow) : State × Nat :=
  match t.frame.stamp with
  | some (host, tag) =>
    if (s.port n).stamps.length < 32 then
      (s.modPort n (fun p => { p with stamps := p.stamps ++ [⟨host, tag, t.tb, t.time / 65536 % 2 ^ 64, t.time % 65536⟩] }), 1)
    else ((s.count (ctrNet n 10)).raise 69 n, 2)
  | none => (s, 0)

/-- The frame in transmission completes on the medium. -/
def State.endTx (s : State) (n : Nat) : State :=
  match (s.port n).tx with
  | some t =>
    if t.cut.isSome then s
    else
      let s1 := ((s.modPort n (fun p => { p with tx := none })).countNet n 2 1).countNet n 3 t.frame.wire
      let r := (s1.send (.frame n t.frame.bytes (!t.bad))).pushStamp n t
      r.1.completeTx t.frame 0 r.2
  | none => s

/-! ### PAUSE and PFC -/

/-- Bytes of a MAC control frame that the port sends (R207): opcode and parameters, padded. -/
def State.macControl (s : State) (n op : Nat) (params : List Byte) : List Byte :=
  padFrame (beBytes 0x0180C2000001 6 ++ beBytes (s.macOf n) 6 ++ beBytes 0x8808 2 ++ beBytes op 2 ++ params)

/-- A PAUSE frame takes effect (R205, R206). -/
def State.takePause (s : State) (n quanta : Nat) : State :=
  if s.on (Fld.NET_FC_CFG_PAUSE_RX n) then
    (s.modPort n (fun p => { p with haltAll := decide (quanta ≠ 0) })).showHalts n
  else s

/-- A PFC frame takes effect: enable vector and the quanta by priority. -/
def State.takePfc (s : State) (n vec : Nat) (quanta : Nat → Nat) : State :=
  let rx := s.get (Fld.NET_FC_CFG_PFC_RX n)
  let next (p : Nat) (old : Bool) : Bool := if rx.testBit p && vec.testBit p then quanta p != 0 else old
  let old := (s.port n).halts
  let new : BitVec 8 := BitVec.ofNat 8 ((addrs 0 1 8).foldl (fun m p => m + (next p (old.getLsbD p)).toNat * 2 ^ p) 0)
  (s.modPort n (fun x => { x with halts := new })).showHalts n

/-- A MAC control frame (R194, R204, R205): offset of its opcode. -/
def State.takeControl (s : State) (n : Nat) (b : List Byte) : State :=
  let a := frameBody b
  let s1 := s.count (ctrNet n 4)
  if beAt b a 2 = 1 then s1.takePause n (beAt b (a + 2) 2)
  else if beAt b a 2 = 0x0101 then s1.takePfc n (beAt b (a + 2) 2) (fun p => beAt b (a + 4 + 2 * p) 2)
  else s1

/-- Bytes of the frames of a list, the copies of one frame counted once. -/
def storedBytes : List TxFrame → Nat
  | [] => 0
  | f :: t => storedBytes t + if t.any (fun g => g.mark == f.mark) then 0 else f.wire

/-- Bytes stored against the share of an ingress port, of the priorities that `pr` admits (R198, R207). -/
def State.stored (s : State) (ingress : Nat) (pr : Nat → Bool) : Nat :=
  storedBytes (((addrs 0 1 4).map (fun n => (s.port n).queue.filter (fun f => f.src == ingress && pr f.pcp))).flatten)

/-- Send PAUSE or PFC when a threshold has been crossed since the last one (R207). -/
def State.sendPause (s : State) (n : Nat) : State :=
  let hi := 1024 * s.get (Fld.NET_FC_THR_XOFF n)
  let lo := 1024 * s.get (Fld.NET_FC_THR_XON n)
  let p := s.port n
  let put (b : List Byte) (s : State) : State :=
    (((s.count (ctrNet n 5)).countNet n 2 1).countNet n 3 (b.length + 4)).send (.frame n b true)
  /- New state of a halt we asked for: none where nothing is to be sent. -/
  let turn (off : Bool) (k : Nat) : Option Bool :=
    if !off && decide (hi < k) then some true else if off && decide (k < lo) then some false else none
  if !s.linkUp n || p.tx.isSome || s.on (Fld.NET_STAT_LPITX n) then s
  else if s.on (Fld.NET_FC_CFG_PAUSE_TX n) then
    match turn p.xoffAll (s.stored n (fun _ => true)) with
    | some b => put (s.macControl n 1 (beBytes (if b then 0xFFFF else 0) 2)) (s.setPort n { p with xoffAll := b })
    | none => s
  else
    let ts := (addrs 0 1 8).filterMap (fun i =>
      if (s.get (Fld.NET_FC_CFG_PFC_TX n)).testBit i then
        (turn (p.xoff.getLsbD i) (s.stored n (fun x => x == i))).map (fun b => (i, b))
      else none)
    if ts.isEmpty then s
    else
      let vec := ts.foldl (fun m x => m + 2 ^ x.1) 0
      let q (i : Nat) : Nat := if ts.any (fun x => x.1 == i && x.2) then 0xFFFF else 0
      let new := (addrs 0 1 8).foldl (fun m i =>
        m + (match ts.find? (fun (x : Nat × Bool) => x.1 == i) with
             | some x => x.2
             | none => p.xoff.getLsbD i).toNat * 2 ^ i) 0
      put (s.macControl n 0x0101 (beBytes vec 2 ++ ((addrs 0 1 8).map (fun i => beBytes (q i) 2)).flatten))
        (s.setPort n { p with xoff := BitVec.ofNat 8 new })

/-! ### Forwarding -/

def State.fdbEntry (s : State) (i : Nat) : FdbEntry := s.net.fdb.get (fun _ => fdbNone) i

/-- Egress ports of a frame, and whether no table entry matched (R196). -/
def State.lookup (s : State) (n : Nat) (b : List Byte) : List Nat × Bool :=
  let vid := s.frameVid n b
  let others := (addrs 0 1 4).filter (fun p => p != n)
  let on (l : List Nat) : List Nat := if s.on (Fld.NET_CFG_FWD n) then l else []
  match s.net.fdb.find? (fun e => e.2.valid && e.2.vid == vid && e.2.mac == frameDst b) with
  | some e => (on (others.filter (fun p => e.2.ports.getLsbD p)), false)
  | none => (on (if frameMulti b then [] else others.filter (fun p => s.on (Fld.NET_CFG_FWDUC p))), true)

/-- Does the packet buffer have no room for a frame that comes in on a port (R198, R605)? -/
def State.noRoom (s : State) (n wire : Nat) : Bool :=
  s.swt.marching || decide (1024 * s.get (Fld.NET_RXBUF_SHARE n) < s.stored n (fun _ => true) + wire)

/-- Queue copies of a frame on egress ports (R192, R193, R198); tells whether one was taken. A copy for a port whose link is
down is dropped there, one that is longer than the egress may send goes nowhere, and a frame that the share cannot hold is
dropped whole. -/
def State.forwardTo (s : State) (n : Nat) (es : List Nat) (b : List Byte) : State × Bool :=
  let f (e : Nat) : TxFrame := ⟨b, s.pcpQueue e (framePcp b), framePcp b, n, none, none, s.net.nextCopy⟩
  let s1 := (es.filter (fun e => !s.linkUp e)).foldl (fun s e => s.linkDrop e (f e)) s
  let go := es.filter (fun e => s.linkUp e && decide (b.length + 4 ≤ s.maxFrm e))
  if go.isEmpty then (s1, false)
  else if s.noRoom n (b.length + 4) then (s1.count (ctrNet n 3), false)
  else
    let s2 : State := { s1 with net := { s1.net with nextCopy := s1.net.nextCopy + 1 } }
    (go.foldl (fun s e => s.queueFrame e (f e)) s2, true)

/-- A copy that left by cut-through has been received: the egress has its whole, and ends it with a bad FCS when the ingress
found it bad (R202) or it is longer than the ingress receives or the egress may send (R193). -/
def State.finishCut (s : State) (n e : Nat) (b : List Byte) (bad stomp : Bool) : State :=
  match (s.port e).tx with
  | some t =>
    if t.cut = some n then
      let most := min (s.maxFrm n) (s.maxFrm e)
      let long := decide (most < b.length + 4)
      let f := { t.frame with bytes := if long then b.take (most - 4) else b }
      let s1 := s.modPort e (fun p => { p with tx := some { t with cut := none, bad := bad || long, frame := f } })
      if stomp then s1.count (ctrNet e 7) else s1
    else s
  | none => s

/-- Do all copies of a received frame go out: those sent by cut-through are complete, the others are queued (R196). -/
def State.forward (s : State) (n : Nat) (b : List Byte) (c : Option CutRx) : State :=
  let d := match c with
    | some c => c
    | none => let l := s.lookup n b; ⟨l.1, l.2, []⟩
  let s0 := if c.isNone && d.miss then s.count (ctrNet n 11) else s
  let s1 := d.sent.foldl (fun s e => s.finishCut n e b false false) s0
  let r := s1.forwardTo n (d.ports.filter (fun e => !d.sent.contains e)) b
  if r.2 || !d.sent.isEmpty then r.1.countNet n 4 1 else r.1

/-- May a frame whose first THR * 64 bytes have come in on `n` leave on `e` by cut-through (R199)? -/
def State.mayCut (s : State) (n e q since : Nat) : Bool :=
  let ty := s.portType n
  let thr := s.get (Fld.NET_TXQ_THR_THR e q)
  let open_ (k : Nat) : Bool := (s.gatesNow e).getLsbD k
  decide (2 ≤ ty) && ty == s.portType e && (ty != 3 || s.on (Fld.NET_CFG_RSFEC n) == s.on (Fld.NET_CFG_RSFEC e)) &&
    s.portFree e && (headOf q (s.port e).queue).isNone &&
    (addrs 0 1 8).all (fun k => decide (k ≤ q) || !open_ k || (headOf k (s.port e).queue).isNone) &&
    !s.queueHalted e q && open_ q && s.gateRoom e q since (8 * (s.maxFrm e + 8)) && thr != 0xFF

end Sys2Proof.Machine
end

