-- ==== Sys2Proof/Machine/Str.lean ====
section
/-! DEFINITION. The stream unit (R222 to R261): flow configuration, bind checks, matching, receive and transmit of
Malraing, AAF and RTP. -/

namespace Sys2Proof.Machine

/-! ### Flow slots -/

/-- Flow slot `n`: receive slots are 0 to 255, transmit slots 256 to 511. -/
def State.flow (s : State) (n : Nat) : FlowSlot := s.str.flow.get (fun _ => flowReset) n

def State.setFlow (s : State) (n : Nat) (f : FlowSlot) : State :=
  { s with str := { s.str with flow := s.str.flow.set (fun _ => flowReset) n f } }

def State.modFlow (s : State) (n : Nat) (g : FlowSlot → FlowSlot) : State := s.setFlow n (g (s.flow n))

/-- Flow slots that are not as after reset, in rising order. -/
def State.flowKeys (s : State) : List Nat := s.str.flow.map Prod.fst

/-- Bits [msb:lsb] of configuration word `w`. -/
def cfgBits (c : List Word) (w msb lsb : Nat) : Nat := bitsOf (c.getD w 0) msb lsb

/-- Format: 0 Malraing, 1 AAF, 2 RTP PCM, 3 RTP AM824. -/
def cfgFmt (c : List Word) : Nat := cfgBits c 0 31 28
/-- Bytes of a word on the wire by WIDTH. -/
def cfgBytes (c : List Word) : Nat := 4 - cfgBits c 0 27 26
def cfgNch (c : List Word) : Nat := cfgBits c 0 23 16
def cfgFirst (c : List Word) : Nat := cfgBits c 0 10 0
def cfgPorts (c : List Word) : Nat := cfgBits c 1 31 28
def cfgTag (c : List Word) : Bool := cfgBits c 1 24 24 == 1
def cfgDmac (c : List Word) : Nat := cfgBits c 3 15 0 * 2 ^ 32 + cfgBits c 2 31 0
def cfgSid (c : List Word) : Nat := cfgBits c 4 31 0 * 2 ^ 32 + cfgBits c 5 31 0
def cfgSpp (c : List Word) : Nat := cfgBits c 9 31 16
/-- Rows of the jitter buffer (R225). -/
def cfgRows (c : List Word) : Nat := 2 ^ (6 + cfgBits c 11 31 28)
/-- Payload bytes of a packet (R224). -/
def cfgPayload (c : List Word) : Nat := cfgSpp c * cfgNch c * cfgBytes c

/-- The port of a transmit flow. -/
def cfgPort (c : List Word) : Nat := let p := cfgPorts c; if p = 1 then 0 else if p = 2 then 1 else if p = 4 then 2 else 3

/-- The shadow configuration of a slot (R222). -/
def State.shadowCfg (s : State) (n : Nat) : List Word :=
  (addrs 0 1 13).map (fun w => s.reg (fcfgBase + 0x40 * n + 4 * w))

/-- Bound slots of a direction (R223). -/
def State.boundFlows (s : State) (tx : Bool) : List FlowSlot :=
  (s.str.flow.filter (fun p => decide (256 ≤ p.1) == tx && p.2.state != 0)).map Prod.snd

/-- Channels bound in a direction (CHAN_USE). -/
def State.chanUse (s : State) (tx : Bool) : Nat := (s.boundFlows tx).foldl (fun k f => k + cfgNch f.cfg) 0

/-- Has a port a transmit flow bound? -/
def State.txBound (s : State) (n : Nat) : Bool := (s.boundFlows true).any (fun f => (cfgPorts f.cfg).testBit n)

/-- Length of a flow's complete frame with FCS (R225, R226). -/
def cfgFrame (c : List Word) : Nat :=
  let tag := if cfgTag c then 4 else 0
  match cfgFmt c with
  | 0 => 60 + 4 * cfgNch c + tag
  | 1 => max 64 (14 + tag + 24 + cfgPayload c + 4)
  | _ => max 64 (14 + tag + 40 + cfgPayload c + 4)

/-! ### Counters -/

/-- Counter saturation of the streams group follows the SAT bits of every slot (R260, R484). -/
def State.followFlowSat (s : State) : State :=
  if s.str.flow.any (fun p => p.2.sat != 0) then s else s.level 96 false 0

/-- Event counter `j` of a slot counts `k` more: 0 LATE, 1 LATE_DUP, 2 LATE_OLD, 3 EARLY, 4 FORMAT, 5 STALE, 6 MISSING,
7 FILL, 8 REBIND, 9 SEQGAP. -/
def State.countFlow (s : State) (n j k : Nat) : State :=
  let f := s.flow n
  let v := f.events.get (fun _ => 0) j + k
  if k = 0 then s
  else if v < 2 ^ 32 - 1 then s.setFlow n { f with events := f.events.set (fun _ => 0) j v }
  else (s.setFlow n { f with events := f.events.set (fun _ => 0) j (2 ^ 32 - 1), sat := f.sat ||| BitVec.ofNat 10 (2 ^ j) }).level
    96 true (Reg.STR_CNT_SAT % 0x1000000)

/-- FRAMES of a slot. -/
def State.countFrame (s : State) (n : Nat) : State := s.modFlow n (fun f => { f with frames := (f.frames + 1) % 2 ^ 64 })

/-- DUP of a slot. -/
def State.countDup (s : State) (n : Nat) : State := s.modFlow n (fun f => { f with dup := (f.dup + 1) % 2 ^ 64 })

/-- LATE (`old` false) or LATE_OLD of a slot, noted for the row's event (R237). -/
def State.countLate (s : State) (n : Nat) (old : Bool) : State :=
  (s.countFlow n (if old then 2 else 0) 1).modFlow n (fun f => { f with lateRow := true })

/-- MISSING of a slot. -/
def State.countMissing (s : State) (n : Nat) : State :=
  (s.countFlow n 6 1).modFlow n (fun f => { f with missRow := true, quiet := f.quiet + 1 })

/-! ### Rows -/

/-- The receive row E (R234). -/
def State.recvRow (s : State) : Word := if s.row.pageOpen then s.row.openRow + 1 else s.tickRow

/-- Is `ns` after the row tick at or past the receive deadline, 150 ns before the next engine tick (R30, R234)? In DENSE the engine
tick comes with the row tick: what arrives before it in that cycle is past the deadline (R240). -/
def State.pastDeadline (s : State) (ns : Nat) : Bool :=
  let tick := if !s.isFast then (if s.row.ticks && !s.row.ticked then 0 else 1000000000)
    else if s.row.ticked then 1500000000 else 500000000
  decide (tick ≤ (ns + 150) * s.fs)

/-- Full sample count at the tick of row `j` (R15, R252). -/
def State.fullCount (s : State) (j : Word) : Nat :=
  let n : Int := (rowCount (s.tbTime s.media) s.fs : Int) + (j - s.mediaRow).toInt
  n.toNat

/-- First output row that a change at the engine tick with ROWIDX `k` affects (R139, R242). -/
def State.firstOut (s : State) (k : Word) : Word := if s.isFast then k + 1 else k + 2

/-! ### Bind checks (R223 to R225, R244, R251, R259) -/

/-- A field that applies is out of range, or a reserved field is not 0 (reason 2). -/
def State.badFlow (s : State) (tx : Bool) (c : List Word) : Bool :=
  let f := cfgFmt c
  let w := cfgBits c 0 27 26
  let n := cfgNch c
  let spp := cfgSpp c
  let reserved := cfgBits c 0 25 24 != 0 || cfgBits c 0 15 11 != 0 || cfgBits c 1 20 12 != 0 || cfgBits c 3 31 16 != 0 ||
    cfgBits c 7 31 23 != 0 || cfgBits c 7 1 0 != 0 || cfgBits c 9 15 0 != 0 || cfgBits c 11 27 13 != 0 ||
    cfgBits c 12 28 16 != 0
  let width := match f with | 0 => w == 0 | 1 => decide (w ≤ 2) | 2 => w == 1 || w == 2 | _ => w == 0
  let chans := decide (1 ≤ n) && decide (n ≤ if f = 0 then 128 else 64)
  let rows := match f with
    | 0 => spp == 1
    | 1 => decide (1 ≤ spp) && decide (spp ≤ 48)
    | _ => if s.fs = 48000 then spp == 6 || spp == 48 else if s.fs = 96000 then spp == 12 || spp == 96
      else [6, 12, 48, 96].contains spp
  let ports := !tx || [1, 2, 4, 8].contains (cfgPorts c)
  let rtp := decide (f < 2) || (decide (96 ≤ cfgBits c 7 22 16) &&
    (!tx || (cfgBits c 7 15 8 != 0 && s.get (Fld.STR_IPADDR_ADDR (cfgPort c)) != 0)))
  let jitter := tx || f == 0 || (decide (cfgBits c 11 31 28 ≤ 8) && cfgBits c 11 12 0 != 0 &&
    decide (cfgBits c 11 12 0 + spp ≤ cfgRows c))
  decide (3 < f) || reserved || !width || !chans || !rows || !ports || !rtp || !jitter

/-- Channel limit of R37 and R47. -/
def State.chanLimit (s : State) : Nat :=
  let n := if s.fs ≤ 96000 then 2048 else 1024
  if s.isFast then n / 2 else n

/-- Do the channel ranges of two configurations meet? -/
def cfgMeets (a b : List Word) : Bool :=
  decide (cfgFirst a < cfgFirst b + cfgNch b) && decide (cfgFirst b < cfgFirst a + cfgNch a)

/-- Equal match keys (R233, R251). -/
def cfgSameKey (a b : List Word) : Bool :=
  if cfgFmt a < 2 then
    decide (cfgFmt b < 2) && cfgPorts a == cfgPorts b && cfgDmac a == cfgDmac b && cfgBits a 1 11 0 == cfgBits b 1 11 0 &&
      cfgSid a == cfgSid b
  else
    decide (2 ≤ cfgFmt b) && cfgPorts a == cfgPorts b && cfgSid a == cfgSid b && cfgBits a 6 31 0 == cfgBits b 6 31 0 &&
      cfgBits a 7 22 16 == cfgBits b 7 22 16

/-- KiB of shared memory that the stream unit owns (R184). -/
def State.streamKiB (s : State) : Nat :=
  (addrs 0 1 48).foldl (fun k b => (addrs 0 1 4).foldl (fun k q => if s.get (fdQown b q) = 5 then k + 512 else k) k) 0

/-- KiB that the RXBUF shares take (R198). -/
def State.shareKiB (s : State) : Nat := (addrs 0 1 4).foldl (fun k n => k + s.get (Fld.NET_RXBUF_SHARE n)) 0

/-- Bytes of a flow's jitter buffer; none for Malraing and for transmit (R225). -/
def cfgJitter (c : List Word) : Nat := if cfgFmt c = 0 then 0 else cfgRows c * cfgNch c * 4

/-- A fresh unit is taking the INCARN values from its established partner, and refuses transmit binds (R515, step 2). -/
def State.takesIncarns (s : State) : Bool :=
  s.twn.checked && !s.on Fld.TWN_STAT_ESTAB && decide (s.twn.incarns < 512) &&
    (match s.twn.hello with | some h => h.estab | none => false)

/-- The lowest reason to refuse a bind, 0 for none (R244, R515). -/
def State.bindReason (s : State) (n : Nat) (c : List Word) : Nat :=
  let tx := decide (256 ≤ n)
  let bound := s.boundFlows tx
  if (s.flow n).state ≠ 0 ∨ (tx ∧ s.takesIncarns) then 1
  else if s.badFlow tx c then 2
  else if s.chanLimit < s.chanUse tx + cfgNch c ∨ 2048 < cfgFirst c + cfgNch c then 3
  else if bound.any (fun f => cfgMeets c f.cfg) then 4
  else if !tx && bound.any (fun f => cfgSameKey c f.cfg) then 5
  else if 2 ≤ cfgFmt c ∧ s.fs ≠ 48000 ∧ s.fs ≠ 96000 then 6
  else if (tx ∧ s.maxFrm (cfgPort c) < cfgFrame c) ∨ (cfgFmt c ≠ 0 ∧ 1440 < cfgPayload c) then 7
  else if !tx && decide (cfgFmt c ≠ 0) && decide (1024 * (s.streamKiB - s.shareKiB) <
      bound.foldl (fun k f => k + cfgJitter f.cfg) 0 + cfgJitter c) then 8
  else 0

/-- Refuse a flow command (R244). -/
def State.refuseFlow (s : State) (n reason : Nat) : State :=
  (s.modFlow n (fun f => { f with reason := reason })).raise 98 (n % 256 + 256 * (n / 256) + 4096 * reason)

/-- BIND of a slot at the tick with ROWIDX `k` (R242). -/
def State.bindFlow (s : State) (n : Nat) (k : Word) : State :=
  let c := s.shadowCfg n
  let r := s.bindReason n c
  if r ≠ 0 then s.refuseFlow n r
  else (s.setFlow n { flowReset with state := if n < 256 then 1 else 2, incarn := (s.flow n).incarn, cfg := c,
                                     start := s.firstOut k }).followFlowSat

/-- BINDOFF of a slot (R242). -/
def State.bindoffFlow (s : State) (n : Nat) (k : Word) : State :=
  let st := (s.flow n).state
  if 1 ≤ st ∧ st ≤ 3 then
    s.modFlow n (fun f => { f with state := 4, reason := 0, fade := 0, early := none,
                                   offRow := if n < 256 then none else some (s.firstOut k) })
  else s.refuseFlow n 9

/-- The slot enters DRAIN (R243). -/
def State.drainFlow (s : State) (n : Nat) : State :=
  s.modFlow n (fun f => { f with state := 5, drain := s.tbNs s.media, lastRow := none, gather := none })

/-- The slot becomes FREE (R243). -/
def State.freeFlow (s : State) (n : Nat) : State :=
  s.modFlow n (fun f => { f with state := 0, incarn := (f.incarn + 1) % 65536, latch := 0, cfg := [] })

/-- A write of FCMD at its tick (R242): operation, direction and slot. -/
def State.applyFcmd (s : State) (w : Word) (k : Word) : State :=
  let n := w.toNat % 512
  match w.toNat / 2 ^ 30 with
  | 0 => s
  | 1 => s.bindFlow n k
  | 2 => s.bindoffFlow n k
  | _ => s.invalid Reg.STR_FCMD

/-! ### Claim order -/

/-- Is claim word `a` higher than `b` (R45, R504, R506)? -/
def claimHigher (a b : Word) : Bool :=
  let ga := a.toNat / 16
  let gb := b.toNat / 16
  if ga = gb then decide (b.toNat % 16 < a.toNat % 16) else laterThan 28 ga gb

/-! ### Matching (R233, R251) -/

/-- Does a frame that arrives on port `p` match the binding of a receive flow? -/
def State.flowMatches (s : State) (p : Nat) (b : List Byte) (f : FlowSlot) : Bool :=
  let c := f.cfg
  let a := frameBody b
  f.state != 0 && (cfgPorts c).testBit p &&
    (if cfgFmt c < 2 then
      frameType b == 0x22F0 && beAt b a 1 == (if cfgFmt c = 0 then 0x6F else 0x02) && frameDst b == cfgDmac c &&
        s.frameVid p b == cfgBits c 1 11 0 && beAt b (a + 4) 8 == cfgSid c
    else
      match frameUdp b with
      | some u =>
        frameDip b == cfgBits c 4 31 0 && beAt b (u + 2) 2 == cfgBits c 6 31 16 &&
          beAt b (u + 9) 1 % 128 == cfgBits c 7 22 16 &&
          (cfgBits c 5 31 0 == 0 || beAt b (a + 12) 4 == cfgBits c 5 31 0) &&
          (cfgBits c 6 15 0 == 0 || beAt b u 2 == cfgBits c 6 15 0)
      | none => false)

/-- Receive slots that a frame matches. -/
def State.matched (s : State) (p : Nat) (b : List Byte) : List Nat :=
  (s.str.flow.filter (fun x => decide (x.1 < 256) && s.flowMatches p b x.2)).map Prod.fst

/-! ### Samples -/

/-- Write a row of samples into the endpoints of a receive flow. -/
def State.writeFlow (s : State) (n : Nat) (ws : List Word) : State :=
  (ws.zip (addrs (cfgFirst (s.flow n).cfg) 1 ws.length)).foldl (fun s p => s.sourceWrite 0x01 p.2 p.1)
    (s.modFlow n (fun f => { f with words := ws, wrote := true, quiet := 0 }))

/-- One sample from the wire (R257). -/
def wireIn (b : List Byte) (off k : Nat) : Word := BitVec.ofNat 32 (beAt b off k * 256 ^ (4 - k))

/-- One sample to the wire (R257): rounded half to even and saturated. -/
def wireOut (w : Word) (k : Nat) : List Byte :=
  let n := 8 * (4 - k)
  let v := roundDiv 0 n w.toInt
  let m : Int := 2 ^ (8 * k - 1)
  beBytes (unsignedOf (8 * k) (max (-m) (min (m - 1) v))) k

/-- A row of `nch` samples at `off`. -/
def rowIn (b : List Byte) (off nch k : Nat) : List Word := (addrs off k nch).map (fun o => wireIn b o k)

/-- The flow becomes ACTIVE (R238). -/
def State.activate (s : State) (n latch : Nat) : State :=
  (s.modFlow n (fun f => { f with state := 2, latch := latch, hist := [], early := none, quiet := 0 })).raise 99 n

/-! ### Malraing receive (R226 to R240) -/

/-- Checks of R227 and R228 on a frame with FCS. -/
def State.malFormed (s : State) (f : FlowSlot) (b : List Byte) : Bool :=
  let a := frameBody b
  let nch := cfgNch f.cfg
  let h := a + 24
  decide (a + 46 + 4 * nch ≤ b.length) && beAt b (a + 1) 1 / 16 == 8 && beAt b (a + 2) 1 == beAt b h 4 % 256 &&
    beAt b (a + 16) 2 == 18 + 4 * nch &&
    beAt b (a + 18) 6 == s.get Fld.STR_VSF_EUI_HI_EUI * 2 ^ 32 + s.get Fld.STR_VSF_EUI_LO_EUI &&
    beAt b (h + 10) 1 == nch && beAt b (h + 11) 1 == s.get Fld.ENG_PROFILE_STAT_FS_ACT * 16 + 1

/-- Record a written copy in the history of a flow. -/
def noteCopy (h : List (Word × Word)) (x claim : Word) : List (Word × Word) :=
  (x, claim) :: h.filter (fun p => p.1 != x)

/-- The copy recorded for row `x`. -/
def copyOf (h : List (Word × Word)) (x : Word) : Option Word := (h.find? (fun p => p.1 == x)).map Prod.snd

/-- The window rules for a frame of row `x` (R235 to R237). A copy with LAST that is written or held ends the flow at the next
engine tick (R242). -/
def State.malWindow (s : State) (n : Nat) (x claim : Word) (ws : List Word) (late last : Bool) : State :=
  let e := s.recvRow
  let f := s.flow n
  let d := (x - e).toNat
  let mark (s : State) : State := if last then s.modFlow n (fun f => { f with lastRow := some x }) else s
  let known := copyOf f.hist x
  let past (s : State) : State :=
    match known with
    | some c =>
      let s1 := s.countFlow n 1 1
      if claimHigher claim c then s1.countFlow n 7 1 else s1
    | none => s.countLate n false
  if d = 0 ∧ !late then
    match known with
    | some c =>
      if claimHigher claim c then
        mark ((s.modFlow n (fun f => { f with hist := noteCopy f.hist x claim })).writeFlow n ws)
      else s.countDup n
    | none => mark ((s.modFlow n (fun f => { f with hist := noteCopy f.hist x claim })).writeFlow n ws)
  else if d = 0 then past s
  else if d = 1 ∧ s.on Fld.STR_CFG_EARLY then
    let held := match f.early with
      | some c => if c.row = x then some c.claim else none
      | none => none
    match held with
    | some c => if claimHigher claim c then mark (s.modFlow n (fun f => { f with early := some ⟨x, claim, ws⟩ }))
      else s.countDup n
    | none => mark (s.modFlow n (fun f => { f with early := some ⟨x, claim, ws⟩ }))
  else if d < 2 ^ 31 then s.countFlow n 3 1
  else if 2 ^ 32 - d ≤ 63 then past s
  else s.countLate n true

/-- A frame that matches receive flow `n` (R229, R235, R238). -/
def State.malFrame (s : State) (n : Nat) (b : List Byte) (late : Bool) : State :=
  let s1 := s.countFrame n
  let f := s1.flow n
  let h := frameBody b + 24
  let x : Word := BitVec.ofNat 32 (beAt b h 4)
  let claim : Word := BitVec.ofNat 32 (beAt b (h + 4) 4)
  let inc := beAt b (h + 8) 2
  let exact := cfgBits f.cfg 12 31 31 == 1
  let last := beAt b (h + 12) 1 / 32 % 2 == 1
  let go (s : State) : State := s.malWindow n x claim (rowIn b (h + 18) (cfgNch f.cfg) 4) late last
  if f.state = 4 ∨ f.state = 5 then s1
  else if !s1.malFormed f b then s1.countFlow n 4 1
  else if f.state = 1 ∨ f.state = 3 then
    (if exact && inc != cfgBits f.cfg 12 15 0 then s1.countFlow n 5 1 else go (s1.activate n inc))
  else if inc = f.latch then go s1
  else if !exact && laterThan 16 inc f.latch then
    go (((s1.modFlow n (fun f => { f with latch := inc, hist := [], early := none })).countFlow n 8 1).raise 101 n)
  else s1.countFlow n 5 1

/-! ### AAF and RTP receive (R247 to R257) -/

/-- Packets missing before sequence number `q` (SEQGAP), and the number expected next. -/
def State.takeSeq (s : State) (n q bits : Nat) : State :=
  let next := (q + 1) % 2 ^ bits
  match (s.flow n).seq with
  | none => s.modFlow n (fun f => { f with seq := some next })
  | some e =>
    let gap := (q + 2 ^ bits - e) % 2 ^ bits
    if gap < 2 ^ (bits - 1) then (s.countFlow n 9 gap).modFlow n (fun f => { f with seq := some next }) else s

/-- Place the rows of a packet from row `r` on in the jitter buffer (R253, R254). -/
def State.placeRows (s : State) (n : Nat) (r : Word) (rows : List (List Word)) : State :=
  let e := s.recvRow
  let f := s.flow n
  let j := cfgRows f.cfg
  let all := (addrs 0 1 rows.length).zip rows |>.map (fun p => (r + BitVec.ofNat 32 p.1, p.2))
  let dist (x : Word) : Nat := (x - e).toNat
  let isLate (x : Word) : Bool := decide (2 ^ 31 ≤ dist x) || (dist x == 0 && s.str.dead)
  let inWin := all.filter (fun p => !isLate p.1 && decide (dist p.1 < j))
  let fresh := inWin.filter (fun p => !f.jit.any (fun q => q.1 == p.1))
  let s1 := s.modFlow n (fun f => { f with jit := f.jit ++ fresh })
  let s2 := if all.any (fun p => isLate p.1) then s1.countLate n false else s1
  let s3 := if all.any (fun p => !isLate p.1 && decide (j ≤ dist p.1)) then s2.countFlow n 3 1 else s2
  if fresh.isEmpty then s3.countDup n else s3

/-- The rows of a payload at `off`. -/
def payloadRows (c : List Word) (b : List Byte) (off : Nat) : List (List Word) :=
  (addrs off (cfgNch c * cfgBytes c) (cfgSpp c)).map (fun o => rowIn b o (cfgNch c) (cfgBytes c))

/-- Checks of R247 on an AAF packet. -/
def State.aafFormed (s : State) (c : List Word) (b : List Byte) : Bool :=
  let a := frameBody b
  let k := cfgBytes c
  beAt b (a + 1) 1 / 16 == 8 && beAt b (a + 1) 1 % 2 == 1 && beAt b (a + 16) 1 == 6 - k &&
    beAt b (a + 17) 1 / 16 == s.get Fld.ENG_PROFILE_STAT_FS_ACT + 4 && beAt b (a + 17) 2 % 1024 == cfgNch c &&
    decide (1 ≤ beAt b (a + 19) 1) && decide (beAt b (a + 19) 1 ≤ 8 * k) && beAt b (a + 20) 2 == cfgPayload c &&
    beAt b (a + 22) 1 / 16 % 2 == 0 && decide (a + 24 + cfgPayload c + 4 ≤ b.length)

/-- Time in ns nearest to `now` whose low 32 bits are `t` (R249). -/
def nearestTime (now t : Nat) : Nat :=
  let d := (t + 2 ^ 32 - now % 2 ^ 32) % 2 ^ 32
  if d < 2 ^ 31 then now + d else now + d - 2 ^ 32

/-- An AAF packet that matches receive flow `n` (R249). -/
def State.aafPacket (s : State) (n : Nat) (b : List Byte) : State :=
  let s1 := s.countFrame n
  let f := s1.flow n
  let a := frameBody b
  if f.state = 4 ∨ f.state = 5 then s1
  else if !s1.aafFormed f.cfg b then s1.countFlow n 4 1
  else
    let s2 := if f.state = 2 then s1 else s1.activate n 0
    let p := nearestTime (s.tbNs s.media) (beAt b (a + 12) 4)
    let r : Word := BitVec.ofNat 32 ((p * s.fs + 999999999) / 1000000000)
    (s2.takeSeq n (beAt b (a + 2) 1) 8).placeRows n r (payloadRows f.cfg b (a + 24))

/-- One's complement sum of 16-bit words, an odd last byte padded (RFC 791, RFC 768). -/
def onesSum : List Byte → Nat
  | [] => 0
  | [x] => x.toNat * 256
  | x :: y :: t => let v := x.toNat * 256 + y.toNat + onesSum t; v % 65536 + v / 65536

/-- Sum over the UDP pseudo-header and `u`, addresses and length as numbers. -/
def udpSum (sip dip len : Nat) (u : List Byte) : Nat :=
  onesSum (beBytes sip 4 ++ beBytes dip 4 ++ [0, 17] ++ beBytes len 2 ++ u)

/-- Offset of the RTP payload where R250 accepts the packet. -/
def rtpPayload (c : List Word) (b : List Byte) : Option Nat :=
  let a := frameBody b
  let u := a + beAt b a 1 % 16 * 4
  let frag := beAt b (a + 6) 2 % 0x4000
  let ulen := beAt b (u + 4) 2
  let ck := beAt b (u + 6) 2
  let x := beAt b (u + 8) 1
  let ext := if x / 16 % 2 = 1 then 4 + 4 * beAt b (u + 22) 2 else 0
  let off := u + 20 + ext
  if frag = 0 ∧ onesSum (bytesAt b a (u - a)) = 0xFFFF ∧
      (ck = 0 ∨ udpSum (beAt b (a + 12) 4) (beAt b (a + 16) 4) ulen (bytesAt b u ulen) = 0xFFFF) ∧
      x / 64 = 2 ∧ x / 32 % 2 = 0 ∧ x % 16 = 0 ∧ u + ulen = off + cfgPayload c ∧ off + cfgPayload c + 4 ≤ b.length then
    some off
  else none

/-- An RTP packet that matches receive flow `n` (R253, R255). -/
def State.rtpPacket (s : State) (n : Nat) (b : List Byte) : State :=
  let s1 := s.countFrame n
  let f := s1.flow n
  let c := f.cfg
  let a := frameBody b
  let u := a + beAt b a 1 % 16 * 4
  let src := beAt b (u + 16) 4
  let want := cfgBits c 8 31 0
  let place (off : Nat) (s : State) : State :=
    let r : Word := BitVec.ofNat 32 (beAt b (u + 12) 4) - BitVec.ofNat 32 (cfgBits c 10 31 0) +
      BitVec.ofNat 32 (cfgBits c 11 12 0)
    (s.takeSeq n (beAt b (u + 10) 2) 16).placeRows n r (payloadRows c b off)
  if f.state = 4 ∨ f.state = 5 then s1
  else match rtpPayload c b with
  | none => s1.countFlow n 4 1
  | some off =>
    if want ≠ 0 ∧ src ≠ want then s1.countFlow n 5 1
    else if f.state = 1 then place off (s1.activate n src)
    else if src = f.latch then place off (if f.state = 3 then s1.activate n src else s1)
    else if f.state = 3 then
      place off (((s1.activate n src).modFlow n (fun f => { f with seq := none })).countFlow n 8 1)
    else s1.countFlow n 5 1

/-! ### The receive side at the deadline and the engine tick -/

/-- Receive slots of the table. -/
def State.rxKeys (s : State) : List Nat := s.flowKeys.filter (fun n => decide (n < 256))

/-- The deadline of row E for packet formats: its buffered samples are written (R253). -/
def State.recvDeadline (s : State) : State :=
  let e := s.recvRow
  let one (s : State) (n : Nat) : State :=
    let f := s.flow n
    if (f.state = 2 ∨ f.state = 3) ∧ cfgFmt f.cfg ≠ 0 then
      let s1 := s.modFlow n (fun f => { f with jit := f.jit.filter (fun p => laterThan 32 p.1.toNat e.toNat) })
      match f.jit.find? (fun p => p.1 == e) with
      | some p => s1.writeFlow n p.2
      | none => if f.state = 2 then s1.countMissing n else s1
    else s
  if s.str.dead then s
  else let s1 := s.rxKeys.foldl one s; { s1 with str := { s1.str with dead := true } }

/-- Row E of the receive flows closes, before the pages swap (R237, R239, R242, R253). -/
def State.closeFlows (s : State) : State :=
  let e := s.recvRow
  let s0 := s.recvDeadline
  let one (s : State) (n : Nat) : State :=
    let f := s.flow n
    if f.lastRow = some e ∧ (f.state = 2 ∨ f.state = 3) then s.drainFlow n
    else if f.state = 2 ∧ cfgFmt f.cfg = 0 ∧ f.lastRow.isNone ∧ (copyOf f.hist e).isNone then s.countMissing n
    else s
  let s1 := s0.rxKeys.foldl one s0
  let nl := (s1.rxKeys.filter (fun n => (s1.flow n).lateRow)).length
  let nm := (s1.rxKeys.filter (fun n => (s1.flow n).missRow)).length
  let s2 := if nl = 0 then s1 else s1.raise 102 nl
  let s3 := if nm = 0 then s2 else s2.raise 103 nm
  s3.rxKeys.foldl (fun s n => s.modFlow n (fun f => { f with lateRow := false, missRow := false, wrote := false })) s3

/-- The page of the new row E opens: early copies land, bind-off fades write, histories move on, and a flow whose early copy
carried LAST enters DRAIN (R235, R242). -/
def State.openFlows (s : State) : State :=
  let e := s.recvRow
  let one (s : State) (n : Nat) : State :=
    let f := s.flow n
    let keep := f.hist.filter (fun p => decide ((e - p.1).toNat ≤ 63))
    if f.state = 4 ∧ f.fade < 64 then
      let z := (addrs 0 1 (cfgNch f.cfg)).map (fun i => scale64 (f.words.getD i 0) (63 - f.fade))
      (z.zip (addrs (cfgFirst f.cfg) 1 z.length)).foldl (fun s p => s.sourceWrite 0x01 p.2 p.1)
        (s.modFlow n (fun f => { f with fade := f.fade + 1 }))
    else
    let t := match f.early with
    | some c =>
      if c.row = e ∧ f.state = 2 then
        (s.modFlow n (fun f => { f with early := none, hist := noteCopy keep e c.claim })).writeFlow n c.words
      else s.modFlow n (fun f => { f with hist := keep, early := if c.row = e then none else f.early })
    | none => s.modFlow n (fun f => { f with hist := keep })
    if f.lastRow = some e ∧ (f.state = 2 ∨ f.state = 3) then t.drainFlow n else t
  let s1 := s.rxKeys.foldl one s
  { s1 with str := { s1.str with dead := false } }

/-! ### Transmit (R230 to R232, R242, R247 to R257) -/

/-- Fade of a transmit flow in row `j`: CAST row, BOFF row (R242). -/
def FlowSlot.fadeRow (f : FlowSlot) (j : Word) : Option Nat × Option Nat :=
  let off := match f.offRow with
    | some o => if (j - o).toNat < 2 ^ 31 then some (j - o).toNat else none
    | none => none
  let cast := if off.isNone && cfgBits f.cfg 12 29 29 == 1 && decide ((j - f.start).toNat < 63) then
      some (j - f.start).toNat else none
  (cast, off)

/-- The samples of row `j` after fade scaling. -/
def State.txRow (s : State) (f : FlowSlot) (j : Word) : List Word :=
  let ws := (addrs (cfgFirst f.cfg) 1 (cfgNch f.cfg)).map (fun i => s.outWord 0x11 i)
  match f.fadeRow j with
  | (some m, _) => ws.map (fun w => scale64 w (m + 1))
  | (none, some m) => ws.map (fun w => if m ≤ 63 then scale64 w (63 - m) else 0)
  | (none, none) => ws

/-- Bytes from destination address to Ethertype of a transmitted flow. -/
def State.txHead (s : State) (c : List Word) (dst type : Nat) : List Byte :=
  beBytes dst 6 ++ beBytes (s.macOf (cfgPort c)) 6 ++
    (if cfgTag c then beBytes 0x8100 2 ++ beBytes (cfgBits c 1 23 21 * 8192 + cfgBits c 1 11 0) 2 else []) ++
    beBytes type 2

/-- tu: the media time base is not locked (R227). -/
def State.unlocked (s : State) : Nat := if s.tbState s.media = 3 then 0 else 1

/-- The unit sends its claim word unpaired (R228, R507). -/
def State.noClaim (s : State) : Bool := !s.on Fld.TWN_CFG_EN || s.get Fld.TWN_STAT_STATE == 0

/-- The Malraing frame of transmit flow `n` for row `j` (R226 to R228). -/
def State.malBytes (s : State) (n : Nat) (j : Word) : List Byte :=
  let f := s.flow n
  let c := f.cfg
  let nch := cfgNch c
  let r := f.fadeRow j
  let flags := r.1.isSome.toNat * 128 + r.2.isSome.toNat * 64 + (r.2 == some 63).toNat * 32 + s.noClaim.toNat * 16
  let pos := match r with | (some m, _) => m | (none, some m) => m | _ => 0
  s.txHead c (cfgDmac c) 0x22F0 ++ [0x6F, 0x81] ++ beBytes (j.toNat % 256) 1 ++ beBytes s.unlocked 1 ++
    beBytes (cfgSid c) 8 ++ beBytes (s.rowNs j) 4 ++ beBytes (18 + 4 * nch) 2 ++
    beBytes (s.get Fld.STR_VSF_EUI_HI_EUI * 2 ^ 32 + s.get Fld.STR_VSF_EUI_LO_EUI) 6 ++
    beBytes j.toNat 4 ++ beBytes (s.reg Reg.TWN_CLAIM).toNat 4 ++ beBytes f.incarn 2 ++ beBytes nch 1 ++
    beBytes (s.get Fld.ENG_PROFILE_STAT_FS_ACT * 16 + 1) 1 ++ beBytes flags 1 ++ beBytes (n % 256) 1 ++ beBytes pos 2 ++
    [0, 0] ++ ((s.txRow f j).map (fun w => beBytes w.toNat 4)).flatten

/-- Queue a frame of a transmit flow (R231). -/
def State.queueFlow (s : State) (n : Nat) (b : List Byte) : State :=
  let c := (s.flow n).cfg
  s.queueFrame (cfgPort c) ⟨padFrame b, cfgBits c 1 27 25, if cfgTag c then cfgBits c 1 23 21 else 0, 5, none, none, n⟩

/-- Payload bytes of gathered rows. -/
def rowsOut (c : List Word) (rows : List (List Word)) : List Byte :=
  ((rows.map (fun r => (r.map (fun w => wireOut w (cfgBytes c))).flatten)).flatten)

/-- The AAF packet of rows from `j0` (R247, R248). -/
def State.aafBytes (s : State) (c : List Word) (j0 : Word) (rows : List (List Word)) : List Byte :=
  let k := cfgBytes c
  let nch := cfgNch c
  s.txHead c (cfgDmac c) 0x22F0 ++ [0x02, 0x81] ++ beBytes (s.fullCount j0 / cfgSpp c % 256) 1 ++ beBytes s.unlocked 1 ++
    beBytes (cfgSid c) 8 ++ beBytes ((s.rowNs j0 + cfgBits c 10 31 0) % 2 ^ 32) 4 ++ beBytes (6 - k) 1 ++
    beBytes ((s.get Fld.ENG_PROFILE_STAT_FS_ACT + 4) * 4096 + nch) 2 ++ beBytes (8 * k) 1 ++ beBytes (cfgPayload c) 2 ++
    [0, 0] ++ rowsOut c rows

/-- The RTP packet of rows from `j0` (R250, R252). -/
def State.rtpBytes (s : State) (c : List Word) (j0 : Word) (rows : List (List Word)) : List Byte :=
  let sip := s.get (Fld.STR_IPADDR_ADDR (cfgPort c))
  let dip := cfgBits c 4 31 0
  let data := rowsOut c rows
  let rtp := [0x80] ++ beBytes (cfgBits c 7 22 16) 1 ++ beBytes (s.fullCount j0 / cfgSpp c % 65536) 2 ++
    beBytes (j0 + BitVec.ofNat 32 (cfgBits c 10 31 0)).toNat 4 ++ beBytes (cfgBits c 8 31 0) 4 ++ data
  let ulen := 8 + rtp.length
  let udp (ck : Nat) : List Byte :=
    beBytes (cfgBits c 6 15 0) 2 ++ beBytes (cfgBits c 6 31 16) 2 ++ beBytes ulen 2 ++ beBytes ck 2 ++ rtp
  let uck := 0xFFFF - udpSum sip dip ulen (udp 0)
  let ip (ck : Nat) : List Byte :=
    [0x45] ++ beBytes (cfgBits c 7 7 2 * 4) 1 ++ beBytes (20 + ulen) 2 ++ [0, 0, 0x40, 0] ++
      beBytes (cfgBits c 7 15 8) 1 ++ [17] ++ beBytes ck 2 ++ beBytes sip 4 ++ beBytes dip 4
  s.txHead c (cfgDmac c) 0x0800 ++ ip (0xFFFF - onesSum (ip 0)) ++ udp (if uck = 0 then 0xFFFF else uck)

/-- Does a packet that starts now go out (R256)? -/
def State.soloSends (s : State) (c : List Word) : Bool :=
  cfgBits c 12 30 30 == 0 || s.get Fld.TWN_STAT_STATE == 0 || s.reg Reg.TWN_PCLAIM == 0 ||
    claimHigher (s.reg Reg.TWN_CLAIM) (s.reg Reg.TWN_PCLAIM)

/-- Row `j` of a packet flow: gathered, and sent when its packet is full (R248, R252). -/
def State.gatherRow (s : State) (n : Nat) (j : Word) : State :=
  let f := s.flow n
  let c := f.cfg
  let ended := match (f.fadeRow j).2 with | some m => decide (63 < m) | none => false
  let g := if s.fullCount j % cfgSpp c = 0 then (if ended then none else some (j, s.soloSends c, [])) else f.gather
  match g with
  | none => s.modFlow n (fun f => { f with gather := none })
  | some (j0, go, rows) =>
    let all := rows ++ [s.txRow f j]
    if all.length < cfgSpp c then s.modFlow n (fun f => { f with gather := some (j0, go, all) })
    else
      let s1 := s.modFlow n (fun f => { f with gather := none })
      if go then s1.queueFlow n (if cfgFmt c = 1 then s.aafBytes c j0 all else s.rtpBytes c j0 all) else s1

/-- The transmit flows' part in output row `j` (R230, R231, R242). -/
def State.sendFlows (s : State) (j : Word) : State :=
  let one (s : State) (n : Nat) : State :=
    let f := s.flow n
    if (f.state = 2 ∨ f.state = 4) ∧ (j - f.start).toNat < 2 ^ 31 then
      if cfgFmt f.cfg = 0 then
        (match (f.fadeRow j).2 with
         | some m => if 63 < m then s else s.queueFlow n (s.malBytes n j)
         | none => s.queueFlow n (s.malBytes n j))
      else s.gatherRow n j
    else s
  (s.flowKeys.filter (fun n => decide (256 ≤ n))).foldl one s

/-! ### The firmware filter and the end of a received frame (R194) -/

/-- Does a firmware protocol filter claim the frame: a referee datagram to the port's own address, or ARP for it? -/
def State.filtered (s : State) (n : Nat) (b : List Byte) : Bool :=
  let ip := s.get (Fld.STR_IPADDR_ADDR n)
  let dp := frameDport b
  (frameDip b == ip && ip != 0 && ((dp == some (s.get Fld.TWN_REFCTL_REFPORT) && s.get Fld.TWN_REFCTL_REFPORT != 0) ||
      (dp == some (s.get Fld.REF_PORT_PORT) && s.on Fld.REF_CFG_EN))) ||
    (frameType b == 0x0806 && ip != 0 && beAt b (frameBody b + 24) 4 == ip)

/-- Firmware answers an ARP request for the port's address (R194, R250). -/
def State.answerArp (s : State) (n : Nat) (b : List Byte) : State :=
  let a := frameBody b
  if frameType b = 0x0806 ∧ beAt b (a + 6) 2 = 1 then
    let me := beBytes (s.macOf n) 6
    let you := bytesAt b (a + 8) 6
    s.houseFrame n 5 none (you ++ me ++ [0x08, 0x06, 0, 1, 8, 0, 6, 4, 0, 2] ++ me ++ bytesAt b (a + 24) 4 ++ you ++
      bytesAt b (a + 14) 4)
  else s

/-- Is a frame with its FCS good? -/
def fcsGood (b : List Byte) : Bool := leAt b (b.length - 4) 4 == crc32 (b.take (b.length - 4))

end Sys2Proof.Machine
end

