-- ==== Sys2Proof/Machine/Claim.lean ====
section
/-! DEFINITION. Claim reception with hold and fade, shared by TDM ports in claim mode (R366) and by the amplifier channels
(R394). -/

namespace Sys2Proof.Machine

/-- The candidate among the valid sources: the higher claim word; equal and unordered ones select the first. -/
def claimCandidate (a b : Option (Word × List Word)) : Option (Nat × Word × List Word) :=
  match a, b with
  | some x, some y => if claimHigher y.1 x.1 then some (2, y) else some (1, x)
  | some x, none => some (1, x)
  | none, some y => some (2, y)
  | none, none => none

/-- Is a candidate's claim word accepted against the latch? -/
def ClaimSt.takes (st : ClaimSt) (c : Word) : Bool :=
  match st.lc with
  | some l => c == l || claimHigher c l
  | none => true

/-- What a row of claim reception did: words to play, a source other than the one before, held, faded out. -/
structure ClaimRow where
  words : List Word
  switched : Bool
  held : Bool
  faded : Bool
  deriving DecidableEq, Repr

/-- Scale by the fade-in, if one runs. -/
def fadeInWords (f : Option Nat) (ws : List Word) : List Word :=
  match f with
  | some m => ws.map (fun w => scale64 w (m + 1))
  | none => ws

/-- Place of the fade-in in the next row. -/
def fadeInNext (f : Option Nat) : Option Nat :=
  match f with
  | some m => if m < 63 then some (m + 1) else none
  | none => none

/-- One row (steps 1 to 5 of R366 and R394). -/
def ClaimSt.row (st : ClaimSt) (a b : Option (Word × List Word)) : ClaimSt × ClaimRow :=
  match (claimCandidate a b).filter (fun c => st.takes c.2.1) with
  | some (n, c, ws) =>
    let f := if st.cleared then some 0 else st.fadeIn
    (⟨some c, n, 0, false, fadeInNext f, ws⟩, ⟨fadeInWords f ws, st.src != n, false, false⟩)
  | none =>
    let h := st.held + 1
    let m := min 63 (h - 8)
    let ws := if h < 8 then st.words else st.words.map (fun w => scale64 w (63 - m))
    let out := fadeInWords st.fadeIn ws
    if h = 71 then (⟨none, 0, h, true, fadeInNext st.fadeIn, st.words⟩, ⟨out, false, true, true⟩)
    else ({ st with held := h, fadeIn := fadeInNext st.fadeIn }, ⟨out, false, true, false⟩)

/-- Does the fade of step 4 or the fade-in of step 5 run? -/
def ClaimSt.fading (st : ClaimSt) : Bool := (decide (8 ≤ st.held) && decide (st.held ≤ 71)) || st.fadeIn.isSome

end Sys2Proof.Machine
end

