-- ==== Sys2Proof/Machine/RegWrite.lean ====
section
/-! DEFINITION. The general rules of a register write (R10 to R13): fields by access type and legal code, and the SAT bits
behind the counter-saturation events (R14, R484). -/

namespace Sys2Proof.Machine

/-- Is `v` a code that the field does not reserve (R13)? -/
def FieldDesc.legal (f : FieldDesc) (v : Nat) : Bool :=
  f.ok.isEmpty || f.ok.any (fun r => decide (r.1 ≤ v) && decide (v ≤ r.2))

/-- Fields of the register at `a`; none where no register lies. -/
def fieldsAt (a : Nat) : List FieldDesc :=
  match regDesc a with
  | some d => d.fields
  | none => []

/-- The value that a written word holds for a field. -/
def FieldDesc.of (f : FieldDesc) (w : Word) : Nat := bitsOf w f.msb f.lsb

/-- Would a field of the register at `a` receive a reserved code? -/
def badCodes (a : Nat) (w : Word) : Bool :=
  (fieldsAt a).any (fun f => f.acc == .rw && !f.legal (f.of w))

/-- One field of a write: RW fields take legal codes, W1C bits clear where written as 1, others ignore the write. -/
def State.writeField (s : State) (a : Nat) (w : Word) (f : FieldDesc) : State :=
  match f.acc with
  | .rw => if f.legal (f.of w) then s.put ⟨a, f.msb, f.lsb⟩ (f.of w) else s
  | .w1c => s.put ⟨a, f.msb, f.lsb⟩ (Nat.land (s.get ⟨a, f.msb, f.lsb⟩) (Nat.xor (2 ^ (f.msb + 1 - f.lsb) - 1) (f.of w)))
  | _ => s

/-- Is a SAT bit set in the register at `a` with contents `w`? -/
def satSet (a : Nat) (w : Word) : Bool := (fieldsAt a).any (fun f => f.sat && f.of w != 0)

/-- Counter saturation of a group follows its SAT bits (R484). -/
def State.followSat (s : State) (g : Nat) : State :=
  if s.regs.any (fun p => groupOf p.1 == g && satSet p.1 p.2) then s else s.level (32 * g) false 0

/-- Counter saturation of each group whose SAT bits are set although its status bit is not, as after a full reset that keeps
them (R483, R484). -/
def State.riseSats (s : State) : State :=
  (addrs 0 1 8).foldl (fun s g =>
    match s.regs.find? (fun p => groupOf p.1 == g && satSet p.1 p.2) with
    | some p => s.level (32 * g) true (p.1 % 0x1000000)
    | none => s) s

/-- The fields of a register take a written word one by one (R10, R13). -/
def State.writeFields (s : State) (a : Nat) (w : Word) : State :=
  let s1 := (fieldsAt a).foldl (fun s f => s.writeField a w f) s
  if (fieldsAt a).any FieldDesc.sat then s1.followSat (groupOf a) else s1

/-- The bits of some fields of one register. -/
def fieldBits (l : List Fd) : Word := l.foldl (fun m f => withBits m f.msb f.lsb (2 ^ (f.msb + 1 - f.lsb) - 1)) 0

/-- A written word in which the bits of `mask` are those that the register holds. -/
def keepBits (mask old w : Word) : Word := (w &&& ~~~mask) ||| (old &&& mask)

/-- A write of a register under R10 and R13: the fields one by one, and the invalid-setting event for reserved codes. -/
def State.writeReg (s : State) (a : Nat) (w : Word) : State :=
  let s1 := s.writeFields a w
  if badCodes a w then s1.invalid a else s1

end Sys2Proof.Machine
end

