-- ==== Sys2Proof/Machine/TwinOps.lean ====
section
/-! DEFINITION. The twin unit's operations (R504 to R523): claim word, link state, frames received, pairing, mirror records,
digests. -/

namespace Sys2Proof.Machine

def State.setTwn (s : State) (t : TwnS) : State := { s with twn := t }

/-- STATE of the twin unit: 0 OFF, 1 SEEK, 2 PAIRING, 3 SETTLING, 4 PAIRED, 5 ALONE (R512). -/
def State.twinState (s : State) : Nat := s.get Fld.TWN_STAT_STATE

/-- Counters by their place: 0 HBLOST, 1 DIGDIV, 2 DIGSTITCH, 3 DIGMISS, 4 FRAMEERR, 5 MIRRETRY, 6 GRANTREF. -/
def ctrTwn (j : Nat) : Ctr := ⟨Reg.TWN_CNT32 j, ⟨Reg.TWN_CNT_SAT, j, j⟩⟩

/-- GEN of the claim word held. -/
def State.gen (s : State) : Nat := s.get Fld.TWN_CLAIM_VALUE / 16

/-- The claim word with a generation and this unit's PRIO (R504). -/
def State.claimOf (s : State) (g : Nat) : Nat := g % 2 ^ 28 * 16 + s.get Fld.TWN_CFG_PRIO

/-- GEN changes (R505). -/
def State.setGen (s : State) (g : Nat) : State :=
  if g % 2 ^ 28 = s.gen then s else (s.put Fld.TWN_CLAIM_VALUE (s.claimOf g)).raise 229 (s.claimOf g)

/-- Is a lane of the twin link usable (R508)? -/
def State.twinUsable (s : State) : Bool := s.on Fld.TWN_STAT_LANE4 || s.on Fld.TWN_STAT_LANE5

/-- Raise twin-link-state (R537). -/
def State.raiseTwin (s : State) : State :=
  s.raise 226 (s.twinState + 256 * s.get Fld.TWN_STAT_LANE4 + 512 * s.get Fld.TWN_STAT_LANE5 + 1024 * s.get Fld.TWN_STAT_SKEW)

/-- A change of STATE (R512): what belongs to the state that is left ends, and what the new one starts with is set. -/
def State.setTwin (s : State) (st : Nat) : State :=
  if s.twinState = st then s
  else
    let t := s.twn
    let paired := st = 3 ∨ st = 4
    let t1 : TwnS := if paired then t else { t with unacked := [], ready := [], pause := false }
    let t2 : TwnS :=
      if st = 2 then { t1 with hello := none, checked := false, joinReady := false, joinShown := false, incarns := 0,
                               heldRegs := [], heldQueue := [], pings := 0, pongs := [], measured := false }
      else if st = 3 then { t1 with settle := 1024 * s.get Fld.TWN_CFG2_SETTLE }
      else if st = 4 then { t1 with divAgeIn := 64 }
      else t1
    let s1 := (s.setTwn t2).put Fld.TWN_STAT_STATE st
    (if st = 3 then s1.flag Fld.TWN_STAT_ESTAB true else s1).raiseTwin

/-- The twin sends under way are rejected (R499, R503). -/
def State.rejectBusy (s : State) : State :=
  (addrs 0 1 8).foldl (fun (s : State) i => if s.evt.twbusy.getLsbD i then s.rejectTwsend i else s) s

/-- The twin link has gone down (R503, R510, R512). -/
def State.twinDown (s : State) : State :=
  let s1 := (s.setTwn { s.twn with history := [], downRows := 0 }).rejectBusy
  if s1.twinState = 2 then s1.setTwin (if s1.on Fld.TWN_STAT_ESTAB then 5 else 1) else s1

/-- TLUP follows the lanes, the heartbeats and the pause (R508, R519). -/
def State.showTwinLink (s : State) : State :=
  let up := s.twinUsable && decide (s.twn.noHb < 4) && !s.twn.pause && s.twinState != 0
  if up == s.on Fld.TWN_STAT_TLUP then s
  else
    let s1 := s.flag Fld.TWN_STAT_TLUP up
    if up then s1.setTwn { s1.twn with downRows := 0 } else s1.twinDown

/-- The STATUS word of heartbeats (R524). -/
def State.twinStatus (s : State) : Nat :=
  s.get Fld.ENG_PROFILE_STAT_FS_ACT * 2 ^ 28 + s.twinState * 2 ^ 24 + s.get Fld.TWN_STAT_SKEW * 16 +
    s.get Fld.TWN_STAT_DIV * 8 + s.get Fld.TWN_STAT_PALIVE * 4 + s.get Fld.TWN_STAT_TLUP * 2 + s.get Fld.CLK_STAT_MLOCK

/-- NS of the media time base (R511, R517). -/
def State.mediaStamp (s : State) : Nat := s.tbNs s.media % 2 ^ 64

/-! ### Frames received (R509, R510) -/

/-- May a payload of `n` bytes belong to a frame type (R511)? -/
def payloadFits (ftype n : Nat) (p : List Byte) : Bool :=
  match ftype with
  | 0x01 => n == 32
  | 0x02 => n == 16
  | 0x03 => n == 152
  | 0x04 => decide (1 ≤ beAt p 0 1) && decide (beAt p 0 1 ≤ 32) && n == 8 + 24 * beAt p 0 1
  | 0x05 => n == 8
  | 0x06 => n == 8
  | 0x07 => n == 8
  | 0x08 => n == 8
  | 0x09 => n == 24
  | _ => false

/-- Is a SEQ new to the history (R510)? -/
def seqNew (h : List Word) (q : Word) : Bool :=
  match h.getLast? with
  | none => true
  | some o => !h.contains q && !earlierThan 32 q.toNat o.toNat

/-- A frame from the twin link of type `want`: counted as an error, passed over as a copy (by `again`), or taken (by `f`
with its SEQ and payload). -/
def State.takeTwin (s : State) (want : Nat) (b : List Byte) (again f : State → Word → List Byte → State) : State :=
  if !s.twinUsable || s.twinState == 0 then s
  else match twinParse b with
  | none => s.count (ctrTwn 4)
  | some (t, q, p) =>
    if !payloadFits t p.length p then s.count (ctrTwn 4)
    else if t ≠ want then s
    else if seqNew s.twn.history q then f (s.setTwn { s.twn with history := (q :: s.twn.history).take 64 }) q p
    else again s q p

/-! ### Pairing (R512 to R517) -/

/-- The HELLO of a payload. -/
def helloOf (p : List Byte) (ownRow : Word) : Hello :=
  ⟨beAt p 0 2, beAt p 2 1 % 2, beAt p 3 1 % 16, beAt p 4 1 % 2 == 1, beAt p 4 1 / 2 % 2 == 1, BitVec.ofNat 32 (beAt p 8 4),
    BitVec.ofNat 32 (beAt p 12 4), BitVec.ofNat 32 (beAt p 16 4), BitVec.ofNat 32 (beAt p 20 4), BitVec.ofNat 32 (beAt p 24 4),
    ownRow⟩

/-- The HELLO payload that this unit sends (R511). -/
def State.helloBytes (s : State) : List Byte :=
  beBytes (s.get Fld.TWN_CFG_PAIRID) 2 ++ beBytes (s.get Fld.TWN_CFG_UNIT) 1 ++ beBytes (s.get Fld.TWN_CFG_PRIO) 1 ++
    beBytes (s.get Fld.TWN_STAT_ESTAB + 2 * s.twn.joinReady.toNat) 1 ++ [0, 0, 0] ++ beBytes (s.reg Reg.TWN_CLAIM).toNat 4 ++
    beBytes s.row.rowIdx.toNat 4 ++ beBytes (s.reg Reg.ENG_PROFILE).toNat 4 ++ beBytes (s.reg Reg.ENG_GUARD).toNat 4 ++
    beBytes (s.reg (Reg.TB_PTPCFG s.media)).toNat 4 ++ [0, 0, 0, 0]

/-- Checks 0x1 to 0x5 of R514; 0 when all pass. -/
def State.helloReason (s : State) (h : Hello) : Nat :=
  if h.pairId ≠ s.get Fld.TWN_CFG_PAIRID then 1
  else if h.unit = s.get Fld.TWN_CFG_UNIT then 2
  else if h.prio = s.get Fld.TWN_CFG_PRIO then 3
  else if h.profile ≠ s.reg Reg.ENG_PROFILE then 4
  else if h.guard ≠ s.reg Reg.ENG_GUARD then 5
  else 0

/-- Checks 0x6 and 0x7 on the latest HELLO. -/
def State.linkReason (s : State) (h : Hello) : Nat :=
  let d := (h.ownRow - h.rowIdx).toInt - (s.get Fld.TWN_LINKDLY_VALUE * s.fs / 1000000000 : Nat)
  if h.ptpcfg ≠ s.reg (Reg.TB_PTPCFG s.media) ∨ 2 < d.natAbs then 6
  else if s.twn.pongs.length < 8 ∨ 500 < s.get Fld.TWN_LINKDLY_VALUE then 7
  else 0

/-- Pairing is refused (R514). -/
def State.refusePairing (s : State) (r : Nat) : State :=
  ((s.setTwn { s.twn with retry := 1000 }).put Fld.TWN_STAT_REASON r).raise 233 r |>.setTwin 1

/-- Send records over the mirror, 32 to a frame. -/
def State.sendRecords : Nat → List (List Byte) → State → State
  | 0, _, s => s
  | _, [], s => s
  | k + 1, r, s => (s.sendMirror (r.take 32)).sendRecords k (r.drop 32)

/-- What an established unit sends to its fresh partner (R515, step 2). -/
def State.joinRecords (s : State) : List (List Byte) :=
  ((addrs 0 1 512).map (fun n => mirRecord 0x04 (beBytes (n % 256) 1 ++ beBytes (n / 256) 1 ++ beBytes (s.flow n).incarn 2))) ++
    ((addrs 0 1 128).map (fun c =>
      let a := Reg.CLU_CORE_BUDGET (c / 8) (c % 8)
      mirRecord 0x02 ([0, 0, 0, 0] ++ beBytes a 4 ++ beBytes (s.reg a).toNat 4))) ++
    ((addrs 0 1 128).map (fun c =>
      let a := Reg.CLU_CORE_OUTCFG (c / 8) (c % 8)
      mirRecord 0x02 ([0, 0, 0, 0] ++ beBytes a 4 ++ beBytes (s.reg a).toNat 4))) ++
    ((s.row.tpq.filter (fun r => !r.direct)).map (fun r => mirRecord 0x01 r.bytes))

/-- The checks have passed (R515, steps 1 to 3). -/
def State.passChecks (s : State) (h : Hello) : State :=
  let est := s.on Fld.TWN_STAT_ESTAB
  let pg := h.claim.toNat / 16
  let gen := if est then none
    else if h.estab then some ((pg + 2 ^ 28 - 1) % 2 ^ 28)
    else some (if laterThan 28 pg s.gen then pg else s.gen)
  let now := est || !h.estab
  let s1 := s.setTwn { s.twn with checked := true, genDue := gen, joinReady := now }
  if est && !h.estab then s1.sendRecords 300 s1.joinRecords else s1

/-- Judge the latest HELLO once the link delay is known (R514). -/
def State.judgeHello (s : State) : State :=
  match s.twn.hello with
  | some h =>
    if s.twinState = 2 ∧ s.twn.measured ∧ ¬ s.twn.checked then
      (if s.linkReason h ≠ 0 then s.refusePairing (s.linkReason h) else (s.put Fld.TWN_STAT_REASON 0).passChecks h)
    else s
  | none => s

/-- A HELLO in PAIRING: checks 0x1 to 0x5, then the rest when the measurement has ended. -/
def State.pairingHello (s : State) (h : Hello) : State :=
  let s1 := s.setTwn { s.twn with hello := some h }
  if s1.helloReason h ≠ 0 then s1.refusePairing (s1.helloReason h) else s1.judgeHello

/-- A HELLO arrives (R512, R514). -/
def State.takeHello (s : State) (p : List Byte) : State :=
  let h := helloOf p s.row.rowIdx
  let st := s.twinState
  if st = 2 then s.pairingHello h
  else if (st = 1 ∧ s.twn.retry = 0) ∨ st = 5 then
    (if h.pairId = s.get Fld.TWN_CFG_PAIRID then (s.setTwin 2).pairingHello h else s)
  else s

/-- Both HELLO frames show JOINREADY: SETTLING at the row tick (R515, step 4). -/
def State.maySettle (s : State) : Bool :=
  s.twinState == 2 && s.twn.checked && s.twn.joinReady && s.twn.joinShown &&
    (match s.twn.hello with | some h => h.joinReady | none => false)

/-- JOIN, or its place where none is needed: the queue is replaced, and the held values are due (R515, step 4). -/
def State.doJoin (s : State) : State :=
  let t := s.twn
  ({ s with row := { s.row with tpq := s.row.tpq.filter (fun (r : TpRec) => r.direct) ++ t.heldQueue } }).setTwn
    { t with joinReady := true, joinDue := true, heldQueue := [] }

/-! ### Heartbeats (R516, R517) -/

/-- Mean of a list, rounded down; 0 of none. -/
def meanInt (l : List Int) : Int := (l.foldl (· + ·) 0).fdiv (max 1 l.length)

/-- A tick-offset value is taken in (R517). -/
def State.takeDelta (s : State) (d : Int) : State :=
  let ds := (d :: s.twn.deltas).take 16
  let m := meanInt ds
  let tol := s.get Fld.TWN_TICKTOL_TOL
  let s1 := (s.setTwn { s.twn with deltas := ds }).putS Fld.TWN_TICKOFF_VALUE m
  if s.on Fld.TWN_STAT_SKEW then (if 10 * m.natAbs < 9 * tol then s1.flag Fld.TWN_STAT_SKEW false else s1)
  else if tol < m.natAbs then (s1.flag Fld.TWN_STAT_SKEW true).raiseTwin
  else s1

/-- A HEARTBEAT arrives, `ns` after this unit's row tick (R516, R517). -/
def State.takeHeartbeat (s : State) (p : List Byte) (ns : Nat) : State :=
  let r : Word := BitVec.ofNat 32 (beAt p 0 4)
  let a : Int := ((s.row.rowIdx - r).toInt * 1000000000).fdiv s.fs + ns
  let s1 := (s.setReg Reg.TWN_PCLAIM (BitVec.ofNat 32 (beAt p 4 4))).flag Fld.TWN_STAT_PALIVE true
  let s2 := (s1.setTwn { s1.twn with noHb := 0, hbRow := true, lost := false }).takeDelta
    (a - beAt p 12 4 - s.get Fld.TWN_LINKDLY_VALUE)
  s2.showTwinLink

/-- A row tick at the twin unit counts rows without a heartbeat and rows with the link down (R508, R516). -/
def State.countHeartbeats (s : State) : State :=
  let t := s.twn
  s.setTwn { t with noHb := if t.hbRow then 0 else min 255 (t.noHb + 1), hbRow := false,
                    downRows := if s.on Fld.TWN_STAT_TLUP then 0 else t.downRows + 1 }

/-! ### Mirror records (R518) -/

/-- Offsets that a REG record may name (R518): the parameter mirror carries no write of the power stage (R391). -/
def regRecOk (a : Nat) : Bool :=
  a == Reg.ENG_PROFILE || a == Reg.ENG_GUARD ||
    (addrs 0 1 128).any (fun c => a == Reg.CLU_CORE_BUDGET (c / 8) (c % 8) || a == Reg.CLU_CORE_OUTCFG (c / 8) (c % 8))

/-- One record of a MIRROR frame takes effect. -/
def State.takeRecord (s : State) (r : List Byte) : State :=
  let b := r.drop 4
  let joining := s.twinState == 2 && s.twn.checked && !s.on Fld.TWN_STAT_ESTAB
  match beAt r 0 1 with
  | 0x01 =>
    if s.paired then s.tpPush (tpOfBytes b)
    else if joining then s.setTwn { s.twn with heldQueue := s.twn.heldQueue ++ [tpOfBytes b] } else s
  | 0x02 =>
    let k : Word := BitVec.ofNat 32 (beAt b 0 4)
    let a := beAt b 4 4
    let w : Word := BitVec.ofNat 32 (beAt b 8 4)
    if !regRecOk a then s
    else if s.paired then
      (if laterThan 32 k.toNat s.row.openRow.toNat then s.setTwn { s.twn with regHeld := s.twn.regHeld ++ [⟨k, a, w⟩] }
       else s.count ctrTpref)
    else if joining then s.setTwn { s.twn with heldRegs := s.twn.heldRegs ++ [(a, w)] } else s
  | 0x03 =>
    if s.paired then
      let v : Option (Option Word) := if beAt b 6 1 = 1 then some (some (BitVec.ofNat 32 (beAt b 0 4))) else none
      s.setTwn { s.twn with ready := s.twn.ready.set (fun _ => none) (readyKey (beAt b 4 1) (beAt b 5 1) + 4096) v }
    else s
  | 0x04 =>
    if s.paired || joining then
      (s.modFlow (beAt b 0 1 + 256 * (beAt b 1 1 % 2)) (fun f => { f with incarn := beAt b 2 2 })).setTwn
        { s.twn with incarns := s.twn.incarns + 1 }
    else s
  | _ => s.count (ctrTwn 4)

/-- Answer a MIRROR frame (R511). -/
def State.sendAck (s : State) (q : Word) : State := s.twinSend 0x05 (beBytes q.toNat 4 ++ [0, 0, 0, 0])

/-- The records of a MIRROR frame, in order, and its ACK. -/
def State.takeMirror (s : State) (q : Word) (p : List Byte) : State :=
  ((addrs 8 24 (beAt p 0 1)).foldl (fun s o => s.takeRecord (bytesAt p o 24)) s).sendAck q

/-! ### Digests (R521 to R523) -/

/-- A swatch that disturbs lockstep runs on the paired twin (R597): a memory march, or a near-end loopback on LANE0 to
LANE3. -/
def State.disturbed (s : State) : Bool :=
  (s.get Fld.SWT_FG_STAT_RESULT == 1 && s.get Fld.SWT_FG_STAT_TEST == 2) ||
    (addrs 0 1 4).any (fun n => s.get (Fld.LANE_LOOP_STAT_RESULT n) == 1 && (s.get (Fld.LANE_LOOP_STAT_MODE n) == 1 ||
      s.get (Fld.LANE_LOOP_STAT_MODE n) == 2))

/-- The final digests of the row as one set. -/
def State.ownDigests (s : State) : DigestSet :=
  let ds := (addrs 0 1 16).map (fun c => s.row.digests.get (fun _ => digestNone) c)
  ⟨match ds with | d :: _ => d.row | [] => 0, ds.map Digest.value, ds.map Digest.stitch, s.fab.mtxStitch⟩

/-- DIGEST payload (R511). -/
def DigestSet.bytes (d : DigestSet) : List Byte :=
  beBytes d.row.toNat 4 ++ beBytes d.mtx.toNat 4 ++ ((d.digests.map (fun x => beBytes x.toNat 8)).flatten) ++
    ((d.masks.map (fun x => beBytes x.toNat 1)).flatten)

/-- The set that a DIGEST payload spells. -/
def digestOf (p : List Byte) : DigestSet :=
  ⟨BitVec.ofNat 32 (beAt p 0 4), (addrs 8 8 16).map (fun o => BitVec.ofNat 64 (beAt p o 8)),
    (addrs 136 1 16).map (fun o => BitVec.ofNat 8 (beAt p o 1)), beAt p 4 4 % 2 == 1⟩

/-- Compared rows since the stitch masks of cluster `c` differed; 64 where they never did. -/
def TwnS.age (t : TwnS) (c : Nat) : Nat := t.stitchAge.get (fun _ => 64) c

/-- One row is compared (R522, R523). -/
def State.compareSets (s : State) (a b : DigestSet) : State :=
  let t := s.twn
  let diffM := a.mtx != b.mtx
  let maskDiff (c : Nat) : Bool := a.masks.getD c 0 != b.masks.getD c 0
  let ages : Table Nat := (addrs 0 1 17).foldl (fun m c =>
    m.set (fun _ => 64) c (if (if c = 16 then diffM else maskDiff c) then 0 else min 64 (t.age c + 1))) t.stitchAge
  let t1 := { t with stitchAge := ages }
  let differ := (addrs 0 1 16).filter (fun c => a.digests.getD c 0 != b.digests.getD c 0)
  let excused (c : Nat) : Bool := decide (t1.age c < 64) || decide (t1.age 16 < 64)
  let bad := differ.filter (fun c => !excused c)
  let s1 := s.setTwn { t1 with divAge := if bad.isEmpty then min 1024 (t.divAge + 1) else 0,
                               divAgeIn := if bad.isEmpty then min 64 (t.divAgeIn + 1) else 0 }
  let s2 := if differ.any excused then s1.count (ctrTwn 2) else s1
  let s3 := if bad.isEmpty then s2 else s2.count (ctrTwn 1)
  let s4 := if !bad.isEmpty && decide (64 ≤ t.divAgeIn) then
      s3.raise 227 (bad.foldl (fun m c => m + 2 ^ c) 0 + 65536 * diffM.toNat) else s3
  s4.flag Fld.TWN_STAT_DIV (decide (s4.twn.divAge < 1024))

/-- The row tick's comparison: own digests two rows old against the partner's, then the row's own digests are kept (R521). -/
def State.compareRow (s : State) : State :=
  let t := s.twn
  let s1 := match t.own.getD 1 ⟨0, [], [], false⟩ with
    | a =>
      if s.twinState = 4 ∧ 2 ≤ t.own.length ∧ ¬ s.disturbed then
        match t.partner.find? (fun b => b.row == a.row) with
        | some b => s.compareSets a b
        | none => s.count (ctrTwn 3)
      else s
  s1.setTwn { s1.twn with own := (s.ownDigests :: t.own).take 2 }

end Sys2Proof.Machine
end

