-- ==== Sys2Proof/Machine/Amp.lean ====
section
/-! DEFINITION. The power stage (R389 to R418): the words of the main die, source selection, delay line and gains on the supply
die, channel states, protections and the tracking boost's target. -/

namespace Sys2Proof.Machine

def State.setAmp (s : State) (a : AmpS) : State := { s with amp := a }

def State.ampCh (s : State) (c : Nat) : AmpCh := s.amp.ch.get (fun _ => ampChReset) c

def State.setAmpCh (s : State) (c : Nat) (x : AmpCh) : State :=
  { s with amp := { s.amp with ch := s.amp.ch.set (fun _ => ampChReset) c x } }

def State.modAmpCh (s : State) (c : Nat) (f : AmpCh → AmpCh) : State := s.setAmpCh c (f (s.ampCh c))

/-- STATE of a channel, codes of R412: 0 OFF, 1 PRECHG, 2 START, 3 RUN, 4 STOPPING, 5 TRIPPED, 6 RETRY, 7 LATCHED,
8 BUSLOW. -/
def State.chState (s : State) (c : Nat) : Nat := s.get (Fld.PWR_CH_STAT_STATE c)

def State.setChState (s : State) (c st : Nat) : State := s.put (Fld.PWR_CH_STAT_STATE c) st

/-- Channel counters by place: 0 TRIPS, 1 LATCHES, 2 HOLDROWS, 3 FADES, 4 SRCSW. -/
def ctrCh (c j : Nat) : Ctr := ⟨Reg.PWR_CH_CNT32 c j, ⟨Reg.PWR_CH_CNT_SAT c, j, j⟩⟩

/-- Counters of the power stage: 0 LIMIT_CNT, 1 BUSLOW_CNT, 2 XFCRC, 3 XFSYNC. -/
def ctrPwr (j : Nat) : Ctr := ⟨Reg.PWR_LIMIT_CNT + 4 * j, ⟨Reg.PWR_CNT_SAT, j, j⟩⟩

/-- An invalid setting found on the supply die: the event reaches the main die in an EVT flit (R22). -/
def State.supplyInvalid (s : State) (a : Nat) : State := s.supplyEvent (32 * groupOf a + 1) (a % 0x1000000)

/-- The eight channels. -/
def channels : List Nat := addrs 0 1 8

/-! ### Main die (R389, R395, R396) -/

/-- A word rounded to 24 bits, as a 24-bit number in two's complement and as a signed word. -/
def word24 (w : Word) : Word :=
  let v := roundDiv 0 8 w.toInt
  BitVec.ofInt 32 (max (-(2 ^ 23)) (min (2 ^ 23 - 1) v))

/-- A 24-bit field as a signed word. -/
def sext24 (n : Nat) : Word := BitVec.ofInt 32 (signedOf 24 (n % 2 ^ 24))

/-- The words of AMP or XFEED sinks for the row that starts, scaled in the bind-off of a media re-step (R316, R413). -/
def State.ampWords (s : State) (cls : Nat) : List Word :=
  let scale (w : Word) : Word := match (s.base s.media).restep with
    | .binding (some k) => let m := (s.row.rowIdx - k).toNat; if m ≤ 63 then scale64 w (63 - m) else 0
    | _ => w
  channels.map (fun c => word24 (scale (s.outWord cls c)))

/-- The cross-feed frame of the row (R396). -/
def State.xfeedBytes (s : State) : List Byte :=
  let mask := (channels.filter (fun c => (entrySlot (mapEntry s.activeMap 0x1A c)).isSome)).foldl (fun n c => n + 2 ^ c) 0
  let ws := (s.ampWords 0x1A).zip channels
  let body := beBytes s.row.rowIdx.toNat 4 ++ beBytes (s.reg Reg.TWN_CLAIM).toNat 4 ++
    beBytes (s.get Fld.ENG_PROFILE_STAT_FS_ACT * 16 + s.noClaim.toNat * 8) 1 ++ beBytes mask 1 ++
    (ws.map (fun p => beBytes (if mask.testBit p.2 then p.1.toNat % 2 ^ 24 else 0) 3)).flatten
  beBytes 0xF628B5C3 4 ++ body ++ beBytes (crcBytes 16 0x1021 0xFFFF body) 2 ++ List.replicate 24 0

/-- The power stage's part in the start of an output row on the main die: its words are taken, and the cross-feed frame
goes out. -/
def State.latchAmp (s : State) : State :=
  let s1 := s.setAmp { s.amp with words := s.ampWords 0x19, claimNow := s.reg Reg.TWN_CLAIM }
  if s.on Fld.PWR_XFO_CTL_EN && s.on Fld.CLK_STAT_MLOCK then s1.send (.xfeed s.xfeedBytes) else s1

/-! ### Cross-feed receiver (R397) -/

/-- A cross-feed frame: SYNC matches; CRC good. -/
def xfSync (b : List Byte) : Bool := beAt b 0 4 == 0xF628B5C3
def xfCrcGood (b : List Byte) : Bool := crcBytes 16 0x1021 0xFFFF (bytesAt b 4 34) == beAt b 38 2

/-- A frame that the receiver takes: the last valid frame follows it unless it carries NOCLAIM. -/
def State.takeXf (s : State) (b : List Byte) : State :=
  if (beAt b 12 1).testBit 3 then s
  else
    let ws := channels.map (fun c => sext24 (beAt b (14 + 3 * c) 3))
    let s1 := s.setAmp { s.amp with
      xf := some (BitVec.ofNat 32 (beAt b 4 4), BitVec.ofNat 32 (beAt b 8 4), beAt b 13 1, ws) }
    (s1.put Fld.PWR_XF_STAT_CHMASK (beAt b 13 1)).setReg Reg.PWR_XF_CLAIM (BitVec.ofNat 32 (beAt b 8 4))

/-- LOCK clears. -/
def State.xfUnlock (s : State) : State :=
  if s.on Fld.PWR_XF_STAT_LOCK then
    ((s.setAmp { s.amp with xfGood := 0, xfBad := 0 }).flag Fld.PWR_XF_STAT_LOCK false).supplyEvent 196 0
  else s.setAmp { s.amp with xfGood := 0 }

/-- A frame of 64 bytes at the receiver. -/
def State.receiveXf (s : State) (b : List Byte) : State :=
  let a := s.amp
  if s.on Fld.PWR_XF_STAT_LOCK then
    let rate := match a.rate with | some r => r == beAt b 12 1 / 16 | none => true
    let fail : Option Nat := if !xfSync b then some 3 else if !xfCrcGood b then some 2 else if !rate then some 3 else none
    match fail with
    | some j =>
      let s1 := (s.setAmp { a with xfBad := a.xfBad + 1 }).count (ctrPwr j)
      if 3 ≤ a.xfBad then s1.xfUnlock else s1
    | none => (s.setAmp { a with xfBad := 0 }).takeXf b
  else if xfSync b && xfCrcGood b then
    (if 1 ≤ a.xfGood then ((s.setAmp { a with xfGood := 0, xfBad := 0 }).flag Fld.PWR_XF_STAT_LOCK true).takeXf b
     else s.setAmp { a with xfGood := 1 })
  else s.setAmp { a with xfGood := 0 }

/-! ### Bus, rail and boost (R403 to R407, R539 to R541) -/

/-- Does nothing keep the boost and the channels stopped? -/
def State.busOk (s : State) : Bool :=
  !s.amp.busLow && !s.amp.railOv && !s.amp.otemp && !s.on Fld.SUP_RAIL_STAT_OV && !s.on Fld.SUP_RAIL_STAT_PFW

/-- BSTATE follows the conditions. -/
def State.showBoost (s : State) : State :=
  let a := s.amp
  s.put Fld.PWR_STAT_BSTATE (if a.otemp then 5 else if a.railOv then 4 else if a.busLow then 3
    else if !s.busOk || !s.on Fld.PWR_CTL_BOOSTEN then 0 else if a.short then 2 else 1)

/-- The boost stops, and every channel in one of these states enters BUSLOW: RUN, START and RETRY on a low bus (R406), PRECHG and
STOPPING too, so every channel whose switches are on, in a protection (R407; log entry 93). -/
def State.stopChannels (s : State) (states : List Nat) : State :=
  (channels.foldl (fun s c => if states.contains (s.chState c) then s.setChState c 8 else s) s).showBoost

/-- A channel enters START with an attenuation in dB. -/
def State.startCh (s : State) (c att : Nat) : State :=
  (s.modAmpCh c (fun x => { x with ramp := 0, base := 64, att := att, retryDue := false, limRun := 0 })).setChState c 2

/-- Channels restart once no condition stops them (R406, R413). -/
def State.restartChannels (s : State) : State :=
  if s.busOk then
    (channels.foldl (fun s c =>
      if s.chState c = 8 then s.startCh c 0
      else if s.chState c = 5 ∧ (s.ampCh c).retryDue then s.startCh c 20
      else s) s).showBoost
  else s.showBoost

/-! ### Channel commands and trips (R408 to R412) -/

/-- Does a loop calibration run on the channel (R604)? -/
def State.calibrating (s : State) (c : Nat) : Bool := s.swt.fg == some (1, c)

/-- CH_CMD (R412): 1 ENABLE, 2 DISABLE, 3 CLEAR. -/
def State.chCommand (s : State) (c op : Nat) : State :=
  let st := s.chState c
  if op = 0 then s
  else if op = 1 ∧ st = 0 ∧ !s.calibrating c then s.setChState c 1
  else if op = 3 ∧ st = 7 then s.setChState c 0
  else if op = 2 ∧ st = 4 then s
  else if op = 2 ∧ (st = 2 ∨ st = 3 ∨ st = 6) then
    (s.modAmpCh c (fun x => { x with base := if st = 2 then min 64 x.ramp else 64, ramp := 0 })).setChState c 4
  else if op = 2 ∧ st ≠ 0 ∧ st ≠ 7 then (s.modAmpCh c (fun x => { x with retryDue := false })).setChState c 0
  else s.supplyInvalid (Reg.PWR_CH_CMD c)

/-- Does the channel switch (R412)? -/
def State.switching (s : State) (c : Nat) : Bool :=
  s.chState c == 2 || s.chState c == 3 || s.chState c == 4 || s.chState c == 6

/-- A trip at a time in microseconds (R409, R410); a calibrated channel trips too, and its calibration fails (R611). -/
def State.tripCh (s : State) (c us : Nat) : State :=
  let x := s.ampCh c
  let ts := us :: x.trips.filter (fun t => decide (us < t + 10000000))
  let s1 := ((s.setAmpCh c { x with trips := ts, limRun := 0, retryDue := false }).count (ctrCh c 0)).supplyEvent 201 c
  let s2 := s1.put (Fld.PWR_CH_STAT_TRIPWIN c) (min 2 ts.length)
  let s3 := if s.calibrating c then s2.endForeground 2 else s2
  if 3 ≤ ts.length then ((s3.setChState c 7).count (ctrCh c 1)).supplyEvent 202 c else s3.setChState c 5

/-! ### Rows on the supply die (R389 to R394, R403) -/

/-- 10^(-1/200) in units of 2^-96. -/
def tenthDb : Nat := 78321245237458887262010353259

/-- A gain of -a/10 dB in units of 2^-31, rounded to the nearest. -/
def gainDb (a : Nat) : Nat := (tenthDb ^ a * 2 ^ 32 / 2 ^ (96 * a) + 1) / 2

/-- The channel gain and the limiter gain on a word (R389 step 5, R412). -/
def State.gainWord (s : State) (c : Nat) (w : Word) : Int :=
  let x := s.ampCh c
  let st := s.chState c
  let r := if st = 2 then 64 * min 64 (x.ramp + 1) else if st = 4 then x.base * (63 - min 63 x.ramp) else 4096
  let att := if st = 2 ∨ st = 4 ∨ st = 6 then x.att else 0
  let v := if att = 0 then roundDiv 0 12 (w.toInt * r) else roundDiv 0 43 (w.toInt * (r * gainDb (10 * att)))
  roundDiv 0 31 (v * s.amp.glim)

/-- LOOKAHEAD. -/
def State.lookahead (s : State) : Nat := s.get Fld.PWR_CTL_LOOKAHEAD

/-- The voltage of a sample in microvolts (R389 step 6). -/
def State.intendedOf (s : State) (c : Nat) (v : Int) : Int := roundDiv 0 23 (v * s.get (Fld.PWR_CH_CFG_VFS c) * 100000)

/-- The depth of modulation in 2^-23 of a rail in mV (R399): the corrections apply with CH_CORRCFG.EN, the feed-forward divides by
the rail, and what exceeds the rail is clipped (R405). -/
def State.depthOf (s : State) (c : Nat) (uv vrail : Int) : Int :=
  let v := if s.on (Fld.PWR_CH_CORRCFG_EN c) then
      roundDiv 0 15 (uv * (2 ^ 15 + s.getS (Fld.PWR_CH_CORR_GAIN c))) + 1000 * s.getS (Fld.PWR_CH_CORR_OFFSET c)
    else uv
  max (-(2 ^ 23)) (min (2 ^ 23) ((v * 2 ^ 23).fdiv (1000 * max 1 vrail)))

/-- A channel plays the row at the modulator, with the rail in mV, and its ramp goes on. -/
def State.playCh (s : State) (c : Nat) (vrail : Int) : State :=
  let w := (s.ampCh c).line.getD s.lookahead 0
  if s.switching c && !s.calibrating c then
    let v := s.gainWord c w
    let uv := s.intendedOf c v
    (s.send (.modulate c v (s.depthOf c uv vrail) (10 * s.get (Fld.PWR_CH_CFG_IDLEF c)) (s.get (Fld.PWR_CH_CFG_DEADT c)))).modAmpCh c
      (fun x => { x with ramp := if s.chState c = 2 ∨ s.chState c = 4 then min 64 (x.ramp + 1) else x.ramp, intended := uv })
  else s.modAmpCh c (fun x => { x with intended := 0 })

/-- A word enters the delay line. -/
def State.pushCh (s : State) (c : Nat) (w : Word) : State := s.modAmpCh c (fun x => { x with line := (w :: x.line).take 65 })

/-- CH_STAT and CH_LATCH follow the claim state. -/
def State.showCh (s : State) (c : Nat) : State :=
  let k := (s.ampCh c).claim
  ((((s.put (Fld.PWR_CH_STAT_SRC c) k.src).flag (Fld.PWR_CH_STAT_FADING c) k.fading).flag (Fld.PWR_CH_STAT_HELD c)
    (decide (0 < k.held))).put (Fld.PWR_CH_STAT_HELDROWS c) (min 255 k.held)).setReg (Reg.PWR_CH_LATCH c) (k.lc.getD 0)

/-- Source selection of a channel for a row (R394). -/
def State.selectCh (s : State) (c : Nat) (a b : Option (Word × List Word)) : State :=
  let r := (s.ampCh c).claim.row a b
  let s1 := (s.modAmpCh c (fun x => { x with claim := r.1 })).showCh c
  let s2 := if r.2.switched then (s1.count (ctrCh c 4)).supplyEvent 194 (c + 256 * r.1.src) else s1
  let s3 := if r.2.held then s2.count (ctrCh c 2) else s2
  let s4 := if r.2.faded then (s3.count (ctrCh c 3)).supplyEvent 195 c else s3
  s4.pushCh c (r.2.words.getD 0 0)

/-- Rows stop being counted (R393). -/
def State.stopCounting (s : State) : State :=
  channels.foldl (fun s c =>
    let k := (s.ampCh c).claim
    let s1 := (s.modAmpCh c (fun x => { x with claim := { claimReset with cleared := true } })).showCh c
    if k.lc.isSome then (s1.count (ctrCh c 3)).supplyEvent 195 c else s1)
    (s.setAmp { s.amp with expect := none })

/-- Is row `x` the row of the sources received? -/
def AmpS.localRow (a : AmpS) : Option (Word × Word × List Word) :=
  match a.rowFlit, a.lo, a.hi with
  | some r, some l, some h => some (r.1, r.2, l ++ h)
  | _, _, _ => none

/-- The cross-feed frame received, with XFEN (R392). -/
def State.xfRow (s : State) : Option (Word × Word × Nat × List Word) := if s.on Fld.PWR_CTL_XFEN then s.amp.xf else none

/-- The row that the supply die decides now: the one expected, or one that a valid source brings (R393). -/
def State.supplyRow (s : State) : Option Word :=
  match s.amp.expect with
  | some x => some x
  | none => match s.amp.localRow, s.xfRow with
    | some l, _ => some l.1
    | none, some f => some f.1
    | none, none => none

/-- 28,224,000, of which every sample rate is a divisor: voltages of R403 are held in units of V / (20 * 2^23 * 28,224,000), in
which the steps of a row are whole. -/
def railBase : Nat := 28224000

/-- Millivolts in those units. -/
def railUnits (mv : Nat) : Nat := mv * 20 * 2 ^ 23 * railBase / 1000

/-- Envelope of a row: accepted words of the channels not in OFF or LATCHED. -/
def State.envelope (s : State) (i : Nat) : Nat :=
  channels.foldl (fun m c =>
    if s.chState c = 0 ∨ s.chState c = 7 then m
    else max m (((s.ampCh c).line.getD i 0).toInt.natAbs * s.get (Fld.PWR_CH_CFG_VFS c) * 2 * railBase)) 0

/-- RISE over a row, and the fall of 10 V/ms over a row. -/
def State.railRise (s : State) : Nat := s.get Fld.PWR_BOOST_SLEW_RISE * 2000000 * 2 ^ 23 * (railBase / s.fs)
def State.railFall (s : State) : Nat := 200000 * 2 ^ 23 * (railBase / s.fs)

/-- The boost's target of R403 for a bus voltage in mV, and the envelope held. -/
def State.boostTarget (s : State) (vbus : Nat) : Nat × Nat :=
  let u := 2 ^ 23 * railBase
  let n := s.lookahead
  let t : Nat × Nat := if 0 < n then
      ((addrs 0 1 (n + 1)).foldl (fun m d => max m (s.envelope (n - d) + s.get Fld.PWR_BOOST_CFG_HEAD * 5 * u - s.railRise * d)) 0,
        s.amp.hist)
    else
      let h := max (s.envelope 0) (s.amp.hist - s.railFall)
      (h + s.get Fld.PWR_BOOST_CFG_HEAD0 * 5 * u, h)
  let low := max (s.get Fld.PWR_BOOST_CFG_RAILMIN * 10 * u) (railUnits (vbus + 3000))
  (min (max t.1 low) (s.get Fld.PWR_BOOST_CFG_RAILMAX * 10 * u), t.2)

/-- The boost's part in a row (R403): while BOOSTEN is 1 and the bus is at 18 V or above it regulates the rail, which rises by RISE
and falls by 10 V/ms at most; otherwise the rail is what it is measured to be. -/
def State.boostRow (s : State) (vbus vrail : Nat) : State :=
  if s.on Fld.PWR_CTL_BOOSTEN && s.busOk && decide (18000 ≤ vbus) then
    let t := s.boostTarget vbus
    let rail := min (s.amp.rail + s.railRise) (max (s.amp.rail - s.railFall) t.1)
    (s.setAmp { s.amp with hist := t.2, target := t.1, rail := rail }).send (.boost t.1 rail)
  else s.setAmp { s.amp with rail := railUnits vrail }

/-- The correction loop of a channel (R399, R400): each row gain and offset move, with a time constant of 100 ms, to where the
voltage measured against the one intended sends them, within their limits. -/
def State.correctCh (s : State) (c : Nat) (mv : Int) : State :=
  let x := s.ampCh c
  if s.chState c ≠ 3 ∨ 0 < x.claim.held ∨ x.claim.fading ∨ !s.on (Fld.PWR_CH_CORRCFG_EN c) then s
  else
    let v := s.get (Fld.PWR_CH_CFG_VFS c)
    let t := Config.correction c x.intended mv
    let move (acc aim : Int) (m : Nat) : Int :=
      max (-(m * 2 ^ 20 : Int)) (min (m * 2 ^ 20 : Int) (acc + ((aim * 2 ^ 20 - acc) * 10).tdiv s.fs))
    let g := move x.accGain t.1 1638
    let o := move x.accOff t.2 v
    let sat := decide (1638 * 2 ^ 20 ≤ g.natAbs) || decide (v * 2 ^ 20 ≤ o.natAbs)
    let s1 := (((s.setAmpCh c { x with accGain := g, accOff := o }).putS (Fld.PWR_CH_CORR_GAIN c) (g.tdiv (2 ^ 20))).putS
      (Fld.PWR_CH_CORR_OFFSET c) (o.tdiv (2 ^ 20))).flag (Fld.PWR_CH_STAT_CORRSAT c) sat
    if sat && !s.on (Fld.PWR_CH_STAT_CORRSAT c) then s1.supplyEvent 197 c else s1

/-- The limiter's attenuation in 0.1 dB of a gain in 2^-31. -/
def attOf (g : Nat) : Nat := if g < 2 ^ 31 then ((addrs 0 1 240).find? (fun a => decide (gainDb a ≤ g))).getD 240 else 0

/-- Is the limiter active (R405)? -/
def State.limiting (s : State) : Bool := s.amp.short || decide (s.amp.glim < 2 ^ 31)

/-- STAT.LIMIT and LIMATT follow the limiter; each entry counts and raises amp-sag-limit (R405). -/
def State.showLimit (s : State) : State :=
  let s1 := (s.put Fld.PWR_STAT_LIMATT (attOf s.amp.glim)).flag Fld.PWR_STAT_LIMIT s.limiting
  if s.limiting && !s.on Fld.PWR_STAT_LIMIT then (s1.count (ctrPwr 0)).supplyEvent 198 0 else s1

/-- The limiter gain over a row (R405): toward gt while the boost is short, else toward 1; 1 ms falling and 200 ms rising, not
below -24 dB. -/
def State.limitRow (s : State) (vrail : Nat) : State :=
  let env := s.envelope s.lookahead
  let top := railUnits (vrail - 3000)
  let gt := if s.amp.short ∧ top < env then 2 ^ 31 * top / env else 2 ^ 31
  let g := s.amp.glim
  let g1 := if gt < g then max gt (g - ((g - gt) * 1000 + s.fs - 1) / s.fs) else min gt (g + ((gt - g) * 5 + s.fs - 1) / s.fs)
  (s.setAmp { s.amp with glim := max (gainDb 240) g1 }).showLimit

/-- Source selection of every channel for row `x`, from what the receivers hold (R392 to R394). -/
def State.selectRow (s : State) (a : AmpS) (xf : Option (Word × Word × Nat × List Word)) (x : Word) : State :=
  let l : Option (Word × Word × List Word) := a.localRow.filter (fun r => r.1 == x)
  let f : Option (Word × Word × Nat × List Word) := xf.filter (fun r => r.1 == x)
  let one (s : State) (c : Nat) : State := s.selectCh c (l.map (fun r => (r.2.1, [r.2.2.getD c 0])))
    ((f.filter (fun r => r.2.2.1.testBit c)).map (fun r => (r.2.1, [r.2.2.2.getD c 0])))
  let t := channels.foldl one s
  let quiet := if l.isSome || f.isSome then 0 else a.quiet + 1
  let t1 := t.setAmp { t.amp with expect := some (x + 1), quiet := quiet }
  if 64 ≤ quiet then t1.stopCounting else t1

/-- What the sense converter has measured over a row: bus and rail in mV, and for each channel the output voltage in mV and the
current in mA; die temperature in 1/16 degrees. -/
structure AmpSense where
  vbus : Nat
  vrail : Nat
  volts : List Word
  amps : List Word
  temp : Word
  deriving DecidableEq, Repr

/-- A SENSE flit of kind `k` for a channel and a row (R22). -/
def State.sendSense (s : State) (row : Word) (k ch : Nat) (value : Word) : State :=
  s.sendFlit false 4 (ch * 2 ^ 93 + k * 2 ^ 90 + value.toNat * 2 ^ 32 + row.toNat)

/-- The SENSE flits of a row, in their order (R415): the rail, the channels' voltages in even rows and currents in odd rows, bus and
temperature in every eighth row. -/
def State.senseRow (s : State) (row : Word) (m : AmpSense) : State :=
  let s1 := s.sendSense row 2 0 (BitVec.ofNat 32 m.vrail)
  let odd := row.getLsbD 0
  let s2 := channels.foldl (fun s c => s.sendSense row odd.toNat c ((if odd then m.amps else m.volts).getD c 0)) s1
  if row.toNat % 8 = 0 then (s2.sendSense row 3 0 (BitVec.ofNat 32 m.vbus)).sendSense row 4 0 m.temp else s2

/-- One row on the supply die, with what was measured over the row before it: SENSE flits of that row, sources, selection, delay
line, correction, limiter, modulators, boost (R392 to R394, R399, R403, R405, R415). -/
def State.ampRow (s : State) (m : AmpSense) : State :=
  let a := s.amp
  let sensed := match a.expect with
    | some x => s.senseRow (x - 1) m
    | none => s
  let s0 := if a.rowFlit.isSome && !(a.lo.isSome && a.hi.isSome) then sensed.linkErr false (!s.boot.causes.isEmpty) 2 else sensed
  let s1 := match s.supplyRow with
    | none => channels.foldl (fun (s : State) c => s.pushCh c 0) s0
    | some x => s0.selectRow a s.xfRow x
  let s2 := s1.setAmp { s1.amp with rowFlit := none, lo := none, hi := none, xf := none }
  let s3 := (channels.foldl (fun (s : State) c => s.correctCh c (m.volts.getD c 0).toInt) s2).limitRow m.vrail
  (channels.foldl (fun (s : State) c => s.playCh c m.vrail) s3).boostRow m.vbus m.vrail

end Sys2Proof.Machine
end

