-- ==== Sys2Proof/Machine/Supply.lean ====
section
/-! DEFINITION. The supply die as the main die reaches it: register writes and reads through the tunnel (R416), the sag detector
(R544 to R547), and the reception of die-link flits (R21 to R25, R415, R498, R617). -/

namespace Sys2Proof.Machine

/-- Is the main die held in full reset (R570)? -/
def State.inReset (s : State) : Bool := !s.boot.causes.isEmpty

/-- Does the register at `a` lie on the supply die (R416)? -/
def onSupply (a : Nat) : Bool :=
  (decide (0x460000 ≤ a) && decide (a < 0x468000)) || (decide (0x60000 ≤ a) && decide (a < 0x68000))

/-- Counters of supply management: 0 SAG_CNT, 1 PFW_CNT, 2 OV_CNT, 3 RAILFLT_CNT. -/
def ctrSup (j : Nat) : Ctr := ⟨Reg.SUP_SAG_CNT + 4 * j, ⟨Reg.SUP_CNT_SAT, j, j⟩⟩

/-! ### Sag (R130, R545 to R547) -/

/-- SAG asserts: the gauge moves to the sag step unless it is there or above (R130, R546). -/
def State.assertSag (s : State) (ns : Nat) : State :=
  let step := min 15 (s.lowStep + s.get Fld.SUP_SAGDEPTH_DEPTH)
  let s1 := s.setRow { s.row with sag := true, sagStep := step, recovering := false }
  if s.row.gauge < step then s1.setGauge step ns else s1

/-- SAG deasserts: the gauge recovers (R130). -/
def State.deassertSag (s : State) : State :=
  let s1 := s.flag Fld.SUP_RAIL_STAT_SAG false
  s1.setRow { s1.row with sag := false, recovering := decide (s1.lowStep < s1.row.gauge) }

/-! ### Register writes on the supply die -/

/-- Channel of a channel register, and its place in the channel's window. -/
def chanOf (a : Nat) : Option (Nat × Nat) :=
  if 0x461000 ≤ a ∧ a < 0x461800 then some ((a - 0x461000) / 0x100, a % 0x100) else none

/-- The fields of a supply-die register take a word; reserved codes are reported (R13). -/
def State.supplyFields (s : State) (a : Nat) (w : Word) : State :=
  let s1 := s.writeFields a w
  if badCodes a w then s1.supplyInvalid a else s1

/-- May the channel's configuration be written (CH_CFG, CH_ILIM)? -/
def State.chIdle (s : State) (c : Nat) : Bool := s.chState c == 0 || s.chState c == 7

/-- RAILMIN from 0x24 to RAILMAX, and RAILMAX from 0x3C to 0xC8: they are judged together (R13). -/
def boostCfgOk (w : Word) : Bool :=
  let lo := bitsOf w 23 16
  let hi := bitsOf w 31 24
  decide (0x24 ≤ lo) && decide (lo ≤ hi) && decide (0x3C ≤ hi) && decide (hi ≤ 0xC8)

/-- A write of a supply-die register by its rules (R404, R412, CNT_SNAP of R14, R545). -/
def State.supplyWrite (s : State) (a : Nat) (w : Word) : State :=
  if a = Reg.PWR_CTL then
    let l := bitsOf w 23 16
    let change := decide (l ≤ 0x40) && l != s.lookahead
    if change && !channels.all s.chIdle then
      ((s.writeFields a (keepBits (fieldBits [Fld.PWR_CTL_LOOKAHEAD]) (s.reg a) w)).supplyInvalid a).showBoost
    else
      let s1 := (s.supplyFields a w).showBoost
      if change then channels.foldl (fun s c => s.modAmpCh c (fun x => { x with line := [] })) s1 else s1
  else if a = Reg.PWR_BOOST_CFG then
    (if boostCfgOk w then s.supplyFields a w
     else (s.writeFields a (keepBits (fieldBits [Fld.PWR_BOOST_CFG_RAILMAX, Fld.PWR_BOOST_CFG_RAILMIN]) (s.reg a) w)).supplyInvalid a)
  else if a = Reg.PWR_CNT_SNAP then s.capture32 (addrs Reg.PWR_LIMIT_CNT 4 4)
  else if a = Reg.SUP_CNT_SNAP then s.capture32 (addrs Reg.SUP_SAG_CNT 4 4)
  else if a = Reg.SUP_SAG_CFG then
    let s1 := s.supplyFields a w
    if s1.on Fld.SUP_SAG_CFG_EN || !s1.on Fld.SUP_RAIL_STAT_SAG then s1 else s1.deassertSag
  else match chanOf a with
    | some (c, 0x00) => if s.chIdle c then s.supplyFields a w else s.supplyInvalid a
    | some (c, 0x04) => if s.chIdle c then s.supplyFields a w else s.supplyInvalid a
    | some (c, 0x08) => s.chCommand c (w.toNat % 4)
    | some (c, 0x40) => (s.capture64 [Reg.PWR_CH_LIMCYC_LO c]).capture32 (addrs (Reg.PWR_CH_CNT32 c 0) 4 5)
    | _ => s.supplyFields a w

/-! ### Flits -/

/-- A flit payload that its TYPE does not allow (R22). -/
def State.badPayload (s : State) (onMain : Bool) : State := s.linkErr onMain s.inReset 1

/-- A SENSE flit: its value becomes the latest of its kind (R415). -/
def State.takeSense (s : State) (p : Nat) : State :=
  let w := BitVec.ofNat 32 (payBits p 63 32)
  let ch := payBits p 95 93
  match payBits p 92 90 with
  | 0 => s.setReg (Reg.PWR_TLM ch) w
  | 1 => s.setReg (Reg.PWR_TLM (8 + ch)) w
  | 2 => (s.setReg (Reg.PWR_TLM 16) w).setReg (Reg.PWR_TLM 19) (BitVec.ofNat 32 (payBits p 31 0))
  | 3 => s.setReg (Reg.PWR_TLM 17) w
  | 4 => s.setReg (Reg.PWR_TLM 18) w
  | _ => s.badPayload true

/-- REG_RSP payload: tag, status, data. -/
def rspPayload (tag status data : Nat) : Nat := tag % 256 * 2 ^ 88 + status * 2 ^ 80 + data % 2 ^ 32 * 2 ^ 32

/-- A tunnelled write at the supply die, answered (R416). -/
def State.takeRegWr (s : State) (p : Nat) : State :=
  let a := payBits p 87 64
  let tag := payBits p 95 88
  if onSupply a && (regDesc a).isSome then
    (s.supplyWrite a (BitVec.ofNat 32 (payBits p 63 32))).queueFlit false 7 (rspPayload tag 0 0)
  else s.queueFlit false 7 (rspPayload tag 1 0)

/-- A register of the supply die as a read returns it: VMEAS and ICORE are measured now, and the specification gives no value
for a measurement (log entry 4). -/
def State.supplyView (s : State) (a : Nat) : Nat :=
  let f := (Config.freeWord s.free).toNat % 2 ^ 16
  let w := s.reg a
  if a = Reg.SUP_VCORE then (withBits w 31 16 f).toNat
  else if a = Reg.SUP_CORE_ACT then (withBits w 15 0 f).toNat
  else w.toNat

/-- A tunnelled read at the supply die, answered. -/
def State.takeRegRd (s : State) (p : Nat) : State :=
  let a := payBits p 87 64
  let tag := payBits p 95 88
  if onSupply a && (regDesc a).isSome then s.bumpFree.queueFlit false 7 (rspPayload tag 0 (s.supplyView a))
  else s.queueFlit false 7 (rspPayload tag 1 0)

/-- The answer to a tunnelled access (R416); one that nothing waits for is discarded. -/
def State.takeRegRsp (s : State) (p : Nat) : State :=
  let tag := payBits p 95 88
  let st := payBits p 87 80
  if 1 < st then s.badPayload true
  else
    match s.amp.tunnels.find? (fun t => t.tag == tag) with
    | some t =>
      let s1 := s.setAmp { s.amp with tunnels := s.amp.tunnels.filter (fun t => t.tag != tag) }
      if t.wr then (if st = 1 then s1.invalid t.addr else s1)
      else s1.send (.answer (if st = 1 then 0 else BitVec.ofNat 32 (payBits p 63 32)))
    | none => s

/-- A mailbox word, or the permission for the next one (R498). -/
def State.takeMbxFlit (s : State) (onMain : Bool) (p : Nat) : State :=
  let n := payBits p 95 90
  if onMain then
    (if n < 56 ∨ (s.mbx n).full then s.badPayload true else (s.mbxWrite n (BitVec.ofNat 32 (payBits p 63 32)) 4).1)
  else if n < 56 ∨ payBits p 63 32 ≠ 0 then s.badPayload false
  else { s with evt := { s.evt with supMay := s.evt.supMay ||| BitVec.ofNat 8 (2 ^ (n - 56)) } }

/-- An event of the supply die; number 205 carries its link errors (R617). -/
def State.takeEvtFlit (s : State) (p : Nat) : State :=
  let n := payBits p 95 88
  let info := payBits p 63 32
  if n = 205 then (addrs 0 1 3).foldl (fun s i => if info.testBit i then s.countLinkErr i else s) s
  else if eventListed n && !eventLevel n then s.raise n info
  else s.badPayload true

/-- A sequenced flit that was accepted in order. -/
def State.takeSeqFlit (s : State) (onMain : Bool) (typ p : Nat) : State :=
  match typ with
  | 5 => if onMain then s.badPayload onMain else s.takeRegWr p
  | 6 => if onMain then s.badPayload onMain else s.takeRegRd p
  | 7 => if onMain then s.takeRegRsp p else s.badPayload onMain
  | 8 => s.takeMbxFlit onMain p
  | _ => if onMain then s.takeEvtFlit p else s.badPayload onMain

/-- A flit of types 5 to 9 by its SEQ (R24): the next one is accepted, a duplicate is acknowledged again, any other is
answered with NAK, once until the expected one arrives. -/
def State.acceptSeq (s : State) (onMain : Bool) (typ seq p : Nat) : State :=
  let e := s.linkEnd onMain
  let d := (e.expSeq + 16 - seq) % 16
  if d = 0 then (s.setLinkEnd onMain { e with expSeq := (e.expSeq + 1) % 16, nakSent := false }).takeSeqFlit onMain typ p
  else if d ≤ 8 then s.sendFlit onMain 0 0
  else if e.nakSent then s
  else s.sendNak onMain

/-- An unsequenced flit. -/
def State.takePlain (s : State) (onMain : Bool) (typ p : Nat) : State :=
  let words (p : Nat) : List Word := (addrs 0 1 4).map (fun i => sext24 (p / 2 ^ (24 * (3 - i))))
  match typ with
  | 0 => if p = 0 then s else s.badPayload onMain
  | 1 =>
    if onMain then s.badPayload onMain
    else s.setAmp { s.amp with
      rowFlit := some (BitVec.ofNat 32 (payBits p 95 64), BitVec.ofNat 32 (payBits p 63 32)), lo := none, hi := none,
      rate := some (s.get Fld.ENG_PROFILE_STAT_FS_ACT) }
  | 2 => if onMain then s.badPayload onMain else s.setAmp { s.amp with lo := some (words p) }
  | 3 => if onMain then s.badPayload onMain else s.setAmp { s.amp with hi := some (words p) }
  | 4 => if onMain then s.takeSense p else s.badPayload onMain
  | 10 => s.replay onMain (payBits p 95 92)
  | _ => s.badPayload onMain

/-- A flit arrives at an end of the link. The main die receives nothing while it is held in full reset. -/
def State.receiveFlit (s : State) (onMain : Bool) (f : BitVec 128) : State :=
  if onMain && s.inReset then s
  else if !flitGood f then (s.linkErr onMain s.inReset 0).sendNak onMain
  else
    let s1 := s.takeAck onMain (flitAck f) (flitCredit f)
    let t := flitType f
    if 5 ≤ t ∧ t ≤ 9 then s1.acceptSeq onMain t (flitSeq f) (flitPayload f) else s1.takePlain onMain t (flitPayload f)

end Sys2Proof.Machine
end

