-- ==== Sys2Proof/Machine/AmpExec.lean ====
section
/-! DEFINITION. Meanings of the die-link flits and of the power stage's commands (R21 to R25, R389 to R418). -/

namespace Sys2Proof.Machine

/-! ### Die link -/

/-- MODULATION_FLIT_SEND: ROW, MOD_LO and MOD_HI of the row (R25). -/
def execModulationFlitSend (s : State) : Answer :=
  let ws := s.amp.words
  let half (o : Nat) : Nat :=
    (addrs 0 1 4).foldl (fun n i => n + (ws.getD (o + i) 0).toNat % 2 ^ 24 * 2 ^ (24 * (3 - i))) 0
  .next (if s.row.ticks && !s.inReset then
    ((s.sendFlit true 1 (s.row.rowIdx.toNat * 2 ^ 64 + s.amp.claimNow.toNat * 2 ^ 32)).sendFlit true 2 (half 0)).sendFlit true 3 (half 4)
  else s)

/-- IDLE_FLIT, at an end of the link. -/
def execIdleFlit (toMain : Bool) (flit : BitVec 128) (s : State) : Answer := .next (s.receiveFlit toMain flit)

/-- ROW_FLIT. -/
def execRowFlit (flit : BitVec 128) (s : State) : Answer := .next (s.receiveFlit false flit)

/-- MOD_LO_FLIT. -/
def execModLoFlit (flit : BitVec 128) (s : State) : Answer := .next (s.receiveFlit false flit)

/-- MOD_HI_FLIT. -/
def execModHiFlit (flit : BitVec 128) (s : State) : Answer := .next (s.receiveFlit false flit)

/-- SENSE_FLIT. -/
def execSenseFlit (flit : BitVec 128) (s : State) : Answer := .next (s.receiveFlit true flit)

/-- REG_WR_FLIT. -/
def execRegWrFlit (flit : BitVec 128) (s : State) : Answer := .next (s.receiveFlit false flit)

/-- REG_RD_FLIT. -/
def execRegRdFlit (flit : BitVec 128) (s : State) : Answer := .next (s.receiveFlit false flit)

/-- REG_RSP_FLIT. -/
def execRegRspFlit (flit : BitVec 128) (s : State) : Answer := .next (s.receiveFlit true flit)

/-- MBX_FLIT, at an end of the link. -/
def execMbxFlit (toMain : Bool) (flit : BitVec 128) (s : State) : Answer := .next (s.receiveFlit toMain flit)

/-- EVT_FLIT. -/
def execEvtFlit (flit : BitVec 128) (s : State) : Answer := .next (s.receiveFlit true flit)

/-- NAK_FLIT, at an end of the link. -/
def execNakFlit (toMain : Bool) (flit : BitVec 128) (s : State) : Answer := .next (s.receiveFlit toMain flit)

/-- A flit time of an end: the head of its queue once credit and the replay window allow it, else an IDLE flit, which carries
ACKSEQ and CREDIT (R24). The main die sends nothing in full reset. -/
def State.linkTurn (s : State) (onMain : Bool) : State :=
  if onMain && s.inReset then s
  else if (s.linkEnd onMain).queue.isEmpty || !(s.linkEnd onMain).maySend then s.sendFlit onMain 0 0
  else s.pumpLink onMain

/-- FLIT_CREDIT_SEND, at an end of the link. -/
def execFlitCreditSend (onMain : Bool) (s : State) : Answer := .next (s.linkTurn onMain)

/-! ### Tunnel (R416) -/

/-- An access to a supply-die register goes through the tunnel. -/
def State.tunnel (s : State) (write : Bool) (a : Nat) (w : Word) : State :=
  let tag := s.amp.nextTag
  let s1 := s.setAmp { s.amp with nextTag := (tag + 1) % 256, tunnels := s.amp.tunnels ++ [⟨tag, write, a⟩] }
  let p := tag * 2 ^ 88 + a * 2 ^ 64
  if write then s1.queueFlit true 5 (p + w.toNat * 2 ^ 32) else s1.queueFlit true 6 p

/-- TUNNEL_ACCESS to a supply-die register; other addresses are not tunnelled. -/
def execTunnelAccess (write : Bool) (addr : BitVec 24) (value : BitVec 32) (s : State) : Answer :=
  .next (if onSupply addr.toNat then s.tunnel write addr.toNat value else s)

/-- TUNNEL_TIMEOUT of the access with a tag. -/
def execTunnelTimeout (tag : BitVec 8) (s : State) : Answer :=
  match s.amp.tunnels.find? (fun t => t.tag == tag.toNat) with
  | some t =>
    let s1 := (s.setAmp { s.amp with tunnels := s.amp.tunnels.filter (fun x => x.tag != tag.toNat) }).raise 204 (t.addr % 0x10000)
    .next (if t.wr then s1 else s1.send (.answer 0xFFFFFFFF))
  | none => .next s

/-! ### Power stage -/

/-- XFEED_FRAME_RECEIVE: the 64 bytes of a frame. -/
def execXfeedFrameReceive (bytes : List (BitVec 8)) (s : State) : Answer := .next (s.receiveXf bytes)

/-- XFEED_CLOCK_LOSS. -/
def execXfeedClockLoss (s : State) : Answer := .next s.xfUnlock

/-- AMP_ROW_SELECT, with what the sense converter has measured over the row before: bus and rail in mV, the channels' output
voltages in mV and currents in mA, die temperature in 1/16 degrees. -/
def execAmpRowSelect (rails : RailSense) (sense : ChannelSense) (s : State) : Answer :=
  .next (s.ampRow ⟨rails.vbus.toNat, rails.vrail.toNat, sense.volts, sense.amps, sense.temp⟩)

/-- Is the boost short of its target (R405): for 20 us more than 3 V below it, or at its input current limit? -/
def State.shortfall (s : State) (mv us ma : Nat) : Bool :=
  s.on Fld.PWR_CTL_BOOSTEN && s.busOk &&
    ((decide (railUnits (mv + 3000) < s.amp.target) && decide (20 ≤ us)) || decide (s.get Fld.PWR_BOOST_SLEW_IINLIM * 250 ≤ ma))

/-- BOOST_SHORTFALL: the rail in mV, for how many microseconds it has stayed more than 3 V below the target, and the input current
in mA. -/
def execBoostShortfall (rail : BitVec 20) (draw : BoostDraw) (s : State) : Answer :=
  .next ((s.setAmp { s.amp with short := s.shortfall rail.toNat draw.us.toNat draw.ma.toNat }).showBoost).showLimit

/-- BUS_LOW. -/
def execBusLow (s : State) : Answer :=
  .next (if s.amp.busLow then s
  else (((s.setAmp { s.amp with busLow := true }).stopChannels [2, 3, 6]).count (ctrPwr 1)).supplyEvent 199 0)

/-- BUS_LOW_RECOVER. -/
def execBusLowRecover (s : State) : Answer := .next (s.setAmp { s.amp with busLow := false }).restartChannels

/-- RAIL_OVERVOLTAGE. -/
def execRailOvervoltage (s : State) : Answer :=
  .next (if s.amp.railOv then s
  else ((s.setAmp { s.amp with railOv := true }).stopChannels [1, 2, 3, 4, 6]).supplyEvent 200 4)

/-- OVER_TEMPERATURE. -/
def execOverTemperature (s : State) : Answer :=
  .next (if s.amp.otemp then s
  else ((s.setAmp { s.amp with otemp := true }).stopChannels [1, 2, 3, 4, 6]).supplyEvent 200 5)

/-- PROTECTION_RECOVER: of OTEMP, or of RAILOV. -/
def execProtectionRecover (temperature : Bool) (s : State) : Answer :=
  .next (if temperature then (s.setAmp { s.amp with otemp := false }).restartChannels
  else (s.setAmp { s.amp with railOv := false }).restartChannels)

/-- BOOTSTRAP_UNDERVOLTAGE of a channel, at a time in microseconds (R401, R407). -/
def execBootstrapUndervoltage (channel : Fin 8) (us : BitVec 64) (s : State) : Answer :=
  .next (if s.switching channel ∨ s.chState channel = 1 then s.tripCh channel us.toNat else s)

/-- CURRENT_LIMIT: a limited cycle of a channel; whether the cycle before it was not limited; time in microseconds. -/
def execCurrentLimit (channel : Fin 8) (fresh : Bool) (us : BitVec 64) (s : State) : Answer :=
  if s.switching channel ∨ s.calibrating channel then
    let n := if fresh then 1 else (s.ampCh channel).limRun + 1
    let s1 := (s.modAmpCh channel (fun x => { x with limRun := n })).count64 (Reg.PWR_CH_LIMCYC_LO channel) 1
    .next (if 8 ≤ n then s1.tripCh channel us.toNat else s1)
  else .next s

/-- TRIP_RETRY: 1 s in TRIPPED has passed; with the bus stopped the retry waits (R409, R413). -/
def execTripRetry (channel : Fin 8) (s : State) : Answer :=
  .next (if s.chState channel ≠ 5 then s
  else if s.busOk then
    (s.modAmpCh channel (fun x => { x with att := 20, limRun := 0 })).setChState channel 6
  else s.modAmpCh channel (fun x => { x with retryDue := true }))

/-- RETRY_GAIN_STEP. -/
def execRetryGainStep (channel : Fin 8) (s : State) : Answer :=
  if s.chState channel = 6 then
    let a := (s.ampCh channel).att - 1
    let s1 := s.modAmpCh channel (fun x => { x with att := a })
    .next (if a = 0 then s1.setChState channel 3 else s1)
  else .next s

/-- CH_ENABLE. -/
def execChEnable (channel : Fin 8) (s : State) : Answer := .next (s.chCommand channel 1)

/-- CH_DISABLE. -/
def execChDisable (channel : Fin 8) (s : State) : Answer := .next (s.chCommand channel 2)

/-- CH_CLEAR. -/
def execChClear (channel : Fin 8) (s : State) : Answer := .next (s.chCommand channel 3)

/-- PRECHG_END; with the bus stopped the channel waits in BUSLOW. -/
def execPrechgEnd (channel : Fin 8) (s : State) : Answer :=
  .next (if s.chState channel = 1 ∧ !s.calibrating channel then
    (if s.busOk then s.startCh channel 0 else s.setChState channel 8)
  else s)

/-- CHANNEL_RAMP_END: after START at an attenuation the channel goes on in RETRY (R413). -/
def execChannelRampEnd (channel : Fin 8) (s : State) : Answer :=
  let x := s.ampCh channel
  .next (if x.ramp < 64 then s
  else if s.chState channel = 2 then s.setChState channel (if x.att = 0 then 3 else 6)
  else if s.chState channel = 4 then s.setChState channel 0
  else s)

/-- IMPEDANCE_WINDOW: RMS output voltage in mV and current in mA (R414). -/
def execImpedanceWindow (channel : Fin 8) (mv ma : BitVec 32) (s : State) : Answer :=
  let c := channel.val
  let x := s.ampCh c
  if s.chState c ≠ 3 then .next s
  else if mv.toNat < s.get (Fld.PWR_CH_CFG_VFS c) then
    let n := x.zunused + 1
    let s1 := s.setAmpCh c { x with zunused := n }
    .next (if 10 ≤ n then s1.flag (Fld.PWR_CH_STAT_ZVALID c) false else s1)
  else
    let z := if ma.toNat = 0 then 0xFFFF else min 0xFFFF (mv.toNat * 100 / ma.toNat)
    let out := decide (z < s.get (Fld.PWR_CH_ZLIM_ZLO c)) || decide (s.get (Fld.PWR_CH_ZLIM_ZHI c) < z)
    let n := if out then min 4 (x.zbad + 1) else 0
    let s1 := ((s.setAmpCh c { x with zunused := 0, zbad := n }).put (Fld.PWR_CH_Z_ZEST c) z).flag (Fld.PWR_CH_STAT_ZVALID c) true
    .next (if n = 3 then s1.supplyEvent 203 c else s1)

/-- LOOKAHEAD_WRITE: a write of PWR.CTL at the supply die. -/
def execLookaheadWrite (value : BitVec 32) (s : State) : Answer := .next (s.supplyWrite Reg.PWR_CTL value)

end Sys2Proof.Machine
end

