-- ==== Sys2Proof/Machine/EngineExec.lean ====
section
/-! DEFINITION. One meaning per engine instruction: control, accumulation, vector and scalar instructions (R89 to R104,
R116). Each is issued through `State.issue`, which checks placement and bank, faults, and lets the cycles pass. -/

namespace Sys2Proof.Machine

/-! ### Control -/

/-- NOP: no effect (R116). -/
def execNop (core : Fin 128) (s : State) : Answer := .next (s.issueCore core true id)

/-- WAITROW: the row program ends and posts its page (R84, R66). -/
def execWaitrow (core : Fin 128) (s : State) : Answer :=
  .next (s.issue core true true false true (fun s => .done (s.postPage core) .seq 0))

/-- GIE E (R116). -/
def execGie (core : Fin 128) (e : Bool) (s : State) : Answer :=
  .next (s.issueCore core true (fun k => k.push 1 k.inBank1 (.ctrl 0x0B (if e then 1 else 0))))

/-- RETI: its issue cycle and the switch cycle pass, then bank 0 runs (R80, R116). -/
def execReti (core : Fin 128) (s : State) : Answer :=
  .next (s.issue core true false true true (fun s => .done ((s.afterIssue core true .seq 1).retiReturn core) .back 0))

/-! ### Accumulation -/

/-- MAC (R93). -/
def execMac (core : Fin 128) (ad : BitVec 3) (da db : BitVec 5) (bc : Bool) (k : BitVec 3) (z : Bool) (s : State) : Answer :=
  .next (s.issuePlain core (bc || k == 0) (fun s => s.macOp core ad.toNat da.toNat db.toNat bc k.toFin z false))

/-- MSU (R93). -/
def execMsu (core : Fin 128) (ad : BitVec 3) (da db : BitVec 5) (bc : Bool) (k : BitVec 3) (z : Bool) (s : State) : Answer :=
  .next (s.issuePlain core (bc || k == 0) (fun s => s.macOp core ad.toNat da.toNat db.toNat bc k.toFin z true))

/-- TAP (R94, R95). -/
def execTap (core : Fin 128) (ad : BitVec 3) (pn pc : BitVec 4) (ddir cv cdir neg z : Bool) (s : State) : Answer :=
  .next (s.issue core false true true (pn != pc)
    (fun s => s.tapOp core ad.toNat pn.toNat pc.toNat ddir cv cdir neg z))

/-- AADD (R96). -/
def execAadd (core : Fin 128) (ad : BitVec 3) (da : BitVec 5) (s : State) : Answer :=
  .next (s.issuePlain core true (fun s =>
    let v := bankD (s.core core).bank da.toNat
    s.accumulate core ad.toNat false (fun i => (vLane v i).toInt * 2 ^ 32)))

/-- ASUB (R96). -/
def execAsub (core : Fin 128) (ad : BitVec 3) (da : BitVec 5) (s : State) : Answer :=
  .next (s.issuePlain core true (fun s =>
    let v := bankD (s.core core).bank da.toNat
    s.accumulate core ad.toNat false (fun i => -((vLane v i).toInt * 2 ^ 32))))

/-- AMOV (R96). -/
def execAmov (core : Fin 128) (ad src : BitVec 3) (s : State) : Answer :=
  .next (s.issueCore core true (fun k => k.pushA k.inBank1 ad.toNat (bankA k.bank src.toNat)))

/-- AHSUM (R96). -/
def execAhsum (core : Fin 128) (ad src : BitVec 3) (s : State) : Answer :=
  .next (s.issuePlain core true (fun s =>
    let k := s.core core
    let b1 := k.inBank1
    let r := sat72 ((vList (bankA k.bank src.toNat)).foldl (fun x l => x + l.toInt) 0)
    (s.setCore core (k.pushA b1 ad.toNat { zeroA with l0 := r.1 })).stickySet core 3 b1 (if r.2 then flagAOV else 0)))

/-- EXT (R97). -/
def execExt (core : Fin 128) (dd : BitVec 5) (src : BitVec 3) (sc : BitVec 4) (c : Bool) (s : State) : Answer :=
  .next (s.issuePlain core (decide (sc.toNat ≤ 8)) (fun s =>
    let k := s.core core
    let s1 := s.vecResult core dd.toNat 3 (vMap (fun x : Acc => extract k.bank.cmode sc.toNat x.toInt) (bankA k.bank src.toNat))
    if c then s1.modCore core (fun k => k.push 3 k.inBank1 (.a src.toNat zeroA true)) else s1))

/-! ### Vector arithmetic (R98) -/

/-- VADD. -/
def execVadd (core : Fin 128) (dd da db : BitVec 5) (s : State) : Answer :=
  .next (s.issuePlain core true (fun s => s.valuQ core dd.toNat da.toNat db.toNat (fun x y => x + y)))

/-- VSUB. -/
def execVsub (core : Fin 128) (dd da db : BitVec 5) (s : State) : Answer :=
  .next (s.issuePlain core true (fun s => s.valuQ core dd.toNat da.toNat db.toNat (fun x y => x - y)))

/-- VADDW. -/
def execVaddw (core : Fin 128) (dd da db : BitVec 5) (s : State) : Answer :=
  .next (s.issueCore core true (fun k => k.valu2 dd.toNat da.toNat db.toNat (fun x y => x + y)))

/-- VSUBW. -/
def execVsubw (core : Fin 128) (dd da db : BitVec 5) (s : State) : Answer :=
  .next (s.issueCore core true (fun k => k.valu2 dd.toNat da.toNat db.toNat (fun x y => x - y)))

/-- VAND. -/
def execVand (core : Fin 128) (dd da db : BitVec 5) (s : State) : Answer :=
  .next (s.issueCore core true (fun k => k.valu2 dd.toNat da.toNat db.toNat (fun x y => x &&& y)))

/-- VOR. -/
def execVor (core : Fin 128) (dd da db : BitVec 5) (s : State) : Answer :=
  .next (s.issueCore core true (fun k => k.valu2 dd.toNat da.toNat db.toNat (fun x y => x ||| y)))

/-- VXOR. -/
def execVxor (core : Fin 128) (dd da db : BitVec 5) (s : State) : Answer :=
  .next (s.issueCore core true (fun k => k.valu2 dd.toNat da.toNat db.toNat (fun x y => x ^^^ y)))

/-- VANDN. -/
def execVandn (core : Fin 128) (dd da db : BitVec 5) (s : State) : Answer :=
  .next (s.issueCore core true (fun k => k.valu2 dd.toNat da.toNat db.toNat (fun x y => x &&& ~~~y)))

/-- VSHL. -/
def execVshl (core : Fin 128) (dd da : BitVec 5) (n : BitVec 5) (s : State) : Answer :=
  .next (s.issueCore core true (fun k => k.valu1 dd.toNat da.toNat (fun x => x <<< n.toNat)))

/-- VSHLS: the exact product with 2^IMM under qsat (R98, R99). -/
def execVshls (core : Fin 128) (dd da : BitVec 5) (n : BitVec 5) (s : State) : Answer :=
  .next (s.issuePlain core true (fun s => s.valuQ core dd.toNat da.toNat da.toNat (fun x _ => x * 2 ^ n.toNat)))

/-- VSHRA. -/
def execVshra (core : Fin 128) (dd da : BitVec 5) (n : BitVec 5) (s : State) : Answer :=
  .next (s.issueCore core true (fun k => k.valu1 dd.toNat da.toNat (fun x => x.sshiftRight n.toNat)))

/-- VSHRL. -/
def execVshrl (core : Fin 128) (dd da : BitVec 5) (n : BitVec 5) (s : State) : Answer :=
  .next (s.issueCore core true (fun k => k.valu1 dd.toNat da.toNat (fun x => x >>> n.toNat)))

/-- VMAX. -/
def execVmax (core : Fin 128) (dd da db : BitVec 5) (s : State) : Answer :=
  .next (s.issueCore core true (fun k => k.valu2 dd.toNat da.toNat db.toNat (fun x y => if x.toInt < y.toInt then y else x)))

/-- VMIN. -/
def execVmin (core : Fin 128) (dd da db : BitVec 5) (s : State) : Answer :=
  .next (s.issueCore core true (fun k => k.valu2 dd.toNat da.toNat db.toNat (fun x y => if y.toInt < x.toInt then y else x)))

/-- VABS. -/
def execVabs (core : Fin 128) (dd da : BitVec 5) (s : State) : Answer :=
  .next (s.issuePlain core true (fun s => s.valuQ core dd.toNat da.toNat da.toNat (fun x _ => if x < 0 then -x else x)))

/-- VNEG. -/
def execVneg (core : Fin 128) (dd da : BitVec 5) (s : State) : Answer :=
  .next (s.issuePlain core true (fun s => s.valuQ core dd.toNat da.toNat da.toNat (fun x _ => -x)))

/-- VCMPEQ. -/
def execVcmpeq (core : Fin 128) (dd da db : BitVec 5) (s : State) : Answer :=
  .next (s.issueCore core true (fun k => k.valu2 dd.toNat da.toNat db.toNat (fun x y => maskOf (x == y))))

/-- VCMPLT. -/
def execVcmplt (core : Fin 128) (dd da db : BitVec 5) (s : State) : Answer :=
  .next (s.issueCore core true (fun k => k.valu2 dd.toNat da.toNat db.toNat (fun x y => maskOf (decide (x.toInt < y.toInt)))))

/-- VCMPLE. -/
def execVcmple (core : Fin 128) (dd da db : BitVec 5) (s : State) : Answer :=
  .next (s.issueCore core true (fun k => k.valu2 dd.toNat da.toNat db.toNat (fun x y => maskOf (decide (x.toInt ≤ y.toInt)))))

/-- VCMPLTU. -/
def execVcmpltu (core : Fin 128) (dd da db : BitVec 5) (s : State) : Answer :=
  .next (s.issueCore core true (fun k => k.valu2 dd.toNat da.toNat db.toNat (fun x y => maskOf (decide (x.toNat < y.toNat)))))

/-- VSEL: bit 31 of the old DD selects (R98, R99). -/
def execVsel (core : Fin 128) (dd da db : BitVec 5) (s : State) : Answer :=
  .next (s.issueCore core true (fun k =>
    let b := k.bank
    k.vecPlain dd.toNat (vOf (fun i =>
      if (vLane (bankD b dd.toNat) i).msb then vLane (bankD b da.toNat) i else vLane (bankD b db.toNat) i))))

/-- VPERM. -/
def execVperm (core : Fin 128) (dd da db : BitVec 5) (s : State) : Answer :=
  .next (s.issueCore core true (fun k =>
    let b := k.bank
    k.vecPlain dd.toNat (vOf (fun i =>
      vLane (bankD b da.toNat) ((vLane (bankD b db.toNat) i).setWidth 3).toFin))))

/-- VBC. -/
def execVbc (core : Fin 128) (dd da : BitVec 5) (lane : BitVec 3) (s : State) : Answer :=
  .next (s.issueCore core true (fun k => k.vecPlain dd.toNat (vBroadcast (vLane (bankD k.bank da.toNat) lane.toFin))))

/-- VMUL (R60). -/
def execVmul (core : Fin 128) (dd da db : BitVec 5) (s : State) : Answer :=
  .next (s.issuePlain core true (fun s => s.vmulOp core dd.toNat da.toNat (fun b i => vLane (bankD b db.toNat) i)))

/-- VMUL.B: one lane of DB (R60). -/
def execVmulB (core : Fin 128) (dd da db : BitVec 5) (lane : BitVec 3) (s : State) : Answer :=
  .next (s.issuePlain core true (fun s => s.vmulOp core dd.toNat da.toNat (fun b _ => vLane (bankD b db.toNat) lane.toFin)))

/-- VSPLAT (R100). -/
def execVsplat (core : Fin 128) (dv : BitVec 5) (sn : BitVec 4) (s : State) : Answer :=
  .next (s.issueCore core true (fun k => k.vecPlain dv.toNat (vBroadcast (bankS k.bank sn.toNat))))

/-- VPUT (R100). -/
def execVput (core : Fin 128) (dv : BitVec 5) (k : BitVec 3) (sn : BitVec 4) (s : State) : Answer :=
  .next (s.issueCore core true (fun c =>
    c.vecPlain dv.toNat (vOf (fun i => if i = k.toFin then bankS c.bank sn.toNat else vLane (bankD c.bank dv.toNat) i))))

/-- VGET (R100): latency 2 to the scalar. -/
def execVget (core : Fin 128) (sn : BitVec 4) (dv : BitVec 5) (k : BitVec 3) (s : State) : Answer :=
  .next (s.issueCore core true (fun c => c.push 2 c.inBank1 (.s sn.toNat (vLane (bankD c.bank dv.toNat) k.toFin))))

/-! ### Scalar arithmetic (R101) -/

/-- ADD. -/
def execAdd (core : Fin 128) (sd sa sb : BitVec 4) (f : Bool) (s : State) : Answer :=
  .next (s.issueCore core true (fun k => k.salu sd.toNat sa.toNat sb.toNat f (fun a b => addFlags a b false)))

/-- SUB: SA + ~SB + 1. -/
def execSub (core : Fin 128) (sd sa sb : BitVec 4) (f : Bool) (s : State) : Answer :=
  .next (s.issueCore core true (fun k => k.salu sd.toNat sa.toNat sb.toNat f (fun a b => addFlags a (~~~b) true)))

/-- AND. -/
def execAnd (core : Fin 128) (sd sa sb : BitVec 4) (f : Bool) (s : State) : Answer :=
  .next (s.issueCore core true (fun k => k.salu sd.toNat sa.toNat sb.toNat f (fun a b => logicFlags (a &&& b))))

/-- OR. -/
def execOr (core : Fin 128) (sd sa sb : BitVec 4) (f : Bool) (s : State) : Answer :=
  .next (s.issueCore core true (fun k => k.salu sd.toNat sa.toNat sb.toNat f (fun a b => logicFlags (a ||| b))))

/-- XOR. -/
def execXor (core : Fin 128) (sd sa sb : BitVec 4) (f : Bool) (s : State) : Answer :=
  .next (s.issueCore core true (fun k => k.salu sd.toNat sa.toNat sb.toNat f (fun a b => logicFlags (a ^^^ b))))

/-- SHL by SB[4:0]. -/
def execShl (core : Fin 128) (sd sa sb : BitVec 4) (f : Bool) (s : State) : Answer :=
  .next (s.issueCore core true (fun k => k.salu sd.toNat sa.toNat sb.toNat f (fun a b => shlFlags a (b.toNat % 32))))

/-- SHRA by SB[4:0]. -/
def execShra (core : Fin 128) (sd sa sb : BitVec 4) (f : Bool) (s : State) : Answer :=
  .next (s.issueCore core true (fun k => k.salu sd.toNat sa.toNat sb.toNat f (fun a b => shraFlags a (b.toNat % 32))))

/-- SHRL by SB[4:0]. -/
def execShrl (core : Fin 128) (sd sa sb : BitVec 4) (f : Bool) (s : State) : Answer :=
  .next (s.issueCore core true (fun k => k.salu sd.toNat sa.toNat sb.toNat f (fun a b => shrlFlags a (b.toNat % 32))))

/-- MUL: the low 32 bits. -/
def execMul (core : Fin 128) (sd sa sb : BitVec 4) (f : Bool) (s : State) : Answer :=
  .next (s.issueCore core true (fun k => k.salu sd.toNat sa.toNat sb.toNat f (fun a b => logicFlags (a * b))))

/-- CMP: the flags of SA - SB only. -/
def execCmp (core : Fin 128) (sa sb : BitVec 4) (s : State) : Answer :=
  .next (s.issueCore core true (fun k =>
    k.push 1 k.inBank1 (.nzcv (addFlags (bankS k.bank sa.toNat) (~~~(bankS k.bank sb.toNat)) true).2)))

/-- MIN, signed. -/
def execMin (core : Fin 128) (sd sa sb : BitVec 4) (f : Bool) (s : State) : Answer :=
  .next (s.issueCore core true (fun k =>
    k.salu sd.toNat sa.toNat sb.toNat f (fun a b => logicFlags (if b.toInt < a.toInt then b else a))))

/-- MAX, signed. -/
def execMax (core : Fin 128) (sd sa sb : BitVec 4) (f : Bool) (s : State) : Answer :=
  .next (s.issueCore core true (fun k =>
    k.salu sd.toNat sa.toNat sb.toNat f (fun a b => logicFlags (if a.toInt < b.toInt then b else a))))

/-- ADDI with a sign-extended immediate. -/
def execAddi (core : Fin 128) (sd sa : BitVec 4) (f : Bool) (imm : BitVec 16) (s : State) : Answer :=
  .next (s.issueCore core true (fun k => k.scalarResult sd.toNat f (addFlags (bankS k.bank sa.toNat) (sext imm) false)))

/-- ANDI with a zero-extended immediate. -/
def execAndi (core : Fin 128) (sd sa : BitVec 4) (f : Bool) (imm : BitVec 16) (s : State) : Answer :=
  .next (s.issueCore core true (fun k => k.scalarResult sd.toNat f (logicFlags (bankS k.bank sa.toNat &&& zext imm))))

/-- ORI with a zero-extended immediate. -/
def execOri (core : Fin 128) (sd sa : BitVec 4) (f : Bool) (imm : BitVec 16) (s : State) : Answer :=
  .next (s.issueCore core true (fun k => k.scalarResult sd.toNat f (logicFlags (bankS k.bank sa.toNat ||| zext imm))))

/-- XORI with a zero-extended immediate. -/
def execXori (core : Fin 128) (sd sa : BitVec 4) (f : Bool) (imm : BitVec 16) (s : State) : Answer :=
  .next (s.issueCore core true (fun k => k.scalarResult sd.toNat f (logicFlags (bankS k.bank sa.toNat ^^^ zext imm))))

/-! ### Register moves (R102 to R104) -/

/-- SETR. -/
def execSetr (core : Fin 128) (cl : BitVec 3) (n : BitVec 5) (hi sx : Bool) (imm : BitVec 16) (s : State) : Answer :=
  .next (s.issueCore core (decide (cl.toNat ≤ 4) && classNumOk cl.toNat n.toNat && !(hi && sx)) (fun k =>
    let old := bankWord k.bank cl.toNat n.toNat
    let v : Word := if hi then imm ++ old.setWidth 16 else if sx then sext imm else zext imm
    k.push 1 k.inBank1 (classWrite cl.toNat n.toNat v)))

/-- MOVR within the running bank. -/
def execMovr (core : Fin 128) (dcl : BitVec 3) (dn : BitVec 5) (scl : BitVec 3) (sn : BitVec 5) (s : State) : Answer :=
  .next (s.issueCore core (moveOk dcl.toNat dn.toNat scl.toNat sn.toNat) (fun k =>
    k.moveReg k.inBank1 k.inBank1 dcl.toNat dn.toNat scl.toNat sn.toNat))

/-- XMOV between banks, in bank 1 only (R82, R117). -/
def execXmov (core : Fin 128) (toBank1 : Bool) (dcl : BitVec 3) (dn : BitVec 5) (scl : BitVec 3) (sn : BitVec 5)
    (s : State) : Answer :=
  .next (s.issue core false false true (moveOk dcl.toNat dn.toNat scl.toNat sn.toNat) (fun s =>
    .done (s.modCore core (fun k => k.moveReg toBank1 (!toBank1) dcl.toNat dn.toNat scl.toNat sn.toNat)) .seq 0))

/-- PADD (R104). -/
def execPadd (core : Fin 128) (pn : BitVec 4) (imm : BitVec 16) (s : State) : Answer :=
  .next (s.issueCore core true (fun k => k.push 1 k.inBank1 (.p pn.toNat (bankCirc k.bank pn.toNat (sext imm)))))

/-! ### Loads, stores and transfers (R105 to R108) -/

/-- LDS. -/
def execLds (core : Fin 128) (rg pn : BitVec 4) (mode : BitVec 2) (ofs : BitVec 15) (s : State) : Answer :=
  .next (s.issue core false true true (modeOk mode ofs) (fun s => s.ldsOp core rg.toNat pn.toNat mode ofs))

/-- LDV. -/
def execLdv (core : Fin 128) (rg : BitVec 5) (pn : BitVec 4) (mode : BitVec 2) (ofs : BitVec 15) (s : State) : Answer :=
  .next (s.issue core false true true (modeOk mode ofs) (fun s => s.ldvOp core rg.toNat pn.toNat mode ofs))

/-- STS. -/
def execSts (core : Fin 128) (rg pn : BitVec 4) (mode : BitVec 2) (ofs : BitVec 15) (s : State) : Answer :=
  .next (s.issue core false true true (modeOk mode ofs) (fun s => s.stsOp core rg.toNat pn.toNat mode ofs))

/-- STV. -/
def execStv (core : Fin 128) (rg : BitVec 5) (pn : BitVec 4) (mode : BitVec 2) (ofs : BitVec 15) (s : State) : Answer :=
  .next (s.issue core false true true (modeOk mode ofs) (fun s => s.stvOp core rg.toNat pn.toNat mode ofs))

/-- XFER (R107). -/
def execXfer (core : Fin 128) (ch : BitVec 2) (dir : Bool) (pw px sn : BitVec 4) (s : State) : Answer :=
  .next (s.issue core false true true true (fun s => s.xferOp core ch.toNat dir pw.toNat px.toNat sn.toNat))

/-- A transfer moves its next beats, of the cycle that has just ended (R69, R71), and ends with its last one. A refused shared
address ends it with a transfer fault, the address being that of the core's shared window (R70). An XWAIT that waits for it ends
when no channel it names is busy (R108). A command for a channel that does not run changes nothing (log entry 6). -/
def execTransferDone (core : Fin 128) (ch : BitVec 2) (run : XferRun) (s : State) : Answer :=
  let c : Nat := core
  match (s.core c).xfers.get (fun _ => none) ch.toNat with
  | none => .next s
  | some x =>
    let n := min run.beats.val (x.count / 64 - x.moved)
    let (s1, refused) := s.moveBeats c x n x.moved
    let m := bit4 ch.toNat
    let s2 := s1.modCore c (fun k => { k with xfers := k.xfers.set (fun _ => none) ch.toNat none })
    match refused with
    | some sh =>
      .next ((s2.modCore c (fun k => k.endChannels m m)).coreFault c 5 (0x10000000 + sh) x.pc x.bank1)
    | none =>
      if x.moved + n < x.count / 64 then
        .next (s1.modCore c (fun k => { k with xfers := k.xfers.set (fun _ => none) ch.toNat (some { x with moved := x.moved + n }) }))
      else .next (s2.modCore c (fun k =>
        let k1 := k.endChannels m 0
        if k1.xwait ≠ 0 ∧ k1.busy &&& k1.xwait = 0 then { k1 with xwait := 0, noAccept := k1.noAccept || decide (0 < run.waited.val) }.advance run.waited else k1))

/-- XWAIT (R108): the stall cycles beyond its own are passed when the last channel ends. -/
def execXwait (core : Fin 128) (mask : BitVec 4) (s : State) : Answer :=
  .next (s.issueCore core true (fun k => { k with xwait := if k.busy &&& mask = 0 then 0 else mask }))

/-! ### Control flow (R109 to R114) -/

/-- B. -/
def execB (core : Fin 128) (cond : BitVec 4) (target : BitVec 13) (s : State) : Answer :=
  .next (s.issue core true true true true (fun s => s.branchOp core cond (fun _ => target.toNat) false))

/-- CALL. -/
def execCall (core : Fin 128) (cond : BitVec 4) (target : BitVec 13) (s : State) : Answer :=
  .next (s.issue core true true true true (fun s => s.branchOp core cond (fun _ => target.toNat) true))

/-- JR. -/
def execJr (core : Fin 128) (cond sn : BitVec 4) (s : State) : Answer :=
  .next (s.issue core true true true true (fun s =>
    s.branchOp core cond (fun k => (bankS k.bank sn.toNat).toNat % 0x2000) false))

/-- CALLR. -/
def execCallr (core : Fin 128) (cond sn : BitVec 4) (s : State) : Answer :=
  .next (s.issue core true true true true (fun s =>
    s.branchOp core cond (fun k => (bankS k.bank sn.toNat).toNat % 0x2000) true))

/-- RET. -/
def execRet (core : Fin 128) (cond : BitVec 4) (s : State) : Answer :=
  .next (s.issue core true true true true (fun s => s.branchOp core cond (fun k => k.bank.link.toNat) false))

/-- LOOP (R112); a body that ends beyond word 0x1FFF is illegal. -/
def execLoop (core : Fin 128) (inner creg : Bool) (len : BitVec 10) (count : BitVec 14) (s : State) : Answer :=
  let k := s.core core
  let n : Word := if creg then bankS k.bank (count.toNat % 16) else count.setWidth 32
  let legal := decide (k.bank.pc + 1 + len.toNat ≤ 0x1FFF) && (!creg || decide (count.toNat < 16))
  .next (s.issue core true true true legal (fun s => s.loopOp core inner len.toNat n))

/-! ### Control registers (R115) -/

/-- RDC. -/
def execRdc (core : Fin 128) (sn : BitVec 4) (idx : BitVec 8) (s : State) : Answer :=
  .next (s.issueCore core true (fun k =>
    k.push 1 k.inBank1 (.s sn.toNat (k.readCtrl core (s.watchedFull core) idx.toNat))))

/-- WRC: a reserved CMODE.RND raises the invalid-setting event (R54, R13). -/
def execWrc (core : Fin 128) (sn : BitVec 4) (idx : BitVec 8) (s : State) : Answer :=
  .next (s.issuePlain core true (fun s =>
    let k := s.core core
    let v := bankS k.bank sn.toNat
    let s1 := s.setCore core (k.push 1 k.inBank1 (.ctrl idx.toNat v))
    if idx = 0x03 ∧ v.toNat % 4 = 3 then s1.raise 33 (0x80000000 + core) else s1))

/-! ### Interrupts, faults and their clearing -/

/-- An interrupt is accepted (R79, R80): the switch cycle passes, and in WAIT the `idle` cycles before it, after one of
which a core that has returned to WAIT may accept again (log entry 18). Where R79 does not allow acceptance, nothing changes
(log entry 6). -/
def execInterruptAccept (core : Fin 128) (idle : Fin 65536) (s : State) : Answer :=
  let k0 : Core := s.core core
  let k : Core := { k0 with noAccept := k0.noAccept && !(k0.state == .wait && decide (0 < idle.val)) }
  match k.acceptSource (s.watchedFull core) with
  | some vec =>
    if k.mayAccept then
      .next (s.setCore core ((k.advance (if k.state == .wait then idle else 0)).enterHandler vec).tickOnce)
    else .next s
  | none => .next s

/-- CLRFAULT (R86): a FAULTED core's registers clear under R53 and it enters IDLE. -/
def State.clearFault (s : State) (c : Nat) : State :=
  s.modCore c (fun k => if k.state == .faulted then { k.clearRegs with state := .idle } else k)

/-- CLRFAULT: a write of CORE_CTL. -/
def execClrfault (core : Fin 128) (s : State) : Answer := .next (s.clearFault core)

/-- ILLEGAL_INSTRUCTION: a word that is no instruction is issued, an illegal-instruction fault (R90). A word that is one has its
own command. -/
def execIllegalInstruction (core : Fin 128) (word : BitVec 32) (s : State) : Answer :=
  .next (if (decodeEngine core word).isNone then s.issuePlain core false id else s)

end Sys2Proof.Machine
end

