-- ==== Sys2Proof/Machine/Loc.lean ====
section
/-! DEFINITION. The local ports (R353 to R388): configuration, phase and lock, the silent methods, frames of the three
kinds, cast-on and bind-off, start groups. -/

namespace Sys2Proof.Machine

def isTdm (p : Nat) : Bool := decide (p < 16)
def isAesIn (p : Nat) : Bool := decide (16 ≤ p) && decide (p < 24)
def isAesOut (p : Nat) : Bool := decide (24 ≤ p) && decide (p < 32)
def isMadi (p : Nat) : Bool := decide (32 ≤ p) && decide (p < 34)

/-- Does the port take its timing from outside (R354)? -/
def State.slavePort (s : State) (p : Nat) : Bool :=
  (isTdm p && !s.on (Fld.TDM_CFG_MASTER p)) || isAesIn p || isMadi p

/-- Is the port locked (R361)? Master ports and outputs always are. -/
def State.portLocked (s : State) (p : Nat) : Bool := !s.slavePort p || s.on (Fld.PORT_STAT_LOCK p)

/-! ### Channels -/

def State.tdmSlots (s : State) (n : Nat) : Nat := s.get (Fld.TDM_CFG_SLOTS n) + 1
def State.tdmWidth (s : State) (n : Nat) : Nat := 16 + 8 * s.get (Fld.TDM_CFG_SWIDTH n)
def State.tdmLen (s : State) (n : Nat) : Nat := 2 ^ (5 + s.get (Fld.TDM_CFG_FLEN n))

/-- Channels of a MADI frame at the rate in effect (R372); 56-channel mode is one of transmission. -/
def State.madiChannels (s : State) : Nat := if s.get Fld.ENG_PROFILE_STAT_FS_ACT < 2 then 64 else 32

/-- Does slot `c` of a TDM port carry a claim word or its complement (R364, R365)? -/
def State.claimSlot (s : State) (p c : Nat) (f : Nat → Fd) : Bool :=
  s.on (f p) && (c == s.get (Fld.TDM_CFG_CSLOT p) || c == s.get (Fld.TDM_CFG_CSLOT p) + 1)

/-- Bit `c` of a mask of one or two words. -/
def maskBit (lo hi : Word) (c : Nat) : Bool := if c < 32 then lo.getLsbD c else hi.getLsbD (c - 32)

/-- Input channels of a port: number, and for each whether it passes words (R358, R374). -/
def State.inChans (s : State) (p : Nat) : List Bool :=
  if isTdm p then
    let m := s.reg (Reg.TDM_MASK_RX_ACT p)
    (addrs 0 1 (s.tdmSlots p)).map (fun c => m.getLsbD c && !s.claimSlot p c Fld.TDM_CFG_CLAIMRX)
  else if isAesIn p then [true, true]
  else if isMadi p then
    let lo := s.reg (Reg.MADI_MASK_RX_ACT (p - 32) 0)
    let hi := s.reg (Reg.MADI_MASK_RX_ACT (p - 32) 1)
    (addrs 0 1 s.madiChannels).map (maskBit lo hi)
  else []

/-- Output channels of a port. -/
def State.outChans (s : State) (p : Nat) : List Bool :=
  if isTdm p then
    let m := s.reg (Reg.TDM_MASK_TX_ACT p)
    (addrs 0 1 (s.tdmSlots p)).map (fun c => m.getLsbD c && !s.claimSlot p c Fld.TDM_CFG_CLAIMTX)
  else if isAesOut p then [true, true]
  else if isMadi p then
    let lo := s.reg (Reg.MADI_MASK_TX_ACT (p - 32) 0)
    let hi := s.reg (Reg.MADI_MASK_TX_ACT (p - 32) 1)
    let n := if s.on (Fld.MADI_CFG_CH56 (p - 32)) then min 56 s.madiChannels else s.madiChannels
    (addrs 0 1 n).map (maskBit lo hi)
  else []

/-- Source class and first endpoint of a port (R355, R164). -/
def inEnd (p : Nat) : Nat × Nat := if p < 16 then (2, 32 * p) else if p < 24 then (3, 2 * (p - 16)) else (4, 64 * (p - 32))

/-- Sink class and first endpoint. -/
def outEnd (p : Nat) : Nat × Nat :=
  if p < 16 then (0x12, 32 * p) else if p < 32 then (0x13, 2 * (p - 24)) else (0x14, 64 * (p - 32))

/-- Write channel words; none writes nothing. -/
def State.writeIn (s : State) (p : Nat) (ws : List (Option Word)) : State :=
  let e := inEnd p
  (ws.zip (addrs e.2 1 ws.length)).foldl (fun s x => match x.1 with
    | some w => s.sourceWrite e.1 x.2 w
    | none => s) s

/-! ### Phase (R359, R361)

Phases are compared in units of which a row has 2048 * 10^9, so that bit clocks, row eighths and nanoseconds are whole
numbers. -/

def rowUnits : Nat := 2048 * 1000000000

/-- A phase in ns. -/
def State.phaseOf (s : State) (ns : Nat) : Nat := ns * s.fs * 2048 % rowUnits

/-- Tolerance of a port (R361). -/
def State.portTol (s : State) (p : Nat) : Nat :=
  if isTdm p then s.get (Fld.TDM_PHASE_PHTOL p) * (rowUnits / s.tdmLen p) else rowUnits / 8

/-- Distance of two phases around the row. -/
def phaseDist (a b : Nat) : Nat :=
  let d := (a + rowUnits - b % rowUnits) % rowUnits
  min d (rowUnits - d)

/-- Does a phase, widened by a tolerance, reach into the guard band of R359? -/
def State.inGuard (s : State) (u tol : Nat) : Bool :=
  let g := 200 * s.fs * 2048
  let top := if s.isFast then rowUnits / 2 else rowUnits
  let r := (u + 2 * rowUnits + g - top) % rowUnits
  decide (r < g + tol) || decide (rowUnits ≤ r + tol)

/-- A good frame counts toward the lock (R361): 64 in a row near the phase of the first. -/
def State.lockFrame (s : State) (p ns : Nat) : State :=
  let x := s.lport p
  let near := decide (0 < x.run) && decide (phaseDist (s.phaseOf ns) (s.phaseOf x.cand) ≤ s.portTol p)
  let run := if near then min 64 (x.run + 1) else 1
  let cand := if near then x.cand else ns
  let s1 := s.setLport p { x with run := run, cand := cand, errs := 0 }
  let ok := decide (64 ≤ run) && !s.inGuard (s.phaseOf cand) (s.portTol p)
  let s2 := s1.flag (Fld.PORT_STAT_LOCK p) ok
  if ok then s2.put (Fld.PORT_STAT_PHASE p) cand else s2

/-- Lock is lost. -/
def State.unlock (s : State) (p : Nat) : State :=
  (s.modLport p (fun x => { x with run := 0 })).flag (Fld.PORT_STAT_LOCK p) false

/-! ### The silent methods (R376) -/

/-- Does a channel cross zero? -/
def crosses (w : Word) (prev : Option Word) : Bool :=
  w == 0 || (match prev with | some v => v.msb != w.msb | none => false)

/-- One channel of a row: opening or closing, timeout expired, its word, the word of the row before. -/
def zStep (opening late : Bool) (w : Word) (prev : Option Word) (z : ZState) : Word × ZState :=
  let passed := if opening then w else 0
  let faded (m : Nat) : Word × ZState :=
    if m < 64 then (scale64 w (if opening then m + 1 else 63 - m), .fade (m + 1)) else (passed, .done)
  match z with
  | .done => (passed, .done)
  | .fade m => faded m
  | .wait => if crosses w prev then (passed, .done) else if late then faded 0 else (if opening then 0 else w, .wait)

/-- The channels of a row. -/
def zRow (opening late : Bool) (ws prev : List Word) (zs : List ZState) : List (Word × ZState) :=
  (ws.zip (addrs 0 1 ws.length)).map (fun x => zStep opening late x.1 (prev[x.2]?) (zs.getD x.2 .wait))

/-- Has every channel switched? One that passes no words has nothing to switch. -/
def zDone (chans : List Bool) (zs : List ZState) : Bool :=
  (chans.zip (addrs 0 1 chans.length)).all (fun x => !x.1 || zs.getD x.2 .wait == .done)

/-- OPENING and CLOSING end once every channel has switched. -/
def State.zSettle (s : State) (p : Nat) : State :=
  let x := s.lport p
  let st := s.lstate p
  if (st = 3 ∨ st = 5) ∧ zDone (s.inChans p) x.zin ∧ zDone (s.outChans p) x.zout then
    (if st = 3 then s.setLstate p 4 else s.portOff p)
  else s

/-- Words of one direction as the port's state passes them (R363, R376), and the channels after it. -/
def State.passed (s : State) (p : Nat) (ws prev : List Word) (zs : List ZState) : List Word × List ZState :=
  let st := s.lstate p
  if st = 4 then (ws, zs)
  else if st = 3 ∨ st = 5 then
    let r := zRow (st == 3) (s.lport p).zlate ws prev zs
    (r.map Prod.fst, r.map Prod.snd)
  else (ws.map (fun _ => (0 : Word)), zs)

/-- Words of one direction as they go on: under the bind-off of a re-step outputs fall over 64 rows, and inputs are 0 (R383). -/
def State.silence (s : State) (p : Nat) (ws prev : List Word) (zs : List ZState) (input : Bool) : List Word × List ZState :=
  let r := s.passed p ws prev zs
  match (s.lport p).rebind with
  | some k =>
    let m := (s.row.rowIdx - k).toNat
    (r.1.map (fun w => if input ∨ 63 < m then 0 else scale64 w (63 - m)), r.2)
  | none => r

/-- Rows of the zero-crossing timeout: ceil(ZCTO * fs / 1000). -/
def State.zcRows (s : State) (p : Nat) : Nat := (s.get (Fld.PORT_START_CFG_ZCTO p) * s.fs + 999) / 1000

/-! ### Cast-on, bind-off, start (R377 to R384) -/

/-- A command refused by state (R377). -/
def State.refusePort (s : State) (p : Nat) : State := (s.put (Fld.PORT_STAT_REASON p) 6).invalid (Reg.PORT_CMD p)

/-- Does the configuration admit a cast-on (R355, R359, R364, R365, R372)? -/
def State.portConfigOk (s : State) (p : Nat) : Bool :=
  if isTdm p then
    let len := s.tdmLen p
    let master := s.on (Fld.TDM_CFG_MASTER p)
    let claims := s.get (Fld.TDM_CFG_SWIDTH p) == 2 && decide (s.get (Fld.TDM_CFG_CSLOT p) + 1 < s.tdmSlots p)
    let off := s.get (Fld.TDM_PHASE_FSOFF p)
    decide (s.get (Fld.TDM_CFG_OFFSET p) + s.tdmSlots p * s.tdmWidth p ≤ len) && decide (len * s.fs ≤ 98304000) &&
      (!master || (decide (off < len) && !s.inGuard (off * (rowUnits / len)) 0)) &&
      (!s.on (Fld.TDM_CFG_CLAIMRX p) || (p % 2 == 0 && claims && s.lstate (p + 1) == 0 && !s.on (Fld.PORT_START_CFG_GRP_EN (p + 1)))) &&
      (!s.on (Fld.TDM_CFG_CLAIMTX p) || claims) &&
      !(p % 2 == 1 && s.on (Fld.TDM_CFG_CLAIMRX (p - 1)) && s.lstate (p - 1) != 0)
  else if isMadi p then decide (s.get Fld.ENG_PROFILE_STAT_FS_ACT < 4)
  else true

/-- Copy the shadow masks (R382). -/
def State.copyMasks (s : State) (p : Nat) : State :=
  if isTdm p then
    (s.setReg (Reg.TDM_MASK_RX_ACT p) (s.reg (Reg.TDM_MASK_RX_SHD p))).setReg (Reg.TDM_MASK_TX_ACT p)
      (s.reg (Reg.TDM_MASK_TX_SHD p))
  else if isMadi p then
    (addrs 0 1 2).foldl (fun s i => (s.setReg (Reg.MADI_MASK_RX_ACT (p - 32) i) (s.reg (Reg.MADI_MASK_RX_SHD (p - 32) i))).setReg
      (Reg.MADI_MASK_TX_ACT (p - 32) i) (s.reg (Reg.MADI_MASK_TX_SHD (p - 32) i))) s
  else s

/-- Cast-on from OFF, or from FAULT by AUTO (R363, R377, R384). -/
def State.armPort (s : State) (p : Nat) (solo : Bool) : State :=
  if !s.portConfigOk p then s.put (Fld.PORT_STAT_REASON p) 7
  else
    let s1 := ((s.modLport p (fun x => { x.clear with solo := solo, txPos := 0 })).put (Fld.PORT_STAT_REASON p) 0).copyMasks p
    let s2 := s1.setLstate p 1
    if isTdm p && s.on (Fld.TDM_CFG_MASTER p) then
      s2.put (Fld.PORT_STAT_PHASE p) (s.get (Fld.TDM_PHASE_FSOFF p) * 1000000000 / (s.fs * s.tdmLen p))
    else s2

/-- CASTON at its tick. -/
def State.castOnPort (s : State) (p : Nat) : State := if s.lstate p = 0 then s.armPort p false else s.refusePort p

/-- The port binds off by its method from the row that runs (R376, R386). -/
def State.unbindPort (s : State) (p : Nat) : State :=
  let st := s.lstate p
  if st = 1 ∨ st = 2 ∨ st = 7 then s.portOff p
  else if st = 3 ∨ st = 4 then
    (if s.on (Fld.PORT_START_CFG_METHOD p) then
      (s.modLport p (fun x => { x with stopAt := some s.row.rowIdx })).setLstate p 6
    else
      let turn (z : ZState) : ZState := if st = 4 then .wait else match z with
        | .wait => .done
        | _ => .wait
      let zi := ((s.inChans p).zip (addrs 0 1 64)).map (fun c => turn ((s.lport p).zin.getD c.2 .wait))
      let zo := ((s.outChans p).zip (addrs 0 1 64)).map (fun c => turn ((s.lport p).zout.getD c.2 .wait))
      (s.modLport p (fun x => { x with zfrom := s.row.rowIdx, zlate := false, zin := zi, zout := zo })).setLstate p 5)
  else s

/-- BINDOFF at its tick: in CLOSING and POSTCLK it is accepted and the bind-off that runs goes on. -/
def State.bindOffPort (s : State) (p : Nat) : State := if s.lstate p = 0 then s.refusePort p else s.unbindPort p

/-- COMMIT at its tick (R382): a reserved code on an AES3 port (R13). -/
def State.commitPort (s : State) (p : Nat) : State :=
  if isAesIn p ∨ isAesOut p then s.invalid (Reg.PORT_CMD p)
  else if s.lstate p = 0 then s.copyMasks p else s.modLport p (fun x => { x with commitDue := true })

/-- CMD of a port at its tick. -/
def State.applyPortCmd (s : State) (p : Nat) (w : Word) : State :=
  match w.toNat / 2 ^ 30 with
  | 0 => s
  | 1 => s.castOnPort p
  | 2 => s.bindOffPort p
  | _ => s.commitPort p

/-- The port leaves ARMED: clocks with zero data until the data row, or OPENING. -/
def State.beginPort (s : State) (p : Nat) (dataRow : Word) : State :=
  if s.on (Fld.PORT_START_CFG_METHOD p) then (s.modLport p (fun x => { x with startAt := some dataRow })).setLstate p 2
  else (s.modLport p (fun x => { x with startAt := none, zfrom := s.row.rowIdx, zlate := false, zin := [], zout := [] })).setLstate p 3

/-- Is the port in its start group (R379)? -/
def State.grouped (s : State) (p : Nat) : Bool := s.on (Fld.PORT_START_CFG_GRP_EN p) && !(s.lport p).solo

/-- Members of start group `g`. -/
def State.members (s : State) (g : Nat) : List Nat :=
  (addrs 0 1 34).filter (fun p => s.grouped p && s.get (Fld.PORT_START_CFG_GROUP p) == g)

/-- Pre-clock frames of a port: its N, 0 under zero crossing. -/
def State.preclk (s : State) (p : Nat) : Nat :=
  if s.on (Fld.PORT_START_CFG_METHOD p) then s.get (Fld.PORT_START_CFG_PRECLK p) else 0

/-- Nmax of a group. -/
def State.maxPreclk (s : State) (g : Nat) : Nat := (s.members g).foldl (fun n p => max n (s.preclk p)) 0

def State.group (s : State) (g : Nat) : LocGroup := s.loc.group.get (fun _ => locGroupReset) g

def State.setGroup (s : State) (g : Nat) (x : LocGroup) : State :=
  { s with loc := { s.loc with group := s.loc.group.set (fun _ => locGroupReset) g x } }

/-- A group's start row is fixed: its ARMED members take it, the others are left out (R379). -/
def State.scheduleStart (s : State) (g : Nat) (k : Word) : State :=
  (s.members g).foldl (fun s p =>
    if s.lstate p = 1 then s.modLport p (fun x => { x with startAt := some k }) else s.put (Fld.PORT_STAT_REASON p) 6)
    (s.setGroup g ⟨some (1, k), false⟩)

/-- GRP_CMD at its tick (R379 to R381): operation, PIN, row of the tick. -/
def State.groupCommand (s : State) (g op : Nat) (pin : Bool) (c : Word) : State :=
  let x := s.group g
  let k := s.reg (Reg.GRP_ROW g)
  let lead := (k - c).toNat
  let low := if op = 1 then s.maxPreclk g + 1 else 1
  if op = 0 then s
  else if pin ∧ op ≠ 1 then s.invalid (Reg.GRP_CMD g)
  else if x.pend.isSome ∨ x.pin then s.put (Fld.GRP_STAT_RESULT g) 5
  else if pin ∧ s.paired then s.put (Fld.GRP_STAT_RESULT g) 4
  else if pin then (s.setGroup g ⟨none, true⟩).put (Fld.GRP_STAT_RESULT g) 1
  else if lead < low ∨ 2 ^ 24 < lead then s.put (Fld.GRP_STAT_RESULT g) 3
  else
    let s1 := s.put (Fld.GRP_STAT_RESULT g) 1
    if op = 1 then s1.scheduleStart g k else s1.setGroup g ⟨some (op, k), false⟩

/-- A group's row has come: STOP and COMMIT act, and the result reads done. -/
def State.groupRow (s : State) (g : Nat) : State :=
  match (s.group g).pend with
  | some (op, k) =>
    if k = s.row.rowIdx then
      let s1 := (s.setGroup g locGroupReset).put (Fld.GRP_STAT_RESULT g) 2
      if op = 2 then (s.members g).foldl (fun s p =>
        if s.lstate p = 3 ∨ s.lstate p = 4 then s.unbindPort p else s.put (Fld.PORT_STAT_REASON p) 6) s1
      else if op = 3 then (s.members g).foldl (fun s p => if isTdm p ∨ isMadi p then s.commitPort p else s) s1
      else s1
    else s
  | none => s

/-- A port's part in a row tick: re-step bind-off that ends (R383), and rows locked in FAULT (R363). -/
def State.portRow (s : State) (p : Nat) : State :=
  let x := s.lport p
  match x.rebind with
  | some k => if 64 ≤ (s.row.rowIdx - k).toNat ∧ (s.row.rowIdx - k).toNat < 2 ^ 31 then s.portOff p else s
  | none =>
    if s.lstate p = 7 then s.modLport p (fun x => { x with lockRows := if s.portLocked p then x.lockRows + 1 else 0 }) else s

/-- The local ports' part in a row tick. -/
def State.portsRow (s : State) : State :=
  (addrs 0 1 34).foldl (fun s p => s.portRow p) ((addrs 0 1 4).foldl (fun s g => s.groupRow g) s)

/-- Ports take the words of the output row that starts (R360), and the claim word of R365. -/
def State.latchPort (s : State) (p : Nat) : State :=
  if s.lstate p = 0 ∨ (s.outChans p).isEmpty then s
  else
    let e := outEnd p
    let ws := (addrs e.2 1 (s.outChans p).length).map (fun i => s.outWord e.1 i)
    s.modLport p (fun x => { x with txPrev := x.txNow, txNow := ws, claimNow := s.reg Reg.TWN_CLAIM })

def State.latchPorts (s : State) : State := (addrs 0 1 34).foldl (fun s p => s.latchPort p) s

/-- The bind-off of a media re-step starts for every port not in OFF (R383). -/
def State.rebindPorts (s : State) (k : Word) : State :=
  (addrs 0 1 34).foldl (fun s p => if s.lstate p = 0 then s else s.modLport p (fun x => { x with rebind := some k })) s

/-! ### Words on the wire (R357, R367 to R374) -/

/-- A word sent in a slot of `k` bits: rounded half to even and saturated. -/
def narrow (w : Word) (k : Nat) : Nat :=
  let v := roundDiv 0 (32 - k) w.toInt
  let m : Int := 2 ^ (k - 1)
  unsignedOf k (max (-m) (min (m - 1) v))

/-- A word received in a slot of `k` bits. -/
def widen (v k : Nat) : Word := BitVec.ofNat 32 (v % 2 ^ k * 2 ^ (32 - k))

/-- Number of ones in bits [31:4]. -/
def onesAbove3 (w : Word) : Nat := ((addrs 4 1 28).filter (fun i => w.getLsbD i)).length

/-- Even parity over time slots 4 to 31. -/
def parityGood (w : Word) : Bool := onesAbove3 w % 2 == 0

/-- Set the parity bit of a subframe. -/
def withParity (w : Nat) : Word :=
  let v := BitVec.ofNat 32 (w % 2 ^ 31)
  if onesAbove3 v % 2 = 0 then v else BitVec.ofNat 32 (w % 2 ^ 31 + 2 ^ 31)

/-- CRCC of channel-status bytes 0 to 22 (AES3-2009, log entry 28). -/
def crccBit (c : Nat) (b : Bool) : Nat := if (c % 2 == 1) != b then Nat.xor (c / 2) 0xB8 else c / 2

def crccOf (bs : List Byte) : Nat :=
  (bs.take 23).foldl (fun c b => (addrs 0 1 8).foldl (fun c i => crccBit c (b.getLsbD i)) c) 0xFF

/-- Bytes of a list of bits, first bit in bit 0. -/
def bytesOfBits (bits : List Bool) : List Byte :=
  (addrs 0 8 (bits.length / 8)).map (fun o =>
    BitVec.ofNat 8 ((addrs 0 1 8).foldl (fun n i => n + (bits.getD (o + i) false).toNat * 2 ^ i) 0))

/-- Sampling-frequency codes of bytes 0 and 4 (log entry 28). -/
def csRate (code : Nat) : Nat × Nat :=
  match code with
  | 0 => (0x40, 0) | 1 => (0x80, 0) | 2 => (0, 0x50) | 3 => (0, 0x10) | 4 => (0, 0x58) | _ => (0, 0x18)

/-- The channel status that a port sends: TX_CS words, AUTOFS, CRCC (R367, R370). -/
def State.sentStatus (s : State) (words : List Word) (auto : Bool) : List Byte :=
  let b := (words.map (fun w => leBytesN w.toNat 4)).flatten
  let r := csRate (s.get Fld.ENG_PROFILE_STAT_FS_ACT)
  let b1 := if auto then (b.set 0 (BitVec.ofNat 8 ((b.getD 0 0).toNat % 64 + r.1))).set 4
    (BitVec.ofNat 8 (Nat.land (b.getD 4 0).toNat 0x87 + r.2)) else b
  b1.take 23 ++ [BitVec.ofNat 8 (crccOf b1)]

/-- Bit `i` of a channel-status block. -/
def statusBit (cs : List Byte) (i : Nat) : Bool := (cs.getD (i / 8) 0).getLsbD (i % 8)

/-! ### AES3 reception -/

/-- A complete channel-status block (R369). -/
def State.takeStatus (s : State) (i : Nat) (bits : List Bool) : State :=
  let b := bytesOfBits bits
  let p := 16 + i
  if bits.getD 0 false && crccOf b != (b.getD 23 0).toNat then s.count (ctrPort p 4)
  else
    let new := (addrs 0 1 6).map (fun w => BitVec.ofNat 32 (leAt b (4 * w) 4))
    let old := (addrs 0 1 6).map (fun w => s.reg (Reg.AESI_RX_CS i w))
    let s1 := (addrs 0 1 6).foldl (fun s w => s.setReg (Reg.AESI_RX_CS i w) (new.getD w 0)) s
    let s2 := s1.flag (Fld.AESI_RX_INFO_CSVALID i) true
    if new == old && s.on (Fld.AESI_RX_INFO_CSVALID i) then s2 else s2.raise 167 p

/-- Capture of channel-status bits from subframe 1: a Z preamble starts a block. -/
def State.captureStatus (s : State) (i : Nat) (sf : Word) : State :=
  let p := 16 + i
  let bit := sf.getLsbD 30
  let bits := if sf.getLsbD 0 then some [bit] else (s.lport p).cap.map (fun l => l ++ [bit])
  match bits with
  | some l =>
    if l.length = 192 then (s.modLport p (fun x => { x with cap := none })).takeStatus i l
    else s.modLport p (fun x => { x with cap := some l })
  | none => s

/-- The word of one received subframe (R367, R369, R371). Bit 0 marks the Z preamble and bit 1 subframe 1. -/
def State.aesWord (s : State) (i : Nat) (nonAudio : Bool) (w : Word) : Word :=
  let a := w.toNat / 16 % 2 ^ 24
  let bit (n : Nat) : Nat := (w.getLsbD n).toNat
  if !parityGood w then 0
  else if s.on (Fld.AESI_RX_MODE_TRANSP i) then
    BitVec.ofNat 32 ((bit 0 * 32 + bit 1 * 16 + bit 31 * 8 + bit 30 * 4 + bit 29 * 2 + bit 28) * 2 ^ 24 + a)
  else if nonAudio || (w.getLsbD 28 && s.on (Fld.AESI_RX_MODE_VZERO i)) then 0
  else widen (if s.on (Fld.AESI_RX_MODE_W20 i) then a / 16 * 16 else a) 24

/-- The rate code nearest to a measured frame rate within 2 % (R368). -/
def measuredFs (hz : Nat) : Nat :=
  match (addrs 0 1 6).find? (fun c => decide (50 * (max hz (rateHz c) - min hz (rateHz c)) ≤ rateHz c)) with
  | some c => c
  | none => 0xF

/-- The measured rate of an AES3 input, of any frame that arrives in any state (R368). -/
def State.measure (s : State) (p hz : Nat) : State :=
  if isAesIn p then s.put (Fld.AESI_RX_INFO_MEASFS (p - 16)) (measuredFs hz) else s

/-- A good AES3 frame: its words, and what RX_INFO and RX_CS take from it. -/
def State.takeAes (s : State) (p : Nat) (sf : List Word) : State × List Word :=
  let i := p - 16
  let s1 := s.flag (Fld.AESI_RX_INFO_V i) (sf.any (fun w => w.getLsbD 28))
  let s2 := s1.captureStatus i (sf.getD 0 0)
  let non := s2.on (Fld.AESI_RX_INFO_CSVALID i) && (s2.reg (Reg.AESI_RX_CS i 0)).getLsbD 1 &&
    !s.on (Fld.AESI_RX_MODE_TRANSP i)
  let bad := (sf.take 2).filter (fun w => !parityGood w)
  ((s2.flag (Fld.AESI_RX_INFO_NONAUDIO i) non).countBy (ctrPort p 3) bad.length,
    [s2.aesWord i non (sf.getD 0 0), s2.aesWord i non (sf.getD 1 0)])

/-! ### MADI reception (R374) -/

def State.takeMadi (s : State) (p : Nat) (sf : List Word) : State × List Word :=
  let n := s.madiChannels
  let ws := (addrs 0 1 n).map (fun c => sf.getD c 0)
  let act := (ws.zip (addrs 0 1 n)).foldl (fun a x => a + (x.1.getLsbD 1).toNat * 2 ^ x.2) 0
  let bad := ws.filter (fun w => !parityGood w)
  let s1 := (s.setReg (Reg.MADI_RX_ACT (p - 32) 0) (BitVec.ofNat 32 act)).setReg (Reg.MADI_RX_ACT (p - 32) 1)
    (BitVec.ofNat 32 (act / 2 ^ 32))
  (s1.countBy (ctrPort p 3) bad.length,
    ws.map (fun w => if w.getLsbD 1 && parityGood w then widen (w.toNat / 16) 24 else 0))

/-! ### TDM reception -/

/-- The frame of one source of a claim-mode port, where its complement slot agrees (R366). -/
def State.claimSource (s : State) (p : Nat) (ws : List Word) : Option (Word × List Word) :=
  let c := s.get (Fld.TDM_CFG_CSLOT p)
  if ws.getD (c + 1) 0 = ~~~(ws.getD c 0) then some (ws.getD c 0, ws) else none

/-- CLAIM_STAT and CLAIM_LATCH. -/
def State.showClaim (s : State) (p : Nat) (a b : Bool) : State :=
  let c := (s.lport p).claim
  (((((((s.flag (Fld.TDM_CLAIM_STAT_VALIDA p) a).flag (Fld.TDM_CLAIM_STAT_VALIDB p) b).put (Fld.TDM_CLAIM_STAT_ACCEPTED p) c.src).flag
    (Fld.TDM_CLAIM_STAT_FADING p) c.fading).flag (Fld.TDM_CLAIM_STAT_LATCHED p) c.lc.isSome).put
    (Fld.TDM_CLAIM_STAT_HELD p) (min 15 c.held))).setReg (Reg.TDM_CLAIM_LATCH p) (c.lc.getD 0)

/-- A row of claim reception on a TDM port (R366). -/
def State.takeClaim (s : State) (p : Nat) (a b : List Word) : State × List Word :=
  let sa := s.claimSource p a
  let sb := s.claimSource p b
  let r := (s.lport p).claim.row sa sb
  let s1 := (s.modLport p (fun x => { x with claim := r.1 })).showClaim p sa.isSome sb.isSome
  let s2 := if r.2.switched then (s1.count (ctrPort p 5)).raise 165 p else s1
  let s3 := if r.2.held then s2.count (ctrPort p 6) else s2
  let s4 := if r.2.faded then (s3.count (ctrPort p 7)).raise 166 p else s3
  (s4, (addrs 0 1 (s.tdmSlots p)).map (fun c => r.2.words.getD c 0))

/-- The word of slot `c` in a TDM frame whose FLEN bit clocks stand in 32-bit words, first bit clock first (R355 to R357). -/
def State.tdmSlot (s : State) (p : Nat) (line : List Word) (c : Nat) : Word :=
  let len := s.tdmLen p
  let all := (addrs 0 1 (len / 32)).foldl (fun n i => n * 2 ^ 32 + (line.getD i 0).toNat) 0
  let k := s.tdmWidth p
  widen (all / 2 ^ (len - (s.get (Fld.TDM_CFG_OFFSET p) + (c + 1) * k))) k

/-- The words of a good frame by channel: `a` holds the bit clocks of a TDM frame, subframes or channels, `b` the second source of
a claim-mode port. -/
def State.takeWords (s : State) (p : Nat) (a b : List Word) : State × List Word :=
  if isTdm p then
    let w (l : List Word) : List Word := (addrs 0 1 (s.tdmSlots p)).map (s.tdmSlot p l)
    if s.on (Fld.TDM_CFG_CLAIMRX p) ∧ 3 ≤ s.lstate p ∧ s.lstate p ≤ 5 then s.takeClaim p (w a) (w b) else (s, w a)
  else if isAesIn p then s.takeAes p a
  else s.takeMadi p a

/-- A good frame is written (R358, R359, R363). -/
def State.takeFrame (s : State) (p : Nat) (a b : List Word) : State :=
  let st := s.lstate p
  if st = 0 then s
  else
    let t := s.takeWords p a b
    let x := t.1.lport p
    let r := t.1.silence p t.2 x.rxPrev x.zin true
    let s1 := t.1.modLport p (fun x => { x with rxPrev := t.2, zin := r.2 })
    if st = 1 ∨ st = 7 then s1
    else
      let claim (c : Nat) : Bool := isTdm p && s.claimSlot p c Fld.TDM_CFG_CLAIMRX
      let ws := ((r.1.zip (s.inChans p)).zip (addrs 0 1 64)).map (fun y =>
        if claim y.2 then none else if y.1.2 then some y.1.1 else some 0)
      let s2 := s1.writeIn p ws
      (if 3 ≤ st ∧ st ≤ 5 then s2.count64 (Reg.PORT_FRAMES_LO p) 1 else s2).zSettle p

/-! ### Transmission -/

/-- The slots of a frame of a TDM port (R357, R358, R365); none is high impedance. -/
def State.tdmSlotsOut (s : State) (p : Nat) (ws : List Word) (clock : Bool) : List (Option Word) :=
  let k := s.tdmWidth p
  let c := s.get (Fld.TDM_CFG_CSLOT p)
  let claim := (s.lport p).claimNow
  let gap : Option Word := if s.on (Fld.TDM_CFG_TRIS p) then none else some 0
  ((ws.zip (s.outChans p)).zip (addrs 0 1 32)).map (fun y =>
    if s.claimSlot p y.2 Fld.TDM_CFG_CLAIMTX then
      (if clock then some (if y.2 = c then claim else ~~~claim) else some 0)
    else if y.1.2 then some (BitVec.ofNat 32 (narrow y.1.1 k)) else gap)

/-- A frame of a TDM port (R355, R356): FS one bit clock or half a frame long and active high or low, and SDO with each slot MSB
first at OFFSET + s * SWIDTH. -/
def State.tdmFrame (s : State) (p : Nat) (slots : List (Option Word)) : Output :=
  let len := s.tdmLen p
  let k := s.tdmWidth p
  let o := s.get (Fld.TDM_CFG_OFFSET p)
  let active := if s.on (Fld.TDM_CFG_FSW p) then len / 2 else 1
  let gap : Option Bool := if s.on (Fld.TDM_CFG_TRIS p) then none else some false
  let sdo (i : Nat) : Option Bool :=
    if o ≤ i ∧ i < o + slots.length * k then
      (slots.getD ((i - o) / k) none).map (fun w => w.getLsbD (k - 1 - (i - o) % k))
    else gap
  .tdm p (s.on (Fld.TDM_CFG_BCKEDGE p))
    (if s.on (Fld.TDM_CFG_MASTER p) then (addrs 0 1 len).map (fun i => decide (i < active) != s.on (Fld.TDM_CFG_FSPOL p)) else [])
    ((addrs 0 1 len).map sdo)

/-- JK sync symbols of 80 ns between the frames of a MADI transmitter, of whose channels each takes 320 ns (R373). -/
def State.madiSync (s : State) (channels : Nat) : Nat := (1000000000 - 320 * channels * s.fs) / (80 * s.fs)

/-- An AES3 frame (R367, R370, R371); bit 0 marks the Z preamble, bit 1 subframe 1. -/
def State.aesFrame (s : State) (p : Nat) (ws : List Word) : List Word :=
  let x := s.lport p
  let transp := s.on (Fld.AESO_TX_MODE_TRANSP (p - 24))
  (ws.zip (addrs 0 1 2)).map (fun y =>
    let pre := if y.2 = 0 then 2 + (x.txPos == 0).toNat else 0
    if transp then
      let l := y.1.toNat / 2 ^ 24
      withParity (pre + y.1.toNat % 2 ^ 24 * 16 + l % 8 * 2 ^ 28 % 2 ^ 31)
    else withParity (pre + narrow y.1 24 * 16 + (statusBit x.txCs x.txPos).toNat * 2 ^ 30))

/-- A MADI frame (R373): mode bits [0] frame sync, [1] active, [2] subframe B, [3] block start. -/
def State.madiFrame (s : State) (p : Nat) (ws : List Word) : List Word :=
  let x := s.lport p
  ((ws.zip (s.outChans p)).zip (addrs 0 1 64)).map (fun y =>
    let sync := (y.2 == 0).toNat
    if y.1.2 then
      let mode := sync + 2 + 4 * (y.2 % 2) + 8 * (x.txPos == 0).toNat
      withParity (mode + narrow y.1.1 24 * 16 + (statusBit x.txCs x.txPos).toNat * 2 ^ 30)
    else withParity (sync + 4 * (y.2 % 2)))

/-- TX_CS words of a port and its AUTOFS. -/
def State.txStatus (s : State) (p : Nat) : List Word × Bool :=
  if isAesOut p then
    ((addrs 0 1 5).map (fun w => s.reg (Reg.AESO_TX_CS (p - 24) w)) ++ [s.reg (Reg.AESO_TX_CS5 (p - 24))],
      s.on (Fld.AESO_TX_MODE_AUTOFS (p - 24)))
  else
    ((addrs 0 1 5).map (fun w => s.reg (Reg.MADI_TX_CS (p - 32) w)) ++ [s.reg (Reg.MADI_TX_CS5 (p - 32))],
      s.on (Fld.MADI_CFG_AUTOFS (p - 32)))

/-- An output frame of a port that is not in OFF or ARMED (R360). -/
def State.sendFrame (s : State) (p : Nat) : State :=
  let st := s.lstate p
  let s0 := if (s.lport p).commitDue then (s.copyMasks p).modLport p (fun x => { x with commitDue := false }) else s
  let x0 := s0.lport p
  let s1 := if !isTdm p && x0.txPos == 0 then
      let t := s0.txStatus p
      s0.modLport p (fun x => { x with txCs := s0.sentStatus t.1 t.2 })
    else s0
  let x := s1.lport p
  let ws := (addrs 0 1 (s1.outChans p).length).map (fun c => x.txNow.getD c 0)
  let r := s1.silence p ws x.txPrev x.zout false
  let f : Output :=
    if isTdm p then s1.tdmFrame p (s1.tdmSlotsOut p r.1 (decide (3 ≤ st ∧ st ≤ 5)))
    else if isAesOut p then .localFrame p (s1.aesFrame p r.1) 0
    else .localFrame p (s1.madiFrame p r.1) (s1.madiSync r.1.length)
  let s2 := (s1.modLport p (fun x => { x with zout := r.2, txPos := if isTdm p then 0 else (x.txPos + 1) % 192 })).send f
  (if 3 ≤ st ∧ st ≤ 5 then s2.count64 (Reg.PORT_FRAMES_LO p) 1 else s2).zSettle p

end Sys2Proof.Machine
end

