-- ==== Sys2Proof/Machine/SchedExec.lean ====
section
/-! DEFINITION. Meanings of the scheduler's commands (R119 to R158): registers of a core, timed parameters at their tick,
migrations, gauge and profile changes. -/

namespace Sys2Proof.Machine

/-! ### Core registers -/

/-- Is the core in a state in which CORE_BUDGET and DIGN may change (R158)? -/
def Core.settled (k : Core) : Bool := k.state == .reset || k.state == .idle || k.state == .halted

/-- A CORE_BUDGET write is decided (R127, R158). -/
def State.writeBudget (s : State) (c : Nat) (w : Word) : State :=
  let a := Reg.CLU_CORE_BUDGET (c / 8) (c % 8)
  if !isDeclaration w then s.invalid a
  else if w = s.reg a then s
  else if (s.core c).settled then s.setReg a w
  else s.invalid a

/-- A CORE_OUTCFG write is decided (R158): STSAT clears where written as 1; DIGN above 512 is reserved. -/
def State.writeOutcfg (s : State) (c : Nat) (w : Word) : State :=
  let a := Reg.CLU_CORE_OUTCFG (c / 8) (c % 8)
  let f := fdCore Fld.CLU_CORE_OUTCFG_DIGN c
  let d := w.toNat % 1024
  let clear (s : State) : State := if w.msb then s.flag (fdCore Fld.CLU_CORE_OUTCFG_STSAT c) false else s
  if 512 < d then (clear s).invalid a
  else if d = s.get f then clear s
  else if (s.core c).settled then (clear s).put f d
  else s.invalid a

/-- On a paired twin a write to an offset of R518 waits for row c + 8 on both twins; without an open page it is
refused. -/
def State.holdReg (s : State) (a : Nat) (w : Word) : State :=
  if s.row.ticks && s.row.pageOpen then
    let k := s.row.openRow + 8
    ({ s with twn := { s.twn with regHeld := s.twn.regHeld ++ [(⟨k, a, w⟩ : RegRec)] } }).mirror 0x02
      (beBytes k.toNat 4 ++ beBytes a 4 ++ beBytes w.toNat 4)
  else s.invalid a

/-- CORE_BUDGET_WRITE. -/
def execCoreBudgetWrite (core : Fin 128) (value : BitVec 32) (s : State) : Answer :=
  .next (if s.paired then s.holdReg (Reg.CLU_CORE_BUDGET (core / 8) (core % 8)) value else s.writeBudget core value)

/-- CORE_OUTCFG_WRITE. -/
def execCoreOutcfgWrite (core : Fin 128) (value : BitVec 32) (s : State) : Answer :=
  .next (if s.paired then s.holdReg (Reg.CLU_CORE_OUTCFG (core / 8) (core % 8)) value else s.writeOutcfg core value)

/-- A read-and-clear field answers its value and becomes 0 (R10). -/
def State.readClear (s : State) (f : Fd) : State := (s.send (.answer (BitVec.ofNat 32 (s.get f)))).put f 0

/-- CORE_SATROWS_READ. -/
def execCoreSatrowsRead (core : Fin 128) (s : State) : Answer := .next (s.readClear (fdCore Fld.CLU_CORE_SATROWS_COUNT core))

/-- CORE_PEAK_READ. -/
def execCorePeakRead (core : Fin 128) (s : State) : Answer := .next (s.readClear (fdCore Fld.CLU_CORE_PEAK_CYCLES core))

/-- CORE_STITCH_READ. -/
def execCoreStitchRead (core : Fin 128) (s : State) : Answer := .next (s.readClear (fdCore Fld.CLU_CORE_STITCH_COUNT core))

/-- WMAX_RT_READ. -/
def execWmaxRtRead (s : State) : Answer := .next (s.readClear Fld.FAB_WMAX_RT_WAIT)

/-- A write of DIGEST_SNAP: any value captures the last final digest (R157, R10). -/
def State.snapDigest (s : State) (n : Nat) : State :=
  let d := s.row.digests.get (fun _ => digestNone) n
  (((s.setReg (Reg.CLU_DIGEST_LO n) (d.value.setWidth 32)).setReg (Reg.CLU_DIGEST_HI n)
    ((d.value >>> 32).setWidth 32)).setReg (Reg.CLU_DIGEST_ROW n) d.row).setReg (Reg.CLU_DIGEST_STITCH n)
    (d.stitch.setWidth 32)

/-- DIGEST_SNAP. -/
def execDigestSnap (cluster : Fin 16) (_value : BitVec 32) (s : State) : Answer := .next (s.snapDigest cluster)

/-! ### Records at their tick -/

/-- Is this output the event of a refusal? -/
def Output.refusal : Output → Bool
  | .house n _ => n % 32 == 1 || [5, 34, 43, 45, 98, 135, 238].contains n
  | _ => false

/-- Has a refusal been reported since state `s`? -/
def State.refusedSince (t s : State) : Bool := (t.outbox.take (t.outbox.length - s.outbox.length)).any Output.refusal

/-- Does the result field of the command register at `a` read that the last command was refused? -/
def State.resultRefused (s : State) (a : Nat) : Bool :=
  (addrs 0 1 4).any (fun n =>
    (a == Reg.TB_CMD n && s.get (Fld.TB_CMD_STAT_RESULT n) == 4) || (a == Reg.GRP_CMD n && decide (3 ≤ s.get (Fld.GRP_STAT_RESULT n)))) ||
  (addrs 0 1 6).any (fun n => a == Reg.LANE_LOOP_CTL n && decide (2 ≤ s.get (Fld.LANE_LOOP_STAT_RESULT n))) ||
  (addrs 0 1 34).any (fun p => a == Reg.PORT_CMD p && s.get (Fld.PORT_STAT_STATE p) == 0 && s.get (Fld.PORT_STAT_REASON p) == 7) ||
  (a == Reg.BOOT_FUSE_CTL && s.get Fld.BOOT_FUSE_STAT_RESULT == 3) ||
  (a == Reg.ENG_MIGRATE && [2, 3, 6].contains (s.get Fld.ENG_MIGRATE_RES_RESULT))

/-- Has state `t` come from `s` by a write of the register at `a` that was refused: by an event, or by a result field? -/
def State.refusedFrom (t s : State) (a : Nat) : Bool :=
  t.refusedSince s || t.resultRefused a || (a == Reg.BOOT_FUSE_CTL && s.boot.fuseOp.isSome)

/-- A record takes effect by `f`. Where the start-up sequence waits for a direct write of its own, a refusal at the tick is
noted (R585). -/
def State.applyBy (s : State) (r : TpRec) (f : State → TpRec → State) : State :=
  let s1 := f s r
  if s.boot.seqTick && r.direct && s1.refusedFrom s r.target then { s1 with boot := { s1.boot with seqBad := true } } else s1

/-- The first due record of a kind takes effect by `f`; with none due nothing changes (log entry 6). -/
def State.applyFirst (s : State) (p : TpRec → Bool) (f : State → TpRec → State) : State :=
  match s.tpTake p with
  | some (r, s1) => s1.applyBy r f
  | none => s

/-- TP_DOORBELL. -/
def execTpDoorbell (s : State) : Answer := .next (s.applyFirst (fun r => r.cls == 1) State.applyDoorbell)

/-- TP_COEF_WORD. -/
def execTpCoefWord (s : State) : Answer := .next (s.applyFirst (fun r => r.cls == 2) State.applyCoefWord)

/-- TP_SWAP. -/
def execTpSwap (s : State) : Answer := .next (s.applyFirst (fun r => r.cls == 3) State.applySwap)

/-- TP_BINDOFF. -/
def execTpBindoff (s : State) : Answer := .next (s.applyFirst (fun r => r.cls == 4) State.applyBindoff)

/-- CORE_BINDOFF_RESET: 64 rows of the bind-off have passed (R151). -/
def execCoreBindoffReset (core : Fin 128) (s : State) : Answer :=
  .next (s.modCore core (fun k =>
    match k.fade with
    | .bindOff start => if 64 ≤ (s.tickRow - start).toNat then k.toReset else k
    | _ => k))

/-- Does a record write the register at one of these addresses? -/
def TpRec.names (r : TpRec) (as : List Nat) : Bool := (r.direct || r.cls == 5) && as.contains r.target

/-- MAP_DATA_APPLY. -/
def execMapDataApply (s : State) : Answer :=
  .next (s.applyFirst (fun r => r.names [Reg.SST_MAP_SEL, Reg.SST_MAP_DATA])
    (fun s r => if r.target = Reg.SST_MAP_SEL then s.applyMapSel r.value else s.applyMapData r.value))

/-- MAP_SWAP. -/
def execMapSwap (s : State) : Answer :=
  .next (s.applyFirst (fun r => r.names [Reg.SST_MAP_CTL]) (fun s r => s.applyMapCtl r.value r.direct))

/-- MTX_TABLE_SWAP. -/
def execMtxTableSwap (s : State) : Answer :=
  .next (s.applyFirst (fun r => r.names [Reg.MTX_TBL_CTL]) (fun s r => s.applyTblCtl r.value r.direct))

/-- A one-bit enable register takes a written value. -/
def State.applyEnable (s : State) (f : Fd) (w : Word) : State := s.flag f (w.getLsbD 0)

/-- MTX_CTL_APPLY. -/
def execMtxCtlApply (s : State) : Answer :=
  .next (s.applyFirst (fun r => r.names [Reg.MTX_CTL]) (fun s r => s.applyEnable Fld.MTX_CTL_EN r.value))

/-- XP_SEL_APPLY. -/
def execXpSelApply (s : State) : Answer :=
  .next (s.applyFirst (fun r => r.names [Reg.MTX_XP_SEL]) (fun s r => s.setReg Reg.MTX_XP_SEL r.value))

/-- XP_GAIN_APPLY. -/
def execXpGainApply (s : State) : Answer :=
  .next (s.applyFirst (fun r => r.names [Reg.MTX_XP_GAIN]) (fun s r => s.applyXpGain r.value))

/-- DLY_CTL_APPLY. -/
def execDlyCtlApply (s : State) : Answer :=
  .next (s.applyFirst (fun r => r.names [Reg.DLY_CTL]) (fun s r => s.applyEnable Fld.DLY_CTL_EN r.value))

/-- Line number of a LINE register address at offset `o` of its line. -/
def lineOf (o a : Nat) : Nat := (a - o) / 16

/-- Is `a` the register at offset `o` of some delay line? -/
def isLineReg (o a : Nat) : Bool := decide (o ≤ a) && decide (a < o + 16 * 2048) && decide ((a - o) % 16 = 0)

/-- LINE_LEN_APPLY. -/
def execLineLenApply (s : State) : Answer :=
  .next (s.applyFirst (fun r => (r.direct || r.cls == 5) && isLineReg (Reg.DLY_LINE_LEN 0) r.target)
    (fun s r => s.applyLineLen (lineOf (Reg.DLY_LINE_LEN 0) r.target) r.value))

/-- LINE_DELAY_APPLY. -/
def execLineDelayApply (s : State) : Answer :=
  .next (s.applyFirst (fun r => (r.direct || r.cls == 5) && isLineReg (Reg.DLY_LINE_DELAY 0) r.target)
    (fun s r => s.applyLineDelay (lineOf (Reg.DLY_LINE_DELAY 0) r.target) r.value))

/-! ### Shadow tables, glides, crossfades, ownership, decay -/

/-- A write of SHD_DATA (R167): the entry, then the index moves on, past the last of its class to 0. -/
def State.writeShdData (s : State) (w : Word) : State :=
  let cls := s.get Fld.SST_SHD_SEL_CLASS
  let idx := s.get Fld.SST_SHD_SEL_INDEX
  if classSize cls ≤ idx then s.invalid Reg.SST_SHD_DATA
  else ((s.writeShadowEntry cls idx (w.setWidth 16)).setReg Reg.SST_SHD_DATA (w &&& 0xFFFF)).put
    Fld.SST_SHD_SEL_INDEX (if idx + 1 = classSize cls then 0 else idx + 1)

/-- SHD_DATA_WRITE. -/
def execShdDataWrite (value : BitVec 32) (s : State) : Answer := .next (s.writeShdData value)

/-- MAP_CHECK. -/
def execMapCheck (s : State) : Answer := .next s.startMapCheck

/-- MAP_CHECK_DONE; without a check that runs nothing ends. -/
def execMapCheckDone (s : State) : Answer := .next (if s.on Fld.SST_MAP_STAT_CHECKING then s.endMapCheck else s)

/-- A write of SHD_ROUTE (R171). -/
def State.writeShdRoute (s : State) (w : Word) : State :=
  let i := s.get Fld.MTX_SHD_SEL_INDEX
  let v := w &&& 0x07FF07FF
  (((s.setMtxEntry s.mtxShadow i (s.reg Reg.MTX_SHD_GAIN) (v.toNat % 65536) (v.toNat / 65536)).touchShadowTable).setReg
    Reg.MTX_SHD_ROUTE v).put Fld.MTX_SHD_SEL_INDEX (i + 1)

/-- SHD_ROUTE_WRITE. -/
def execShdRouteWrite (value : BitVec 32) (s : State) : Answer := .next (s.writeShdRoute value)

/-- MTX_CHECK. -/
def execMtxCheck (s : State) : Answer := .next s.startMtxCheck

/-- MTX_CHECK_DONE. -/
def execMtxCheckDone (s : State) : Answer := .next (if s.on Fld.MTX_TBL_STAT_CHECKING then s.endMtxCheck else s)

/-- GLIDE_END (R176). -/
def execGlideEnd (entry : Fin 262144) (s : State) : Answer := .next (s.endGlide entry)

/-- CROSSFADE_END (R181): after its 64 rows. -/
def execCrossfadeEnd (line : Fin 2048) (s : State) : Answer :=
  match (s.line line).xfade with
  | some (_, m) => .next (if 64 ≤ m then s.setLine line { s.line line with xfade := none } else s)
  | none => .next s

/-- QOWN_WRITE (R185). -/
def execQownWrite (bank : Fin 48) (value : BitVec 32) (s : State) : Answer := .next (s.writeQown bank value)

/-- SLOT_DECAY_START (R162). -/
def execSlotDecayStart (slot : Fin 16384) (s : State) : Answer :=
  let x := s.slot slot
  if x.decayDue then
    let s1 := (s.setSlot slot { x with decayDue := false }).count ctrDecay
    .next (s1.setRow { s1.row with decayRow := s1.row.decayRow + 1 })
  else .next s

/-! ### Migrations -/

/-- A write of ENG.MIGRATE (R153): DIR and CORE are stored, and GO submits the request; while one is pending the write of
GO is refused and reported (R155). -/
def State.writeMigrate (s : State) (w : Word) : State :=
  let s1 := s.setReg Reg.ENG_MIGRATE (w &&& 0x17F)
  if w.getLsbD 9 then s1.migrateRequest (w.toNat % 128) (w.getLsbD 8) false else s1

/-- MIGRATE_GO. -/
def execMigrateGo (value : BitVec 32) (s : State) : Answer := .next (s.writeMigrate value)

/-- FIRMWARE_MIGRATION_REQUEST (R153). -/
def execFirmwareMigrationRequest (core : Fin 128) (back : Bool) (s : State) : Answer :=
  .next (s.migrateRequest core back true)

/-- MIGRATION_ABANDON (R155), after 64 engine ticks. -/
def execMigrationAbandon (s : State) : Answer :=
  match s.row.migration with
  | some m =>
    if 64 ≤ m.waited then
      .next (((s.setRow { s.row with migration := none }).put Fld.ENG_MIGRATE_RES_RESULT 4).raise 41 m.core)
    else .next s
  | none => .next s

/-! ### Profile and gauge -/

/-- A pending LATENCY change takes effect (R648). -/
def State.latencyEffect (s : State) : State :=
  match s.row.pendLatency with
  | some b => (s.setRow { s.row with pendLatency := none, fitDue := true }).flag Fld.ENG_PROFILE_STAT_LATENCY_ACT b
  | none => s

/-- A pending POLICY change takes effect at the row tick (R42): up in one move, down by recovery. -/
def State.policyEffect (s : State) : State :=
  if s.row.pendPolicy then
    let s1 := (s.put Fld.ENG_PROFILE_STAT_POLICY_ACT (s.get Fld.ENG_PROFILE_POLICY))
    let low := s1.lowStep
    let s2 := s1.setRow { s1.row with pendPolicy := false, fitDue := true }
    if s2.row.gauge < low then s2.setGauge low 0
    else s2.setRow { s2.row with recovering := decide (low < s2.row.gauge) && !s2.row.sag }
  else s

/-- LATENCY_CHANGE_EFFECT. -/
def execLatencyChangeEffect (s : State) : Answer := .next s.latencyEffect

/-- POLICY_CHANGE_EFFECT. -/
def execPolicyChangeEffect (s : State) : Answer := .next s.policyEffect

/-- GAUGE_RECOVERY_STEP (R130): one step down, until the policy's lowest. -/
def execGaugeRecoveryStep (ns : Fin 65536) (s : State) : Answer :=
  if s.row.recovering && !s.row.sag && decide (s.lowStep < s.row.gauge) then
    let s1 := s.setGauge (s.row.gauge - 1) ns
    .next (s1.setRow { s1.row with recovering := decide (s1.lowStep < s1.row.gauge) })
  else .next s

end Sys2Proof.Machine
end

