-- ==== Sys2Proof/Machine/StrExec.lean ====
section
/-! DEFINITION. Meanings of the stream unit's commands (R222 to R261). -/

namespace Sys2Proof.Machine

/-- A due FCMD of one operation, direction and slot. -/
def fcmdIs (op : Nat) (tx : Bool) (slot : Nat) (r : TpRec) : Bool :=
  r.names [Reg.STR_FCMD] && decide (r.value.toNat / 2 ^ 30 = op) && r.value.toNat / 256 % 2 == tx.toNat &&
    r.value.toNat % 256 == slot

/-- A due FCMD takes effect at the coming engine tick. -/
def State.fcmdDue (s : State) (op : Nat) (tx : Bool) (slot : Nat) : State :=
  s.applyFirst (fcmdIs op tx slot) (fun s r => s.applyFcmd r.value s.tickRow)

/-- RX_BIND. -/
def execRxBind (slot : Fin 256) (s : State) : Answer := .next (s.fcmdDue 1 false slot)

/-- TX_BIND. -/
def execTxBind (slot : Fin 256) (s : State) : Answer := .next (s.fcmdDue 1 true slot)

/-- RX_BINDOFF. -/
def execRxBindoff (slot : Fin 256) (s : State) : Answer := .next (s.fcmdDue 2 false slot)

/-- TX_BINDOFF. -/
def execTxBindoff (slot : Fin 256) (s : State) : Answer := .next (s.fcmdDue 2 true slot)

/-- Table key of a slot. -/
def flowKey (tx : Bool) (slot : Nat) : Nat := 256 * tx.toNat + slot

/-- Has the fade of a bind-off run its 64 rows (R242)? A transmit slot ends after the row with m = 63. -/
def State.fadeDone (s : State) (n : Nat) : Bool :=
  let f := s.flow n
  f.state == 4 && (if n < 256 then f.fade == 64 else
    match f.offRow with
    | some o => decide (64 ≤ (s.row.rowIdx - o).toNat) && decide ((s.row.rowIdx - o).toNat < 2 ^ 31) && f.gather.isNone
    | none => true)

/-- FLOW_BINDOFF_END. -/
def execFlowBindoffEnd (tx : Bool) (slot : Fin 256) (s : State) : Answer :=
  .next (if s.fadeDone (flowKey tx slot) then s.drainFlow (flowKey tx slot) else s)

/-- FLOW_DRAIN_END. -/
def execFlowDrainEnd (tx : Bool) (slot : Fin 256) (s : State) : Answer :=
  let f := s.flow (flowKey tx slot)
  .next (if f.state = 5 ∧ f.drain + 2000000 ≤ s.tbNs s.media then s.freeFlow (flowKey tx slot) else s)

/-- MALRAING_FRAME_RECEIVE: every receive flow that the frame matches takes it. -/
def execMalraingFrameReceive (port : Fin 4) (bytes : List (BitVec 8)) (ns : BitVec 24) (s : State) : Answer :=
  let late := s.pastDeadline ns.toNat
  .next (((s.matched port bytes).filter (fun n => cfgFmt (s.flow n).cfg == 0)).foldl (fun s n => s.malFrame n bytes late) s)

/-- FLOW_LOST. -/
def execFlowLost (slot : Fin 256) (s : State) : Answer :=
  let f := s.flow slot
  .next (if f.state = 2 ∧ s.get Fld.STR_CFG_TIMEOUT ≤ f.quiet then
    (s.modFlow slot (fun f => { f with state := 3 })).raise 100 slot else s)

/-- AAF_PACKET_RECEIVE. -/
def execAafPacketReceive (port : Fin 4) (bytes : List (BitVec 8)) (s : State) : Answer :=
  .next (((s.matched port bytes).filter (fun n => cfgFmt (s.flow n).cfg == 1)).foldl (fun s n => s.aafPacket n bytes) s)

/-- RTP_PACKET_RECEIVE. -/
def execRtpPacketReceive (port : Fin 4) (bytes : List (BitVec 8)) (s : State) : Answer :=
  .next (((s.matched port bytes).filter (fun n => decide (2 ≤ cfgFmt (s.flow n).cfg))).foldl
    (fun s n => s.rtpPacket n bytes) s)

/-- RECEIVE_DEADLINE. -/
def execReceiveDeadline (s : State) : Answer := .next s.recvDeadline

end Sys2Proof.Machine
end

