-- ==== Sys2Proof/Machine/ClockOps.lean ====
section
/-! DEFINITION. The clock unit (R323 to R352): reference stages, quality levels, selection, the DPLL and what it passes to
the time bases. -/

namespace Sys2Proof.Machine

def State.refIn (s : State) (r : Nat) : RefIn := s.clk.refs.get (fun _ => refInReset) r

def State.setRefIn (s : State) (r : Nat) (x : RefIn) : State :=
  { s with clk := { s.clk with refs := s.clk.refs.set (fun _ => refInReset) r x } }

def State.setClk (s : State) (c : ClkS) : State := { s with clk := c }

/-- PRIO and QL of REF_CFG of input `r`; TBSEL of inputs 8 and 9. -/
def fdRefPrio (r : Nat) : Fd := ⟨0x2F0100 + 0x20 * r, 31, 28⟩
def fdRefQl (r : Nat) : Fd := ⟨0x2F0100 + 0x20 * r, 27, 24⟩
def fdRefTbsel (r : Nat) : Fd := ⟨0x2F0100 + 0x20 * r, 17, 16⟩

/-- Counter `j` of input `r`: LOSS, GLITCH, DISQ. -/
def ctrRef (r j : Nat) : Ctr := ⟨0x2F0410 + 0x10 * r + 4 * j, ⟨Reg.CLK_REF_CNTSAT r, j, j⟩⟩
def ctrSwitch : Ctr := ⟨Reg.CLK_SWITCH_CNT, ⟨Reg.CLK_CNT_SAT, 0, 0⟩⟩
def ctrClkHold : Ctr := ⟨Reg.CLK_HOLD_CNT, ⟨Reg.CLK_CNT_SAT, 1, 1⟩⟩

/-- STAGE of an input: 0 OFF, 1 LOSS, 2 OK, 3 WATCH, 4 WARN, 5 DISQ, 6 RATE. -/
def State.stage (s : State) (r : Nat) : Nat := s.get (Fld.CLK_REF_STAT_STAGE r)

/-- An eligible stage: OK, WATCH or WARN (R341). -/
def stageOk (st : Nat) : Bool := decide (2 ≤ st) && decide (st ≤ 4)

/-- Wait-to-restore stops (R343). -/
def State.stopWtr (s : State) (r : Nat) : State :=
  ((s.setRefIn r { s.refIn r with wtr := 0 }).flag (Fld.CLK_REF_STAT_WTRRUN r) false).put (Fld.CLK_REF_STAT_WTRLEFT r) 0

/-- Wait-to-restore starts with its full time (R343); with WTR = 0 there is nothing to wait for. -/
def State.startWtr (s : State) (r : Nat) : State :=
  let sec := s.get Fld.CLK_WTR_SEC
  if sec = 0 then s.stopWtr r
  else ((s.setRefIn r { s.refIn r with wtr := 8000 * sec }).flag (Fld.CLK_REF_STAT_WTRRUN r) true).put
    (Fld.CLK_REF_STAT_WTRLEFT r) sec

/-- An input moves to a stage (R336 to R340, R343): event, counters, wait-to-restore. -/
def State.setStage (s : State) (r st : Nat) : State :=
  let old := s.stage r
  if st = old then s
  else
    let s1 := (s.put (Fld.CLK_REF_STAT_STAGE r) st).raise 136 (r + 256 * st)
    let s2 :=
      if st = 1 then (s1.setRefIn r { s1.refIn r with seen := false }).count (ctrRef r 0)
      else if st = 5 ∨ st = 6 then s1.count (ctrRef r 2)
      else s1
    if stageOk st then (if stageOk old then s2 else s2.startWtr r) else s2.stopWtr r

/-- The stage that an offset gives directly (R336, R339). -/
def State.stageOf (s : State) (r : Nat) (offset : Int) : Nat :=
  let m := offset.natAbs * 10
  if s.get (Fld.CLK_REF_THR_DISQ r) * 65536 < m then 5
  else if s.get (Fld.CLK_REF_THR_WARN r) * 65536 < m then 4
  else if s.get (Fld.CLK_REF_THR_WATCH r) * 65536 < m then 3
  else 2

/-- The 125 ms update of an input outside LOSS and RATE (R339, R340). -/
def State.offsetUpdate (s : State) (r : Nat) (offset : Int) : State :=
  let m := offset.natAbs * 10
  let x := s.refIn r
  let h := s.get (Fld.CLK_REF_SUST_HYST r)
  let thr (f : Fd) : Nat := s.get f * 65536
  let low (f : Fd) : Nat := (s.get f - h) * 65536
  let w := Fld.CLK_REF_THR_WATCH r
  let n := Fld.CLK_REF_THR_WARN r
  let d := Fld.CLK_REF_THR_DISQ r
  let y := { x with offset := offset, upW := runOf (decide (thr w < m)) x.upW, upN := runOf (decide (thr n < m)) x.upN,
                    upD := runOf (decide (thr d < m)) x.upD, downW := runOf (decide (m < low w)) x.downW,
                    downN := runOf (decide (m < low n)) x.downN, downD := runOf (decide (m < low d)) x.downD }
  let s1 := s.setRefIn r y
  let held (k t : Nat) : Bool := decide (0 < k) && decide (100 * t ≤ 125 * (k - 1))
  let up := s.get (Fld.CLK_REF_SUST_UP r)
  let down := s.get (Fld.CLK_REF_SUST_DOWN r)
  let st := s.stage r
  if st < 5 ∧ held y.upD up then s1.setStage r 5
  else if st < 4 ∧ held y.upN up then s1.setStage r 4
  else if st < 3 ∧ held y.upW up then s1.setStage r 3
  else if st = 5 ∧ held y.downD down then s1.setStage r 4
  else if st = 4 ∧ held y.downN down then s1.setStage r 3
  else if st = 3 ∧ held y.downW down then s1.setStage r 2
  else s1

/-- Rank of an ESMC SSM code, option 1 (R332). -/
def rankOfSsm (c : Nat) : Nat := if c = 2 then 0 else if c = 4 then 1 else if c = 8 then 2 else if c = 0xB then 3 else 4

/-- SSM code of a rank. -/
def ssmOfRank (r : Nat) : Nat := match r with | 0 => 2 | 1 => 4 | 2 => 8 | 3 => 0xB | _ => 0xF

/-- Quality level of an input at an update (R333). -/
def State.rankNow (s : State) (r : Nat) : Nat :=
  if r < 4 then s.get (fdRefQl r)
  else if r < 8 then (s.refIn r).esmc
  else rankOfClass (s.get (Fld.TB_GM_INFO_CLASS (s.get (fdRefTbsel r))))

/-- The start of an update: quality levels come into effect, a TBREF without its time base locked is lost, and
wait-to-restore counts on (R333, R336). -/
def State.latchRef (s : State) (r : Nat) : State :=
  let s1 := s.put (Fld.CLK_REF_STAT_QL r) (s.rankNow r)
  let lost := decide (8 ≤ r) && s.tbState (s.get (fdRefTbsel r)) != 3 && decide (2 ≤ s.stage r)
  let s2 := if lost then s1.setStage r 1 else s1
  if s2.on (Fld.CLK_REF_STAT_WTRRUN r) then
    let w := (s2.refIn r).wtr - 1
    (s2.setRefIn r { s2.refIn r with wtr := w }).put (Fld.CLK_REF_STAT_WTRLEFT r) ((w + 7999) / 8000)
  else s2

/-- Eligibility (R341). -/
def State.eligible (s : State) (r : Nat) : Bool :=
  s.get (fdRefPrio r) != 0 && stageOk (s.stage r) && decide (s.get (Fld.CLK_REF_STAT_QL r) ≤ 3) &&
    !s.on (Fld.CLK_REF_STAT_WTRRUN r)

/-- Order of the eligible inputs: rank, PRIO, number (R342). -/
def State.refKey (s : State) (r : Nat) : List Nat := [s.get (Fld.CLK_REF_STAT_QL r), s.get (fdRefPrio r), r]

/-- The input that an update selects (R342, R344). -/
def State.choose (s : State) : Option Nat :=
  let mode := s.get Fld.CLK_CTL_MODE
  if mode = 0 then
    ((addrs 0 1 10).filter s.eligible).foldl (fun b r =>
      match b with
      | none => some r
      | some x => if s.refKey r < s.refKey x then some r else some x) none
  else if mode = 1 ∧ s.eligible (s.get Fld.CLK_CTL_MSEL) then some (s.get Fld.CLK_CTL_MSEL)
  else none

/-- Period P of an input as a fraction of picoseconds (R330): numerator and denominator. -/
def State.refPeriod (s : State) (r : Nat) : Nat × Nat :=
  if r < 2 then (10 ^ 12, s.fs)
  else if r = 2 then (100000, 1)
  else if r = 3 then (10 ^ 12, 1)
  else (if s.get ⟨Reg.NET_STAT (r - 4), 2, 0⟩ = 1 then 8000 else 6400, 1)

/-- A phase in ps reduced to [-P/2, P/2) (R345). -/
def reducePhase (d : Int) (p : Nat × Nat) : Int :=
  let n : Int := p.1
  let x := (2 * d * p.2 + n) % (2 * n) - n
  x.fdiv (2 * p.2)

/-- The DPLL enters a state (R348). With no average to hold, HOLDOVER holds the frequency that it had (R326, R328). -/
def State.setDpll (s : State) (st : Nat) : State :=
  if s.dpll = st then s
  else
    let s1 := (s.put Fld.CLK_STAT_STATE st).raise 138 st
    let c := s1.clk
    let held := if st = 3 ∧ ¬ s.on Fld.CLK_STAT_HISTOK then c.freq else c.held
    let s2 := s1.setClk { c with lockRun := 0, lockedRun := 0, holdFrom := s.tb.edges, held := held }
    if st = 3 then s2.count ctrClkHold else s2

/-- SEL changes: event and count (R352). -/
def State.setSel (s : State) (r : Nat) : State :=
  if s.get Fld.CLK_STAT_SEL = r then s else ((s.put Fld.CLK_STAT_SEL r).count ctrSwitch).raise 137 r

/-- The selection of an update acts (R342, R345, R348): `dphi` is the phase of a newly selected input in ps. -/
def State.switchTo (s : State) (c : Option Nat) (dphi : Int) : State :=
  match c with
  | none => (s.setSel 15).setDpll (if s.on Fld.CLK_STAT_HISTOK then 3 else 0)
  | some r =>
    if s.get Fld.CLK_STAT_SEL = r then s
    else
      let d := if r < 8 then reducePhase dphi (s.refPeriod r) else dphi
      let s1 := s.setSel r
      let s2 := s1.setClk { s1.clk with rem := s1.clk.rem + 4 * d, lastStep := d }
      if s2.dpll = 0 ∨ s2.dpll = 3 then s2.setDpll 1 else s2

/-- Keep the newest `n` updates of a run-length history. -/
def keepRuns : Nat → List (Int × Nat) → List (Int × Nat)
  | _, [] => []
  | n, (f, k) :: t => if n = 0 then [] else if n ≤ k then [(f, n)] else (f, k) :: keepRuns (n - k) t

/-- One more update at a frequency. -/
def pushRun (f : Int) : List (Int × Nat) → List (Int × Nat)
  | [] => [(f, 1)]
  | (g, k) :: t => if f = g then (g, k + 1) :: t else (f, 1) :: (g, k) :: t

/-- Average of a run-length history. -/
def avgRuns (h : List (Int × Nat)) : Int :=
  let n : Nat := h.foldl (fun (n : Nat) x => n + x.2) 0
  if n = 0 then 0 else (h.foldl (fun (a : Int) x => a + x.1 * x.2) 0).fdiv n

/-- The offset of a TBREF in ps: the value of the time base that it names less the DPLL's time count (R331). -/
def State.tbrefError (s : State) (r : Nat) : Int :=
  ((s.base (s.get (fdRefTbsel r))).acc - (s.clk.count : Int)).fdiv (nsUnit / 1000)

/-- The loop's part of an update (R348, R349): `err` is the phase error in ps, `freq` the frequency the loop filter gives
in 2^-16 ppm. Once HISTOK is set, the average of the last 16 s follows the loop. -/
def State.loopUpdate (s : State) (err freq : Int) : State :=
  let c := s.clk
  let h := keepRuns 128000 (pushRun freq c.hist)
  let held := if s.on Fld.CLK_STAT_HISTOK then avgRuns h else c.held
  match s.dpll with
  | 0 => s.setClk { c with freq := s.getS Fld.CLK_XOCFG_TRIM, hist := [] }
  | 1 =>
    let run := runOf (decide (err.natAbs ≤ 10000)) c.lockRun
    let s1 := s.setClk { c with freq := freq, lockRun := run, hist := h, held := held }
    if 16000 ≤ run then s1.setDpll 2 else s1
  | 2 => s.setClk { c with freq := freq, lockedRun := c.lockedRun + 1, hist := h, held := held }
  | _ => s.setClk { c with freq := c.held }

/-- How far the DPLL's output leads a time base with SOURCE = CLOCK, in the unit of the value: the part that its PC has not
absorbed (R346). -/
def State.clockPhase (s : State) (n : Nat) : Int := (s.clk.count : Int) + (s.base n).lead - (s.base n).acc

/-- What a time base with SOURCE = CLOCK takes from an update (R299, R346, R310): the phase of the DPLL's output and its frequency.
While it runs it takes no jump. As grandmaster it follows the output, but takes no sample (R300). -/
def State.clockSample (s : State) (n : Nat) (freq : Int) : State :=
  let st := s.tbState n
  let p := s.clockPhase n
  let o := p.tdiv nsUnit
  let bad := decide (250 * 65536 < freq.natAbs)
  let far := st == 4 && decide ((s.get (Fld.TB_STEPTHR_THR n) : Int) < o.natAbs)
  let wide := decide (s.get (Fld.TB_LOCKWIN_WIN n) * nsUnit < p.natAbs)
  let follow (s : State) : State := (s.modBase n (fun b => { b with phase := p })).askFreq n freq
  if st ≤ 1 then s
  else if s.on (Fld.TB_STAT_GM n) then (if st = 4 ∨ bad then s else follow s)
  else
    let s2 := (s.showOffset n o).countRuns n far bad wide
    let b := s2.base n
    let cnt := s.get (Fld.TB_LOCKWIN_CNT n)
    if s2.restepTakes n bad then s2.doRestep n o freq
    else if st = 4 then s2.sampleHold n o freq far bad
    else if bad then (if 3 ≤ b.rangeRun then (s2.enterHoldover n 3).raise 131 n else s2)
    else
      let s3 := follow s2
      if st = 2 ∧ cnt ≤ b.inRun then (s3.modBase n (fun b => { b with offRun := 0 })).setTbState n 3
      else if st = 3 ∧ cnt ≤ b.offRun then s3.enterLocking n
      else s3

/-- The part of an update for one time base; class 6 that it announced when the update began lasts into the holdover that the
update begins (R335). -/
def State.passClock (s : State) (six : Nat → Bool) (n : Nat) : State :=
  if !s.tbClock n then s
  else if s.dpll = 1 ∨ s.dpll = 2 then s.clockSample n s.clk.freq
  else if s.tbState n = 2 ∨ s.tbState n = 3 then (s.enterHoldover n 8).modBase n (fun b => { b with class6 := six n })
  else s

/-- One DPLL update (R342 to R349): of an input 0 to 7, `err` is the phase error and `dphi` the phase of a newly selected one; of a
TBREF both are its time offset. -/
def State.dpllUpdate (s : State) (err dphi freq : Int) : State :=
  let s1 := (addrs 0 1 10).foldl State.latchRef s
  let c := s1.choose
  let off (r : Nat) (x : Int) : Int := if r = 8 ∨ r = 9 then s1.tbrefError r else x
  let s2 := s1.switchTo c (off (c.getD 15) dphi)
  let s3 := s2.loopUpdate (off (s2.get Fld.CLK_STAT_SEL) err) freq
  let d := if s3.dpll = 1 ∨ s3.dpll = 2 then clampTo (5 * s3.get Fld.CLK_PSLOPE_LIMIT) s3.clk.rem else 0
  let s4 := s3.setClk { s3.clk with
    rem := s3.clk.rem - d, count := ((s3.clk.count : Int) + d * (nsUnit / 4000)).toNat }
  (addrs 0 1 4).foldl (fun s' n => s'.passClock (fun m => (s.ownQuality m).1 == 6) n) s4

/-- The DPLL stops monitoring (R326, R328): HOLDOVER with its selection kept, and every input in
LOSS. -/
def State.stopMonitoring (s : State) : State :=
  (addrs 0 1 10).foldl (fun s r => if s.stage r = 0 then s else s.setStage r 1) (s.setDpll 3)

end Sys2Proof.Machine
end

