-- ==== Sys2Proof/Machine/House.lean ====
section
/-! DEFINITION. Frames that firmware in the house cores builds: datagrams (R250, R524), PTP messages (R302, R320), ESMC PDUs (R334)
and LLDP (R213, R441), and what firmware does with their transmit timestamps (R218, R220). The layouts of PTP, ESMC and LLDP are
those of their standards (log entry 128). -/

namespace Sys2Proof.Machine

/-- A UDP datagram over IPv4 from a port (R250, R524): destination MAC, addresses, port number, payload; DSCP 46, TTL 64,
untagged. -/
def State.datagram (s : State) (n dmac dip port : Nat) (data : List Byte) : List Byte :=
  let sip := s.get (Fld.STR_IPADDR_ADDR n)
  let ulen := 8 + data.length
  let udp (ck : Nat) : List Byte := beBytes port 2 ++ beBytes port 2 ++ beBytes ulen 2 ++ beBytes ck 2 ++ data
  let uck := 0xFFFF - udpSum sip dip ulen (udp 0)
  let ip (ck : Nat) : List Byte :=
    [0x45, 0xB8] ++ beBytes (20 + ulen) 2 ++ [0, 0, 0x40, 0, 64, 17] ++ beBytes ck 2 ++ beBytes sip 4 ++ beBytes dip 4
  beBytes dmac 6 ++ beBytes (s.macOf n) 6 ++ beBytes 0x0800 2 ++ ip (0xFFFF - onesSum (ip 0)) ++
    udp (if uck = 0 then 0xFFFF else uck)

/-- Firmware sends a datagram from queue `q` of a port. -/
def State.sendDatagram (s : State) (n q dmac dip port : Nat) (data : List Byte) : State :=
  s.houseFrame n q none (s.datagram n dmac dip port data)

/-! ### PTP messages -/

/-- A PTP timestamp of a time in ns: 48 bits of seconds, 32 bits of nanoseconds (R320). -/
def ptpTime (ns : Nat) : List Byte := beBytes (ns / 1000000000) 6 ++ beBytes (ns % 1000000000) 4

/-- A TLV of a PTP message. -/
def ptpTlv (type : Nat) (body : List Byte) : List Byte := beBytes type 2 ++ beBytes body.length 2 ++ body

/-- Does a time base run IEEE 802.1AS (R302)? -/
def State.ptpAs (s : State) (n : Nat) : Bool := s.get (Fld.TB_PTPCFG_PROFILE n) == 3

/-- logSyncInterval and logAnnounceInterval of a time base: what FW_CONFIG set, else the default of the profile (R302, R441). -/
def State.logSync (s : State) (n : Nat) : Int := (s.tb.fw.get (fun _ => ptpCfgReset) n).sync.getD (-3)

def State.logAnnounce (s : State) (n : Nat) : Int :=
  (s.tb.fw.get (fun _ => ptpCfgReset) n).announce.getD
    (match s.get (Fld.TB_PTPCFG_PROFILE n) with | 1 => 1 | 2 => -2 | _ => 0)

/-- A PTP message of time base `n` on a port: message type, flags, correctionField in 2^-16 ns, sequenceId, log interval, body. -/
def State.ptpMsg (s : State) (n port type flags : Nat) (corr : Int) (seq : BitVec 16) (log : Int) (body : List Byte) :
    List Byte :=
  let control := match type with | 0 => 0 | 1 => 1 | 8 => 2 | 9 => 3 | _ => 5
  beBytes ((s.ptpAs n).toNat * 16 + type) 1 ++ [0x12] ++ beBytes (34 + body.length) 2 ++
    beBytes (s.get (Fld.TB_PTPCFG_DOMAIN n)) 1 ++ [0] ++ beBytes flags 2 ++ beBytes (unsignedOf 64 corr) 8 ++ beBytes 0 4 ++
    beBytes (Config.clockIdentity n) 8 ++ beBytes (port + 1) 2 ++ beBytes seq.toNat 2 ++ beBytes control 1 ++
    beBytes (unsignedOf 8 log) 1 ++ body

/-- A PTP message goes to a queue of its port (R203, R302): an event message to queue 7 with a timestamp request whose tag is its
sequenceId (R218), a general message to queue 5. `dst` is the MAC and the IPv4 address of a unicast answer. -/
def State.ptpQueue (s : State) (n port : Nat) (event : Bool) (seq : BitVec 16) (dst : Option (BitVec 80)) (msg : List Byte) :
    State :=
  let udp := if event then 319 else 320
  let frame := if s.ptpAs n then beBytes 0x0180C200000E 6 ++ beBytes (s.macOf port) 6 ++ beBytes 0x88F7 2 ++ msg
    else match dst with
      | some d => s.datagram port (d.toNat / 2 ^ 32) (d.toNat % 2 ^ 32) udp msg
      | none => s.datagram port 0x01005E000181 0xE0000181 udp msg
  s.houseFrame port (if event then 7 else 5) (if event then some (false, seq.toNat) else none) frame

/-- Place of the PTP messages of one kind of a time base on a port in the table of sequence numbers. -/
def seqKey (n port kind : Nat) : Nat := (n * 4 + port) * 8 + kind

/-- The sequenceId of a message kind, which advances (R320). -/
def State.ptpSeq (s : State) (n port kind : Nat) : BitVec 16 := s.tb.seqs.get (fun _ => 0) (seqKey n port kind)

def State.nextSeq (s : State) (n port kind : Nat) : State :=
  { s with tb := { s.tb with seqs := s.tb.seqs.set (fun _ => 0) (seqKey n port kind) (s.ptpSeq n port kind + 1) } }

/-- What a time base announces on its master ports: its own quality as grandmaster, else what its master announced, one step
further, with its own identity at the end of the path (R302, R335). -/
def State.announced (s : State) (n : Nat) : Announce :=
  let own := s.ownAnnounce n
  match (s.base n).sel with
  | some a => { a with steps := a.steps + 1, sender := own.sender, port := own.port, path := a.path ++ [BitVec.ofNat 64 own.gm] }
  | none => { own with path := [BitVec.ofNat 64 own.gm], tlv := (s.tb.fw.get (fun _ => ptpCfgReset) n).tlv }

/-- Body of an Announce: the data set, and the profile's TLV: the path trace of 802.1AS, the synchronization metadata of
ST 2059-2. -/
def State.announceBody (s : State) (n : Nat) : List Byte :=
  let a := s.announced n
  beBytes 0 13 ++ beBytes a.prio1 1 ++ beBytes a.cls 1 ++ beBytes a.accuracy 1 ++ beBytes a.variance 2 ++ beBytes a.prio2 1 ++
    beBytes a.gm 8 ++ beBytes a.steps 2 ++ [0xA0] ++
    (match s.get (Fld.TB_PTPCFG_PROFILE n) with
     | 2 => if a.tlv.isEmpty then [] else ptpTlv 3 a.tlv
     | 3 => ptpTlv 8 ((a.path.map (fun x => beBytes x.toNat 8)).flatten)
     | _ => [])

/-- The Follow_Up information TLV of 802.1AS: as the master last gave it, all 0 in grandmaster role. -/
def State.followTlv (s : State) (n : Nat) : List Byte :=
  if s.ptpAs n then ptpTlv 3 ([0x00, 0x80, 0xC2, 0, 0, 1] ++ (if (s.base n).sel.isSome then (s.base n).info else []) ++
    beBytes 0 (if (s.base n).sel.isSome then 22 - (s.base n).info.length else 22))
  else []

/-- A time base sends a PTP message on a port: 0 Sync, 1 the Follow_Up of the Sync whose timestamp firmware holds, 2 Announce,
3 Delay_Req, 4 Pdelay_Req. -/
def State.ptpSend (s : State) (n port kind : Nat) : State :=
  let q := s.ptpSeq n port kind
  match kind with
  | 0 => (s.nextSeq n port 0).ptpQueue n port true q none (s.ptpMsg n port 0 0x0208 0 q (s.logSync n) (beBytes 0 10))
  | 1 =>
    (match s.tb.syncs.get (fun _ => none) (4 * n + port) with
     | some (tag, t) =>
       let s1 : State := { s with tb := { s.tb with syncs := s.tb.syncs.set (fun _ => none) (4 * n + port) none } }
       s1.ptpQueue n port false tag none (s.ptpMsg n port 8 0x0008 (t % 65536 : Nat) tag (s.logSync n)
         (ptpTime (t / 65536) ++ s.followTlv n))
     | none => s)
  | 2 => (s.nextSeq n port 2).ptpQueue n port false q none (s.ptpMsg n port 0xB 0x0008 0 q (s.logAnnounce n) (s.announceBody n))
  | 3 => (s.nextSeq n port 3).ptpQueue n port true q none (s.ptpMsg n port 1 0x0008 0 q 0x7F (beBytes 0 10))
  | _ => (s.nextSeq n port 4).ptpQueue n port true q none (s.ptpMsg n port 2 0x0008 0 q 0x7F (beBytes 0 20))

/-- A Delay_Req is answered: its receipt time, and the identity of its sender. -/
def State.delayResp (s : State) (n port : Nat) (req : BitVec 80) (seq : BitVec 16) (dst : Option (BitVec 80)) : State :=
  let t := s.tbTime n
  s.ptpQueue n port false seq dst (s.ptpMsg n port 9 0x0008 (-((t % 65536 : Nat) : Int)) seq (s.logSync n)
    (ptpTime (t / 65536) ++ beBytes req.toNat 10))

/-- A Pdelay_Req is answered; the follow-up leaves once the answer's own timestamp is known. -/
def State.pdelayResp (s : State) (n port : Nat) (req : BitVec 80) (seq : BitVec 16) : State :=
  s.ptpQueue n port true seq none (s.ptpMsg n port 3 0x0208 0 seq 0x7F (ptpTime (s.tbNs n) ++ beBytes req.toNat 10))

/-- The first timestamp of one owner, and the queue without it. -/
def popStamp (host : Bool) (l : List TxStamp) : Option (TxStamp × List TxStamp) := takeFirst (fun x => x.host == host) l

/-- Firmware pops its oldest timestamp after a frame of its own has left (R220): the time of a Sync is kept for the Follow_Up, that
of a Pdelay_Resp goes out in its follow-up. `b` is the frame. -/
def State.firmwarePop (s : State) (port : Nat) (b : List Byte) : State :=
  match popStamp false (s.port port).stamps, framePtp b with
  | some (x, l), some (o, _) =>
    let s1 := s.modPort port (fun p => { p with stamps := l })
    let t := x.ns * 65536 + x.frac
    let seq := BitVec.ofNat 16 x.tag
    if beAt b o 1 % 16 = 0 then
      { s1 with tb := { s1.tb with syncs := s1.tb.syncs.set (fun _ => none) (4 * x.tb + port) (some (seq, t)) } }
    else if beAt b o 1 % 16 = 3 then
      s1.ptpQueue x.tb port false seq none (s1.ptpMsg x.tb port 0xA 0x0008 (x.frac : Nat) seq 0x7F
        (ptpTime x.ns ++ bytesAt b (o + 44) 10))
    else s1
  | _, _ => s

/-! ### ESMC and LLDP -/

/-- An ESMC PDU with a quality level (R334). -/
def State.esmcBytes (s : State) (port : Nat) (event : Bool) (ssm : Nat) : List Byte :=
  beBytes 0x0180C2000002 6 ++ beBytes (s.macOf port) 6 ++ beBytes 0x8809 2 ++
    [0x0A, 0x00, 0x19, 0xA7, 0x00, 0x01] ++ beBytes (16 + 8 * event.toNat) 1 ++ [0, 0, 0] ++ [0x01, 0x00, 0x04] ++ beBytes ssm 1

/-- An LLDP frame with the EEE TLV (R213): transmit, receive and fallback wake times, and no echo. -/
def State.lldpBytes (s : State) (port : Nat) : List Byte :=
  let mac := beBytes (s.macOf port) 6
  let rx := beBytes (s.get (Fld.NET_EEE_CFG_TWRX port)) 2
  beBytes 0x0180C200000E 6 ++ mac ++ beBytes 0x88CC 2 ++ [0x02, 0x07, 0x04] ++ mac ++ [0x04, 0x07, 0x03] ++ mac ++ [0x06, 0x02] ++
    beBytes (min 65535 (4 * s.tb.lldp.get (fun _ => 30) port + 1)) 2 ++ [0xFE, 0x0E, 0x00, 0x12, 0x0F, 0x05] ++
    beBytes (s.get (Fld.NET_EEE_STAT_TWTX port)) 2 ++ rx ++ rx ++ beBytes 0 4 ++ [0, 0]

end Sys2Proof.Machine
end

