-- ==== Sys2Proof/Machine/TimeExec.lean ====
section
/-! DEFINITION. Meanings of the commands of the time bases and of the clock unit (R295 to R352), but for the media
re-step, which also reaches the streams and ports. -/

namespace Sys2Proof.Machine

/-! ### Time-base registers and messages -/

/-- A time base is disabled: its value clears (R301). -/
def State.disableBase (s : State) (n : Nat) : State :=
  let s1 := (s.setBase n timeBaseReset).flag (Fld.TB_CTL_EN n) false
  ((((s1.put (Fld.TB_STAT_REASON n) 0).putS (Fld.TB_FREQ_VALUE n) 0).putS (Fld.TB_OFFSET_VALUE n) 0).setTbState n 0).showMaster n

/-- A time base is enabled: UNSET (R300). -/
def State.enableBase (s : State) (n : Nat) : State :=
  ((((s.modBase n (fun b => { b with hist := [(s.tb.edges, 0)] })).flag (Fld.TB_CTL_EN n) true).setTbState n 1).showMaster n)

/-- Does an enabled TBREF name time base `n` (R331)? -/
def State.namedByTbref (s : State) (n : Nat) : Bool :=
  (s.get (fdRefPrio 8) != 0 && s.get (fdRefTbsel 8) == n) || (s.get (fdRefPrio 9) != 0 && s.get (fdRefTbsel 9) == n)

/-- Does another enabled time base have this profile and domain (R304)? -/
def State.domainTaken (s : State) (n profile domain : Nat) : Bool :=
  (addrs 0 1 4).any (fun m => m != n && s.on (Fld.TB_CTL_EN m) && profile != 0 &&
    s.get (Fld.TB_PTPCFG_PROFILE m) == profile && s.get (Fld.TB_PTPCFG_DOMAIN m) == domain)

/-- A write of CTL (R299, R301, R304, R331): `free` says that every flow slot is FREE. -/
def State.writeTbCtl (s : State) (n : Nat) (w : Word) (free : Bool) : State :=
  let src := w.toNat % 4
  let en := w.msb
  let off := s.tbState n == 0
  let srcBad := decide (2 ≤ src) || (src != s.get (Fld.TB_CTL_SOURCE n) && (!off || (src == 1 && s.namedByTbref n)))
  let s1 := if srcBad then s.invalid (Reg.TB_CTL n) else s.put (Fld.TB_CTL_SOURCE n) src
  State.checkBasePorts n <| if en && off then
    (if s.domainTaken n (s.get (Fld.TB_PTPCFG_PROFILE n)) (s.get (Fld.TB_PTPCFG_DOMAIN n)) then s1.invalid (Reg.TB_CTL n)
     else s1.enableBase n)
  else if !en && !off then
    (if n = s.media ∧ ¬ free then s1.invalid (Reg.TB_CTL n) else s1.disableBase n)
  else s1

/-- PTP_SYNC_RECEIVE: a Sync of the selected master with its Follow_Up; one whose sequenceId is not later than that of the Sync
taken before it is an old copy (R8, R320; log entry 129). -/
def execPtpSyncReceive (tb : Fin 4) (msg : SyncMsg) (servo : ServoSample) (s : State) : Answer :=
  let old := match (s.base tb).seqIn with
    | some q => !laterThan 16 msg.seq.toNat q.toNat
    | none => false
  .next (if !s.tbClock tb && (s.base tb).sel.isSome && s.clockRuns && !old then
      (s.modBase tb (fun b => { b with seqIn := some msg.seq, info := msg.info.take 22 })).sample tb servo.offset servo.freq
    else s)

/-- PTP_DELAY_RESP_RECEIVE. -/
def execPtpDelayRespReceive (tb : Fin 4) (s : State) : Answer :=
  .next (if s.tbState tb = 0 then s else s.modBase tb (fun b => { b with pathOk := true }))

/-- PTP_ANNOUNCE_RECEIVE: the data set of its sender is replaced and the best-master algorithm decides. With 802.1AS an Announce
that has passed this clock is discarded by its path trace. -/
def execPtpAnnounceReceive (tb port : Fin 4) (sender gm : BitVec 64) (prio1 cls accuracy prio2 : BitVec 8)
    (variance : BitVec 16) (trail : AnnounceTrail) (s : State) : Answer :=
  let a : Announce := ⟨sender.toNat, port, prio1.toNat, cls.toNat, accuracy.toNat, variance.toNat, prio2.toNat, gm.toNat,
    trail.steps.toNat, trail.path, trail.tlv⟩
  let round := s.ptpAs tb && trail.path.contains (BitVec.ofNat 64 (s.ownAnnounce tb).gm)
  let mine := s.tbState tb != 0 && s.get (Fld.TB_PTPCFG_PROFILE tb) != 0 &&
    (s.get (Fld.TB_PTPCFG_PORTS tb)).testBit port && !round
  .next (if mine then
      (s.modBase tb (fun b =>
        { b with masters := a :: b.masters.filter (fun x => x.sender != a.sender || x.port != a.port) })).selectMaster tb
    else s)

/-- PTP_RECEIPT_TIMEOUT: the selected master is lost; with no other one the time base holds over (R309). -/
def execPtpReceiptTimeout (tb : Fin 4) (s : State) : Answer :=
  match (s.base tb).sel with
  | none => .next s
  | some a =>
    let s1 := (s.modBase tb (fun b =>
      { b with masters := b.masters.filter (fun x => x.sender != a.sender || x.port != a.port) })).selectMaster tb
    .next (if (s1.base tb).sel.isNone then s1.holdIfRuns tb 1 else s1)

/-- Does the time base carry PTP on a port (R302)? -/
def State.ptpOn (s : State) (n port : Nat) : Bool :=
  s.tbState n != 0 && s.get (Fld.TB_PTPCFG_PROFILE n) != 0 && (s.get (Fld.TB_PTPCFG_PORTS n)).testBit port

/-- Is a port in the master role of a time base (R302): the grandmaster's, or a boundary clock's port other than the one of its
master, on which nobody announces better? -/
def State.masterPort (s : State) (n port : Nat) : Bool :=
  s.ptpOn n port && (s.on (Fld.TB_STAT_GM n) ||
    match (s.base n).sel with
    | some a => a.port != port && !s.on (Fld.TB_PTPCFG_SONLY n)
    | none => false) &&
    (match bestMaster ((s.base n).masters.filter (fun a => a.port == port)) with
     | some a => (s.announced n).better a
     | none => true)

/-- PTP_MESSAGE_SEND: Sync, Follow_Up and Announce on a master port, a Delay_Req on the slave port of an end-to-end
profile, a Pdelay_Req on every port of 802.1AS. -/
def execPtpMessageSend (tb port : Fin 4) (kind : Fin 5) (s : State) : Answer :=
  let slave := match (s.base tb).sel with
    | some a => a.port == port
    | none => false
  let as := s.ptpAs tb
  let ok := if kind.val < 3 then s.masterPort tb port
    else if kind.val = 3 then s.ptpOn tb port && slave && !as
    else s.ptpOn tb port && as
  .next (if ok then s.ptpSend tb port kind else s)

/-- PTP_DELAY_REQ_RECEIVE: answered in master role, or by the peer-delay mechanism. A unicast
requester is answered at its address with ST 2059-2, whose option it is. -/
def execPtpDelayReqReceive (tb port : Fin 4) (msg : DelayReq) (s : State) : Answer :=
  let dst := if s.get (Fld.TB_PTPCFG_PROFILE tb) = 2 then msg.reply else none
  .next (if msg.peer then (if s.ptpOn tb port && s.ptpAs tb then s.pdelayResp tb port msg.req msg.seq else s)
    else if s.masterPort tb port && !s.ptpAs tb then s.delayResp tb port msg.req msg.seq dst else s)

/-! ### Time-base commands at their tick -/

/-- Does a record write CMD of time base `n` with operation `op`? -/
def tbCmd (n op : Nat) (r : TpRec) : Bool := r.names [Reg.TB_CMD n] && decide (r.value.toNat / 2 ^ 28 = op)

/-- TB_SET (R307). -/
def State.applyTbSet (s : State) (n : Nat) : State :=
  if s.tbState n = 1 then
    let sec := s.get (Fld.TB_SET_SEC_LO_VALUE n) + 2 ^ 32 * s.get (Fld.TB_SET_SEC_HI_VALUE n)
    let v := (sec * 1000000000 + s.get (Fld.TB_SET_NS_VALUE n)) * nsUnit
    let s1 := s.modBase n (fun b => { b.clearRuns with acc := v, phase := 0, lead := v - s.clk.count })
    ((s1.put (Fld.TB_CMD_STAT_RESULT n) 2).setTbState n 3).selectMaster n
  else s.put (Fld.TB_CMD_STAT_RESULT n) 4

/-- TB_SET. -/
def execTbSet (tb : Fin 4) (s : State) : Answer := .next (s.applyFirst (tbCmd tb 1) (fun s _ => s.applyTbSet tb))

/-- CMD HOLD (R309): in UNSET and DISABLED it is refused. -/
def State.applyTbHold (s : State) (n : Nat) : State :=
  if s.tbRuns n then (s.enterHoldover n 5).put (Fld.TB_CMD_STAT_RESULT n) 2 else s.put (Fld.TB_CMD_STAT_RESULT n) 4

/-- TB_HOLD. -/
def execTbHold (tb : Fin 4) (s : State) : Answer := .next (s.applyFirst (tbCmd tb 3) (fun s _ => s.applyTbHold tb))

/-- CMD RELEASE (R310): the rules for LOSS apply from then on. -/
def State.applyTbRelease (s : State) (n : Nat) : State :=
  if s.tbState n = 4 ∧ s.get (Fld.TB_STAT_REASON n) = 5 then
    ((s.modBase n TimeBase.clearRuns).put (Fld.TB_STAT_REASON n) 1).put (Fld.TB_CMD_STAT_RESULT n) 2
  else s.put (Fld.TB_CMD_STAT_RESULT n) 4

/-- TB_RELEASE. -/
def execTbRelease (tb : Fin 4) (s : State) : Answer := .next (s.applyFirst (tbCmd tb 4) (fun s _ => s.applyTbRelease tb))

/-- A re-step is refused (R312). -/
def State.refuseRestep (s : State) (n : Nat) : State := (s.put (Fld.TB_CMD_STAT_RESULT n) 4).raise 135 n

/-- May time base `n` be re-stepped (R312)? -/
def State.mayRestep (s : State) (n : Nat) : Bool := s.tbRuns n && (s.base n).restep == .none

/-! ### The clock unit -/

/-- DPLL_UPDATE; while XO_IN is lost and in Standby the DPLL does not run (R326, R328). -/
def execDpllUpdate (err dphi freq : Int) (s : State) : Answer :=
  .next (if s.clockRuns then s.dpllUpdate err dphi freq else s)

/-- REF_LOSS (R336). -/
def execRefLoss (input : Fin 10) (s : State) : Answer := .next (if 2 ≤ s.stage input then s.setStage input 1 else s)

/-- REF_LOSS_CLEAR (R336): the stage follows the offset; a TBREF needs its time base LOCKED. -/
def execRefLossClear (input : Fin 10) (offset : Int) (s : State) : Answer :=
  let ok := s.clockRuns && s.stage input == 1 && s.get (fdRefPrio input) != 0 &&
    (decide (input.val < 8) || s.tbState (s.get (fdRefTbsel input)) == 3) &&
    (decide (input.val < 4) || decide (8 ≤ input.val) || s.get (Fld.LANE_STAT_STATE (input - 4)) == 3)
  let y := { s.refIn input with offset := offset, upW := 0, upN := 0, upD := 0, downW := 0, downN := 0, downD := 0 }
  .next (if ok then (s.setRefIn input y).setStage input (s.stageOf input offset) else s)

/-- Which rate a count of edges in 1 ms lies within 2 % of, 15 for none (R338). -/
def measuredRate (count : Nat) : Nat :=
  match (addrs 0 1 6).find? (fun c => decide (((count : Int) * 1000 - rateHz c).natAbs * 50 ≤ rateHz c)) with
  | some c => c
  | none => 15

/-- RATE_WINDOW (R338). -/
def execRateWindow (input : Fin 3) (count : BitVec 16) (s : State) : Answer :=
  let nominal := if input.val < 2 then s.fs else 10000000
  let ok := decide (((count.toNat : Int) * 1000 - nominal).natAbs * 50 ≤ nominal)
  let s1 := if input.val < 2 then s.put (Fld.CLK_REF_STAT_MEASFS input) (measuredRate count.toNat) else s
  let s2 := s1.setRefIn input { s1.refIn input with goodWin := runOf ok (s1.refIn input).goodWin }
  .next (if s.stage input = 0 ∨ ¬ s.clockRuns then s
    else if !ok then s2.setStage input 6
    else if s.stage input = 6 ∧ 10 ≤ (s2.refIn input).goodWin then s2.setStage input 1
    else s2)

/-- REF_OFFSET_UPDATE (R339, R340). -/
def execRefOffsetUpdate (input : Fin 10) (offset : Int) (s : State) : Answer :=
  .next (if 2 ≤ s.stage input ∧ s.stage input ≤ 5 then s.offsetUpdate input offset else s)

/-- WTR_EXPIRE (R343). -/
def execWtrExpire (input : Fin 10) (s : State) : Answer :=
  .next (if s.on (Fld.CLK_REF_STAT_WTRRUN input) then s.stopWtr input else s)

/-- HISTOK_SET (R349): 16 s in LOCKED are 128,000 updates. -/
def execHistokSet (s : State) : Answer :=
  .next (if s.dpll = 2 ∧ 128000 ≤ s.clk.lockedRun then
      let s1 := s.flag Fld.CLK_STAT_HISTOK true
      s1.setClk { s1.clk with held := avgRuns s1.clk.hist }
    else s)

/-- ESMC_RECEIVE (R332, R333). -/
def execEsmcReceive (port : Fin 4) (ssm : BitVec 4) (s : State) : Answer :=
  .next (s.setRefIn (4 + port) { s.refIn (4 + port) with esmc := rankOfSsm ssm.toNat })

/-- ESMC_TIMEOUT (R333): DNU. -/
def execEsmcTimeout (port : Fin 4) (s : State) : Answer :=
  .next (s.setRefIn (4 + port) { s.refIn (4 + port) with esmc := 4 })

/-- The SSM that a port sends (R334). -/
def State.ssmOut (s : State) (port : Nat) : Nat :=
  if s.get Fld.CLK_STAT_SEL = 4 + port then 0xF
  else if s.dpll = 2 then ssmOfRank (s.get (Fld.CLK_REF_STAT_QL (s.get Fld.CLK_STAT_SEL)))
  else 0xB

/-- Firmware sends an ESMC PDU on a port whose lane has TXREF = 1, while ESMC is on there (R334, R441). -/
def State.esmcSend (s : State) (port : Nat) (event : Bool) : State :=
  if s.on (Fld.LANE_CFG_TXREF port) && s.tb.esmcOn.getLsbD port then s.houseFrame port 5 none (s.esmcBytes port event (s.ssmOut port)) else s

/-- ESMC_INFO_SEND. -/
def execEsmcInfoSend (port : Fin 4) (s : State) : Answer := .next (s.esmcSend port false)

/-- ESMC_EVENT_SEND. -/
def execEsmcEventSend (port : Fin 4) (s : State) : Answer := .next (s.esmcSend port true)

/-- A PHSTEP record (R347): refused in FREERUN and HOLDOVER. -/
def State.applyPhstep (s : State) (w : Word) : State :=
  if s.dpll = 0 ∨ s.dpll = 3 ∨ w = 0x80000000 then s.invalid Reg.CLK_PHSTEP
  else s.setClk { s.clk with rem := s.clk.rem + 4 * w.toInt }

/-- PHSTEP_APPLY. -/
def execPhstepApply (s : State) : Answer :=
  .next (s.applyFirst (fun r => r.names [Reg.CLK_PHSTEP]) (fun s r => s.applyPhstep r.value))

/-- REFERENCE_EDGE (R337): accepted between 0.875 P and 1.125 P after the last accepted edge, and as the first edge after
a loss. -/
def execReferenceEdge (input : Fin 4) (ps : BitVec 48) (s : State) : Answer :=
  let p := s.refPeriod input
  let x := s.refIn input
  let ok := !x.seen || (decide (7 * p.1 ≤ 8 * ps.toNat * p.2) && decide (8 * ps.toNat * p.2 ≤ 9 * p.1))
  .next (if !s.clockRuns then s else if ok then s.setRefIn input { x with seen := true } else s.count (ctrRef input 1))

/-! ### Snapshots (R329) -/

/-- TBn.SNAP: the value, and the row index when this is the media time base. -/
def State.snapBase (s : State) (n : Nat) : State :=
  let v := s.tbTime n
  let sec := v / (65536 * 1000000000)
  let row := if n = s.media then rowCount v s.fs else 0
  ((((s.put (Fld.TB_TIME_SEC_LO_VALUE n) sec).put (Fld.TB_TIME_SEC_HI_VALUE n) (sec / 2 ^ 32 % 2 ^ 16)).put
    (Fld.TB_TIME_NS_VALUE n) (v / 65536 % 1000000000)).put (Fld.TB_TIME_FRAC_VALUE n) (v % 65536)).put
    (Fld.TB_ROWIDX_ROWIDX n) row

/-- CLK.SNAP: every snapshot value of CLK. -/
def State.snapClk (s : State) : State :=
  let c := s.clk
  let m := 2 ^ 31 - 1
  let s1 := (((s.putS Fld.CLK_PSTEP_LAST_VALUE (clampTo m c.lastStep)).putS Fld.CLK_PHASEREM_VALUE
    (clampTo m (c.rem.tdiv 4))).putS Fld.CLK_HOFREQ_FREQ c.held).put Fld.CLK_HOTIME_TIME
    (if s.dpll = 3 then (s.tb.edges - c.holdFrom) / edgesPerSecond else 0)
  (addrs 0 1 10).foldl (fun s r => s.putS (Fld.CLK_REF_OFFSET_OFFSET r) (s.refIn r).offset) s1

end Sys2Proof.Machine
end

