-- ==== Sys2Proof/Machine/MediaExec.lean ====
section
/-! DEFINITION. Enabling a time base, and the re-steps (R301, R312 to R317), which on the media time base reach streams and
ports; the lock of the media clock (R325). -/

namespace Sys2Proof.Machine

/-- Every flow slot is FREE. -/
def State.allFree (s : State) : Bool := s.str.flow.all (fun p => p.2.state == 0)

/-- TB_EN_WRITE. -/
def execTbEnWrite (tb : Fin 4) (value : BitVec 32) (s : State) : Answer := .next (s.writeTbCtl tb value s.allFree)

def State.setRestep (s : State) (n : Nat) (r : Restep) : State := s.modBase n (fun b => { b with restep := r })

/-- Every output starts its bind-off at the engine tick of row `k` (R316, R383); the AMP and XFEED words follow the re-step. -/
def State.bindOffOutputs (s : State) (k : Word) : State :=
  ((s.flowKeys.filter (fun n => decide (256 ≤ n) && (s.flow n).state == 2)).foldl (fun s n => s.bindoffFlow n k) s).rebindPorts k

/-- CMD RESTEP at its tick (R312 to R316). -/
def State.applyTbRestep (s : State) (n : Nat) (boff : Bool) : State :=
  let go (s : State) (r : Restep) : State := (s.setRestep n r).put (Fld.TB_CMD_STAT_RESULT n) 1
  if !s.mayRestep n then s.refuseRestep n
  else if n ≠ s.media then go s .prepared
  else if boff then go (s.bindOffOutputs s.tickRow) (.binding (some s.tickRow))
  else if s.allFree then go s (.binding none)
  else s.refuseRestep n

/-- TB_RESTEP. -/
def execTbRestep (tb : Fin 4) (s : State) : Answer :=
  .next (s.applyFirst (tbCmd tb 2) (fun s r => s.applyTbRestep tb (r.value.getLsbD 0)))

/-- A MEDIASEL write at its tick: another selection follows R315 and R317; the time base selected must give row ticks. -/
def State.applyMediasel (s : State) (w : Word) : State :=
  let n := w.toNat % 4
  if n = s.media then s
  else if s.allFree && s.mayRestep n && (s.base s.media).restep == .none then
    ((s.put Fld.TB0_MEDIASEL_SEL n).setRestep n (.binding none)).put (Fld.TB_CMD_STAT_RESULT n) 1
  else s.refuseRestep n

/-- MEDIASEL_APPLY. -/
def execMediaselApply (s : State) : Answer :=
  .next (s.applyFirst (fun r => r.names [Reg.TB0_MEDIASEL]) (fun s r => s.applyMediasel r.value))

/-- A receive flow in ACTIVE or LOST goes back to WAIT (R317, step 1). -/
def FlowSlot.toWait (f : FlowSlot) : FlowSlot :=
  if f.state = 2 ∨ f.state = 3 then { f with state := 1, latch := 0, hist := [], early := none, jit := [], seq := none } else f

/-- Step 1 of R317. -/
def State.prepareRestep (s : State) : State :=
  let s1 := s.stopTicks.tpFlush
  let s2 := (s1.rxKeys).foldl (fun s n => s.modFlow n FlowSlot.toWait) s1
  s2.setRestep s2.media .prepared

/-- MEDIA_RESTEP_PREPARED, at the tick that completes the preparation (R315, R316). -/
def execMediaRestepPrepared (s : State) : Answer :=
  .next (match (s.base s.media).restep with
    | .binding none => s.prepareRestep
    | .binding (some k) => if 64 ≤ (s.tickRow - k).toNat then s.prepareRestep else s
    | _ => s)

/-- RESTEP_NOSTEP_TIMEOUT (R317, step 2). -/
def execRestepNostepTimeout (s : State) : Answer :=
  let n := s.media
  .next (if (s.base n).restep == .prepared then
      let s1 := (s.setRestep n .none).put (Fld.TB_CMD_STAT_RESULT n) 3
      { s1 with tb := { s1.tb with doneDue := some (n, 3) } }
    else s)

/-- MEDIA_CLOCK_LOCK (R318, R325): row ticks resume on a new grid. -/
def execMediaClockLock (s : State) : Answer :=
  .next (if !s.row.ticks && s.tbRuns s.media && (s.base s.media).restep != .prepared && s.boot.causes.isEmpty && s.clockRuns then
      (s.setRow { s.row with ticks := true, fresh := true, fromRow := s.mediaRow }).setMlock true
    else s)

end Sys2Proof.Machine
end

