-- ==== Sys2Proof/Machine/RingExec.lean ====
section
/-! DEFINITION. Meanings of the host-interface commands (R421 to R456), of translation and faults (R457 to R480), and of
events and mailboxes (R481 to R502). Transfers that end in a frame or an image are in later files. -/

namespace Sys2Proof.Machine

/-! ### Descriptors: field checks -/

/-- The first offset whose check fails. -/
def firstBad : List (Nat × Bool) → Option Nat
  | [] => none
  | (o, ok) :: t => if ok then firstBad t else some o

/-- Checks of every descriptor: reserved flags, and an address within 48 bits (R433, R461). -/
def Desc.flagsOk (d : Desc) : Bool := decide (leAt d.bytes 1 1 < 2)
def Desc.addrOk (d : Desc) : Bool := decide (d.addr < 2 ^ 48)

/-- Length from `lo` to `hi` in steps of `k`. -/
def lenOk (n lo hi k : Nat) : Bool := decide (lo ≤ n) && decide (n ≤ hi) && decide (n % k = 0)

/-- Field checks by opcode (R440), in order of byte offset. -/
def State.badField (s : State) (r : Nat) (d : Desc) : Option Nat :=
  let p0 := d.p0
  let z (o v : Nat) : Nat × Bool := (o, decide (v = 0))
  let head : List (Nat × Bool) := [(1, d.flagsOk)]
  match d.op with
  | 0 => firstBad (head ++ [z 4 p0, z 8 d.addr, z 16 d.len, z 20 d.p2, z 24 d.p3])
  | 1 => firstBad (head ++ [z 4 p0, z 24 d.p3])
  | 2 => firstBad (head ++ [(4, decide (p0 < 128)), (8, d.addrOk), (16, lenOk d.len 4 32768 4),
      (20, decide (d.p2 % 4 = 0) && decide (d.p2 + d.len ≤ 32768)), z 24 d.p3])
  | 3 => firstBad (head ++ [(4, decide (p0 < 128)), (8, d.addrOk), (16, lenOk d.len 4 65536 4),
      (20, decide (d.p2 % 4 = 0) && decide (d.p2 + d.len ≤ 65536)), z 24 d.p3])
  | 4 => firstBad (head ++ [(4, decide (p0 < 2 ^ 24) && decide (p0 % 65536 < classSize (p0 / 65536 % 256))), (8, d.addrOk),
      (16, lenOk d.len 2 (2 * (classSize (p0 / 65536 % 256) - p0 % 65536)) 2), z 20 d.p2, z 24 d.p3])
  | 5 => firstBad (head ++ [(4, decide (p0 < 2 ^ 18)), (8, d.addrOk), (16, lenOk d.len 8 (8 * (2 ^ 18 - p0)) 8),
      (20, decide (d.p2 < 2)), z 24 d.p3])
  | 6 => firstBad (head ++ [z 4 p0, (8, d.addrOk), (16, lenOk d.len 64 (2 ^ 24) 64),
      (20, decide (d.p2 % 64 = 0) && decide (d.p2 + d.len ≤ 100663296)), z 24 d.p3])
  | 7 => firstBad (head ++ [z 4 p0, (8, d.addrOk), (16, lenOk d.len 64 (2 ^ 24) 64),
      (20, decide (d.p2 % 64 = 0) && decide (d.p2 + d.len ≤ 100663296)), z 24 d.p3])
  | 8 =>
    let v := signedOf 32 (d.p3 % 2 ^ 32)
    let prof := s.get (Fld.TB_PTPCFG_PROFILE (d.p2 % 4))
    let inR (lo hi : Int) : Bool := decide (lo ≤ v) && decide (v ≤ hi)
    let value : Bool := match p0 with
      | 1 => if prof = 1 then inR (-4) 1 else if prof = 2 then inR (-7) (-1) else prof == 3 && inR (-5) 0
      | 2 => if prof = 1 then inR 0 4 else if prof = 2 then inR (-3) 1 else prof == 3 && inR 0 3
      | 3 => inR 2 10
      | 4 => decide (d.p3 = 0)
      | 0x10 => inR 1 3600
      | _ => inR 0 1
    let src := decide (p0 = 4)
    firstBad (head ++ [(4, [1, 2, 3, 4, 0x10, 0x11].contains p0), (8, if src then d.addrOk else decide (d.addr = 0)),
      (16, if src then lenOk d.len 4 64 1 else decide (d.len = 0)), (20, decide (d.p2 < 4)),
      (24, decide (d.p3 < 2 ^ 32) && value)])
  | 9 => firstBad (head ++ [(4, decide (p0 < 65536) && s.host.faults.any (fun f => f.fid == p0)), z 8 d.addr, z 16 d.len,
      (20, decide (d.p2 < 2)), z 24 d.p3])
  | 10 => firstBad (head ++ [(4, decide (p0 < 3)), (8, d.addrOk && decide (d.addr % 64 = 0)), (16, decide (0 < d.len)),
      z 20 d.p2, z 24 d.p3])
  | 0x20 => firstBad (head ++ [(4, decide (p0 % 8 + p0 / 256 % 2 * 256 = p0)), (8, d.addrOk), (16, lenOk d.len 14 9212 1),
      z 20 d.p2, z 24 d.p3])
  | 0x21 => firstBad (head ++ [z 4 p0, (8, d.addrOk),
      (16, decide (s.get (Fld.NET_CFG_MAXFRM (s.get (Fld.RING_CFG2_ICNT r) % 4)) ≤ d.len)), z 20 d.p2, z 24 d.p3])
  | _ => firstBad (head ++ [(4, decide (p0 % 64 = 0)), (8, d.addrOk && decide (d.addr % 64 = 0)),
      (16, decide (d.len = 256 * (s.get (Fld.RING_CFG2_NCHM1 r) + 1))), z 20 d.p2, z 24 d.p3])

/-- A completion of the head descriptor, which leaves the ring. -/
def State.finishHead (s : State) (r : Nat) (c : Comp) : State :=
  match (s.ring r).fetched with
  | d :: t => ((s.modRing r (fun x => { x with fetched := t })).completeDesc r d c).settle r
  | [] => s

/-- Execute the head descriptor of a ring when `p` holds of it: field checks, then `f`. Nothing changes where it is not
its turn (log entry 6). -/
def State.execHead (s : State) (r : Nat) (p : Desc → Bool) (f : State → Desc → State) : State :=
  let x := s.ring r
  match x.fetched with
  | [] => s
  | d :: _ =>
    if s.ringState r = 1 ∧ x.active.isNone ∧ ¬ d.dup ∧ d.lost.isNone ∧ s.opTaken r d.op ∧ p d then
      (match s.badField r d with
       | some o => s.finishHead r (d.comp r 2 o)
       | none => f s d).startAllRx.pumpAll
    else s

/-- A command that completes at once with status OK. -/
def State.okHead (s : State) (r : Nat) (d : Desc) : State := s.finishHead r (d.comp r 0 0)

/-- Start a transfer of the head descriptor. -/
def State.startHead (s : State) (r : Nat) (d : Desc) : State := s.startTransfer r ⟨d, d.op, 0, d.len, [], none⟩

/-- CMD_NOP. -/
def execCmdNop (ring : Fin 64) (s : State) : Answer := .next (s.execHead ring (fun d => d.op == 0) (fun s d => s.okHead ring d))

/-- TIMED_PARAM (R141, R440): OK for ACCEPTED, otherwise REFUSED with the reason. -/
def execTimedParam (ring : Fin 64) (s : State) : Answer :=
  .next (s.execHead ring (fun d => d.op == 1) (fun s d =>
    let r := s.tpSubmit (tpOfBytes (bytesAt d.bytes 8 16))
    r.1.finishHead ring (d.comp ring (if r.2 = 0 then 0 else 5) r.2)))

/-- LOAD_PROG: READY clears at the start (R145). -/
def execLoadProg (ring : Fin 64) (s : State) : Answer :=
  .next (s.execHead ring (fun d => d.op == 2) (fun s d => (s.setPready d.p0 false).startHead ring d))

/-- LOAD_COEF. -/
def execLoadCoef (ring : Fin 64) (s : State) : Answer :=
  .next (s.execHead ring (fun d => d.op == 3) (fun s d => (s.setCready d.p0 false).startHead ring d))

/-- LOAD_MAP. -/
def execLoadMap (ring : Fin 64) (s : State) : Answer :=
  .next (s.execHead ring (fun d => d.op == 4) (fun s d =>
    ((s.setMapReady false).flag Fld.SST_MAP_STAT_SHBAD false).startHead ring d))

/-- LOAD_MTX. -/
def execLoadMtx (ring : Fin 64) (s : State) : Answer :=
  .next (s.execHead ring (fun d => d.op == 5) (fun s d => s.touchShadowTable.startHead ring d))

/-- SHMEM_WRITE. -/
def execShmemWrite (ring : Fin 64) (s : State) : Answer :=
  .next (s.execHead ring (fun d => d.op == 6) (fun s d => s.startHead ring d))

/-- SHMEM_READ. -/
def execShmemRead (ring : Fin 64) (s : State) : Answer :=
  .next (s.execHead ring (fun d => d.op == 7) (fun s d => s.startHead ring d))

/-- Is the head a FW_CONFIG of this key, or of a key that no item has? -/
def isConfig (key : Nat) (d : Desc) : Bool :=
  d.op == 8 && (d.p0 == key || !([1, 2, 3, 4, 0x10, 0x11].contains d.p0))

/-- Change what FW_CONFIG holds for a time base. -/
def State.modFw (s : State) (n : Nat) (f : PtpCfg → PtpCfg) : State :=
  { s with tb := { s.tb with fw := s.tb.fw.set (fun _ => ptpCfgReset) n (f (s.tb.fw.get (fun _ => ptpCfgReset) n)) } }

/-- Signed value of a FW_CONFIG. -/
def Desc.value (d : Desc) : Int := signedOf 32 (d.p3 % 2 ^ 32)

/-- FW_CONFIG_SYNC_INTERVAL. -/
def execFwConfigSyncInterval (ring : Fin 64) (s : State) : Answer :=
  .next (s.execHead ring (isConfig 1) (fun s d => (s.modFw d.p2 (fun c => { c with sync := some d.value })).okHead ring d))

/-- FW_CONFIG_ANNOUNCE_INTERVAL. -/
def execFwConfigAnnounceInterval (ring : Fin 64) (s : State) : Answer :=
  .next (s.execHead ring (isConfig 2) (fun s d =>
    (s.modFw d.p2 (fun c => { c with announce := some d.value })).okHead ring d))

/-- FW_CONFIG_ANNOUNCE_TIMEOUT. -/
def execFwConfigAnnounceTimeout (ring : Fin 64) (s : State) : Answer :=
  .next (s.execHead ring (isConfig 3) (fun s d =>
    (s.modFw d.p2 (fun c => { c with timeout := some (d.p3 % 2 ^ 32) })).okHead ring d))

/-- FW_CONFIG_METADATA_TLV: its data is read first. -/
def execFwConfigMetadataTlv (ring : Fin 64) (s : State) : Answer :=
  .next (s.execHead ring (isConfig 4) (fun s d => s.startHead ring d))

/-- FW_CONFIG_LLDP_INTERVAL. -/
def execFwConfigLldpInterval (ring : Fin 64) (s : State) : Answer :=
  .next (s.execHead ring (isConfig 0x10) (fun s d =>
    ({ s with tb := { s.tb with lldp := s.tb.lldp.set (fun _ => 0) d.p2 (d.p3 % 2 ^ 32) } }).okHead ring d))

/-- FW_CONFIG_ESMC. -/
def execFwConfigEsmc (ring : Fin 64) (s : State) : Answer :=
  .next (s.execHead ring (isConfig 0x11) (fun s d =>
    let m : BitVec 4 := BitVec.ofNat 4 (2 ^ d.p2)
    ({ s with tb := { s.tb with esmcOn := if d.p3 = 1 then s.tb.esmcOn ||| m else s.tb.esmcOn &&& ~~~m } }).okHead ring d))

/-- A fault is no longer open. -/
def State.closeFault (s : State) (fid : Nat) : State := s.setFaults (s.host.faults.filter (fun f => f.fid != fid))

/-- What a fault stopped goes on from its commit point, translating afresh (R475). -/
def State.restart (s : State) (w : AccFor) : State :=
  match w with
  | .data r => (s.unblock r).nextSegment r
  | .fetch r => (s.unblock r).readDesc r
  | .entry r => s.pumpRing r ((s.ring r).outq.length + 1)
  | _ => s

/-- A RESUME ends with OK once what it waits for has happened (R475). -/
def State.okAfter (s : State) (r : Nat) (d : Desc) (g : CompGate) : State := s.finishHead r { d.comp r 0 0 with gate := g }

/-- The completion that an aborted access leaves: none for an entry, which is dropped (R476). -/
def State.abortGate (s : State) (f : OpenFault) : CompGate :=
  match f.what with
  | .data r => .written (s.ringCq r) f.fid
  | .fetch r => .written (s.ringCq r) f.fid
  | _ => .free

/-- The open fault with an identifier. -/
def State.faultOf (s : State) (fid : Nat) : Option OpenFault := s.host.faults.find? (fun f => f.fid == fid)

/-- RESUME. -/
def execResume (ring : Fin 64) (s : State) : Answer :=
  .next (s.execHead ring (fun d => d.op == 9 && d.p2 != 1) (fun s d =>
    match s.faultOf d.p0 with
    | some f => ((s.closeFault d.p0).restart f.what).okAfter ring d (.issued f.what)
    | none => s))

/-- RESUME_ABORT. -/
def execResumeAbort (ring : Fin 64) (s : State) : Answer :=
  .next (s.execHead ring (fun d => d.op == 9 && d.p2 != 0) (fun s d =>
    match s.faultOf d.p0 with
    | some f => ((s.closeFault d.p0).abortFault d.p0 f.what).okAfter ring d (s.abortGate f)
    | none => s))

/-- TX_FRAME: the frame is read whole into the packet buffer (R202, R442). -/
def execTxFrame (ring : Fin 64) (s : State) : Answer :=
  .next (s.execHead ring (fun d => d.op == 0x20) (fun s d => s.startHead ring d))

/-! ### Received frames -/

/-- RX_BUF: the buffer is posted. -/
def execRxBuf (ring : Fin 64) (s : State) : Answer :=
  let x := s.ring ring
  match x.fetched with
  | [] => .next s
  | d :: t =>
    if s.ringState ring = 1 ∧ ¬ d.dup ∧ d.lost.isNone ∧ s.ringType ring = 8 ∧ d.op = 0x21 then
      .next (match s.badField ring d with
        | some o => if x.posted.isEmpty && x.active.isNone then s.finishHead ring (d.comp ring 2 o) else s
        | none => s.modRing ring (fun x => { x with fetched := t, posted := x.posted ++ [d] })).pumpAll
    else .next s

/-- The BULK_RX ring in RUN of a port. -/
def State.rxRing (s : State) (port : Nat) : Option Nat :=
  (addrs 0 1 64).find? (fun r => s.ringType r == 8 && s.ringState r == 1 && s.get (Fld.RING_CFG2_ICNT r) % 4 == port)

/-- A frame for the host, with FCS (R443): it takes the oldest posted buffer that no earlier frame waits for, else it is
dropped and counted. -/
def State.deliverRx (s : State) (port : Nat) (bytes : List Byte) (i : RxInfo) : State :=
  match s.rxRing port with
  | some r =>
    if (s.ring r).rxWait.length < (s.ring r).posted.length then
      ((s.modRing r (fun x => { x with rxWait := x.rxWait ++ [(bytes, i)] })).startRx r).pumpAll
    else s.count (ctrHif 2)
  | none => s.count (ctrHif 2)

/-! ### Real-time blocks -/

/-- The due block at the present row, if the row is one of a doorbell read for it (R446). -/
def State.dueBlock (s : State) : Option Word := if (s.row.rowIdx + 16).toNat % 64 = 0 then some (s.row.rowIdx + 16) else none

/-- Was a block of first row `k` due in the last gap of the row ticks (R454)? -/
def State.dueInGap (s : State) (k : Word) : Bool :=
  match s.host.gap with
  | some (l, n) => earlierThan 32 l.toNat (k - 16).toNat && earlierThan 32 (k - 16).toNat n.toNat
  | none => false

/-- The head descriptor of an RT ring against the due block (R446): earlier ones complete LATE, each in its place (R438), the due one
is taken. A block that was due while the row ticks stopped is missed with its LATE (R454). -/
def State.takeBlock (s : State) (r ty : Nat) (start : State → RtBlock → State) : State :=
  let x := s.ring r
  match x.fetched with
  | [] => s
  | d :: t =>
    let k : Word := BitVec.ofNat 32 d.p0
    let s0 := s.modRing r (fun x => { x with fetched := t })
    if s.ringState r ≠ 1 ∨ s.ringType r ≠ ty ∨ d.dup ∨ d.lost.isSome ∨ d.op ≠ 0x30 ∨ ¬ s.row.ticks then s
    else
      (match s.badField r d with
       | some o => (s0.endBlock r d 2 o).settle r
       | none =>
         if earlierThan 32 k.toNat (s.row.rowIdx + 16).toNat then
           (((if s.dueInGap k then (s0.count (ctrRing r 1)).raise 7 r else s0).endBlock r d 0x0B 0)).settle r
         else if k = s.row.rowIdx + 16 ∧ x.due = some k then
           let b : RtBlock := ⟨k, d, [], false, false, false, none⟩
           start (s.modRing r (fun x => { x with fetched := t, blocks := x.blocks ++ [b], due := none })) b
         else s).pumpAll

/-- RT_PLAY_BLOCK: the buffer is read as one real-time access. -/
def execRtPlayBlock (ring : Fin 64) (s : State) : Answer :=
  .next (s.takeBlock ring 5 (fun s b =>
    let p := s.newAcc (.play ring) false 0 b.desc.addr b.desc.len []
    (p.1.goOn p.2.pages p.2).settle))

/-- RT_REC_BLOCK. -/
def execRtRecBlock (ring : Fin 64) (s : State) : Answer := .next (s.takeBlock ring 6 (fun s _ => s))

/-- RT_PLAY_BLOCK_DONE: completion of the first block that has been read, before the tick of its first row. -/
def execRtPlayBlockDone (ring : Fin 64) (s : State) : Answer :=
  match (s.ring ring).blocks.find? (fun b => !b.signalled) with
  | some b =>
    if b.complete ∧ s.ringType ring = 5 then
      .next ((((s.modRing ring (fun x => { x with blocks := x.blocks.map (fun y =>
        if y = b then { b with signalled := true } else y) })).queueComp
        { b.desc.comp ring 0 b.k.toNat with ts := some (s.rowNs b.k) }).settleBlocks ring |>.settle ring).pumpAll)
    else .next s
  | none => .next s

/-- The bytes of recorded rows. -/
def rowsBytes (rows : List (List Word)) : List Byte := (rows.map (fun r => (r.map leBytes).flatten)).flatten

/-- RT_REC_BLOCK_WRITE: the buffer of the first block is written once its 64 rows are recorded. -/
def execRtRecBlockWrite (ring : Fin 64) (s : State) : Answer :=
  match (s.ring ring).blocks with
  | b :: _ =>
    if b.rows.length = 64 ∧ b.ended.isNone ∧ s.ringType ring = 6 ∧ s.ringState ring ≠ 3 ∧ ¬ s.accOn (.record ring) then
      let data := rowsBytes b.rows
      let p := s.newAcc (.record ring) true 0 b.desc.addr data.length data
      .next (p.1.goOn p.2.pages p.2).settle.pumpAll
    else .next s
  | [] => .next s

/-- Words of the RT_PLAY rings for the write page that carries row `w` (R447). -/
def State.playRow (s : State) (w : Word) : State :=
  s.ringKeys.foldl (fun s r =>
    if s.ringType r = 5 then
      let first := s.get (Fld.RING_CFG2_IROWS r)
      let nch := s.get (Fld.RING_CFG2_NCHM1 r) + 1
      let s1 := (s.ring r).blocks.foldl (fun s b =>
        let i := (w - b.k).toNat
        if i < 64 ∧ b.complete ∧ b.ended.isNone then
          let ws := match b.rows[i]? with
            | some ws => ws
            | none => List.replicate nch 0
          (ws.zip (addrs first 1 nch)).foldl (fun s p => s.sourceWrite 0x05 p.2 p.1) s
        else s) s
      s1.modRing r (fun x => { x with blocks := x.blocks.filter (fun b =>
        !(b.signalled && decide (64 ≤ (w - b.k).toNat) && decide ((w - b.k).toNat < 2 ^ 31))) })
    else s) s

/-- Words of the RT_REC rings from the read page that carries row `c` (R448). -/
def State.recordRow (s : State) (c : Word) : State :=
  s.ringKeys.foldl (fun s r =>
    if s.ringType r = 6 then
      let first := s.get (Fld.RING_CFG2_IROWS r)
      let ws := (addrs first 1 (s.get (Fld.RING_CFG2_NCHM1 r) + 1)).map (fun i => s.sinkRead 0x15 i)
      s.modRing r (fun x => { x with blocks := x.blocks.map (fun b =>
        if (c - b.k).toNat < 64 ∧ b.rows.length < 64 ∧ b.ended.isNone then { b with rows := b.rows ++ [ws] } else b) })
    else s) s

/-! ### The row tick at the host interface -/

/-- LOAD of the row that ended (R426). -/
def State.rowLoad (s : State) : Nat :=
  let b := s.get Fld.ENG_GUARD_STAT_BUDGET
  s.listedCores.foldl (fun m c =>
    let k := s.core c
    if !k.post.run || k.state == .faulted then m
    else if k.post.dropped then 255
    else max m (min 255 (256 * k.post.cycles / max 1 b))) 0

/-- Ring word of the status page (R426). -/
def State.statusWord (s : State) (r : Nat) : Nat :=
  s.ringGen r * 65536 + (if s.ringState r = 0 then 0 else (s.ring r).idx)

/-- The status page written at a row tick: 0x144 bytes (R426). -/
def State.statusBytes (s : State) : List Byte :=
  let q := leBytesN s.host.seq 4
  q ++ leBytesN ((s.on Fld.CLK_STAT_MLOCK).toNat + 2 * (s.get Fld.ENG_PROFILE_STAT_POLICY_ACT == 2).toNat +
      4 * s.paired.toNat) 4 ++ leBytesN s.row.rowIdx.toNat 4 ++ leBytesN s.row.gauge 1 ++ leBytesN s.host.load 1 ++
    leBytesN (s.row.tpq.filter (fun r => !r.direct)).length 2 ++ leBytesN (if s.get Fld.BOOT_STAT_PHASE = 6 then 0 else s.tbNs s.media) 8 ++
    leBytesN (s.liveAt Reg.ENG_STITCH_CNT) 4 ++ leBytesN (s.reg Reg.TWN_CLAIM).toNat 4 ++ List.replicate 32 0 ++
    ((addrs 0 1 64).map (fun r => leBytesN (s.statusWord r) 4)).flatten ++ q

/-- Write the status page. -/
def State.writeStatus (s : State) : State :=
  let a := s.get Fld.HIF_STADDR_LO_ADDR * 4096 + s.get Fld.HIF_STADDR_HI_ADDR * 2 ^ 32
  let s0 := s.setHost { s.host with seq := (s.host.seq + 1) % 2 ^ 32 }
  let b := s0.statusBytes
  let p := s0.newAcc .status true 0 a b.length b
  (p.1.goOn p.2.pages p.2).settle

/-- Read the doorbell page, whether or not an earlier read of it is still out (R424). -/
def State.readDoorbells (s : State) : State :=
  let a := s.get Fld.HIF_DBADDR_LO_ADDR * 4096 + s.get Fld.HIF_DBADDR_HI_ADDR * 2 ^ 32
  let p := s.newAcc .doorbell false 0 a 256 []
  (p.1.goOn p.2.pages p.2).settle

/-- An RT block that was due and not taken is missed; the next due block is noted (R446). -/
def State.judgeDue (s : State) : State :=
  s.ringKeys.foldl (fun s r =>
    if isRt (s.ringType r) && (s.ringState r == 1 || s.ringState r == 4) then s.modRing r (fun x => { x with due := s.dueBlock })
    else s) s.missDue

/-- The blocks taken on a draining RT ring end at a row tick (R451). -/
def State.drainBlocks (s : State) (r : Nat) : State :=
  if s.ringState r = 2 ∧ isRt (s.ringType r) then
    ((s.ring r).blocks.filter (fun b => !b.signalled)).foldl (fun s b =>
      s.queueComp (match b.ended with | some e => b.desc.comp r e.1 e.2 | none => b.desc.comp r 6 0))
      (s.modRing r (fun x => { x with blocks := [], due := none }))
  else s

/-- A gap in the row ticks is noted at the first row after it (R454). -/
def State.noteGap (s : State) : State :=
  let k := s.row.rowIdx
  let gap := match s.host.lastRow with
    | some l => if k = l + 1 then s.host.gap else some (l, k)
    | none => s.host.gap
  s.setHost { s.host with lastRow := some k, gap := gap }

/-- What the host interface does at a row tick (R424, R426, R438, R439, R446): descriptors that waited for a later row are
fetched too. -/
def State.hostRow (s : State) : State :=
  let s := s.noteGap
  let s1 := s.setHost { s.host with rowFetch := 0, dbErr := [], load := s.rowLoad }
  let s2 := s1.ringKeys.foldl (fun s r =>
    (s.drainBlocks r).modRing r (fun x => { x with rowFetch := 0, age := if x.unsig = 0 then 0 else x.age + 1 })) s1
  let eco := s.get Fld.ENG_PROFILE_STAT_POLICY_ACT == 2
  if s.on Fld.HIF_HCTL_EN && !s.sup.paused then
    let s3 := s2.judgeDue.writeStatus
    let s4 := if !eco || decide (s.row.rowIdx.toNat % 8 = 0) then s3.readDoorbells else s3
    (s4.ringKeys.foldl (fun s r => s.tryFetch r) s4).pumpAll
  else s2

/-! ### Ring commands -/

/-- DOORBELL_READ_COMPLETE. -/
def execDoorbellReadComplete (data : List (BitVec 8)) (s : State) : Answer :=
  match s.host.accs.find? (fun a => a.what == .doorbell && a.sent && (match a.pos with | .data _ _ => true | _ => false)) with
  | some a => .next (s.readBack a.id true data)
  | none => .next s

/-- HOST_READ_COMPLETION. -/
def execHostReadCompletion (id : BitVec 16) (ok : Bool) (data : List (BitVec 8)) (s : State) : Answer :=
  .next (s.readBack id.toNat ok data)

/-- READ_COMPLETION_TIMEOUT: the access ends as a failed read (R469). -/
def execReadCompletionTimeout (id : BitVec 16) (s : State) : Answer := .next (s.readBack id.toNat false [])

/-- Link rate times width in tenths of GT/s (R431). -/
def State.linkRate (s : State) : Nat :=
  let g := match s.get Fld.HIF_LINK_GEN with | 1 => 25 | 2 => 50 | 3 => 80 | 4 => 160 | 5 => 320 | _ => 0
  g * s.get Fld.HIF_LINK_WIDTH

/-- Rings of a type that are not IDLE. -/
def State.ringsOf (s : State) (t : Nat) : List Nat :=
  (addrs 0 1 64).filter (fun r => s.ringType r == t && s.ringState r != 0)

/-- First failing check of R431 for a ring whose configuration has been written, 0 for none. -/
def State.enableReason (s : State) (r : Nat) : Nat :=
  let t := s.ringType r
  let lg := s.get (Fld.RING_CFG_LOGSZ r)
  let size := 2 ^ lg
  let bytes := size * (if t = 3 then 16 else 32)
  let cq := s.ringCq r
  let users := (addrs 0 1 64).filter (fun x => x != r && hostProduced (s.ringType x) && s.ringState x == 1 && s.ringCq x == cq)
  let first := s.get (Fld.RING_CFG2_IROWS r)
  let nch := s.get (Fld.RING_CFG2_NCHM1 r) + 1
  let same := s.ringsOf t
  let meets (x : Nat) : Bool :=
    let f := s.get (Fld.RING_CFG2_IROWS x)
    decide (first < f + (s.get (Fld.RING_CFG2_NCHM1 x) + 1)) && decide (f < first + nch)
  if s.ringBase r % min bytes 4096 ≠ 0 ∨ t = 0 ∨ 8 < t ∨ lg < 4 ∨ (if t = 2 then 15 else 12) < lg ∨ 2 ^ 48 ≤ s.ringBase r then 1
  else if hostProduced t ∧ ¬(s.ringType cq = 2 ∧ s.ringState cq = 1) then 2
  else if hostProduced t ∧ s.ringSize cq < size + users.foldl (fun n x => n + s.ringSize x) 0 then 3
  else if isRt t ∧ (256 < first + nch ∨ same.any meets ∨ 16 ≤ (s.ringsOf 5).length + (s.ringsOf 6).length) then 4
  else if isRt t ∧ s.linkRate < 200 then 5
  else if (t = 8 ∧ (s.rxRing (s.get (Fld.RING_CFG2_ICNT r) % 4)).isSome) ∨ (t = 4 ∧ same.any (fun x => s.ringState x == 1)) ∨
      (t = 3 ∧ 8 ≤ (same.filter (fun x => s.ringState x == 1)).length) then 6
  else if ¬ s.on Fld.HIF_HCTL_EN then 7
  else 0

/-- A write of RING.CFG (R431); outside IDLE it is refused. -/
def State.writeRingCfg (s : State) (ring : Nat) (value : Word) : State :=
  let a := Reg.RING_CFG ring
  if s.ringState ring ≠ 0 then s.invalid a
  else
    let t := value.toNat / 2 ^ 24 % 16
    let w := if t = 0 ∨ 8 < t then withBits value 27 24 (s.ringType ring) else value
    let s1 := s.writeReg a (w &&& 0x7FFFFFFF)
    let s2 := if t = 0 ∨ 8 < t then s1.invalid a else s1
    if !value.msb then s2
    else
      let r := s2.enableReason ring
      if r = 0 then
        (((s2.setRing ring ringReset).flag (Fld.RING_CFG_EN ring) true).setRingState ring 1).put (Fld.RING_STAT_IDX ring) 0
      else (s2.put (Fld.RING_STAT_REASON ring) r).raise 5 (ring + 256 * r)

/-- RING_ENABLE. -/
def execRingEnable (ring : Fin 64) (value : BitVec 32) (s : State) : Answer := .next (s.writeRingCfg ring value)

/-- Does a ring that is not IDLE complete into `cq`? -/
def State.cqInUse (s : State) (cq : Nat) : Bool :=
  (addrs 0 1 64).any (fun r => hostProduced (s.ringType r) && s.ringState r != 0 && s.ringCq r == cq)

/-- What an access serves belongs to a ring. -/
def AccFor.onRing (r : Nat) (w : AccFor) : Bool :=
  w == .fetch r || w == .data r || w == .entry r || w == .play r || w == .record r

/-- Has a draining ring nothing left: no transfer, no access, no completion still to be written (R451)? -/
def State.drained (s : State) (r : Nat) : Bool :=
  (s.ring r).active.isNone && (s.ring r).owed.isEmpty && (s.ring r).fetched.isEmpty && (s.ring r).blocks.isEmpty && (s.ring r).outq.isEmpty && !s.host.accs.any (fun a => a.what.onRing r) &&
    !(s.ring (s.ringCq r)).outq.any (fun e => match e with | .comp c => c.ring == r | _ => false)

/-- RING_RESET_DONE (R451, step 4). -/
def execRingResetDone (ring : Fin 64) (s : State) : Answer :=
  if s.ringState ring = 2 ∧ s.drained ring then
    let g := (s.ringGen ring + 1) % 256
    let s1 := ((((s.setRing ring ringReset).put (Fld.RING_STAT_GEN ring) g).put (Fld.RING_STAT_IDX ring) 0).flag
      (Fld.RING_CFG_EN ring) false).setRingState ring 0
    let s2 := if s.ringType ring = 4 then s1.setHost { s1.host with frDown := false } else s1
    .next (s2.raise 6 (ring + 65536 * g))
  else .next s

/-- COALESCE_TIMEOUT (R439). -/
def execCoalesceTimeout (ring : Fin 64) (s : State) : Answer :=
  let x := s.ring ring
  let n := s.get (Fld.RING_CFG2_IROWS ring)
  .next (if s.ringType ring = 2 ∧ 0 < x.unsig ∧ n ≠ 0 ∧ n ≤ x.age then s.signalRing ring else s)

/-- An access that is not served, as R421 says. -/
def State.badAccess (s : State) (w2 write : Bool) (offset : Nat) : State :=
  let info := w2.toNat * 2 ^ 31 + offset
  let s1 := ((s.setReg Reg.HIF_ACCERR_ADDR (BitVec.ofNat 32 info)).count (ctrHif 1)).raise 2 info
  if write then s1 else s1.send (.answer 0xFFFFFFFF)

/-- BAD_HOST_ACCESS (R421). -/
def execBadHostAccess (w2 write : Bool) (offset : BitVec 23) (s : State) : Answer := .next (s.badAccess w2 write offset.toNat)

/-- A write of XLT.INV_CTL (R13, R465): SCOPE is stored; GO starts, or is refused while BUSY. -/
def State.writeInvCtl (s : State) (w : Word) : State :=
  let s1 := s.writeReg Reg.XLT_INV_CTL w
  if !w.msb || badCodes Reg.XLT_INV_CTL w then s1
  else if s.on Fld.XLT_INV_STAT_BUSY then s1.invalid Reg.XLT_INV_CTL
  else s1.invalidateGo

/-- TLB_INVALIDATE. -/
def execTlbInvalidate (value : BitVec 32) (s : State) : Answer := .next (s.writeInvCtl value)

/-- INVALIDATE_DONE. -/
def execInvalidateDone (s : State) : Answer :=
  .next (if s.on Fld.XLT_INV_STAT_BUSY && s.invalidateMayEnd then s.invalidateEnd else s)

/-! ### Event delivery -/

/-- The event record of source `n` without SEQ, EGEN and PHASE (R489). -/
def State.eventRecord (s : State) (n : Nat) : List Byte :=
  let e := s.evtSrc n
  let lv := eventLevel n
  leBytesN n 1 ++ leBytesN e.count 1 ++
    leBytesN ((lv && s.on (fdStatus n)).toNat * 4 + lv.toNat * 2 + e.waited.toNat) 1 ++ [0] ++
    leBytesN (s.reg (Reg.EVT_INFO n)).toNat 4 ++ leBytesN e.row.toNat 4

/-- Does a record of source `n` still wait for its write? -/
def State.recordWaits (s : State) (n : Nat) : Bool :=
  s.host.rings.any (fun p => p.2.outq.any (fun e => match e with
    | .event b _ => leAt b 0 1 == n
    | _ => false))

/-- Records that have outlasted their pass send their vectors themselves. -/
def Ring.markLate (x : Ring) : Ring :=
  { x with outq := x.outq.map (fun e => match e with
    | .event b _ => .event b true
    | e => e) }

/-- May the EVENT ring `r` take one more record (R488)? -/
def State.eventRoom (s : State) (r : Nat) : Bool :=
  s.ringType r == 3 && s.ringState r == 1 && !s.faultOn (.entry r) &&
    decide (idxDiff ((s.ring r).idx + (s.ring r).outq.length) (s.ring r).seen < s.ringSize r)

/-- One source in a delivery pass; the list gathers the vectors due, the flag that a record stayed pending. -/
def State.passSource (x : State × List Nat × Bool) (n : Nat) : State × List Nat × Bool :=
  let (s, vs, left) := x
  let e := s.evtSrc n
  let g := n / 32
  let vec := s.get (Fld.EVT_GCFG_VEC g)
  let vecOn := s.on (Fld.EVT_GCFG_VECEN g)
  let add (b : Bool) : List Nat := if b && vecOn && !vs.contains vec then vs ++ [vec] else vs
  if !s.on (Fld.EVT_GCFG_RINGEN g) then
    (s.setEvtSrc n { e with count := 0, waited := false, since := false }, add e.since, left)
  else if e.count = 0 then (s.setEvtSrc n { e with since := false }, vs, left)
  else if !s.on (fdEnable n) then (s.setEvtSrc n { e with count := 0, waited := false, since := false }, vs, left)
  else
    let r := s.get (Fld.EVT_GCFG_RING g)
    if s.recordWaits n then (s.setEvtSrc n { e with since := false }, vs, left)
    else if s.eventRoom r then
      let t := (s.pushEntry r (.event (s.eventRecord n) false)).pumpRing r ((s.ring r).outq.length + 2)
      if t.recordWaits n then (t.modRing r Ring.markLate, vs, left) else (t, add true, left)
    else (s.setEvtSrc n { e with waited := true, since := false }, vs, true)

def ctrOvfl : Ctr := ⟨Reg.EVT_OVFL_CNT, ⟨Reg.EVT_CNT_SAT, 0, 0⟩⟩

/-- One delivery pass (R488, R491, R493). -/
def State.deliveryPass (s : State) : State :=
  let ns := s.evt.src.map Prod.fst
  let r := ns.foldl State.passSource (s, [], false)
  let s1 := r.1.pumpAll
  let s2 := r.2.1.foldl State.sendVec s1
  if r.2.2 then s2.count ctrOvfl else s2

/-- EVENT_DELIVERY_PASS: the pass that is made every 10 us while there are no row ticks; a row tick makes its own. -/
def execEventDeliveryPass (s : State) : Answer := .next (if s.row.ticks then s else s.deliveryPass)

/-- A write of EVT.RAISE (R487). -/
def State.writeRaise (s : State) (w : Word) : State :=
  let n := w.toNat % 256
  if eventListed n && !eventLevel n then s.raise n 0xFFFFFFFF else s.invalid Reg.EVT_RAISE

/-- EVENT_RAISE. -/
def execEventRaise (value : BitVec 32) (s : State) : Answer := .next (s.writeRaise value)

/-! ### Mailboxes -/

/-- A host write to a mailbox (R494, R497). -/
def State.hostMailbox (s : State) (box : Nat) (value : Word) : State :=
  let r := s.mbxWrite box value 1
  if r.2 then r.1
  else ({ s with evt := { s.evt with rej := s.evt.rej ||| BitVec.ofNat 64 (2 ^ box) } }.count ctrHrej).raise 11 box

/-- MAILBOX_WRITE. -/
def execMailboxWrite (box : Fin 64) (value : BitVec 32) (s : State) : Answer := .next (s.hostMailbox box value)

/-- MAILBOX_READ (R494). -/
def execMailboxRead (box : Fin 64) (s : State) : Answer :=
  let r := s.mbxRead box
  .next (r.1.send (.answer r.2.1))

/-- FIRMWARE_MAILBOX_ACCESS (R494, R496). -/
def execFirmwareMailboxAccess (box : Fin 64) (write : Option (BitVec 32)) (s : State) : Answer :=
  match write with
  | some w =>
    let r := s.mbxWriteOnChip box w 2
    .next (if r.2 then r.1 else r.1.send .busError)
  | none =>
    let r := s.mbxRead box
    .next (r.1.send (.answer r.2.1))

/-- A write of TWSENDi (R499): while busy it is discarded and rejected, with BUSY kept; with the link down it is rejected. -/
def State.writeTwsend (s : State) (i : Nat) (value : Word) : State :=
  let m : BitVec 8 := BitVec.ofNat 8 (2 ^ i)
  if s.evt.twbusy.getLsbD i then
    (({ s with evt := { s.evt with twrej := s.evt.twrej ||| m } }).count ctrTwrej).raise 11 (0x40 + i)
  else if !s.on Fld.TWN_STAT_TLUP then s.rejectTwsend i
  else
    let q := s.twn.txSeq
    ({ s with evt := { s.evt with twbusy := s.evt.twbusy ||| m },
              twn := { s.twn with mbxSeq := s.twn.mbxSeq.set (fun _ => 0) i q } }).twinSend 0x06
      (beBytes i 1 ++ [0, 0, 0] ++ beBytes value.toNat 4)

/-- TWSEND_WRITE. -/
def execTwsendWrite (index : Fin 8) (value : BitVec 32) (s : State) : Answer := .next (s.writeTwsend index value)

/-- TWSEND_TIMEOUT. -/
def execTwsendTimeout (index : Fin 8) (s : State) : Answer :=
  .next (if s.evt.twbusy.getLsbD index then s.rejectTwsend index else s)

end Sys2Proof.Machine
end

