-- ==== Sys2Proof/Machine/Lane.lean ====
section
/-! DEFINITION. The serial lanes (R262 to R294): equalisation values, lane states, freeze, drift guard, electrical idle and
loopbacks; and the conditions on which a foreground swatch is accepted (R595, R596), which loopbacks share. -/

namespace Sys2Proof.Machine

/-! ### Equalisation values (R278) -/

/-- DFE taps in use by mode. -/
def tapsUsed (mode : Nat) : Nat := match mode with | 0 => 0 | 1 => 0 | 2 => 5 | _ => 10

/-- DFE tap `i` (from 0) of the applied values (`k` = 0), the snapshot (1) or the manual values (2). -/
def fdTap (n k i : Nat) : Fd := ⟨Reg.LANE_DFE_APP n 0 + 0x10 * k + 4 * (i / 4), 8 * (i % 4) + 6, 8 * (i % 4)⟩

/-- CTLE gain and peaking of the same three copies. -/
def fdGain (n k : Nat) : Fd := ⟨Reg.LANE_RXEQ_APP n + 4 * k, 11, 8⟩
def fdPeak (n k : Nat) : Fd := ⟨Reg.LANE_RXEQ_APP n + 4 * k, 4, 0⟩

/-- Copy `k` of a lane's values. -/
def State.eqAt (s : State) (n k : Nat) : EqTaps :=
  ⟨s.get (fdGain n k), s.get (fdPeak n k), (addrs 0 1 10).map (fun i => s.getS (fdTap n k i))⟩

/-- Values into copy `k`; taps not in use read 0. -/
def State.putEq (s : State) (n k : Nat) (e : EqTaps) : State :=
  let used := tapsUsed (s.laneMode n)
  (addrs 0 1 10).foldl (fun s i => s.putS (fdTap n k i) (if i < used then max (-63) (e.taps.getD i 0) else 0))
    ((s.put (fdGain n k) e.gain).put (fdPeak n k) e.peak)

/-- Values as a command carries them: gain, peaking and ten taps of 7 bits. -/
def eqOf (gain : BitVec 4) (peak : BitVec 5) (taps : BitVec 70) : EqTaps :=
  ⟨gain.toNat, peak.toNat, (addrs 0 1 10).map (fun i => signedOf 7 (taps.toNat / 2 ^ (7 * i) % 128))⟩

/-- Continuous, Hold and Manual adaptation. -/
def State.adapt (s : State) (n : Nat) : Nat := s.get (Fld.LANE_RXEQ_CFG_ADAPT n)

/-- Applied values take new ones that adaptation found; in Manual they follow the manual values (R278). -/
def State.applyEq (s : State) (n : Nat) (e : EqTaps) : State := s.putEq n 0 (if s.adapt n = 2 then s.eqAt n 2 else e)

/-- The factory default values of a lane. -/
def factoryEq (n : Nat) : EqTaps :=
  ⟨Config.factoryTap n 0 % 16, Config.factoryTap n 1 % 32,
    (addrs 2 1 10).map (fun i => signedOf 7 (Config.factoryTap n i % 128))⟩

/-! ### The link behind a lane -/

/-- The link of a lane goes down: that of its port, or one lane of the twin link. -/
def State.laneDown (s : State) (n : Nat) : State :=
  if n < 4 then s.dropLink n
  else (s.flag (if n = 4 then Fld.TWN_STAT_LANE4 else Fld.TWN_STAT_LANE5) false).showTwinLink

/-- The link of a lane comes up. -/
def State.laneUp (s : State) (n : Nat) : State :=
  if n < 4 then s.showLink n
  else (s.flag (if n = 4 then Fld.TWN_STAT_LANE4 else Fld.TWN_STAT_LANE5) true).showTwinLink

/-- A lane of the twin link is usable while it is UP, or retrains with its link up (R282, R508). -/
def State.showTwinLane (s : State) (n : Nat) : State :=
  if n < 4 then s
  else
    let up := s.laneState n == 3 || s.laneState n == 5
    if up == s.on (if n = 4 then Fld.TWN_STAT_LANE4 else Fld.TWN_STAT_LANE5) then s
    else if up then s.laneUp n
    else s.laneDown n

/-- A running eye-scan point ends with ABORT (R291). -/
def State.abortEye (s : State) (n : Nat) : State :=
  if (s.laneS n).eye then
    ((s.modLane n (fun x => { x with eye := false })).flag (Fld.LANE_EYE_STAT_ABORT n) true).flag (Fld.LANE_EYE_STAT_BUSY n) false
  else s

/-- A lane enters a state (R275). One of LANE0 to LANE3 that leaves UP takes its recovered clock with it: that SyncE input is
lost (R272, R336); and its port shows its link (R276). -/
def State.setLaneState (s : State) (n st : Nat) : State :=
  let lost := decide (n < 4) && s.laneState n == 3 && st != 3 && decide (2 ≤ s.stage (4 + n))
  let s1 := s.put (Fld.LANE_STAT_STATE n) st
  let s2 := if lost then s1.setStage (4 + n) 1 else s1
  if n < 4 then s2.showLink n else s2

/-- Enter ACQUIRE: adaptation starts from the factory default taps, the precoders from 0 (R266, R276). In Standby the wake
port's transmitter stays in electrical idle (R560). -/
def State.acquire (s : State) (n : Nat) : State :=
  let s1 := ((((s.abortEye n).laneDown n).setLaneState n 1).flag (Fld.LANE_STAT_FROZEN n) false).flag (Fld.LANE_STAT_EIDLE_TX n)
    (s.asleep && s.on (Fld.LANE_STAT_EIDLE_TX n))
  (s1.modLane n (fun x => { x with rxIdle := false, preTx := 0, preRx := 0 })).applyEq n (factoryEq n)

/-- The state of a lane whose receiver has its lock: UP, or EIDLE while the transmitter is in electrical idle (R275). -/
def State.restState (s : State) (n : Nat) : Nat := if s.on (Fld.LANE_STAT_EIDLE_TX n) then 4 else 3

/-- A loopback is over: nothing is active. -/
def State.clearLoop (s : State) (n : Nat) : State :=
  ((s.put (Fld.LANE_LOOP_STAT_RESULT n) 0).put (Fld.LANE_LOOP_STAT_MODE n) 0).modLane n (fun x => { x with loopPaired := false })

/-! ### Freeze and drift guard (R279 to R282) -/

/-- Adaptation freezes with these applied values, and the snapshot takes them; a freeze that runs keeps its snapshot
(R279, R283). -/
def State.freeze (s : State) (n : Nat) (e : EqTaps) : State :=
  if s.on (Fld.LANE_STAT_FROZEN n) then s
  else
    let s1 := if s.adapt n = 0 then (s.putEq n 0 e).flag (Fld.LANE_STAT_FROZEN n) true else s
    let s2 := s1.putEq n 1 (s1.eqAt n 0)
    s2.modLane n (fun x => { x with est := s2.eqAt n 1 })

/-- LANE4 and LANE5 enter receive electrical idle with EN cleared and in Standby: they freeze with the values applied (R283). -/
def State.twinIdle (s : State) (n : Nat) : State :=
  if n < 4 then s
  else ((s.freeze n (s.eqAt n 0)).modLane n (fun x => { x with rxIdle := true })).flag (Fld.LANE_STAT_SIGDET n) false

/-- A lane takes a mode (R262, R263, R275): a loopback that runs ends, and the lane enters ACQUIRE or OFF. Taps that the mode does
not use read 0 in the snapshot too (R278). -/
def State.setMode (s : State) (n mode : Nat) : State :=
  let s1 := if s.laneState n = 6 then s.clearLoop n else s
  if mode = 0 then
    let s2 := (((s1.abortEye n).laneDown n).twinIdle n).put (Fld.LANE_STAT_MODE n) 0
    (s2.flag (Fld.LANE_STAT_EIDLE_TX n) true).setLaneState n 0
  else
    let s2 := (s1.put (Fld.LANE_STAT_MODE n) mode).modLane n (fun x => { x with fill := 16 })
    (s2.acquire n).putEq n 1 (s2.eqAt n 1)

/-- Does the guard find drift between two sets of values (R281)? -/
def State.drifts (s : State) (n : Nat) (a b : EqTaps) : Bool :=
  let t1 := s.get (Fld.LANE_DRIFT_CFG_TOL1 n)
  let t := s.get (Fld.LANE_DRIFT_CFG_TOL n)
  let far (x y : Int) (t : Nat) : Bool := decide (t < (x - y).natAbs)
  far a.peak b.peak t1 || far a.gain b.gain t ||
    (addrs 0 1 (tapsUsed (s.laneMode n))).any (fun i => far (a.taps.getD i 0) (b.taps.getD i 0) (if i = 0 then t1 else t))

/-- The drift guard decides on the estimator's values (R281, R282). -/
def State.driftGuard (s : State) (n : Nat) (e : EqTaps) : State :=
  let s1 := (s.flag (Fld.LANE_STAT_FROZEN n) false).modLane n (fun x => { x with est := e })
  let snap := s.eqAt n 1
  if s.drifts n e snap then
    let s2 := ((s1.count (ctrLane n 2)).raise 71 n).putEq n 0 e
    if s.on (Fld.LANE_DRIFT_CFG_ACT n) then s2.setLaneState n 5 else s2
  else s1.putEq n 0 snap

/-- The port's transmitter enters or leaves electrical idle with its low-power idle (R214, R283). -/
def State.laneTxIdle (s : State) (n : Nat) (b : Bool) : State :=
  let s1 := s.flag (Fld.LANE_STAT_EIDLE_TX n) b
  if b then (if s.laneState n = 3 then s1.setLaneState n 4 else s1)
  else if s.laneState n = 4 ∧ ¬ (s.laneS n).rxIdle then s1.setLaneState n 3
  else s1

/-- A write of RXEQ_CFG or of the manual values has happened (R278, R292): a retrain ends and no freeze lasts outside
Continuous, and Manual applies its values. -/
def State.adaptChanged (s : State) (n : Nat) : State :=
  if s.adapt n = 0 ∨ s.laneState n = 0 then s
  else
    let s1 := s.flag (Fld.LANE_STAT_FROZEN n) false
    let s2 := if s.laneState n = 5 then s1.setLaneState n (s1.restState n) else s1
    if s.adapt n = 2 then s2.putEq n 0 (s2.eqAt n 2) else s2

/-! ### Foreground swatches (R595, R596) -/

/-- The other condition of R595: out of service. -/
def State.outOfService (s : State) : Bool :=
  s.twinState == 0 && (s.boundFlows true).isEmpty &&
    (addrs 0 1 34).all (fun p => s.lstate p == 0) &&
    (addrs 0 1 8).all (fun c => s.get (Fld.PWR_CH_STAT_STATE c) == 0 || s.get (Fld.PWR_CH_STAT_STATE c) == 7) &&
    !s.on Fld.PWR_XFO_CTL_EN

/-- Lower-claim twin. -/
def State.lowerTwin (s : State) : Bool :=
  s.twinState == 4 && s.on Fld.TWN_STAT_TLUP && s.on Fld.TWN_STAT_PALIVE &&
    claimHigher (s.reg Reg.TWN_PCLAIM) (s.reg Reg.TWN_CLAIM)

/-- Does another foreground swatch run? -/
def State.foregroundRuns (s : State) : Bool := s.swt.fg.isSome || (addrs 0 1 6).any s.nearEnd

/-- Would a foreground request be accepted now? -/
def State.foregroundOk (s : State) : Bool := !s.foregroundRuns && (s.lowerTwin || s.outOfService)

/-- A foreground request is refused: test code and reason, 1 BUSY or 2 STATE (R596, R612). -/
def State.refuseSwatch (s : State) (test reason : Nat) : State := (s.count (ctrSwt 1)).raise 238 (test + 16 * reason)

end Sys2Proof.Machine
end

