-- ==== Sys2Proof/Machine/NetExec.lean ====
section
/-! DEFINITION. Meanings of the network ports' commands (R190 to R221). -/

namespace Sys2Proof.Machine

/-! ### Reception -/

/-- A frame that R193 drops: which counter, none for a good one. -/
def State.rxFail (s : State) (n : Nat) (b : List Byte) : Option Nat :=
  if b.length < 64 then some 1 else if s.maxFrm n < b.length then some 2 else if fcsGood b then none else some 0

/-- Give a frame to the house cores with its receive timestamp (R194, R217). -/
def State.toHouse (s : State) (n : Nat) (b : List Byte) : State :=
  let t := s.rxStamp n b
  s.send (.houseFrame n b t.1 t.2)

/-- Give a frame to the host's bulk ring (R217, R443). -/
def State.toHost (s : State) (n : Nat) (b : List Byte) : State :=
  let t := s.rxStamp n b
  s.deliverRx n b ⟨t.2 / 65536 % 2 ^ 64, t.1 * 2 ^ 30 + t.2 % 65536,
    s.frameVid n b + framePcp b * 4096 + (frameDst b == 2 ^ 48 - 1).toNat * 65536⟩

/-- Is the frame one that the node terminates (R194, rules 2 to 4)? -/
def terminated (b : List Byte) : Bool :=
  frameType b == 0x8808 || frameDst b / 16 == 0x0180C200000 || (framePtp b).isSome

/-- Unicast to the port's own address. -/
def State.isOwn (s : State) (n : Nat) (b : List Byte) : Bool := s.macOf n != 0 && frameDst b == s.macOf n

/-- A frame that ends at the host and is not looked up: its own address, claimed by no flow and no filter (R194). -/
def State.ownOnly (s : State) (n : Nat) (b : List Byte) : Bool := s.isOwn n b && (s.matched n b).isEmpty && !s.filtered n b

/-- A good frame goes where R194 sends it. -/
def State.classify (s : State) (n : Nat) (b : List Byte) (c : Option CutRx) : State :=
  let body := b.take (b.length - 4)
  if frameType b = 0x8808 then s.takeControl n b
  else if terminated b then s.toHouse n b
  else if !(s.matched n b).isEmpty then s.forward n body c
  else if s.filtered n b then ((s.toHouse n b).answerArp n b).forward n body c
  else if s.isOwn n b then s.toHost n b
  else if frameDst b = 2 ^ 48 - 1 then (s.toHost n b).forward n body c
  else s.forward n body c

/-- FRAME_RECEIVE. -/
def execFrameReceive (port : Fin 4) (bytes : List (BitVec 8)) (s : State) : Answer :=
  if !s.linkUp port || s.asleep then .next s
  else
    let c := (s.port port).cut
    let s1 := s.modPort port (fun p => { p with cut := none })
    .next (match s1.rxFail port bytes with
      | some j =>
        let body := bytes.take (bytes.length - 4)
        (match c with
         | some d => d.sent.foldl (fun (s : State) e => s.finishCut port e body true (j == 0)) s1
         | none => s1).count (ctrNet port j)
      | none => ((s1.countNet port 0 1).countNet port 1 bytes.length).classify port bytes c)

/-- CUT_THROUGH_DECISION: the forwarding decision is kept for the frame (R197), and the egress starts it when R199 allows. -/
def execCutThroughDecision (port egress : Fin 4) (head : List (BitVec 8)) (ns : BitVec 24) (s : State) : Answer :=
  let q := s.pcpQueue egress (framePcp head)
  if !s.linkUp port || s.asleep || terminated head || s.ownOnly port head ||
      decide (head.length < 64 * s.get (Fld.NET_TXQ_THR_THR egress q)) then .next s
  else
    let old := (s.port port).cut
    let d := match old with
      | some d => d
      | none => let l := s.lookup port head; ⟨l.1, l.2, []⟩
    let s1 := if old.isNone && d.miss then s.count (ctrNet port 11) else s
    let go := d.ports.contains egress.val && !d.sent.contains egress.val && s.mayCut port egress q ns.toNat
    let d1 := if go then { d with sent := d.sent ++ [egress.val] } else d
    let s2 := s1.modPort port (fun p => { p with cut := some d1 })
    .next (if go then
        s2.modPort egress (fun p => { p with tx := some ⟨⟨head, q, framePcp head, port, none, none, 0⟩, some port.val, false, 0, 0⟩ })
      else s2)

/-- The threshold of a queue after an underrun (R201). -/
def nextThr (t : Nat) : Nat := if t < 0x90 then t + 1 else 0xFF

/-- UNDERRUN. -/
def execUnderrun (port : Fin 4) (bytes : List (BitVec 8)) (s : State) : Answer :=
  match (s.port port).tx with
  | some t =>
    if t.cut.isSome then
      let q := t.frame.queue
      let s1 := ((s.modPort port (fun p => { p with tx := none })).send (.frame port bytes false)).count (ctrNet port 6)
      .next (((s1.raise 67 (port + 256 * q)).put (Fld.NET_TXQ_THR_THR port q) (nextThr (s.get (Fld.NET_TXQ_THR_THR port q)))).flag
        (Fld.NET_TXQ_THR_STEPPED port q) true)
    else .next s
  | none => .next s

/-! ### PAUSE and PFC -/

/-- A MAC control frame of 64 bytes is received. -/
def State.controlFrame (s : State) (n : Nat) : State := ((s.countNet n 0 1).countNet n 1 64).count (ctrNet n 4)

/-- PAUSE_FRAME_RECEIVE. -/
def execPauseFrameReceive (port : Fin 4) (quanta : BitVec 16) (s : State) : Answer :=
  .next (if s.linkUp port && !s.asleep then (s.controlFrame port).takePause port quanta.toNat else s)

/-- PFC_FRAME_RECEIVE. -/
def execPfcFrameReceive (port : Fin 4) (vector : BitVec 8) (quanta : BitVec 128) (s : State) : Answer :=
  .next (if s.linkUp port && !s.asleep then
    (s.controlFrame port).takePfc port vector.toNat (fun p => quanta.toNat / 2 ^ (16 * p) % 65536) else s)

/-- PAUSE_HALT_EXPIRE. -/
def execPauseHaltExpire (port : Fin 4) (prio : Option (Fin 8)) (s : State) : Answer :=
  .next ((match prio with
    | none => s.modPort port (fun p => { p with haltAll := false })
    | some i => s.modPort port (fun p => { p with halts := p.halts &&& ~~~ BitVec.ofNat 8 (2 ^ i.val) })).showHalts port)

/-- PAUSE_FRAME_SEND. -/
def execPauseFrameSend (port : Fin 4) (s : State) : Answer := .next (s.sendPause port)

/-! ### Transmission -/

/-- FRAME_TRANSMIT_START. -/
def execFrameTransmitStart (port : Fin 4) (ns : BitVec 24) (s : State) : Answer := .next (s.startTx port ns.toNat)

/-- A frame of a transmit flow that completes on the medium counts in FRAMES of its slot (R260). -/
def State.countSent (s : State) (n : Nat) : State :=
  match (s.port n).tx with
  | some t => if t.cut.isNone && t.frame.src == 5 then s.countFrame t.frame.mark else s
  | none => s

/-- Firmware takes the timestamp of its own frame, which is in transmission in `s` and has left in `t` (R220). -/
def State.takeStamp (s t : State) (n : Nat) : State :=
  match (s.port n).tx with
  | some x => if x.cut.isNone && x.frame.stamp.any (fun y => !y.1) then t.firmwarePop n x.frame.bytes else t
  | none => t

/-- FRAME_TRANSMIT_DONE. -/
def execFrameTransmitDone (port : Fin 4) (s : State) : Answer := .next (s.takeStamp ((s.countSent port).endTx port) port).pumpAll

/-- GATE_CYCLE_START: at the tick of a row whose index is a multiple of the cycle's length. -/
def execGateCycleStart (port : Fin 4) (s : State) : Answer :=
  .next (match s.nextCycle port with
    | some c => if s.row.ticks && decide (s.row.rowIdx.toNat % 2 ^ c = 0) then s.startCycle port else s
    | none => s)

/-- GATE_ENTRY_START. -/
def execGateEntryStart (port : Fin 4) (s : State) : Answer := .next (s.startEntry port)

/-- A due write of GCL_CTL of a port with SWAP set. -/
def gclSwapIs (n : Nat) (r : TpRec) : Bool := r.names [Reg.NET_GCL_CTL n] && r.value.toNat % 2 == 1

/-- GCL_SWAP. -/
def execGclSwap (port : Fin 4) (s : State) : Answer :=
  .next (s.applyFirst (gclSwapIs port) (fun s _ => s.applyGclSwap port))

/-! ### Low-power idle (R213, R214) -/

/-- Minimum wake time and sleep time of a port type in microseconds; none where it has no low-power idle. -/
def lpiTimes (type : Nat) : Option (Nat × Nat) :=
  match type with
  | 2 => some (5, 3)
  | 3 => some (4, 2)
  | 4 => some (4, 2)
  | _ => none

/-- May a port use low-power idle (R213)? -/
def State.eeeOn (s : State) (n : Nat) : Bool :=
  (lpiTimes (s.portType n)).isSome && s.get Fld.ENG_PROFILE_POLICY == 2 && s.on (Fld.NET_EEE_CFG_EN n) &&
    s.on (Fld.NET_EEE_STAT_NEGOK n)

/-- May the transmitter sleep, `ns` after the row tick? Its next due instant is row + 1200 ns of the next row. -/
def State.maySleep (s : State) (n ns : Nat) : Bool :=
  match lpiTimes (s.portType n) with
  | none => false
  | some (_, ts) =>
    s.linkUp n && s.eeeOn n &&
      (s.port n).queue.isEmpty && (s.port n).tx.isNone &&
      (!s.txBound n || !s.row.ticks ||
        decide ((ns + 1000 * (ts + s.get (Fld.NET_EEE_STAT_TWTX n)) + 500) * s.fs ≤ 1000000000 + 1200 * s.fs))

/-- LPI_ENTER. -/
def execLpiEnter (port : Fin 4) (ns : BitVec 24) (s : State) : Answer :=
  .next (if !s.on (Fld.NET_STAT_LPITX port) && s.maySleep port ns.toNat then
      ((s.modPort port (fun p => { p with lpiFrom := s.tb.edges })).flag (Fld.NET_STAT_LPITX port) true).laneTxIdle port true
    else s)

/-- The transmitter of a port leaves low-power idle, and LPI_TIME has its time (R214). -/
def State.leaveLpi (s : State) (n : Nat) : State :=
  if s.on (Fld.NET_STAT_LPITX n) then ((s.countLpi n).flag (Fld.NET_STAT_LPITX n) false).laneTxIdle n false else s

/-- The port wakes when a condition of R213 no longer holds. -/
def State.checkLpi (s : State) (n : Nat) : State := if s.eeeOn n then s else s.leaveLpi n

/-- Does the transmitter wake, `ns` after the row tick (R214)? A frame waits, or the next due instant, row + 1200 ns of the next
row, is TWTX away or less. -/
def State.mayWake (s : State) (n ns : Nat) : Bool :=
  !(s.port n).queue.isEmpty ||
    (s.txBound n && s.row.ticks &&
      decide (1000000000 + 1200 * s.fs ≤ (ns + 1000 * s.get (Fld.NET_EEE_STAT_TWTX n)) * s.fs))

/-- LPI_EXIT. -/
def execLpiExit (port : Fin 4) (ns : BitVec 24) (s : State) : Answer :=
  .next (if s.mayWake port ns.toNat then s.leaveLpi port else s)

/-- LLDP_RECEIVE. -/
def execLldpReceive (port : Fin 4) (twrx : BitVec 16) (s : State) : Answer :=
  .next (match lpiTimes (s.portType port) with
    | some (tw, _) =>
      if s.linkUp port then
        (s.put (Fld.NET_EEE_STAT_TWTX port) (max tw twrx.toNat)).flag (Fld.NET_EEE_STAT_NEGOK port) true
      else s
    | none => s)

/-- EEE_TLV_TIMEOUT. -/
def execEeeTlvTimeout (port : Fin 4) (s : State) : Answer :=
  .next ((s.flag (Fld.NET_EEE_STAT_NEGOK port) false).checkLpi port)

/-- LLDP_SEND (R192, R203, R213). -/
def execLldpSend (port : Fin 4) (s : State) : Answer := .next (s.houseFrame port 5 none (s.lldpBytes port))

/-! ### Registers with an effect of their own -/

/-- A write of TXTS_CTL (R220). -/
def State.writeTxtsCtl (s : State) (port : Nat) (value : Word) : State :=
  let i := Reg.NET_TXTS_INFO port
  let load (s : State) (info lo hi frac : Nat) : State :=
    (((s.setReg i (BitVec.ofNat 32 info)).setReg (Reg.NET_TXTS_NS_LO port) (BitVec.ofNat 32 lo)).setReg
      (Reg.NET_TXTS_NS_HI port) (BitVec.ofNat 32 hi)).setReg (Reg.NET_TXTS_FRAC port) (BitVec.ofNat 32 frac)
  if value.toNat % 2 = 0 then s
  else match popStamp true (s.port port).stamps with
    | some (t, l) =>
      load (s.modPort port (fun p => { p with stamps := l })) (2 ^ 31 + t.tb * 2 ^ 28 + l.length * 2 ^ 16 + t.tag) t.ns
        (t.ns / 2 ^ 32) t.frac
    | none => load s 0 0 0 0

/-- TXTS_POP. -/
def execTxtsPop (port : Fin 4) (value : BitVec 32) (s : State) : Answer := .next (s.writeTxtsCtl port value)

/-- A write of FDB_HI (R196): the entry that FDB_SEL names takes FDB_MAC, FDB_LO and the written word; FDB_SEL advances. -/
def State.writeFdbHi (s : State) (value : Word) : State :=
  let i := s.get Fld.FDB_SEL_INDEX
  let s1 := s.writeReg Reg.FDB_HI value
  let e : FdbEntry := ⟨value.msb, BitVec.ofNat 4 (value.toNat / 2 ^ 26), value.toNat / 2 ^ 14 % 4096,
    (s.reg Reg.FDB_MAC).toNat * 2 ^ 32 + (s.reg Reg.FDB_LO).toNat⟩
  ({ s1 with net := { s1.net with fdb := s1.net.fdb.set (fun _ => fdbNone) (i % 2048) e } } : State).put Fld.FDB_SEL_INDEX
    ((i + 1) % 2048)

/-- FDB_HI_WRITE. -/
def execFdbHiWrite (value : BitVec 32) (s : State) : Answer := .next (s.writeFdbHi value)

end Sys2Proof.Machine
end

