-- ==== Sys2Proof/Machine/Reset.lean ====
section
/-! DEFINITION. Full reset (R570 to R572): its causes, what it keeps, and how it begins. -/

namespace Sys2Proof.Machine

/-- Codes of R570. -/
def causePowerOn : Nat := 0
def causeRail : Nat := 1
def causePrst : Nat := 2
def causeXoloss : Nat := 3
def causePerst : Nat := 4
def causeFlr : Nat := 5
def causeHost : Nat := 6
def causeWdog : Nat := 7
def causeBootfail : Nat := 8

/-- Bits [msb:lsb] of a field description as a reference. -/
def FieldDesc.fd (f : FieldDesc) (a : Nat) : Fd := ⟨a, f.msb, f.lsb⟩

/-- Is a field of a main-die register kept through full reset (R571, R298, R327, R601, R608, the fields marked "kept")? -/
def keptField (a : Nat) (f : FieldDesc) : Bool :=
  let w := a / 0x10000
  let g := f.fd a
  if 0x2B ≤ w ∧ w ≤ 0x2E then
    let n := w - 0x2B
    f.src == .image || a == Reg.TB_FREQ n || g == Fld.TB_STAT_STATE n || g == Fld.TB_STAT_REASON n ||
      g == Fld.TB_STAT_JUMPREF n
  else if w = 0x2F then
    f.src == .image || (addrs 0 1 10).any (fun r => a == Reg.CLK_REF_STAT r) || (a == Reg.CLK_STAT && g != Fld.CLK_STAT_MLOCK)
  else if w = 5 then
    g == Fld.BOOT_STAT_TRIESA || g == Fld.BOOT_STAT_TRIESB || a == Reg.BOOT_RST_CAUSE || a == Reg.BOOT_NEXT || a == Reg.BOOT_ARB ||
      a == Reg.BOOT_KEYSTAT || (decide (Reg.BOOT_UID 0 ≤ a) && decide (a ≤ Reg.BOOT_UID 3))
  else if w = 7 then
    a == Reg.SWT_FG_STAT || a == Reg.SWT_FG_ADDR || (decide (Reg.SWT_CORE_FAIL 0 ≤ a) && decide (a ≤ Reg.SWT_CORE_FAIL 4)) ||
      a == Reg.SWT_AGING || (decide (Reg.SWT_LIFE_H 0 ≤ a) && decide (a ≤ Reg.SWT_LIFE_SAT))
  else false

/-- A register's word after full reset. -/
def wordAfterReset (a : Nat) (w : Word) : Word :=
  if onSupply a then w
  else (fieldsAt a).foldl (fun x f => if keptField a f then withBits x f.msb f.lsb (f.of w) else x) (resetWord a)

/-- The register table after full reset. -/
def regsAfterReset (m : Table Word) : Table Word :=
  m.filterMap (fun p => let w := wordAfterReset p.1 p.2; if w = resetWord p.1 then none else some (p.1, w))

/-- A time base through full reset (R298, R309, R321): the value and FREQ stay, firmware's knowledge of masters goes, and a time base
in LOCKING or LOCKED holds over with reason FIRMWARE. -/
def State.resetBase (s : State) (n : Nat) : State :=
  let lock := s.tbState n == 2 || s.tbState n == 3
  let c6 := (s.ownQuality n).1 == 6
  let s1 := s.modBase n (fun b =>
    { b.clearRuns with phase := 0, pathOk := false, restep := .none, masters := [], sel := none, last := none, seqIn := none,
                       info := [], target := if lock then none else b.target,
                       holdSince := if lock then s.tb.edges else b.holdSince, class6 := if lock then c6 else b.class6 })
  if lock then (s1.put (Fld.TB_STAT_STATE n) 4).put (Fld.TB_STAT_REASON n) 6 else s1

/-- A memory march that a full reset cuts short ends with ABORTED (R611); a calibration on the supply die goes on. -/
def State.cutMarch (s : State) : State :=
  match s.swt.fg with
  | some (2, c) =>
    let s1 := s.put Fld.SWT_FG_STAT_RESULT 6
    { s1 with swt := { s1.swt with fg := none },
              boot := { s1.boot with events := s1.boot.events ++ [(237, 2 + 256 * c + 3 * 65536)] } }
  | _ => s

/-- What full reset does to the state (R571). -/
def State.fullReset (s : State) : State :=
  let s0 := ((((s.cutMarch.resetBase 0).resetBase 1).resetBase 2).resetBase 3)
  let t : State :=
    { s0 with
      regs := regsAfterReset s0.regs
      live := s0.live.filter (fun p => onSupply p.1)
      row := rowReset
      fab := fabReset
      cores := []
      link := { linkReset with sup := { linkEndReset with queue := s0.link.sup.queue.filter (fun q => q.1 == 9) } }
      evt := evtReset
      twn := twnReset
      tb := { s0.tb with fw := [], doneDue := none, esmcOn := 0xF, lldp := [], seqs := [], syncs := [] }
      host := hostReset
      net := netReset
      str := strReset
      lane := []
      loc := locReset
      amp := { s0.amp with words := [], claimNow := 0, tunnels := [], nextTag := 0 }
      sup := { s0.sup with move := .none, paused := false }
      boot := { bootReset with causes := s0.boot.causes, cold := s0.boot.cold, last := s0.boot.last,
                               events := s0.boot.events.filter (fun e => decide (237 ≤ e.1)), fuses := s0.boot.fuses,
                               fuseOp := s0.boot.fuseOp, jtag := s0.boot.jtag }
      swt := { s0.swt with marching := false, place := [], testing := [] } }
  let t1 := if s0.boot.fuseOp.isSome then t.put Fld.BOOT_FUSE_STAT_RESULT 1 else t
  (if s0.on Fld.SUP_RAIL_STAT_SAG then t1.assertSag 0 else t1).riseSats

/-- Add a cause to those that hold the main die in reset. -/
def State.addCause (s : State) (c : Nat) : State :=
  { s with boot := { s.boot with causes := c :: s.boot.causes.filter (fun x => x != c) } }

/-- What the balls of the main die show in full reset (R629); MCLKO, WCKO and PPSO go on while XO_IN lasts. -/
def resetBalls : List (String × BallLevel) :=
  [("BCK", .zDown), ("FS", .zDown), ("SDO", .zDown), ("AESO", .low), ("MADI_TX", .idle), ("XFO_CK", .idle), ("XFO_DA", .idle),
   ("LANE_TX", .idle), ("OSPI_CS", .zUp), ("OSPI_CK", .zDown), ("OSPI_DQ", .zDown), ("OSPI_DQS", .zDown), ("OSPI_RST", .zDown),
   ("PRST_OUT", .low), ("TDO", .z), ("UART_TX", .zUp)]

/-- A full reset begins, or one more cause joins one that lasts: the lower code is recorded (R570). -/
def State.beginReset (s : State) (c : Nat) : State :=
  if s.inReset then (s.put Fld.BOOT_RST_CAUSE_CAUSE (min c (s.get Fld.BOOT_RST_CAUSE_CAUSE))).addCause c
  else ((s.fullReset.put Fld.BOOT_RST_CAUSE_CAUSE c).addCause c).send (.balls resetBalls)

/-- A cause that lasts has ended; the main die stays in reset until its release (marked by code 9). -/
def State.endCause (s : State) (c : Nat) : State :=
  if s.boot.causes.contains c then
    { s with boot := { s.boot with causes := 9 :: s.boot.causes.filter (fun x => x != c && x != 9) } }
  else s

/-- Does a cause still last: a rail restart, PRST_IN, XO_IN, PERST# or EXTEST? -/
def State.causeLasts (s : State) : Bool := s.boot.jtag == .extest || s.boot.causes.any (fun c => decide (1 ≤ c) && decide (c ≤ 4))

/-- PHASE of the boot: 0 ROM, 1 EARLY, 2 RUNNING, 3 LOADING, 4 DONE, 5 SEQUENCE, 6 RECOVERY (R581). -/
def State.bootPhase (s : State) : Nat := s.get Fld.BOOT_STAT_PHASE

end Sys2Proof.Machine
end

