-- ==== Sys2Proof/Machine/LaneExec.lean ====
section
/-! DEFINITION. Meanings of the lanes' commands (R262 to R294) and of the change of a port's speed (R191). -/

namespace Sys2Proof.Machine

/-! ### Modes -/

/-- A write of NETn.CTL (R191). -/
def State.writeSpeed (s : State) (n : Nat) (w : Word) : State :=
  let s1 := s.writeReg (Reg.NET_CTL n) w
  let v := s1.get (Fld.NET_CTL_SPEED n)
  if v = s.get (Fld.NET_CTL_SPEED n) then s1
  else ((s1.dropLink n).put (Fld.NET_STAT_SPEED_ACT n) v).setMode n v

/-- SPEED_WRITE. -/
def execSpeedWrite (port : Fin 4) (value : BitVec 32) (s : State) : Answer := .next (s.writeSpeed port value)

/-- A write of LANEn.CFG: a change of TXREF (LANE0 to LANE3) or EN (LANE4, LANE5) restarts the lane (R263, R272). -/
def State.writeLaneCfg (s : State) (n : Nat) (w : Word) : State :=
  let s1 := s.writeReg (Reg.LANE_CFG n) w
  if n < 4 then
    (if s1.on (Fld.LANE_CFG_TXREF n) == s.on (Fld.LANE_CFG_TXREF n) then s1
     else (s1.dropLink n).setMode n (s1.laneMode n))
  else if s1.on (Fld.LANE_CFG_EN n) == s.on (Fld.LANE_CFG_EN n) then s1
  else s1.setMode n (if s1.on (Fld.LANE_CFG_EN n) then 5 else 0)

/-- TXREF_WRITE. -/
def execTxrefWrite (lane : Fin 4) (value : BitVec 32) (s : State) : Answer := .next (s.writeLaneCfg lane value)

/-- LANE_EN_WRITE, of LANE4 or LANE5. -/
def execLaneEnWrite (lane : Fin 2) (value : BitVec 32) (s : State) : Answer := .next (s.writeLaneCfg (4 + lane) value)

/-! ### Lock, freeze, retrain -/

/-- LANE_LOCK (R275). -/
def execLaneLock (lane : Fin 6) (gain : BitVec 4) (peak : BitVec 5) (taps : BitVec 70) (s : State) : Answer :=
  .next (if s.laneState lane = 1 then (s.applyEq lane (eqOf gain peak taps)).setLaneState lane 2 else s)

/-- LANE_UP (R276). -/
def execLaneUp (lane : Fin 6) (s : State) : Answer :=
  .next (if s.laneState lane = 2 then ((s.setLaneState lane (s.restState lane)).flag (Fld.LANE_STAT_SIGDET lane) true).laneUp lane
    else s)

/-- Does a lane's receiver run, UP or behind a transmitter in electrical idle (R283)? -/
def State.receives (s : State) (n : Nat) : Bool := s.laneState n == 3 || (s.laneState n == 4 && !(s.laneS n).rxIdle)

/-- ADAPT_FREEZE (R279): a run of so many units has reached the threshold; the applied values that adaptation has reached
hold. -/
def execAdaptFreeze (lane : Fin 6) (ctle : Ctle) (taps : BitVec 70) (units : BitVec 32) (s : State) : Answer :=
  .next (if s.receives lane ∧ s.adapt lane = 0 ∧ 1024 * s.get (Fld.LANE_RXEQ_CFG_FRZRUN lane) ≤ units.toNat then
      s.freeze lane (eqOf ctle.gain ctle.peak taps)
    else s)

/-- RUN_END (R281), with the estimator's values. -/
def execRunEnd (lane : Fin 6) (gain : BitVec 4) (peak : BitVec 5) (taps : BitVec 70) (s : State) : Answer :=
  .next (if s.receives lane ∧ s.on (Fld.LANE_STAT_FROZEN lane) then s.driftGuard lane (eqOf gain peak taps) else s)

/-- LANE_LOCK_LOSS (R277); also while only the transmitter is in electrical idle. -/
def execLaneLockLoss (lane : Fin 6) (s : State) : Answer :=
  .next (if s.receives lane ∨ s.laneState lane = 5 then ((s.count (ctrLane lane 0)).raise 70 lane).acquire lane else s)

/-- RETRAIN_END (R282). -/
def execRetrainEnd (lane : Fin 6) (gain : BitVec 4) (peak : BitVec 5) (taps : BitVec 70) (s : State) : Answer :=
  .next (if s.laneState lane = 5 then
      ((s.putEq lane 0 (eqOf gain peak taps)).setLaneState lane (s.restState lane)).count (ctrLane lane 1)
    else s)

/-! ### Electrical idle -/

/-- LANE_EIDLE_ENTER: the partner goes quiet (R283); a lane of the twin link is then not usable (R508). -/
def execLaneEidleEnter (lane : Fin 6) (gain : BitVec 4) (peak : BitVec 5) (taps : BitVec 70) (s : State) : Answer :=
  .next (if s.receives lane then
      let s1 := (s.freeze lane (eqOf gain peak taps)).modLane lane (fun x => { x with rxIdle := true })
      ((s1.flag (Fld.LANE_STAT_SIGDET lane) false).setLaneState lane 4).showTwinLane lane
    else s)

/-- LANE_SIGNAL_DETECT (R284). In Standby only the wake port's receiver runs (R560). -/
def execLaneSignalDetect (lane : Fin 6) (s : State) : Answer :=
  .next (if s.laneState lane = 4 ∧ (s.laneS lane).rxIdle ∧ (lane.val < 4 ∨ ¬ s.asleep) then
      (s.flag (Fld.LANE_STAT_SIGDET lane) true).applyEq lane (s.eqAt lane 1)
    else s)

/-- Is a fast exit under way (R284)? -/
def State.fastExit (s : State) (n : Nat) : Bool :=
  s.laneState n == 4 && (s.laneS n).rxIdle && s.on (Fld.LANE_STAT_SIGDET n)

/-- FAST_EXIT_LOCK (R284), with the estimator's values. -/
def execFastExitLock (lane : Fin 6) (gain : BitVec 4) (peak : BitVec 5) (taps : BitVec 70) (s : State) : Answer :=
  .next (if s.fastExit lane then
      let s1 := (s.modLane lane (fun x => { x with rxIdle := false })).setLaneState lane (s.restState lane)
      (if s1.adapt lane = 0 then s1.driftGuard lane (eqOf gain peak taps) else s1).showTwinLane lane
    else s)

/-- FAST_EXIT_FAIL (R285). -/
def execFastExitFail (lane : Fin 6) (s : State) : Answer :=
  .next (if s.fastExit lane then ((s.count (ctrLane lane 4)).raise 73 lane).acquire lane else s)

/-- The elastic buffer of a twin lane overflows or runs empty (R274). -/
def State.recentre (s : State) (n : Nat) : State :=
  ((s.modLane n (fun x => { x with fill := 16 })).count (ctrLane n 3)).raise 72 n

/-- The elastic buffer of a twin lane, 32 blocks, meets a block with none taken (0), a block taken with none received (1), or a
filler block (2): above 20 it deletes a filler, below 12 it inserts one (R274). -/
def State.elasticMove (s : State) (n : Nat) (m : Fin 3) : State :=
  let fill := (s.laneS n).fill
  let setFill (k : Nat) : State := s.modLane n (fun x => { x with fill := k })
  match m with
  | 0 => if fill = 32 then s.recentre n else setFill (fill + 1)
  | 1 => if fill = 0 then s.recentre n else setFill (fill - 1)
  | 2 =>
    if 20 < fill then (setFill (fill - 1)).countLane n 2 1
    else if fill < 12 then (setFill (fill + 1)).countLane n 1 1
    else s

/-- ELASTIC_ERROR on LANE4 or LANE5 (R274): what the buffer has met since it was last told of (log entry 74). -/
def execElasticError (run : ElasticRun) (s : State) : Answer :=
  let n := 4 + run.lane.val
  .next (if s.laneMode n = 0 then s else run.moves.foldl (fun s m => s.elasticMove n m) s)

/-! ### Transmit taps -/

/-- Is a TXFIR value accepted (R269)? -/
def txfirOk (w : Word) : Bool :=
  let pre := bitsOf w 28 24
  let main := bitsOf w 22 16
  let post := bitsOf w 12 8
  decide (pre ≤ 16) && decide (24 ≤ main) && decide (main ≤ 64) && decide (post ≤ 24) && decide (pre + main + post ≤ 64) &&
    decide (16 + pre + post ≤ main)

/-- A write of TXFIR. -/
def State.writeTxfir (s : State) (n : Nat) (w : Word) : State :=
  if txfirOk w then s.writeFields (Reg.LANE_TXFIR n) w else s.invalid (Reg.LANE_TXFIR n)

/-- TXFIR_WRITE. -/
def execTxfirWrite (lane : Fin 6) (value : BitVec 32) (s : State) : Answer := .next (s.writeTxfir lane value)

/-! ### Loopbacks (R286 to R289) -/

/-- A loopback ends. One of LANE0 to LANE3 near-end that ran while the unit was a paired twin ends in a full reset (R598). -/
def State.endLoop (s : State) (n : Nat) : State :=
  if s.laneState n ≠ 6 then s
  else
    let cut := s.nearEnd n && (s.laneS n).loopPaired && decide (n < 4)
    let s1 := s.setMode n (s.laneMode n)
    if cut then s1.beginReset causeHost else s1

/-- A loopback is asked for (R287). -/
def State.startLoop (s : State) (n mode : Nat) : State :=
  let near := decide (mode < 3)
  let go (s : State) : State :=
    let s1 := (((s.abortEye n).laneDown n).setLaneState n 6).restartPrbs n true true
    let s2 := ((s1.flag (Fld.LANE_STAT_FROZEN n) false).put (Fld.LANE_LOOP_STAT_RESULT n) 1).put (Fld.LANE_LOOP_STAT_MODE n) mode
    (if near then s2.flag (Fld.LANE_STAT_EIDLE_TX n) true else s2).modLane n (fun x => { x with loopPaired := s.paired })
  let refuse (s : State) (r : Nat) : State :=
    (s.put (Fld.LANE_LOOP_STAT_RESULT n) r).put (Fld.LANE_LOOP_STAT_MODE n) 0
  if near then (if s.foregroundOk then go s else (refuse s 2).refuseSwatch 6 1)
  else if s.laneState n = 3 then go s
  else refuse s 3

/-- A write of LOOP_CTL. -/
def State.writeLoopCtl (s : State) (n : Nat) (w : Word) : State :=
  let mode := w.toNat % 4
  if s.laneState n = 6 ∧ mode = s.get (Fld.LANE_LOOP_STAT_MODE n) then s.put (Fld.LANE_LOOP_CTL_MODE n) mode
  else
    let s1 := s.endLoop n
    if s1.inReset then s1
    else
      let s2 := s1.put (Fld.LANE_LOOP_CTL_MODE n) mode
      if mode = 0 then s2 else s2.startLoop n mode

/-- LOOPBACK_START: a write of LOOP_CTL. -/
def execLoopbackStart (lane : Fin 6) (value : BitVec 32) (s : State) : Answer := .next (s.writeLoopCtl lane value)

/-- LOOPBACK_END: a write of LOOP_CTL with MODE 0. -/
def execLoopbackEnd (lane : Fin 6) (s : State) : Answer := .next (s.writeLoopCtl lane 0)

/-! ### Eye scans (R290, R291) -/

/-- A write of EYE_SEL. -/
def State.writeEyeSel (s : State) (n : Nat) (w : Word) : State :=
  let a := Reg.LANE_EYE_SEL n
  if w.msb && (s.laneS n).eye then s.invalid a
  else
    let s1 := s.writeReg a w
    if w.msb && !badCodes a w then
      let s2 := ((s1.flag (Fld.LANE_EYE_STAT_DONE n) false).flag (Fld.LANE_EYE_STAT_ABORT n) false)
      let st := s.laneState n
      if st = 3 ∨ st = 5 ∨ st = 6 then
        (s2.modLane n (fun x => { x with eye := true })).flag (Fld.LANE_EYE_STAT_BUSY n) true
      else s2.flag (Fld.LANE_EYE_STAT_ABORT n) true
    else s1

/-- EYE_SCAN_GO. -/
def execEyeScanGo (lane : Fin 6) (value : BitVec 32) (s : State) : Answer := .next (s.writeEyeSel lane value)

/-- EYE_POINT_DONE, with the mismatches found. -/
def execEyePointDone (lane : Fin 6) (errors : BitVec 32) (s : State) : Answer :=
  .next (if (s.laneS lane).eye then
      let s1 := (s.modLane lane (fun x => { x with eye := false })).flag (Fld.LANE_EYE_STAT_BUSY lane) false
      (s1.flag (Fld.LANE_EYE_STAT_DONE lane) true).put (Fld.LANE_EYE_ERR_ERR lane)
        (min errors.toNat (2 ^ (16 + s.get (Fld.LANE_EYE_SEL_DWELL lane))))
    else s)

end Sys2Proof.Machine
end

