-- ==== Sys2Proof/Machine/Swatch.lean ====
section
/-! DEFINITION. The operations of swatch (R594 to R612): foreground requests, core tests, aging and life counters. -/

namespace Sys2Proof.Machine

/-! ### Foreground requests (R595, R596) -/

/-- A request that FG_CTL.GO makes for a test of a channel. -/
def State.requestSwatch (s : State) (test ch : Nat) : State :=
  let s1 := s.put Fld.SWT_FG_STAT_TEST test
  if !s1.foregroundOk then (s1.put Fld.SWT_FG_STAT_RESULT 4).refuseSwatch test 1
  else if test = 1 ∧ s1.chState ch ≠ 0 then (s1.put Fld.SWT_FG_STAT_RESULT 5).refuseSwatch test 2
  else
    let s2 := s1.put Fld.SWT_FG_STAT_RESULT 1
    let s3 := { s2 with swt := { s2.swt with fg := some (test, if test = 1 then ch else 0) } }
    if test = 1 then s3.setChState ch 1 else s3

/-- A write of SWT.FG_CTL (R13, R595). -/
def State.writeFgCtl (s : State) (w : Word) : State :=
  let s1 := s.writeReg Reg.SWT_FG_CTL w
  if w.msb && !badCodes Reg.SWT_FG_CTL w && s1.get Fld.SWT_FG_CTL_TEST != 0 then
    s1.requestSwatch (s1.get Fld.SWT_FG_CTL_TEST) (s1.get Fld.SWT_FG_CTL_CHANNEL)
  else s1

/-! ### Core tests (R599 to R601) -/

/-- Place in the order of R599 of group `g`: physical core 32 g + i, and 32 for the spare. -/
def State.testPlace (s : State) (g : Nat) : Nat := s.swt.place.get (fun _ => 0) g

/-- The physical core under test in a group, or on its way back: 128 + g is the spare. -/
def State.tested (s : State) (g : Nat) : Option Nat := s.swt.testing.get (fun _ => none) g

def State.setTested (s : State) (g : Nat) (p : Option Nat) : State :=
  { s with swt := { s.swt with testing := s.swt.testing.set (fun _ => none) g p } }

def State.setPlace (s : State) (g i : Nat) : State := { s with swt := { s.swt with place := s.swt.place.set (fun _ => 0) g i } }

/-- Core tests of a group have stopped: a core of it or its spare is marked (R601). -/
def State.testsStopped (s : State) (g : Nat) : Bool := (addrs (32 * g) 1 32).any s.physFailed || s.physFailed (128 + g)

/-- The gauge lets firmware migrate (R600). -/
def State.gaugeLow (s : State) : Bool := decide (s.row.gauge ≤ s.lowStep)

/-- The next physical core of a group is taken for its test (R599, R600). DESIGN CHOICE (log entry 127): a core whose request is
refused for RESET or FAULTED is passed over. -/
def State.beginTest (s : State) (g : Nat) : State :=
  let i := s.testPlace g
  if s.on (fdBusy g) then s
  else if i = 32 then s.setTested g (some (128 + g))
  else
    let why := s.migrateRefusal (32 * g + i) false true
    let s1 := s.migrateRequest (32 * g + i) false true
    if why = 0 then s1.setTested g (some (32 * g + i))
    else if why = 3 then s1.setPlace g (i + 1)
    else s1

/-- What firmware does for a group each PERIOD (R599, R600): it takes up an abandoned migration, or the next core. -/
def State.testPeriod (s : State) (g : Nat) : State :=
  if !s.on Fld.SWT_CORE_CFG_EN || s.testsStopped g || !s.gaugeLow || s.row.migration.isSome then s
  else
    match s.tested g with
    | none => s.beginTest g
    | some p =>
      if 128 ≤ p then s
      else if s.testPlace g = p % 32 then (if s.onSpare p then s else s.beginTest g)
      else if s.onSpare p then s.migrateRequest p true true
      else (s.setTested g none).beginTest g

/-- The pattern test of a group's vacated core, or of its spare, ends (R599, R601). -/
def State.endTest (s : State) (g : Nat) (pass : Bool) : State :=
  match s.tested g with
  | none => s
  | some p =>
    if p < 128 ∧ (!s.onSpare p ∨ s.testPlace g ≠ p % 32) then s
    else
      let s1 := s.count (ctrSwt 0)
      if !pass then
        ((s1.setReg (Reg.SWT_CORE_FAIL (p / 32)) (s1.reg (Reg.SWT_CORE_FAIL (p / 32)) ||| BitVec.ofNat 32 (2 ^ (p % 32)))).failSwatch
          3 p).setTested g none
      else if 128 ≤ p then (s1.setPlace g 0).setTested g none
      else
        let s2 := s1.setPlace g (p % 32 + 1)
        if s2.gaugeLow && s2.migrateRefusal p true true == 0 then s2.migrateRequest p true true else s2

/-! ### Aging (R606, R607) -/

/-- DEGR of monitor `i` in a measurement of the 20 monitors. -/
def degrOf (degr : BitVec 320) (i : Nat) : Nat := degr.toNat / 2 ^ (16 * i) % 65536

/-- Firmware has measured the aging monitors, and moves VSET one step toward its value. -/
def State.measureAging (s : State) (degr : BitVec 320) : State :=
  let s1 := (addrs 0 1 20).foldl (fun (s : State) i => s.put (Fld.SWT_AGE_MON_DEGR i) (degrOf degr i)) s
  let m := (addrs 0 1 20).foldl (fun m i => max m (degrOf degr i)) 0
  let who := ((addrs 0 1 20).find? (fun i => degrOf degr i == m)).getD 0
  let want := s.swt.vbase + (m + 24) / 25
  let s2 := s1.put Fld.SWT_AGING_DEGR m
  let s3 := if 0xAA < want ∧ ¬ s2.on Fld.SWT_AGING_LIMIT then (s2.flag Fld.SWT_AGING_LIMIT true).raise 241 who else s2
  let v := s3.get Fld.SUP_VCORE_VSET
  if v < min 0xAA want then s3.put Fld.SUP_VCORE_VSET (v + 1) else s3

/-! ### Life counters (R608 to R610) -/

/-- The weights w(i) of R609 in units of 2^-64. -/
def lifeWeights : List Nat :=
  [102228215106763, 209233295000546, 415937501206289, 804489581087771, 1516374040497725,
    2789528107983492, 5015219962921475, 8823408011125532, 15208349714219598, 25710047933614278,
    42671819198462392, 69599941087298889, 111658072089881164, 176337006249332869, 274349373006182607,
    420809138745520671, 636767197721777712, 951186908813407070, 1403457056996346411, 2046554273557788902,
    2950982279679669336, 4209631232687339839, 5943716730657549315, 8309974420359795718, 11509302385594344289,
    15797059282617262513, 21495241242549735411, 29006774581582343154, 38832174057415537149, 51588827505229849272]

/-- LIFEUSED for the present bins, in whole hours (R609). -/
def State.lifeUsed (s : State) : Nat :=
  min (2 ^ 32 - 1) (((addrs 0 1 30).zip lifeWeights).foldl (fun n p => n + (s.reg (Reg.SWT_LIFE_H p.1)).toNat * p.2) 0 / 2 ^ 64)

/-- LIFEUSED follows the bins, with the events of 80 and 100 per cent. -/
def State.followLife (s : State) : State :=
  let a := (s.reg Reg.SWT_LIFEUSED).toNat
  let b := s.lifeUsed
  let s1 := s.setReg Reg.SWT_LIFEUSED (BitVec.ofNat 32 b)
  let s2 := if a < 280512 ∧ 280512 ≤ b then s1.raise 240 256 else s1
  if a < 350640 ∧ 350640 ≤ b then s2.raise 240 512 else s2

/-- A second counts toward the next hour of a bin; 30 is Standby. -/
def State.lifeSecond (s : State) (bin : Nat) : State :=
  let n := s.swt.seconds.get (fun _ => 0) bin + 1
  let put (s : State) (n : Nat) : State := { s with swt := { s.swt with seconds := s.swt.seconds.set (fun _ => 0) bin n } }
  if n < 3600 then put s n
  else
    let s1 := put s 0
    if 30 ≤ bin then s1.setReg Reg.SWT_STBYHRS (BitVec.ofNat 32 (min (2 ^ 32 - 1) ((s1.reg Reg.SWT_STBYHRS).toNat + 1)))
    else
      let h := (s1.reg (Reg.SWT_LIFE_H bin)).toNat
      let f : Fd := ⟨Reg.SWT_LIFE_SAT, bin, bin⟩
      let s2 := s1.setReg (Reg.SWT_LIFE_H bin) (BitVec.ofNat 32 (min (2 ^ 32 - 1) (h + 1)))
      (if 2 ^ 32 - 2 ≤ h ∧ ¬ s2.on f then (s2.setSat f).raise 240 bin else s2).followLife

/-- The bin of a junction temperature in 0.1 degC. -/
def lifeBin (t : Int) : Nat := min 29 ((t + 400) / 50).toNat

/-- Registers of a life record, in its order (R610). -/
def lifeRegs : List Nat := addrs (Reg.SWT_LIFE_H 0) 4 30 ++ [Reg.SWT_STBYHRS, Reg.SWT_LIFEUSED, Reg.SWT_LIFE_SAT]

/-- Firmware saves the life counters in the next copy of the store (R610). -/
def State.saveLife (s : State) : State :=
  let c := (s.swt.copy + 1) % 16
  let q := s.swt.saveSeq + 1
  { s with swt := { s.swt with copy := c, saveSeq := q, store := s.swt.store.set (fun _ => none) c (some ⟨q, lifeRegs.map s.reg⟩) } }

/-- The latest record of the store, with the number of its copy (R8, R610). -/
def latestLife (x : SwtS) : Option (Nat × LifeRec) :=
  x.store.foldl (fun (best : Option (Nat × LifeRec)) p =>
    match p.2, best with
    | some r, some (_, b) => if laterThan 32 r.seq.toNat b.seq.toNat then some (p.1, r) else best
    | some r, none => some (p.1, r)
    | none, _ => best) none

/-- At power-on the latest record is loaded (R610). -/
def State.loadLife (s : State) : State :=
  match latestLife s.swt with
  | some (c, r) =>
    let s1 := (lifeRegs.zip r.words).foldl (fun (s : State) p => s.setReg p.1 p.2) s
    { s1 with swt := { s1.swt with copy := c, saveSeq := r.seq } }
  | none => s

end Sys2Proof.Machine
end

