-- ==== Sys2Proof/Machine/Power.lean ====
section
/-! DEFINITION. Power states (R557 to R568): requests, the entry into Standby and the exit from it, rail faults, and Off. -/

namespace Sys2Proof.Machine

/-- State of the node: 1 Standby, 2 Idle, 3 Active (R557). -/
def State.nodeState (s : State) : Nat := s.get Fld.SUP_PWR_STAT_STATE

/-- The node takes a state; HIF.PWRSTAT reads the same field (R557). -/
def State.showState (s : State) (st : Nat) : State := s.put Fld.SUP_PWR_STAT_STATE st

/-- A change of state other than an entry into Standby, with the event (R559); `wsrc` is the wake source of an exit. -/
def State.changeState (s : State) (st wsrc : Nat) : State := (s.showState st).raise 209 (st + 16 * wsrc)

/-! ### Requests (R558) -/

/-- Active to Idle may happen: no core, matrix or delay unit works. -/
def State.mayIdle (s : State) : Bool :=
  s.cores.all (fun p => p.2.state == .reset) && !s.on Fld.MTX_CTL_EN && !s.on Fld.DLY_CTL_EN

/-- The reason that forbids a transition, 0 for none. -/
def State.powerReason (s : State) (req : Nat) : Nat :=
  let wake := s.get Fld.SUP_STBY_CFG_PORT
  let type := s.portType wake
  if s.sup.move ≠ .none then 7
  else if req = 3 then 0
  else if req = 1 ∧ s.nodeState = 3 then 6
  else if !s.mayIdle then 1
  else if req = 2 then 0
  else if s.str.flow.any (fun p => p.2.state != 0) || (addrs 0 1 34).any (fun p => s.lstate p != 0) then 2
  else if channels.any (fun c => s.chState c != 0 && s.chState c != 7) then 3
  else if s.get Fld.TWN_STAT_STATE ≠ 0 ∨ s.on Fld.REF_CFG_EN then 4
  else if s.on Fld.SUP_STBY_CFG_WOLEN && !((type == 1 || type == 2) && s.linkUp wake) then 5
  else 0

/-- Does port `n` wait for a wake frame in Standby? -/
def State.wakePort (s : State) (n : Nat) : Bool := s.on Fld.SUP_STBY_CFG_WOLEN && s.get Fld.SUP_STBY_CFG_PORT == n

/-- A lane stops for Standby: to OFF, or with its transmitter only in electrical idle on the wake port; LANE4 and LANE5 enter
electrical idle (R560). -/
def State.sleepLane (s : State) (n : Nat) : State :=
  if n < 4 ∧ s.wakePort n then s.laneTxIdle n true
  else if s.laneState n = 0 then s
  else
    let s1 := if s.laneState n = 6 then s.clearLoop n else s.abortEye n
    (((s1.laneDown n).twinIdle n).flag (Fld.LANE_STAT_EIDLE_TX n) true).setLaneState n (if n < 4 then 0 else 4)

/-- A loop calibration ends with ABORTED at the entry into Standby (R611). -/
def State.endSwatch (s : State) : State :=
  match s.swt.fg with
  | some (_, c) => (s.endForeground 3).setChState c 0
  | none => s

/-- Does a memory march run, or wait for its tick? -/
def State.marchAsked (s : State) : Bool := match s.swt.fg with
  | some (2, _) => true
  | _ => false

/-- Steps 1 to 4 of R560. -/
def State.enterStandby (s : State) : State :=
  let s1 := (s.endSwatch.saveLife.tpFlush.raise 209 1).deliveryPass
  let s2 := { s1 with sup := { s1.sup with move := .entering 0, paused := true } }
  let s3 := (addrs 0 1 6).foldl State.sleepLane s2.stopTicks
  ((addrs 0 1 4).foldl (fun s n => if s.tbState n = 0 then s else s.enterHoldover n 7) s3).stopMonitoring.clocksOff

/-- Reset of the main die that ends a memory march before a Standby that was asked for (R605, R611). -/
def State.endMarch (s : State) : State := s.beginReset causeHost

/-- A write of SUP.PWR_CTL (R13, R558). -/
def State.writePwrCtl (s : State) (w : Word) : State :=
  let req := w.toNat % 4
  if req = 0 then s.invalid Reg.SUP_PWR_CTL
  else if req = s.nodeState then (s.put Fld.SUP_PWR_CTL_REQ req).put Fld.SUP_PWR_STAT_REASON 0
  else
    let r := s.powerReason req
    if r ≠ 0 then (s.put Fld.SUP_PWR_STAT_REASON r).invalid Reg.SUP_PWR_CTL
    else
      let s1 := (s.put Fld.SUP_PWR_CTL_REQ req).put Fld.SUP_PWR_STAT_REASON 0
      if req = 1 then (if s1.marchAsked then s1.endMarch else s1.enterStandby)
      else { s1 with sup := { s1.sup with move := .atTick req } }

/-- A transition to Idle or Active completes at a row tick (R558); host accesses resume in Active (R454). -/
def State.powerTick (s : State) : State :=
  let s1 := match s.sup.move with
    | .atTick t => ({ s with sup := { s.sup with move := .none } } : State).changeState t 0
    | _ => s
  if s1.nodeState = 3 then { s1 with sup := { s1.sup with paused := false } } else s1

/-! ### Standby (R561 to R564) -/

/-- What Standby loses (R561). -/
def State.loseState (s : State) : State :=
  let s1 := (addrs 0 1 128).foldl (fun s c => (s.setPready c false).setCready c false) s
  let s2 : State := { s1 with
    cores := s1.cores.remap (fun _ => coreReset) (fun k => { k with ram := [], coef0 := [], coef1 := [], prog0 := [], prog1 := [] })
    fab := { s1.fab with slots := [], r0 := s1.get Fld.SST_CFG_HOLD + 64, glides := [], mtxOut := [], dlyOut := [], lines := [],
                         shared := s1.fab.shared.filter (fun p => decide (p.1 < 0x400000)) }
    net := { s1.net with port := s1.net.port.remap (fun _ => portReset) (fun p => { p with queue := [], tx := none, cut := none }) } }
  let s3 := ((s2.put Fld.MTX_ACT_LEN_COUNT 0).put Fld.MTX_SHD_LEN_COUNT 0).flag Fld.MTX_TBL_STAT_SHREADY false
  (s3.setHost { s3.host with tlb := [] }).showTlb

/-- A wake begins (R564): its source is recorded. -/
def State.beginWake (s : State) (src : Nat) : State :=
  let s1 := s.put Fld.SUP_PWR_STAT_WSRC src
  { s1 with sup := { s1.sup with move := .waking } }

/-- The media time base is at or past ALARM_SEC, and the alarm is enabled (R562). -/
def State.alarmDue (s : State) : Bool :=
  s.on Fld.SUP_STBY_CFG_ALMEN && s.tbState s.media != 0 &&
    decide (s.get Fld.SUP_ALARM_SEC_LO_SEC + 2 ^ 32 * s.get Fld.SUP_ALARM_SEC_HI_SEC ≤ s.tbNs s.media / 1000000000)

/-- A wake source occurs (R562, R568). -/
def State.wake (s : State) (src : Nat) : State :=
  match s.sup.move with
  | .entering w => if w = 0 then { s with sup := { s.sup with move := .entering src } } else s
  | .none => if s.nodeState = 1 then s.beginWake src else s
  | _ => s

/-- Is a frame with its FCS a wake frame (R563)? -/
def State.wakeFrame (s : State) (n : Nat) (b : List Byte) : Bool :=
  let o := frameBody b
  s.wakePort n && s.linkUp n && fcsGood b && decide (64 ≤ b.length) && decide (b.length ≤ 1522) &&
    frameDst b == s.macOf n && frameType b == s.get Fld.SUP_STBY_CFG_ETYPE &&
    beAt b o 4 == s.get Fld.SUP_WOL_KEY_HI_KEY && beAt b (o + 4) 4 == s.get Fld.SUP_WOL_KEY_LO_KEY

/-- The core rail starts: the settings of CORE_CFG take effect (R553). -/
def State.startCoreRail (s : State) : State :=
  (((s.put Fld.SUP_VCORE_PH_ACT (s.get Fld.SUP_CORE_CFG_PHASES)).put Fld.SUP_CORE_ACT_ILIM_ACT (s.get Fld.SUP_CORE_CFG_ILIM)).put
    Fld.SUP_CORE_ACT_FSW_ACT (s.get Fld.SUP_CORE_CFG_FSW)).put Fld.SUP_RAIL_STAT_OK 0x1F

/-- Counters of supply management that firmware keeps for events owed: RAILFLT_CNT (R555). -/
def State.payOwed (s : State) : State :=
  let s1 := s.sup.owed.foldl (fun (s : State) e => (if e.1 = 208 then s.count (ctrSup 3) else s).raise e.1 e.2) s
  { s1 with sup := { s1.sup with owed := [] } }

/-- A lane starts from ACQUIRE after Standby (R561, R564). -/
def State.wakeLane (s : State) (n : Nat) : State :=
  if s.laneMode n = 0 then s else (s.flag (Fld.LANE_STAT_EIDLE_TX n) false).acquire n

/-- The last step of R564. -/
def State.endWake (s : State) : State :=
  let s1 := { s.startCoreRail.clocksOn with sup := { s.sup with move := .none } }
  let s2 := (addrs 0 1 6).foldl State.wakeLane s1
  let s3 := (s2.changeState (if s2.on Fld.SUP_STBY_CFG_WAKETGT then 3 else 2) (s2.get Fld.SUP_PWR_STAT_WSRC)).payOwed
  if s3.on Fld.SUP_RAIL_STAT_SAG then s3.assertSag 0 else s3

/-! ### Events of the supply die -/

/-- An event of the supply die, raised at once, or after the next wake in Standby (R568). -/
def State.raiseSupply (s : State) (n info : Nat) : State :=
  if s.nodeState = 1 then { s with sup := { s.sup with owed := s.sup.owed ++ [(n, info)] } } else s.supplyEvent n info

/-! ### Off and rail faults (R543, R555, R556, R566) -/

/-- What the balls show from the power-down sequence on (R629): MCLKO, WCKO, PPSO and PRST_OUT and the gate outputs go low
first. -/
def offBalls : List (String × BallLevel) :=
  (["MCLKO", "WCKO", "PPSO", "PRST_OUT", "GHA", "GHB", "BGH", "GLA", "GLB", "BGL", "CPWM"].map (fun n => (n, BallLevel.low))) ++
    (resetBalls.map (fun x => (x.1, BallLevel.unpowered)))

/-- The node in Off: what lasts is the fuses, the non-volatile store, and what the sender has queued and received. -/
def State.powerDown (s : State) : State :=
  { State.reset with
    pending := s.pending, outbox := .balls offBalls :: s.outbox, free := s.free
    clk := { clkReset with xo := s.clk.xo }
    sup := { supReset with powered := false }
    boot := { bootReset with causes := [causePowerOn], fuses := s.boot.fuses, jtag := s.boot.jtag }
    swt := { swtReset with store := s.swt.store, copy := s.swt.copy, saveSeq := s.swt.saveSeq } }

/-- OK bits that a fault of a rail clears: those of the rail and of CORE. -/
def okLost (rail : Nat) : Nat := match rail with | 1 => 1 | 2 => 3 | 3 => 5 | 4 => 5 | 5 => 9 | _ => 17

/-- A rail fault (R555, R556) of rail 1 CORE, 2 IO, 3 ANA09, 4 ANA12, 5 AON, 6 V5, with a cause, at a time in ms. -/
def State.railFault (s : State) (rail cause ms : Nat) : State :=
  let fs := ms :: s.sup.faults.filter (fun t => decide (ms < t + 10000))
  let latch := decide (3 ≤ fs.length)
  let owed := s.sup.owed ++ [(208, rail + 16 * cause + 256 * latch.toNat)]
  let mark (s : State) : State :=
    let s1 := (((s.put Fld.SUP_RAIL_STAT_LASTRAIL rail).put Fld.SUP_RAIL_STAT_LASTCAUSE cause).flag Fld.SUP_RAIL_STAT_CLATCH latch)
    { s1 with sup := { s1.sup with faults := fs, owed := owed } }
  if rail ≤ 4 then
    let s1 := mark (s.put Fld.SUP_RAIL_STAT_OK (Nat.land (s.get Fld.SUP_RAIL_STAT_OK) (31 - okLost rail)))
    ({ s1 with sup := { s1.sup with restart := some rail } } : State).beginReset causeRail
  else mark s.powerDown

end Sys2Proof.Machine
end

