-- ==== Sys2Proof/Machine/SupExec.lean ====
section
/-! DEFINITION. The commands of supply management (chapter 17), of XO_IN (R328), and of the causes of full reset (R570). -/

namespace Sys2Proof.Machine

/-! ### Bus and sag -/

/-- SAG_ASSERT (R544, R547): the conditions that hold, VBUS in 0.1 V, and nanoseconds since the row tick. -/
def execSagAssert (level slope : Bool) (vbus : BitVec 10) (ns : Fin 65536) (s : State) : Answer :=
  let cause := level || (slope && s.get Fld.SUP_SAG_CFG_SLOPE != 0)
  .next (if !s.sup.powered || !s.on Fld.SUP_SAG_CFG_EN || s.on Fld.SUP_RAIL_STAT_SAG || !cause then s
    else
      let s1 := (s.flag Fld.SUP_RAIL_STAT_SAG true).count (ctrSup 0)
      if s.nodeState = 1 then s1
      else (s1.supplyEvent 206 (level.toNat + 2 * slope.toNat + 256 * vbus.toNat)).assertSag ns)

/-- SAG_DEASSERT (R545). -/
def execSagDeassert (s : State) : Answer := .next (if s.on Fld.SUP_RAIL_STAT_SAG then s.deassertSag else s)

/-- POWER_FAIL_WARNING (R541). -/
def execPowerFailWarning (s : State) : Answer :=
  .next (if !s.sup.powered || s.on Fld.SUP_RAIL_STAT_PFW then s
    else
      let s1 := (((s.flag Fld.SUP_RAIL_STAT_PFW true).stopChannels [2, 3, 6]).count (ctrSup 1)).raiseSupply 207 1
      if s.inReset || s.asleep then s1 else s1.saveLife)

/-- POWER_FAIL_WARNING_CLEAR (R541). -/
def execPowerFailWarningClear (s : State) : Answer :=
  .next (if s.on Fld.SUP_RAIL_STAT_PFW then (s.flag Fld.SUP_RAIL_STAT_PFW false).restartChannels.raiseSupply 207 2 else s)

/-- VBUS_OVERVOLTAGE (R540). -/
def execVbusOvervoltage (s : State) : Answer :=
  .next (if !s.sup.powered || s.on Fld.SUP_RAIL_STAT_OV then s
    else (((s.flag Fld.SUP_RAIL_STAT_OV true).stopChannels [2, 3, 6]).count (ctrSup 2)).raiseSupply 207 3)

/-- VBUS_OVERVOLTAGE_CLEAR (R540). -/
def execVbusOvervoltageClear (s : State) : Answer :=
  .next (if s.on Fld.SUP_RAIL_STAT_OV then (s.flag Fld.SUP_RAIL_STAT_OV false).restartChannels.raiseSupply 207 4 else s)

/-- VBUS_UNDERVOLTAGE (R543): the node enters Off. -/
def execVbusUndervoltage (s : State) : Answer := .next s.powerDown

/-! ### Rails -/

/-- RAIL_FAULT: rail and cause (1 UV, 2 OV, 3 OC) by the codes of RAIL_STAT, at a time in milliseconds. -/
def execRailFault (rail : Fin 7) (cause : Fin 4) (ms : BitVec 64) (s : State) : Answer :=
  .next (if !s.sup.powered || s.on Fld.SUP_RAIL_STAT_CLATCH || rail.val == 0 || cause.val == 0 || (cause.val == 3 && rail.val != 1)
    then s else s.railFault rail cause ms.toNat)

/-- RAIL_RESTART_DONE: after 10 ms the rails start again, unless the fault latched (R555, R556). -/
def execRailRestartDone (s : State) : Answer :=
  .next (if s.sup.restart.isSome && !s.on Fld.SUP_RAIL_STAT_CLATCH then
      let s1 := s.startCoreRail
      ({ s1 with sup := { s1.sup with restart := none } } : State).endCause causeRail
    else s)

/-! ### Power states -/

/-- REQ_ACTIVE: a write of PWR_CTL. -/
def execReqActive (s : State) : Answer := .next (s.writePwrCtl 3)

/-- REQ_IDLE. -/
def execReqIdle (s : State) : Answer := .next (s.writePwrCtl 2)

/-- REQ_STANDBY. -/
def execReqStandby (s : State) : Answer := .next (s.writePwrCtl 1)

/-- STANDBY_ENTRY_DONE (R560, R561): steps 5 and 6, and a wake that is due at once (R562, R568). -/
def execStandbyEntryDone (s : State) : Answer :=
  .next (match s.sup.move with
    | .entering w =>
      let s1 := (s.loseState.showState 1).put Fld.SUP_RAIL_STAT_OK 0x1E
      let s2 := { s1 with sup := { s1.sup with move := .none } }
      if w ≠ 0 then s2.beginWake w else if s2.alarmDue then s2.beginWake 4 else s2
    | _ => s)

/-- WAKE_GO: a host write of HIF.WAKE (R455). -/
def execWakeGo (value : BitVec 32) (s : State) : Answer := .next (if value.getLsbD 0 then s.wake 1 else s)

/-- WAKEIN. -/
def execWakein (s : State) : Answer := .next (if s.on Fld.SUP_STBY_CFG_PINEN then s.wake 2 else s)

/-- WAKE_FRAME: a frame with its FCS at a port. -/
def execWakeFrame (port : Fin 4) (bytes : List (BitVec 8)) (s : State) : Answer :=
  .next (if s.wakeFrame port bytes then s.wake 3 else s)

/-- ALARM. -/
def execAlarm (s : State) : Answer := .next (if s.alarmDue then s.wake 4 else s)

/-- WAKE_DONE: whether the digest of the reloaded firmware is right (R564, R581). -/
def execWakeDone (ok : Bool) (s : State) : Answer :=
  .next (match s.sup.move with
    | .waking => if ok then s.endWake else s.startCoreRail.beginReset causeBootfail
    | _ => s)

/-! ### XO_IN and the causes of full reset -/

/-- XO_LOSS (R328). -/
def execXoLoss (s : State) : Answer :=
  if s.clk.xo then
    let s1 := (addrs 0 1 4).foldl (fun (s : State) n => if s.tbState n = 0 then s else s.enterHoldover n 9) s
    let s2 := s1.stopTicks.stopMonitoring
    .next ((s2.setClk { s2.clk with xo := false }).clocksOff.beginReset causeXoloss)
  else .next s

/-- XO_RESTORE (R328). -/
def execXoRestore (s : State) : Answer :=
  .next (if s.clk.xo then s else ((s.setClk { s.clk with xo := true }).endCause causeXoloss).clocksOn)

/-- A cause of R570 begins, in a node that has power. -/
def State.cause (s : State) (c : Nat) : State := if s.sup.powered then s.beginReset c else s

/-- PRST_IN_ASSERT. -/
def execPrstInAssert (s : State) : Answer := .next (s.cause causePrst)

/-- PRST_IN_RELEASE. -/
def execPrstInRelease (s : State) : Answer := .next (s.endCause causePrst)

/-- PERST_ASSERT. -/
def execPerstAssert (s : State) : Answer := .next (s.cause causePerst)

/-- PERST_DEASSERT. -/
def execPerstDeassert (s : State) : Answer := .next (s.endCause causePerst)

/-- FUNCTION_LEVEL_RESET. -/
def execFunctionLevelReset (s : State) : Answer := .next (s.cause causeFlr)

/-- A write of BOOT.RST_CTL (R570). -/
def State.writeRstCtl (s : State) (w : Word) : State :=
  if w.toNat / 2 ^ 24 ≠ 0xA5 then s.invalid Reg.BOOT_RST_CTL
  else if w.getLsbD 0 then s.cause causeHost
  else s

/-- RST_CTL_GO; no register write is served while the main die is in reset (R572). -/
def execRstCtlGo (value : BitVec 32) (s : State) : Answer := .next (if s.inReset then s else s.writeRstCtl value)

end Sys2Proof.Machine
end

