-- ==== Sys2Proof/Machine/Fuse.lean ====
section
/-! DEFINITION. Fuses (R589) and the JTAG port (R590). -/

namespace Sys2Proof.Machine

/-- Is a key slot programmed? -/
def Fuses.keyed (f : Fuses) (k : Nat) : Bool := if k = 0 then f.key0.isSome else f.key1.isSome

/-- The fuses as the BOOT registers report them (ARB, KEYSTAT). -/
def State.showFuses (s : State) : State :=
  let f := s.boot.fuses
  (((s.put Fld.BOOT_ARB_COUNT f.count).flag Fld.BOOT_KEYSTAT_PROG0 f.key0.isSome).flag Fld.BOOT_KEYSTAT_PROG1
    f.key1.isSome).flag Fld.BOOT_KEYSTAT_REVOKED0 f.revoked

/-- Level of the JTAG port (R590): a part without a key stays at boundary scan. -/
def State.jtagLevel (s : State) : Nat :=
  if !s.boot.fuses.keyed 0 && !s.boot.fuses.keyed 1 then 1 else s.get Fld.BOOT_DBG_STAT_LEVEL

/-- DBG_STAT takes a level, or boundary scan on a part without a key. -/
def State.showLevel (s : State) (level : Nat) : State :=
  s.put Fld.BOOT_DBG_STAT_LEVEL (if !s.boot.fuses.keyed 0 && !s.boot.fuses.keyed 1 then 1 else level)

/-- SVN and KEYIDX of the image that runs (R576). -/
def State.runningSvn (s : State) : Option (Nat × Nat × Nat) := s.boot.image.map (fun i => (i.src, leAt i.bytes 16 1, leAt i.bytes 17 1))

/-- Is a fuse operation refused (R589, R592)? -/
def State.fuseRefused (s : State) (op : Nat) : Bool :=
  let f := s.boot.fuses
  s.boot.fuseOp.isSome || (s.bootPhase == 6 && decide (2 < op)) ||
    (match op with
     | 1 => f.keyed 0
     | 2 => f.keyed 1
     | 3 => !f.keyed 1 || (match s.runningSvn with | some (_, _, k) => k == 0 | none => false)
     | 4 => (match s.runningSvn with | some (src, v, _) => src == 2 || decide (v ≤ f.count) | none => true)
     | _ => true)

/-- The hash in FUSE_DATA as a number of 48 bytes, the first byte highest. -/
def State.fuseData (s : State) : Nat := beNat ((addrs 0 1 12).map (fun w => beBytes (s.reg (Reg.BOOT_FUSE_DATA w)).toNat 4)).flatten

/-- A write of FUSE_CTL (R589). While an operation runs FUSE_STAT goes on showing busy. -/
def State.writeFuseCtl (s : State) (w : Word) : State :=
  let op := w.toNat % 16
  if w.toNat / 2 ^ 24 ≠ 0x5C then s.invalid Reg.BOOT_FUSE_CTL
  else if s.fuseRefused op then (if s.boot.fuseOp.isSome then s else s.put Fld.BOOT_FUSE_STAT_RESULT 3)
  else
    let v := if op ≤ 2 then s.fuseData else match s.runningSvn with | some (_, n, _) => n | none => 0
    ({ s with boot := { s.boot with fuseOp := some (op, v) } } : State).put Fld.BOOT_FUSE_STAT_RESULT 1

/-- What a fuse operation blows. -/
def Fuses.blow (f : Fuses) (op v : Nat) : Fuses :=
  match op with
  | 1 => { f with key0 := some (beBytes v 48) }
  | 2 => { f with key1 := some (beBytes v 48) }
  | 3 => { f with revoked := true }
  | _ => { f with count := v }

/-- May a register be written at all: the main die runs its firmware, or the mask ROM in RECOVERY, and the node is awake
(R455, R572, R587)? -/
def State.regServed (s : State) : Bool := s.sup.powered && !s.inReset && decide (2 ≤ s.bootPhase) && !s.asleep

/-- A write of FUSE_CTL with an OP and its KEY. -/
def State.fuseCommand (s : State) (op : Nat) : State :=
  if s.regServed then s.writeFuseCtl (BitVec.ofNat 32 (0x5C000000 + op)) else s

/-- FUSE_PROGRAM_KEY0. -/
def execFuseProgramKey0 (s : State) : Answer := .next (s.fuseCommand 1)

/-- FUSE_PROGRAM_KEY1. -/
def execFuseProgramKey1 (s : State) : Answer := .next (s.fuseCommand 2)

/-- FUSE_REVOKE_KEY0. -/
def execFuseRevokeKey0 (s : State) : Answer := .next (s.fuseCommand 3)

/-- FUSE_RAISE_COUNT. -/
def execFuseRaiseCount (s : State) : Answer := .next (s.fuseCommand 4)

/-- FUSE_OP_DONE. -/
def execFuseOpDone (s : State) : Answer :=
  match s.boot.fuseOp with
  | some (op, v) =>
    let s1 := ({ s with boot := { s.boot with fuseOp := none, fuses := s.boot.fuses.blow op v } } : State).showFuses
    .next ((s1.showLevel (s1.get Fld.BOOT_IMG_INFO_DBG)).put Fld.BOOT_FUSE_STAT_RESULT 2)
  | none => .next s

/-- Lowest level that accepts a JTAG instruction (R590). -/
def JtagInstr.level (i : JtagInstr) : Nat := match i with
  | .bypass => 0
  | .idcode => 0
  | .samplePreload => 1
  | .extest => 1
  | .debug => 2

/-- JTAG_INSTRUCTION: 0 BYPASS, 1 IDCODE, 2 SAMPLE/PRELOAD, 3 EXTEST, 4 a debug instruction. One that the level does not accept
selects BYPASS; EXTEST holds the main die in full reset. -/
def execJtagInstruction (instr : Fin 5) (s : State) : Answer :=
  let i : JtagInstr := match instr.val with
    | 0 => .bypass
    | 1 => .idcode
    | 2 => .samplePreload
    | 3 => .extest
    | _ => .debug
  let j := if i.level ≤ s.jtagLevel then i else .bypass
  let s1 : State := { s with boot := { s.boot with jtag := j } }
  if !s.sup.powered || (j == .extest) == (s.boot.jtag == .extest) then .next (if s.sup.powered then s1 else s)
  else if j = .extest then .next (s1.beginReset causeHost)
  else .next (s1.endCause causeHost)

end Sys2Proof.Machine
end

