-- ==== Sys2Proof/Machine/LocExec.lean ====
section
/-! DEFINITION. Meanings of the local ports' commands (R353 to R388). -/

namespace Sys2Proof.Machine

/-- A due CMD record of a port with an operation. -/
def portCmdIs (op p : Nat) (r : TpRec) : Bool := r.names [Reg.PORT_CMD p] && r.value.toNat / 2 ^ 30 == op

/-- A due GRP_CMD record of a group with an operation. -/
def groupCmdIs (op g : Nat) (r : TpRec) : Bool := r.names [Reg.GRP_CMD g] && r.value.toNat / 2 ^ 30 == op

/-- GRP_CMD takes effect; a BINDOFF of a member at the same tick acts before a START (R386). -/
def State.applyGroupCmd (s : State) (g : Nat) (w : Word) : State :=
  let op := w.toNat / 2 ^ 30
  let s1 := if op = 1 then
      (s.members g).foldl (fun s p => s.applyFirst (portCmdIs 2 p) (fun s _ => s.bindOffPort p)) s
    else s
  s1.groupCommand g op (w.getLsbD 29) s.tickRow

/-- PORT_CASTON. -/
def execPortCaston (port : Fin 34) (s : State) : Answer :=
  .next (s.applyFirst (portCmdIs 1 port) (fun s _ => s.castOnPort port))

/-- PORT_BINDOFF. -/
def execPortBindoff (port : Fin 34) (s : State) : Answer :=
  .next (s.applyFirst (portCmdIs 2 port) (fun s _ => s.bindOffPort port))

/-- PORT_COMMIT. -/
def execPortCommit (port : Fin 34) (s : State) : Answer :=
  .next (s.applyFirst (portCmdIs 3 port) (fun s _ => s.commitPort port))

/-- GROUP_START. -/
def execGroupStart (group : Fin 4) (s : State) : Answer :=
  .next (s.applyFirst (groupCmdIs 1 group) (fun s r => s.applyGroupCmd group r.value))

/-- GROUP_STOP. -/
def execGroupStop (group : Fin 4) (s : State) : Answer :=
  .next (s.applyFirst (groupCmdIs 2 group) (fun s r => s.applyGroupCmd group r.value))

/-- GROUP_COMMIT. -/
def execGroupCommit (group : Fin 4) (s : State) : Answer :=
  .next (s.applyFirst (groupCmdIs 3 group) (fun s r => s.applyGroupCmd group r.value))

/-- START_PIN_EDGE: every group that waits for the ball starts at k = m + Nmax + 1 (R380). -/
def execStartPinEdge (s : State) : Answer :=
  .next (if s.row.ticks then
    (addrs 0 1 4).foldl (fun (s : State) g =>
      if (s.group g).pin then
        let k := s.row.rowIdx + 1 + BitVec.ofNat 32 (s.maxPreclk g + 1)
        (s.setReg (Reg.GRP_ROW g) k).scheduleStart g k
      else s) s
  else s)

/-- PORT_START (R378, R379). -/
def execPortStart (port : Fin 34) (s : State) : Answer :=
  let n := BitVec.ofNat 32 (s.preclk port)
  if s.lstate port ≠ 1 ∨ !s.row.ticks then .next s
  else if s.grouped port then
    match (s.lport port).startAt with
    | some k =>
      if s.row.rowIdx = k - n then
        .next (if s.portLocked port then s.beginPort port k else s.portFault port 1)
      else .next s
    | none => .next s
  else .next (if s.portLocked port then s.beginPort port (s.row.rowIdx + n) else s)

/-- PRECLK_END. -/
def execPreclkEnd (port : Fin 34) (s : State) : Answer :=
  .next (if s.lstate port = 2 ∧ (s.lport port).startAt = some s.row.rowIdx then
    (s.modLport port (fun x => { x with startAt := none })).setLstate port 4
  else s)

/-- POSTCLK_END. -/
def execPostclkEnd (port : Fin 34) (s : State) : Answer :=
  match (s.lport port).stopAt with
  | some k => .next (if s.lstate port = 6 ∧ s.get (Fld.PORT_START_CFG_PRECLK port) ≤ (s.row.rowIdx - k).toNat then s.portOff port else s)
  | none => .next s

/-- ZC_TIMEOUT. -/
def execZcTimeout (port : Fin 34) (s : State) : Answer :=
  let x := s.lport port
  .next (if (s.lstate port = 3 ∨ s.lstate port = 5) ∧ !x.zlate ∧ s.zcRows port ≤ (s.row.rowIdx - x.zfrom).toNat then
    ((s.setLport port { x with zlate := true }).count (ctrPort port 2)).raise 164 port
  else s)

/-- LOCAL_FRAME_RECEIVE: phase in ns, bit clocks of a TDM frame, whether it began in its window without a coding violation,
measured frame rate, and its words: of a TDM frame its bit clocks from the first on which FS is active, 32 to a word. -/
def execLocalFrameReceive (port : Fin 34) (ns : BitVec 16) (clocks : BitVec 12) (good : Bool) (hz : BitVec 18)
    (a b : List (BitVec 32)) (s : State) : Answer :=
  let p := port.val
  let s := s.measure p hz.toNat
  let x := s.lport p
  let runs := decide (3 ≤ s.lstate p) && decide (s.lstate p ≤ 6)
  if isAesOut p then .next s
  else if !s.slavePort p then .next (s.takeFrame p a b)
  else if !good ∨ (isTdm p ∧ clocks.toNat ≠ s.tdmLen p) then
    let s1 := (s.setLport p { x with errs := x.errs + 1 }).unlock p
    let s2 := if runs then s1.count (ctrPort p 0) else s1
    .next (if runs && decide (1 ≤ x.errs) then s2.portFault p 4 else s2)
  else if runs && decide (s.portTol p < phaseDist (s.phaseOf ns.toNat) (s.phaseOf (s.get (Fld.PORT_STAT_PHASE p)))) then
    .next ((s.lockFrame p ns.toNat).portFault p 3)
  else .next ((s.lockFrame p ns.toNat).takeFrame p a b)

/-- PORT_NOCLK_TIMEOUT (R362): an AES3 input measures no rate (R368). -/
def execPortNoclkTimeout (port : Fin 34) (s : State) : Answer :=
  let s := s.measure port 0
  .next (if s.slavePort port then
    (if 3 ≤ s.lstate port ∧ s.lstate port ≤ 6 then (s.unlock port).portFault port 2 else s.unlock port)
  else s)

/-- PORT_AUTO_REARM (R363). -/
def execPortAutoRearm (port : Fin 34) (s : State) : Answer :=
  .next (if s.lstate port = 7 ∧ s.on (Fld.PORT_START_CFG_AUTO port) ∧ s.fs ≤ (s.lport port).lockRows then
    s.armPort port true
  else s)

/-- LOCAL_FRAME_SEND. -/
def execLocalFrameSend (port : Fin 34) (s : State) : Answer :=
  .next (if isAesIn port ∨ s.lstate port < 2 then s else s.sendFrame port)

end Sys2Proof.Machine
end

