-- ==== Sys2Proof/Machine/RingDone.lean ====
section
/-! DEFINITION. The reset of a ring (R451, R452), and what the completion of a transfer brings (R434, R440 to R443). -/

namespace Sys2Proof.Machine

/-! ### Ring reset -/

/-- Frames of a draining ring that have not been sent complete with ABORTED; they stay in the packet buffer. -/
def State.abortFrames (s : State) (r : Nat) : State :=
  (addrs 0 1 4).foldl (fun s n =>
    let p := s.port n
    let mine := (p.queue ++ (p.tx.map TxNow.frame).toList).filter (fun f => f.ofQueue r none)
    let free (f : TxFrame) : TxFrame := if f.ofQueue r none then { f with host := none } else f
    mine.foldl (fun s f => s.completeTx f 6 0)
      (s.setPort n { p with queue := p.queue.map free, tx := p.tx.map (fun t => { t with frame := free t.frame }) })) s

/-- The reset of a FAULT ring ends every open fault as an abort (R475). -/
def State.endFaults (s : State) (r : Nat) : State :=
  if s.ringType r = 4 then s.host.faults.foldl (fun s f => (s.closeFault f.fid).abortFault f.fid f.what) s else s

/-- Step 2 of R451: the ring's faults close, a transfer that waits for a resume ends at once, and what is fetched and not
started completes with ABORTED. -/
def State.drainRing (s : State) (r : Nat) : State :=
  let waits := s.faultOn (.data r)
  let s0 := if s.faultOn (.fetch r) then s.modRing (s.ringCq r) (fun y => { y with reserved := y.reserved - 1 }) else s
  let s1 := s0.setFaults (s.host.faults.filter (fun f => !f.what.onRing r))
  let s2 := if hostProduced (s.ringType r) then s1 else (((s1.ring r).outq.filterMap RingEntry.record).foldl State.recordLost (s1.modRing r (fun x => { x with outq := [] }))).endFaults r
  let s3 := s2.abortFrames r
  if waits then s3.abortActive r else s3.abortFetched r

/-- A write of RING.CTL.RESET. -/
def State.resetRing (s : State) (r : Nat) : State :=
  if s.ringType r = 2 ∧ s.cqInUse r then s.invalid (Reg.RING_CTL r)
  else
    let st := s.ringState r
    if st = 1 ∨ st = 3 ∨ st = 4 then ((s.setRingState r 2).drainRing r).startAllRx.pumpAll else s

/-- RING_RESET. -/
def execRingReset (ring : Fin 64) (s : State) : Answer := .next (s.resetRing ring)

/-! ### Transfers that are complete -/

/-- The host frame of a TX_FRAME transfer: it is offered to its port, or completes with the reason that drops it
(R193, R203, R442). -/
def State.endTxFrame (s : State) (r : Nat) (t : Transfer) : State :=
  let d := t.desc
  let port := s.get (Fld.RING_CFG2_ICNT r) % 4
  let b := padFrame t.buf
  if s.maxFrm port < b.length + 4 then s.endTransfer r d (d.comp r 7 (b.length + 4))
  else if frameType b = 0x8808 then s.endTransfer r d (d.comp r 8 (b.length + 4))
  else
    let f : TxFrame := ⟨b, d.p0 % 8, framePcp b, 6, if d.p0.testBit 8 then some (true, d.tag) else none, some (r, d), 0⟩
    ((s.modRing r (fun x => { x with active := none })).queueFrame port f).settle r

/-- The completion of a received frame (R443). -/
def State.endRx (s : State) (r : Nat) (t : Transfer) : State :=
  let c := t.desc.comp r 0 t.len
  (s.endTransfer r t.desc (match t.rx with
    | some i => { c with ts := some i.ts, info1 := i.info1, info2 := i.info2 }
    | none => c)).startRx r

/-- Is another load of a core's bank open (R477)? -/
def State.otherLoad (s : State) (r op core : Nat) : Bool :=
  s.host.rings.any (fun p => p.1 != r && (match p.2.active with
    | some t => t.op == op && t.desc.p0 == core
    | none => false))

/-- The active transfer of a ring, complete, ends by its opcode (R440); an image goes on in its own commands (R588). -/
def State.transferDone (s : State) (r : Nat) (t : Transfer) : State :=
  let d := t.desc
  let ok (s : State) : State := s.endTransfer r d (d.comp r 0 0)
  match t.op with
  | 2 => ok (if s.otherLoad r 2 d.p0 then s else s.setPready d.p0 true)
  | 3 => ok (if s.otherLoad r 3 d.p0 then s else s.setCready d.p0 true)
  | 5 => ok (if d.p2 = 1 then s.put Fld.MTX_SHD_LEN_COUNT (d.p0 + d.len / 8) else s)
  | 8 => ok (s.modFw d.p2 (fun c => { c with tlv := t.buf }))
  | 10 => s
  | 0x20 => s.endTxFrame r t
  | 0x21 => s.endRx r t
  | _ => ok s

end Sys2Proof.Machine
end

