-- ==== Sys2Proof/Machine/SwtExec.lean ====
section
/-! DEFINITION. The commands of swatch (chapter 19). -/

namespace Sys2Proof.Machine

/-- LOOP_CALIBRATION_REQUEST: a write of FG_CTL. -/
def execLoopCalibrationRequest (value : BitVec 32) (s : State) : Answer := .next (s.writeFgCtl value)

/-- LOOP_CALIBRATION_DONE (R604): the derived gain and offset in 0.01 %, the offset of VFS. -/
def execLoopCalibrationDone (gain offset : Int) (s : State) : Answer :=
  .next (match s.swt.fg with
    | some (1, c) =>
      let ok := decide (gain.natAbs ≤ 500) && decide (offset.natAbs ≤ 100)
      let s1 := (s.endForeground (if ok then 1 else 2)).setChState c 0
      if ok then { s1 with swt := { s1.swt with loops := s1.swt.loops.set (fun _ => (0, 0)) c (gain, offset) } } else s1
    | _ => s)

/-- MEMORY_MARCH_REQUEST: a write of FG_CTL. -/
def execMemoryMarchRequest (value : BitVec 32) (s : State) : Answer := .next (s.writeFgCtl value)

/-- MEMORY_MARCH_START (R605): every core enters RESET, and no pass runs from here on. -/
def execMemoryMarchStart (s : State) : Answer :=
  .next (if s.marchAsked && !s.swt.marching then
      let s1 := { s with cores := s.cores.remap (fun _ => coreReset) Core.toReset,
                         fab := { s.fab with mtxOut := [], dlyOut := [], glides := [] } }
      { s1 with swt := { s1.swt with marching := true } }
    else s)

/-- MEMORY_MARCH_DONE (R598, R605): the first failing address, if any; full reset follows, and firmware reports after it. -/
def execMemoryMarchDone (fail : Option (BitVec 32)) (s : State) : Answer :=
  .next (if s.swt.marching then
      let r := if fail.isSome then 2 else 1
      let s0 := s.put Fld.SWT_FG_STAT_RESULT (r + 1)
      let s1 := match fail with
        | some a => s0.setReg Reg.SWT_FG_ADDR a
        | none => s0
      let ev := (237, 2 + 65536 * r) :: (if fail.isSome then [(239, 2)] else [])
      ({ s1 with swt := { s1.swt with fg := none, marching := false },
                 boot := { s1.boot with events := s1.boot.events ++ ev } } : State).beginReset causeHost
    else s)

/-- CORE_TEST_PERIOD of a group. -/
def execCoreTestPeriod (group : Fin 4) (s : State) : Answer := .next (s.testPeriod group)

/-- CORE_TEST_DONE of a group. -/
def execCoreTestDone (group : Fin 4) (pass : Bool) (s : State) : Answer := .next (s.endTest group pass)

/-- EYE_SCAN_PERIOD (R602): the scan of a lane that is UP, with its width and height; an aborted scan leaves the result. -/
def execEyeScanPeriod (lane : Fin 6) (width : BitVec 6) (height : BitVec 7) (aborted : Bool) (s : State) : Answer :=
  .next (if s.on Fld.SWT_EYE_CFG_EN && s.laneState lane == 3 && !aborted then
      let s1 := ((s.flag (Fld.SWT_EYE_RES_VALID lane) true).put (Fld.SWT_EYE_RES_WIDTH lane) width.toNat).put
        (Fld.SWT_EYE_RES_HEIGHT lane) height.toNat
      if width.toNat < s.get Fld.SWT_EYE_CFG_WMIN ∨ height.toNat < s.get Fld.SWT_EYE_CFG_HMIN then s1.failSwatch 4 lane else s1
    else s)

/-- SENSE_TRIM (R603): the next converter is released. -/
def execSenseTrim (s : State) : Answer :=
  .next (if s.on Fld.SWT_SENSE_CFG_EN && s.swt.trimming.isNone then
      { s with swt := { s.swt with trimming := some s.swt.trimNext, trimNext := (s.swt.trimNext + 1) % 18 } }
    else s)

/-- SENSE_TRIM_DONE (R603): the gain and offset that the trim derives, in 0.01 %. -/
def execSenseTrimDone (gain offset : Int) (s : State) : Answer :=
  .next (match s.swt.trimming with
    | some v =>
      let old := s.swt.trims.get (fun _ => (0, 0)) v
      let s1 := { s with swt := { s.swt with trimming := none } }
      if (gain - old.1).natAbs ≤ 200 ∧ (offset - old.2).natAbs ≤ 200 then
        { s1 with swt := { s1.swt with trims := s1.swt.trims.set (fun _ => (0, 0)) v (gain, offset) } }
      else s1.failSwatch 5 v
    | none => s)

/-- AGING_MEASURE: DEGR of the 20 monitors, monitor 0 in the lowest 16 bits. -/
def execAgingMeasure (degr : BitVec 320) (s : State) : Answer :=
  .next (if s.inReset || s.asleep then s else s.measureAging degr)

/-- LIFE_SAMPLE (R608): the hottest sensor in 0.1 degC; in Standby the second counts there. -/
def execLifeSample (temp : Int) (s : State) : Answer :=
  .next (if s.inReset then s else s.lifeSecond (if s.nodeState = 1 then 30 else lifeBin temp))

/-- LIFE_SAVE. -/
def execLifeSave (s : State) : Answer := .next (if s.inReset || s.nodeState == 1 then s else s.saveLife)

end Sys2Proof.Machine
end

