-- ==== Sys2Proof/Machine/Referee.lean ====
section
/-! DEFINITION. The referee protocol (R524 to R533): datagrams, grants at a twin, and the pairs of the referee unit. -/

namespace Sys2Proof.Machine

/-- The bytes of a 256-bit key from its eight registers, most significant first. -/
def keyBytes (w : Nat → Word) : List Byte := ((addrs 0 1 8).map (fun i => beBytes (w (7 - i)).toNat 4)).flatten

/-- The leftmost 64 bits of the HMAC over payload bytes 0 to 23 (R525). -/
def grantMac (key payload : List Byte) : Nat := (Config.hmacSha256 key (payload.take 24)).toNat / 2 ^ 192

/-- Heartbeat payload for the present row (R524). -/
def State.refHeartbeat (s : State) : List Byte :=
  beBytes 0xD72E 2 ++ [1, 1] ++ beBytes (s.get Fld.TWN_CFG_PAIRID) 2 ++ beBytes (s.get Fld.TWN_CFG_UNIT) 1 ++ [0] ++
    beBytes s.row.rowIdx.toNat 4 ++ beBytes (s.reg Reg.TWN_CLAIM).toNat 4 ++ beBytes s.twinStatus 4

/-! ### Grants at a twin (R530, R531) -/

/-- GEN against which a new grant is judged: that of the grant accepted last and still waiting, else GEN (R536). -/
def State.grantBase (s : State) : Nat :=
  match s.twn.grants.getLast? with
  | some (g, _) => g
  | none => s.gen

/-- Result of judging a grant payload, codes of R530. -/
def State.grantResult (s : State) (p : List Byte) : Nat :=
  let q := beAt p 12 4
  let g := beAt p 16 4 % 2 ^ 28
  let d := (g + 2 ^ 28 - s.grantBase) % 2 ^ 28
  if beAt p 24 8 ≠ grantMac (keyBytes (fun w => s.reg (Reg.TWN_KEY w))) p then 2
  else if beAt p 4 2 ≠ s.get Fld.TWN_CFG_PAIRID ∨ beAt p 6 1 % 2 ≠ s.get Fld.TWN_CFG_UNIT then 3
  else if (match s.twn.gseq with | some o => !laterThan 32 q o.toNat | none => false) then 4
  else if 16 < (s.row.rowIdx - BitVec.ofNat 32 (beAt p 8 4)).toNat then 5
  else if d = 0 ∨ 2 ^ 26 < d then 6
  else if s.twinState = 0 then 7
  else 1

/-- A grant payload arrives (R524, R530): it is judged, and the event carries the result. A copy of the grant accepted last
is ignored (log entry 106). -/
def State.takeGrant (s : State) (p : List Byte) : State :=
  let reset := beAt p 20 1 % 2
  let q : Word := BitVec.ofNat 32 (beAt p 12 4)
  if p.length ≠ 32 ∨ beAt p 0 4 ≠ 0xD72E0102 ∨ beAt p 4 2 ≠ s.get Fld.TWN_CFG_PAIRID then s.count (ctrTwn 6)
  else
    let r := s.grantResult p
    if r = 4 ∧ s.twn.gseq = some q then s
    else
      let s1 := s.put Fld.TWN_GRANTRES_RES r
      (if r = 1 then
        (s1.setReg Reg.TWN_GRANTSEQ q).setTwn
          { s1.twn with gseq := some q, grants := s1.twn.grants ++ [(beAt p 16 4 % 2 ^ 28, reset == 1)] }
       else s1.count (ctrTwn 6)).raise 230 (r + 16 * reset)

/-- The oldest accepted grant takes effect at its row tick (R530, R531). -/
def State.applyGrant (s : State) : State :=
  match s.twn.grants with
  | [] => s
  | (g, reset) :: l =>
    if s.twinState = 0 then s.setTwn { s.twn with grants := l }
    else
      let s1 := (s.setTwn { s.twn with grants := l }).setGen g
      if reset && s1.on Fld.TWN_CFG_RSTEN then
        ((s1.setTwn { s1.twn with prst := true }).send (.ball "PRST_OUT" true)).raise 231 1
      else s1

/-! ### The referee unit (R526 to R529) -/

/-- Counters: 0 GRANTS, 1 BADHB, 2 DECISIONS. -/
def ctrRefU (j : Nat) : Ctr := ⟨Reg.REF_CNT32 j, ⟨Reg.REF_CNT_SAT, j, j⟩⟩

def State.pair (s : State) (p : Nat) : RefPair := s.twn.pairs.get (fun _ => refPairReset) p

def State.setPair (s : State) (p : Nat) (x : RefPair) : State :=
  s.setTwn { s.twn with pairs := s.twn.pairs.set (fun _ => refPairReset) p x }

/-- Unit `u` of a pair. -/
def RefPair.unit (x : RefPair) (u : Nat) : RefUnit := if u = 0 then x.a else x.b

def RefPair.setUnit (x : RefPair) (u : Nat) (y : RefUnit) : RefPair := if u = 0 then { x with a := y } else { x with b := y }

/-- State code and miss count fields of a unit. -/
def fdUnitState (p u : Nat) : Fd := if u = 0 then Fld.REF_PSTAT_STA p else Fld.REF_PSTAT_STB p
def fdUnitMiss (p u : Nat) : Fd := if u = 0 then Fld.REF_PSTAT_MISSA p else Fld.REF_PSTAT_MISSB p

/-- A pair is evaluated while it and the referee are enabled. -/
def State.pairOn (s : State) (p : Nat) : Bool := s.on Fld.REF_CFG_EN && s.on (Fld.REF_PCFG_EN p)

/-- A pair starts over (R533). -/
def State.restartPair (s : State) (p : Nat) : State :=
  ((s.setPair p { refPairReset with gseq := (s.pair p).gseq }).setReg (Reg.REF_PSTAT p) 0).setReg (Reg.REF_GMAX p) 0

/-- A heartbeat datagram arrives at the referee (R524, R526, R527). -/
def State.takeRefHeartbeat (s : State) (d : List Byte) : State :=
  let pairs := (addrs 0 1 8).filter (fun p => s.pairOn p && s.get (Fld.REF_PCFG_PAIRID p) == beAt d 4 2)
  let status : Word := BitVec.ofNat 32 (beAt d 16 4)
  let claim : Word := BitVec.ofNat 32 (beAt d 12 4)
  let bad := d.length != 20 || beAt d 0 4 != 0xD72E0101 || pairs.isEmpty ||
    status.toNat / 2 ^ 28 != s.get Fld.ENG_PROFILE_STAT_FS_ACT
  let one (s : State) (p : Nat) : State :=
    let u := beAt d 6 1 % 2
    let x := s.pair p
    let y := x.unit u
    let g := claim.toNat / 16
    let newer := !x.gmaxSet || laterThan 28 g (s.get (Fld.REF_GMAX_GMAX p))
    let done := match x.grant with
      | some t => t.unit == u && !laterThan 28 t.newGen g
      | none => false
    let y1 : RefUnit := { y with heard := (y.heard ++ [(BitVec.ofNat 32 (beAt d 8 4), claim, status)]), claim := claim, status := status }
    let x1 := { x.setUnit u y1 with gmaxSet := true, grant := if done then none else x.grant }
    if newer then (s.setPair p x1).put (Fld.REF_GMAX_GMAX p) g else s.setPair p x1
  if !s.on Fld.REF_CFG_EN then s else if bad then s.count (ctrRefU 1) else pairs.foldl one s

/-- One unit at the referee's row tick, for row `r` (R527): the flag says that it has just failed. -/
def State.evalUnit (s : State) (p u : Nat) (r : Word) : State × Bool :=
  let x := s.pair p
  let y := x.unit u
  let present := y.heard.any (fun h => h.1 == r)
  let y1 : RefUnit := { y with heard := y.heard.filter (fun h => laterThan 32 h.1.toNat r.toNat), run := if present then y.run + 1 else 0 }
  let s1 := s.setPair p (x.setUnit u y1)
  let set (st miss : Nat) : State := (s1.put (fdUnitState p u) st).put (fdUnitMiss p u) miss
  let miss := min 255 (s.get (fdUnitMiss p u) + 1)
  match s.get (fdUnitState p u) with
  | 0 => (if present then set 1 0 else s1, false)
  | 1 => (if present then s1 else set 2 1, false)
  | 2 =>
    if present then (set 1 0, false)
    else if s.get Fld.REF_CFG_MISS ≤ miss then ((set 3 miss).raise 228 (p + 256 * u), true)
    else (set 2 miss, false)
  | _ => (if 16 ≤ y1.run then set 1 0 else s1, false)

/-- A decision is recorded (R528). -/
def State.decideRef (s : State) (p u code : Nat) : State :=
  ((s.put (Fld.REF_PSTAT_LASTDEC p) code).count (ctrRefU 2)).raise 232 (p + 256 * u + 4096 * code)

/-- Send a copy of a pair's grant (R524, R529). -/
def State.sendGrant (s : State) (p : Nat) (g : GrantTx) : State :=
  let net := s.get (Fld.REF_PCFG_PORT p)
  let mac := if g.unit = 0 then s.get (Fld.REF_MAC_HI_A p) * 2 ^ 32 + s.get (Fld.REF_MACA_LO_ADDR p)
    else s.get (Fld.REF_MAC_HI_B p) * 2 ^ 32 + s.get (Fld.REF_MACB_LO_ADDR p)
  let ip := if g.unit = 0 then s.get (Fld.REF_IPA_ADDR p) else s.get (Fld.REF_IPB_ADDR p)
  ((s.setPair p { s.pair p with grant := some { g with copies := g.copies + 1 } }).count (ctrRefU 0)).sendDatagram net 5 mac ip
    (s.get Fld.REF_PORT_PORT) g.payload

/-- Grant to unit `u` by decision `code` (R528, R529). -/
def State.grantTo (s : State) (p u code : Nat) (reset : Bool) : State :=
  let x := s.pair p
  let q := x.gseq + 1
  let g := (s.get (Fld.REF_GMAX_GMAX p) + 1) % 2 ^ 28
  let head := beBytes 0xD72E0102 4 ++ beBytes (s.get (Fld.REF_PCFG_PAIRID p)) 2 ++ beBytes u 1 ++ [0] ++
    beBytes s.row.rowIdx.toNat 4 ++ beBytes q.toNat 4 ++ beBytes g 4 ++ beBytes reset.toNat 1 ++ beBytes code 1 ++ [0, 0]
  let payload := head ++ beBytes (grantMac (keyBytes (fun w => s.reg (Reg.REF_KEY p w))) head) 8
  (s.setPair p { x with gseq := q, hold := 1024 * s.get Fld.REF_CFG_HOLDOFF }).sendGrant p ⟨u, g, payload, 0⟩

/-- A grant that is still unconfirmed at a later row tick (R529). -/
def State.repeatGrant (s : State) (p : Nat) : State :=
  match (s.pair p).grant with
  | some g =>
    if g.copies < 8 then s.sendGrant p g
    else (s.setPair p { s.pair p with grant := none }).decideRef p g.unit 5
  | none => s

/-- A grant decision, or HELDOFF while the hold-off runs: unit concerned, target, code. -/
def State.grantDecision (s : State) (p u t code : Nat) (reset : Bool) : State :=
  if 0 < (s.pair p).hold then s.decideRef p u 6 else (s.decideRef p u code).grantTo p t code reset

/-- One pair at the referee's row tick (R527 to R529). -/
def State.evalPair (s : State) (p : Nat) : State :=
  let r := s.row.rowIdx - 2
  let s0 := s.repeatGrant p
  let a := s0.evalUnit p 0 r
  let b := a.1.evalUnit p 1 r
  let s1 := b.1.setPair p { b.1.pair p with hold := (b.1.pair p).hold - 1 }
  let alive (u : Nat) : Bool := s1.get (fdUnitState p u) == 1
  let bit (u i : Nat) : Bool := ((s1.pair p).unit u).status.getLsbD i
  let div := alive 0 && alive 1 && bit 0 3 && bit 1 3
  let run := if div then (s1.pair p).divRun + 1 else 0
  let s2 := s1.setPair p { s1.pair p with divRun := if run = 16 then 0 else run }
  let one (u : Nat) : State :=
    let o := 1 - u
    if !alive o || !bit o 0 then s2.decideRef p u 3
    else if bit o 2 then s2.decideRef p u 2
    else s2.grantDecision p u o 1 (s2.on Fld.REF_CFG_RSTACT)
  if a.2 && b.2 then s2.decideRef p 0 3
  else if a.2 then one 0
  else if b.2 then one 1
  else if run = 16 then
    let t := if claimHigher ((s2.pair p).unit 1).claim ((s2.pair p).unit 0).claim then 1 else 0
    if s2.on Fld.REF_CFG_DIVACT then s2.grantDecision p t t 4 true else s2.decideRef p t 4
  else s2

/-- The referee's part of a row tick. -/
def State.refereeRow (s : State) : State :=
  (addrs 0 1 8).foldl (fun s p => if s.pairOn p then s.evalPair p else s) s

end Sys2Proof.Machine
end

