-- ==== Sys2Proof/Machine/TwinExec.lean ====
section
/-! DEFINITION. Meanings of the commands of the twin unit and the referee (R504 to R537). -/

namespace Sys2Proof.Machine

/-! ### Registers -/

/-- A write of TWN.CFG (R512). UNIT, PAIRID and PRIO change only in OFF and SEEK. -/
def State.writeTwnCfg (s : State) (value : Word) : State :=
  let a := Reg.TWN_CFG
  let free := decide (s.twinState ≤ 1)
  let old := s.reg a
  let same := bitsOf value 29 29 == bitsOf old 29 29 && bitsOf value 23 8 == bitsOf old 23 8 &&
    bitsOf value 3 0 == bitsOf old 3 0
  let kept := withBits (withBits (withBits value 29 29 (bitsOf old 29 29)) 23 8 (bitsOf old 23 8)) 3 0 (bitsOf old 3 0)
  let s1 := s.writeReg a (if free then value else kept)
  let s2 := if free || same then s1 else s1.invalid a
  let s3 := s2.put Fld.TWN_CLAIM_VALUE (s2.claimOf s2.gen)
  if s3.on Fld.TWN_CFG_EN then (if s3.twinState = 0 then s3.setTwin 1 else s3)
  else if s3.twinState = 0 then s3 else (s3.setTwin 0).showTwinLink

/-- TWIN_EN_WRITE. -/
def execTwinEnWrite (value : BitVec 32) (s : State) : Answer := .next (s.writeTwnCfg value)

/-- Is the unit a fresh one that waits for JOIN (R515, step 3)? -/
def State.waitsJoin (s : State) : Bool :=
  s.twinState == 2 && s.twn.checked && !s.twn.joinReady && !s.on Fld.TWN_STAT_ESTAB

/-- A write of TWN.CTL: JOIN is ignored outside step 3. -/
def State.writeTwnCtl (s : State) (w : Word) : State := if w.toNat % 2 = 1 ∧ s.waitsJoin then s.doJoin else s

/-- JOIN. -/
def execJoin (value : BitVec 32) (s : State) : Answer := .next (s.writeTwnCtl value)

/-! ### Frames of the twin link -/

/-- A copy that is passed over. -/
def passOver (s : State) (_ : Word) (_ : List Byte) : State := s

/-- HELLO_SEND: every millisecond in SEEK, PAIRING and ALONE. -/
def execHelloSend (s : State) : Answer :=
  let st := s.twinState
  .next (if st = 1 ∨ st = 2 ∨ st = 5 then
      let s1 := s.twinSend 0x01 s.helloBytes
      s1.setTwn { s1.twn with joinShown := s1.twn.joinReady, retry := s1.twn.retry - 1 }
    else s)

/-- HELLO (R512, R514). -/
def execHello (bytes : List (BitVec 8)) (s : State) : Answer :=
  .next (s.takeTwin 0x01 bytes passOver (fun s _ p => s.takeHello p))

/-- TWIN_HEARTBEAT_SEND: in every state except OFF, and not during the pause of R519; `ns` is TXOFF. -/
def execTwinHeartbeatSend (ns : BitVec 24) (s : State) : Answer :=
  .next (if s.twinState ≠ 0 ∧ ¬ s.twn.pause ∧ s.row.ticks then
      s.twinSend 0x02 (beBytes s.row.rowIdx.toNat 4 ++ beBytes (s.reg Reg.TWN_CLAIM).toNat 4 ++ beBytes s.twinStatus 4 ++
        beBytes ns.toNat 4)
    else s)

/-- HEARTBEAT, `ns` after this unit's row tick (R516, R517). -/
def execHeartbeat (bytes : List (BitVec 8)) (ns : BitVec 24) (s : State) : Answer :=
  .next (s.takeTwin 0x02 bytes passOver (fun s _ p => s.takeHeartbeat p ns.toNat))

/-- HEARTBEAT_LOSS (R516). -/
def execHeartbeatLoss (s : State) : Answer :=
  let s1 := if 2 ≤ s.twn.noHb then s.flag Fld.TWN_STAT_PALIVE false else s
  let s2 := if 4 ≤ s1.twn.noHb ∧ s1.twinUsable ∧ ¬ s1.twn.lost then
      ((s1.setTwn { s1.twn with lost := true }).count (ctrTwn 0)).raise 228 1 else s1
  .next s2.showTwinLink

/-- LINK_DOWN_TIMEOUT (R516): a paired unit enters ALONE. -/
def execLinkDownTimeout (s : State) : Answer :=
  .next (if s.paired ∧ ¬ s.on Fld.TWN_STAT_TLUP ∧ s.get Fld.TWN_CFG2_LINKTO ≤ s.twn.downRows then (s.setTwin 5).showTwinLink
    else s)

/-- SETTLE_END (R512). -/
def execSettleEnd (s : State) : Answer :=
  .next (if s.twinState = 3 ∧ s.twn.settle = 0 then s.setTwin 4 else s)

/-- DIGEST_SEND: the final digests of the row that ended (R521). -/
def execDigestSend (s : State) : Answer :=
  .next (if s.paired && !s.disturbed then
      match s.twn.own with
      | d :: _ => s.twinSend 0x03 d.bytes
      | [] => s
    else s)

/-- DIGEST: the partner's digests wait for their comparison. -/
def execDigest (bytes : List (BitVec 8)) (s : State) : Answer :=
  .next (s.takeTwin 0x03 bytes passOver (fun s _ p =>
    s.setTwn { s.twn with partner := (digestOf p :: s.twn.partner).take 4 }))

/-- MIRROR (R518, R519): applied once, answered with ACK each time. -/
def execMirror (bytes : List (BitVec 8)) (s : State) : Answer :=
  .next (s.takeTwin 0x04 bytes (fun s q _ => s.sendAck q) State.takeMirror)

/-- MIRROR_RETRY: 2 microseconds have passed without an ACK for the frame of this SEQ (R519). -/
def execMirrorRetry (seq : BitVec 32) (s : State) : Answer :=
  .next (match s.twn.unacked.find? (fun m => m.seq == seq) with
    | none => s
    | some m =>
      if m.tries < 4 then
        let upd (x : MirFrame) : MirFrame := if x.seq = seq then { x with tries := x.tries + 1 } else x
        let payload := beBytes m.records.length 1 ++ List.replicate 7 0 ++ m.records.flatten
        ((s.setTwn { s.twn with unacked := s.twn.unacked.map upd }).send (.twin (twinFrame 0x04 seq payload))).count (ctrTwn 5)
      else if s.twn.pause then s
      else (s.setTwn { s.twn with pause := true }).showTwinLink)

/-- ACK. -/
def execAck (bytes : List (BitVec 8)) (s : State) : Answer :=
  .next (s.takeTwin 0x05 bytes passOver (fun s _ p =>
    s.setTwn { s.twn with unacked := s.twn.unacked.filter (fun m => m.seq.toNat != beAt p 0 4) }))

/-- MBX: stored in MB48 + INDEX, and answered (R499, R511). -/
def execMbx (bytes : List (BitVec 8)) (s : State) : Answer :=
  .next (s.takeTwin 0x06 bytes passOver (fun s q p =>
    let i := beAt p 0 1
    let r := if i < 8 then s.mbxWrite (48 + i) (BitVec.ofNat 32 (beAt p 4 4)) 3 else (s, false)
    r.1.twinSend 0x07 (beBytes i 1 ++ beBytes (!r.2).toNat 1 ++ [0, 0] ++ beBytes q.toNat 4)))

/-- MBX_ACK: the outcome of a twin send (R499). -/
def execMbxAck (bytes : List (BitVec 8)) (s : State) : Answer :=
  .next (s.takeTwin 0x07 bytes passOver (fun s _ p =>
    let i := beAt p 0 1
    let busy := decide (i < 8) && s.evt.twbusy.getLsbD i && (s.twn.mbxSeq.get (fun _ => 0) i).toNat == beAt p 4 4
    if !busy then s
    else if beAt p 1 1 = 0 then
      { s with evt := { s.evt with twbusy := s.evt.twbusy &&& ~~~ BitVec.ofNat 8 (2 ^ i) } }
    else s.rejectTwsend i))

/-- PING_SEND (R517). -/
def execPingSend (s : State) : Answer :=
  .next (if s.twinState = 2 ∧ s.twn.pings < 8 then
      (s.setTwn { s.twn with pings := s.twn.pings + 1 }).twinSend 0x08 (beBytes s.mediaStamp 8)
    else s)

/-- PING: answered with PONG. -/
def execPing (bytes : List (BitVec 8)) (s : State) : Answer :=
  .next (s.takeTwin 0x08 bytes passOver (fun s _ p =>
    s.twinSend 0x09 (bytesAt p 0 8 ++ beBytes s.mediaStamp 8 ++ beBytes s.mediaStamp 8)))

/-- PONG: one value of the link delay, kept doubled. -/
def execPong (bytes : List (BitVec 8)) (s : State) : Answer :=
  .next (s.takeTwin 0x09 bytes passOver (fun s _ p =>
    let d : Int := ((s.mediaStamp : Int) - beAt p 0 8) - ((beAt p 16 8 : Int) - beAt p 8 8)
    if s.twinState = 2 ∧ ¬ s.twn.measured ∧ s.twn.pongs.length < 8 then
      s.setTwn { s.twn with pongs := s.twn.pongs ++ [d] } else s))

/-- Insert into a rising list. -/
def insertInt (x : Int) : List Int → List Int
  | [] => [x]
  | y :: t => if x ≤ y then x :: y :: t else y :: insertInt x t

/-- The median of R517 from doubled values: the mean of the two middle ones of eight, rounded down. -/
def medianDelay (ds : List Int) : Int :=
  let l := ds.foldr insertInt []
  (l.getD 3 0 + l.getD 4 0).fdiv 4

/-- PING_MEASURE_END: LINKDLY, and the checks that need it. -/
def execPingMeasureEnd (s : State) : Answer :=
  .next (if s.twinState = 2 ∧ ¬ s.twn.measured then
      let s1 := if s.twn.pongs.length < 8 then s else s.putS Fld.TWN_LINKDLY_VALUE (medianDelay s.twn.pongs)
      (s1.setTwn { s1.twn with measured := true }).judgeHello
    else s)

/-! ### Referee traffic and grants -/

/-- REFEREE_HEARTBEAT_SEND (R526). -/
def execRefereeHeartbeatSend (s : State) : Answer :=
  let port := s.get Fld.TWN_REFCTL_REFPORT
  let ip := s.get Fld.TWN_REFIP_ADDR
  let mac := s.get Fld.TWN_REFCTL_MAC01 * 2 ^ 32 + s.get Fld.TWN_REFMAC_LO_ADDR
  .next (if s.twinState ≠ 0 ∧ port ≠ 0 ∧ ip ≠ 0 ∧ s.row.ticks then
      s.sendDatagram (s.get Fld.TWN_CFG2_REFNET) 7 mac ip port s.refHeartbeat
    else s)

/-- REFEREE_HEARTBEAT_RECEIVE: the UDP payload. -/
def execRefereeHeartbeatReceive (payload : List (BitVec 8)) (s : State) : Answer := .next (s.takeRefHeartbeat payload)

/-- A grant is accepted while a foreground swatch runs (R611): near-end loopbacks and the swatch end with ABORTED, the channel
of a calibration enters OFF, and a march ends in full reset. -/
def State.abortSwatches (s : State) : State :=
  let s1 := (addrs 0 1 6).foldl (fun (s : State) n => if s.nearEnd n then s.endLoop n else s) s
  match s1.swt.fg with
  | some (1, c) => (s1.endForeground 3).setChState c 0
  | some _ => s1.beginReset causeHost
  | none => s1

/-- GRANT: the UDP payload. -/
def execGrant (payload : List (BitVec 8)) (s : State) : Answer :=
  let s1 := s.takeGrant payload
  .next (if s1.twn.gseq != s.twn.gseq then s1.abortSwatches else s1)

/-- GRANT_APPLY: the first row tick at least 1 microsecond after an accepted grant. -/
def execGrantApply (s : State) : Answer := .next s.applyGrant

/-- PRST_OUT_END: the 1 ms pulse ends (R531). -/
def execPrstOutEnd (s : State) : Answer :=
  .next (if s.twn.prst then (s.setTwn { s.twn with prst := false }).send (.ball "PRST_OUT" false) else s)

end Sys2Proof.Machine
end

