-- ==== Sys2Proof/Machine/RegAccess.lean ====
section
/-! DEFINITION. Writes of the registers of W0 and W2 by the rules of their chapters (R10 to R14, R169, R421, R614 to R619), the
counter snapshots, and what a read returns. -/

namespace Sys2Proof.Machine

/-! ### Settings that are judged together (R13) -/

/-- Smallest wake time of a port type (R213). -/
def wakeMin (type : Nat) : Nat := match type with | 2 => 5 | 3 => 4 | 4 => 4 | _ => 0

/-- Does the value of the register at `a` agree with the rules that relate its fields to one another and to other registers?
Registers without such a rule always do. -/
def State.settingOk (s : State) (a : Nat) : Bool :=
  let w := s.reg a
  let blk := a / 0x10000
  let o := a % 0x10000
  if blk = 0x1B ∧ (o = 0x04 ∨ o = 0x0C) then selOk w
  else if 0x20 ≤ blk ∧ blk ≤ 0x23 then
    let n := blk - 0x20
    (match o with
     | 0x18 => decide (s.shareKiB ≤ s.streamKiB)
     | 0x40 => !(w.toNat % 4 != 0 && w.toNat / 2 ^ 8 % 2 ^ 16 != 0)
     | 0x100 => decide (wakeMin (s.portType n) ≤ s.get (Fld.NET_EEE_CFG_TWRX n))
     | _ => true)
  else if 0x24 ≤ blk ∧ blk ≤ 0x29 ∧ o = 0x08 then txfirOk w
  else if 0x24 ≤ blk ∧ blk ≤ 0x29 ∧ o = 0x58 then w.toNat % 16 != 4 || s.laneMode (blk - 0x24) == 4
  else if 0x2B ≤ blk ∧ blk ≤ 0x2E ∧ o = 0x04 then
    let n := blk - 0x2B
    let p := s.get (Fld.TB_PTPCFG_PROFILE n)
    let d := s.get (Fld.TB_PTPCFG_DOMAIN n)
    !(s.on (Fld.TB_CTL_EN n) && s.domainTaken n p d) && !((p == 1 || p == 2) && decide (127 < d))
  else if blk = 0x2F ∧ 0x100 ≤ o ∧ o < 0x240 then
    let r := (o - 0x100) / 0x20
    let watch := s.get (Fld.CLK_REF_THR_WATCH r)
    let warn := s.get (Fld.CLK_REF_THR_WARN r)
    (match o % 0x20 with
     | 0 => decide (r < 8) || !s.tbClock (s.get (fdRefTbsel r))
     | 4 => decide (watch < warn) && decide (warn < s.get (Fld.CLK_REF_THR_DISQ r)) && decide (s.get (Fld.CLK_REF_SUST_HYST r) < watch)
     | 8 => decide (s.get (Fld.CLK_REF_SUST_HYST r) < watch)
     | _ => true)
  else if blk = 0x45 ∧ 0x100 ≤ o ∧ o < 0x300 ∧ o % 0x40 = 0 then
    let p := (o - 0x100) / 0x40
    !(s.on (Fld.REF_PCFG_EN p) && s.on Fld.TWN_CFG_EN && s.get (Fld.REF_PCFG_PAIRID p) == s.get Fld.TWN_CFG_PAIRID)
  else true

/-- Bits of the register at `a` that are judged together (R13): the others take what is written in any case. PAUSE and PFC of
FC_CFG (R204), TWRX of EEE_CFG (R213), PROFILE and DOMAIN of PTPCFG (R304), PATTERN of PRBS_CFG (R288), TBSEL of a TBREF (R331), EN and PAIRID of a pair
(R533); every field of the other registers. -/
def judgedBits (a : Nat) : Word :=
  let blk := a / 0x10000
  let o := a % 0x10000
  if 0x20 ≤ blk ∧ blk ≤ 0x23 ∧ o = 0x100 then 0xFFFF0000
  else if 0x2B ≤ blk ∧ blk ≤ 0x2E ∧ o = 0x04 then fieldBits [Fld.TB_PTPCFG_PROFILE 0, Fld.TB_PTPCFG_DOMAIN 0]
  else if blk = 0x2F ∧ 0x100 ≤ o ∧ o < 0x240 ∧ o % 0x20 = 0 then fieldBits [fdRefTbsel 8]
  else if blk = 0x45 then fieldBits [Fld.REF_PCFG_EN 0, Fld.REF_PCFG_PAIRID 0]
  else if 0x24 ≤ blk ∧ blk ≤ 0x29 ∧ o = 0x58 then fieldBits [Fld.LANE_PRBS_CFG_PATTERN 0]
  else 0xFFFFFFFF

/-- A write whose result is judged: the fields that break a rule together keep their values, the others are taken (R13). -/
def State.writeJudged (s : State) (a : Nat) (w : Word) : State :=
  let t := s.writeFields a w
  if !t.settingOk a then (s.writeFields a (keepBits (judgedBits a) (s.reg a) w)).invalid a
  else if badCodes a w then t.invalid a
  else t

/-- A write that the state of its unit may forbid. -/
def State.writeIf (s : State) (ok : Bool) (a : Nat) (w : Word) : State := if ok then s.writeReg a w else s.invalid a

/-! ### Profile and guard -/

/-- Is everything bound off (R40)? -/
def State.allBoundOff (s : State) : Bool :=
  s.allFree && (addrs 0 1 34).all (fun p => s.lstate p == 0) &&
    (addrs 0 1 64).all (fun r => !isRt (s.ringType r) || s.ringState r == 0) && s.cores.all (fun p => p.2.state == .reset)

/-- An accepted FS change (R41): the row sequence breaks, and row ticks stop. -/
def State.changeRate (s : State) : State :=
  let s1 := (s.tpFlush.stopTicks).put Fld.ENG_PROFILE_STAT_FS_ACT (s.get Fld.ENG_PROFILE_FS)
  s1.setRow { s1.row with fitDue := true }

/-- A PROFILE write is decided (R40 to R42, R129, R321, R648). -/
def State.writeProfile (s : State) (w : Word) : State :=
  let a := Reg.ENG_PROFILE
  let t := s.writeFields a w
  let rate := t.get Fld.ENG_PROFILE_FS != s.get Fld.ENG_PROFILE_FS
  let mode := t.get Fld.ENG_PROFILE_LATENCY != s.get Fld.ENG_PROFILE_LATENCY
  let policy := t.get Fld.ENG_PROFILE_POLICY != s.get Fld.ENG_PROFILE_POLICY
  if ((rate || mode) && !s.allBoundOff) || (rate && (s.base s.media).restep != .none) then (s.flag Fld.ENG_PROFILE_STAT_REFUSED true).raise 34 w.toNat
  else
    let t1 := if badCodes a w then t.invalid a else t
    let t2 := if mode then t1.setRow { t1.row with pendLatency := some (t1.on Fld.ENG_PROFILE_LATENCY) } else t1
    let t3 := if policy then t2.setRow { t2.row with pendPolicy := true } else t2
    (addrs 0 1 4).foldl State.checkLpi (if rate then t3.changeRate else t3)

/-- A GUARD write is decided: it takes effect at the next engine tick (R122, R129). -/
def State.writeGuard (s : State) (w : Word) : State :=
  let s1 := s.writeReg Reg.ENG_GUARD w
  s1.setRow { s1.row with fitDue := true }

/-- A write at an offset of R518 once it is decided. -/
def State.writeMirrored (s : State) (a : Nat) (w : Word) : State :=
  let o := a % 0x10000
  let c := 8 * (a / 0x10000 - 9) + (o - 0x1000) / 0x100
  if a = Reg.ENG_PROFILE then s.writeProfile w
  else if a = Reg.ENG_GUARD then s.writeGuard w
  else if o % 0x100 = 0x18 then s.writeBudget c w
  else s.writeOutcfg c w

/-! ### Timed registers -/

/-- A direct write of a timed register (R169, R616): it waits for the next engine tick; CHECK of MAP_CTL and TBL_CTL acts at once,
and only their SWAP is timed. -/
def State.writeTimed (s : State) (a : Nat) (w : Word) : State :=
  let table := a == Reg.SST_MAP_CTL || a == Reg.MTX_TBL_CTL
  let push (s : State) : State := s.tpPush ⟨true, 0, 5, 0, 0, a, w⟩
  if table then
    if s.paired && w.getLsbD 1 then s.raise 33 a
    else
      let s1 := if w.getLsbD 0 then (if a = Reg.SST_MAP_CTL then s.startMapCheck else s.startMtxCheck) else s
      if w.getLsbD 1 then push s1 else s1
  else if s.paired then s.raise 33 a
  else push s

/-! ### The blocks -/

/-- A write in the HIF block (R424, R455, R454). -/
def State.writeHif (s : State) (a : Nat) (w : Word) : State :=
  if a = Reg.HIF_WAKE then (if w.getLsbD 0 then s.wake 1 else s)
  else if a = Reg.HIF_HCTL then s.writeIf (w.getLsbD 0 || (addrs 0 1 64).all (fun r => s.ringState r == 0)) a w
  else if Reg.HIF_DBADDR_LO ≤ a ∧ a ≤ Reg.HIF_STADDR_HI then s.writeIf (!s.on Fld.HIF_HCTL_EN) a w
  else s.writeReg a w

/-- A write of RING.CFG2 in IDLE: ICNT 0 is reserved on a COMPLETION ring and keeps the previous value (R13, R439). -/
def State.writeCfg2 (s : State) (r : Nat) (w : Word) : State :=
  let a := Reg.RING_CFG2 r
  if s.ringType r = 2 ∧ w.toNat / 2 ^ 8 % 256 = 0 then
    (s.writeReg a (withBits w 15 8 (s.get (Fld.RING_CFG2_ICNT r)))).invalid a
  else s.writeReg a w

/-- A write in a ring's window (R431, R451). -/
def State.writeRing (s : State) (r o : Nat) (w : Word) : State :=
  let a := Reg.RING_BASE_LO r + o
  match o with
  | 0x08 => s.writeRingCfg r w
  | 0x10 => if w.getLsbD 0 then s.resetRing r else s
  | 0x00 => s.writeIf (s.ringState r == 0) a w
  | 0x04 => s.writeIf (s.ringState r == 0) a w
  | 0x0C => if s.ringState r = 0 then s.writeCfg2 r w else s.invalid a
  | _ => s.writeReg a w

/-- A write in the XLT block (R460, R465). -/
def State.writeXlt (s : State) (a : Nat) (w : Word) : State :=
  let idle := (addrs 0 1 64).all (fun r => s.ringState r == 0) && !s.on Fld.HIF_HCTL_EN
  if a = Reg.XLT_INV_CTL then s.writeInvCtl w
  else if a = Reg.XLT_CTL ∨ a = Reg.XLT_ROOT_LO ∨ a = Reg.XLT_ROOT_HI then
    s.writeIf (idle || (s.writeFields a w).reg a == s.reg a) a w
  else s.writeReg a w

/-- The level sources of a status register. -/
def levelMask (g : Nat) : Nat := if g = 0 then 0xFFFF0001 else 1

/-- A write in the EVT block: status bits of level sources ignore it (R483), and so do the enable
bits of reserved sources (R486). -/
def State.writeEvt (s : State) (a : Nat) (w : Word) : State :=
  if a = Reg.EVT_RAISE then s.writeRaise w
  else if a < Reg.EVT_STATUS 8 then s.writeReg a (w &&& ~~~(BitVec.ofNat 32 (levelMask (a / 4 % 8))))
  else s.writeReg a (w &&& existing a)

/-- A write in the BOOT block. -/
def State.writeBoot (s : State) (a : Nat) (w : Word) : State :=
  if a = Reg.BOOT_RST_CTL then s.writeRstCtl w else if a = Reg.BOOT_FUSE_CTL then s.writeFuseCtl w else s.writeReg a w

/-- A write of CORE_CTL (R86). -/
def State.writeCoreCtl (s : State) (c : Nat) (w : Word) : State :=
  let s1 := s.writeReg (Reg.CLU_CORE_CTL (c / 8) (c % 8)) w
  if w.getLsbD 1 then s1.clearFault c else s1

/-- A write in a cluster's window. -/
def State.writeClu (s : State) (n o : Nat) (w : Word) : State :=
  let a := Reg.CLU_CLU_INFO n + o
  let c := 8 * n + (o - 0x1000) / 0x100
  if o = 0x10 then s.snapDigest n
  else if o < 0x1000 then s.writeReg a w
  else match o % 0x100 with
    | 0x00 => s.writeCoreCtl c w
    | 0x18 => if s.paired then s.holdReg a w else s.writeBudget c w
    | 0x20 => if s.paired then s.holdReg a w else s.writeOutcfg c w
    | _ => s.writeReg a w

/-- A write in the ENG block. -/
def State.writeEng (s : State) (a : Nat) (w : Word) : State :=
  if a = Reg.ENG_PROFILE ∨ a = Reg.ENG_GUARD then (if s.paired then s.holdReg a w else s.writeMirrored a w)
  else if a = Reg.ENG_MIGRATE then s.writeMigrate w
  else s.writeReg a w

/-- A write in the MTX block (R171). -/
def State.writeMtx (s : State) (a : Nat) (w : Word) : State :=
  if a = Reg.MTX_SHD_ROUTE then s.writeShdRoute w
  else if a = Reg.MTX_SHD_LEN then s.touchShadowTable.writeReg a w
  else s.writeReg a w

/-- NETn.CFG: MAXFRM below the frame of a bound transmit flow keeps its value (R193). -/
def State.writeNetCfg (s : State) (n : Nat) (w : Word) : State :=
  let a := Reg.NET_CFG n
  let low := (s.boundFlows true).any (fun f => (cfgPorts f.cfg).testBit n && decide (w.toNat % 2 ^ 14 < cfgFrame f.cfg)) &&
    decide (w.toNat % 2 ^ 14 < s.maxFrm n)
  if low then (s.writeFields a (withBits w 13 0 (s.maxFrm n))).invalid a else s.writeReg a w

/-- A write in a network port's window (R191 to R220). -/
def State.writeNet (s : State) (n o : Nat) (w : Word) : State :=
  let a := Reg.NET_CFG n + o
  match o with
  | 0x00 => s.writeNetCfg n w
  | 0x04 => s.writeSpeed n w
  | 0x14 => (s.writeReg a w).showHalts n
  | 0x18 => s.writeJudged a w
  | 0x40 => s.writeJudged a w
  | 0x100 => (s.writeJudged a w).checkLpi n
  | 0xD0 => s.writeTxtsCtl n w
  | 0x208 => if n = 0 then s.writeFdbHi w else s
  | _ => s.writeReg a w

/-- A write in a lane's window (R263 to R293). -/
def State.writeLane (s : State) (n o : Nat) (w : Word) : State :=
  let a := Reg.LANE_CFG n + o
  match o with
  | 0x00 => s.writeLaneCfg n w
  | 0x08 => s.writeTxfir n w
  | 0x50 => s.writeLoopCtl n w
  | 0x58 =>
    let t := s.writeJudged a w
    let p := t.get (Fld.LANE_PRBS_CFG_PATTERN n) != s.get (Fld.LANE_PRBS_CFG_PATTERN n)
    t.restartPrbs n (p || t.on (Fld.LANE_PRBS_CFG_TXEN n) != s.on (Fld.LANE_PRBS_CFG_TXEN n))
      (p || t.on (Fld.LANE_PRBS_CFG_RXEN n) != s.on (Fld.LANE_PRBS_CFG_RXEN n))
  | 0x60 => s.writeEyeSel n w
  | _ => if o = 0x0C ∨ o = 0x1C ∨ (0x40 ≤ o ∧ o ≤ 0x48) then (s.writeReg a w).adaptChanged n else s.writeReg a w

/-- The flow slot that STR.FSEL names: 256 and above are transmit slots. -/
def State.fsel (s : State) : Nat := flowKey (s.on Fld.STR_FSEL_DIR) (s.get Fld.STR_FSEL_SLOT)

/-- A write in the STR block: the shadow words and the SAT bits belong to the slot that FSEL names. -/
def State.writeStr (s : State) (a : Nat) (w : Word) : State :=
  if Reg.STR_FCFG 0 ≤ a ∧ a ≤ Reg.STR_FCFG 12 then s.setReg (fcfgBase + 0x40 * s.fsel + (a - Reg.STR_FCFG 0)) w
  else if a = Reg.STR_CNT_SAT then (s.modFlow s.fsel (fun f => { f with sat := f.sat &&& ~~~(w.setWidth 10) })).followFlowSat
  else s.writeReg a w

/-- A write in a time base's window (R299 to R304, R329). -/
def State.writeTb (s : State) (n o : Nat) (w : Word) : State :=
  let a := Reg.TB_CTL n + o
  match o with
  | 0x00 => s.writeTbCtl n w s.allFree
  | 0x04 => ((s.writeJudged a w).selectMaster n).checkBasePorts n
  | 0x08 => (s.writeReg a w).selectMaster n
  | 0x24 => s.snapBase n
  | _ => s.writeReg a w

/-- A write of REF_CFG, REF_THR or REF_SUST of an input (R331, R336, R340): PRIO 0 takes the input OFF, and out of OFF it starts
in LOSS. -/
def State.writeRefIn (s : State) (r : Nat) (a : Nat) (w : Word) : State :=
  let s1 := s.writeJudged a w
  if a % 0x20 ≠ 0 then s1
  else if s1.get (fdRefPrio r) = 0 then s1.setStage r 0
  else if s1.stage r = 0 then s1.setStage r 1
  else s1

/-- A write in the CLK block. -/
def State.writeClk (s : State) (a : Nat) (w : Word) : State :=
  if a = Reg.CLK_SNAP then s.snapClk
  else if 0x2F0100 ≤ a ∧ a < 0x2F0240 then s.writeRefIn ((a - 0x2F0100) / 0x20) a w
  else s.writeReg a w

/-- Port number of a local-port address, and its offset in the port's window. -/
def locPortAt (a : Nat) : Option (Nat × Nat) :=
  let blk := a / 0x10000
  let o := a % 0x10000
  if 0x30 ≤ blk ∧ blk ≤ 0x3F then some (blk - 0x30, o)
  else if blk = 0x40 then
    (if 0x1000 ≤ o ∧ o < 0x1800 then some (16 + (o - 0x1000) / 0x100, o % 0x100)
     else if 0x2000 ≤ o ∧ o < 0x2800 then some (24 + (o - 0x2000) / 0x100, o % 0x100) else none)
  else if blk = 0x41 ∨ blk = 0x42 then some (32 + (blk - 0x41), o)
  else none

/-- Does the register at offset `o` of a local port accept a write only in OFF (R384)? -/
def offOnly (p o : Nat) : Bool :=
  o == 0 || (isTdm p && (o == 0x10 || o == 0x14)) || ((isAesIn p || isAesOut p) && o == 0x0C) || (isMadi p && o == 0x10)

/-- A write in a local port's window. CFG of a TDM port shows on its balls, and a port that takes other clocks has its lock to
find. -/
def State.writePort (s : State) (p o a : Nat) (w : Word) : State :=
  if offOnly p o then
    let t := s.writeIf (s.lstate p == 0) a w
    if isTdm p ∧ o = 0x10 then
      (if t.on (Fld.TDM_CFG_MASTER p) == s.on (Fld.TDM_CFG_MASTER p) then t else t.unlock p).showIdle p
    else t
  else s.writeReg a w

/-- A write in the TWN block; the key is write-only and held for firmware. -/
def State.writeTwn (s : State) (a : Nat) (w : Word) : State :=
  if a = Reg.TWN_CFG then s.writeTwnCfg w
  else if a = Reg.TWN_CTL then s.writeTwnCtl w
  else if Reg.TWN_KEY 0 ≤ a ∧ a ≤ Reg.TWN_KEY 7 then s.setReg a w
  else s.writeReg a w

/-- A write in the REF block (R533): a change to an enabled pair starts it over. -/
def State.writeRef (s : State) (a : Nat) (w : Word) : State :=
  let o := a % 0x10000
  if o < 0x100 then s.writeReg a w
  else
    let p := (o - 0x100) / 0x40
    let s1 := if 0x20 ≤ (o - 0x100) % 0x40 then s.setReg a w else s.writeJudged a w
    if s1.reg a ≠ s.reg a ∧ s1.on (Fld.REF_PCFG_EN p) then s1.restartPair p else s1

/-- A write of a register of the main die that is neither timed nor a snapshot. -/
def State.writeBlock (s : State) (a : Nat) (w : Word) : State :=
  let blk := a / 0x10000
  let o := a % 0x10000
  if blk = 0 then s.writeHif a w
  else if blk = 1 then s.writeRing (o / 0x40) (o % 0x40) w
  else if blk = 2 then s.writeXlt a w
  else if blk = 3 then s.writeEvt a w
  else if blk = 5 then s.writeBoot a w
  else if blk = 6 then (if a = Reg.SUP_PWR_CTL then s.writePwrCtl w else s.writeReg a w)
  else if blk = 7 then (if a = Reg.SWT_FG_CTL then s.writeFgCtl w else s.writeReg a w)
  else if blk = 8 then s.writeEng a w
  else if blk ≤ 0x18 then s.writeClu (blk - 9) o w
  else if blk = 0x19 then s.writeMtx a w
  else if blk = 0x1B then
    (if a = Reg.SST_SHD_DATA then s.writeShdData w else if a = Reg.SST_SHD_SEL then s.writeJudged a w else s.writeReg a w)
  else if blk = 0x1C then (if o < 0xC0 then s.writeQown (o / 4) w else s.writeReg a w)
  else if 0x20 ≤ blk ∧ blk ≤ 0x23 then s.writeNet (blk - 0x20) o w
  else if 0x24 ≤ blk ∧ blk ≤ 0x29 then s.writeLane (blk - 0x24) o w
  else if blk = 0x2A then s.writeStr a w
  else if 0x2B ≤ blk ∧ blk ≤ 0x2E then s.writeTb (blk - 0x2B) o w
  else if blk = 0x2F then s.writeClk a w
  else if blk = 0x44 then s.writeTwn a w
  else if blk = 0x45 then s.writeRef a w
  else match locPortAt a with
    | some (p, q) => s.writePort p q a w
    | none => s.writeReg a w

/-! ### Counter snapshots (R10, R14) -/

/-- Counters that a CNT_SNAP captures: first words of 64-bit counters, and 32-bit counters. -/
def snapshotOf (a : Nat) : Option (List Nat × List Nat) :=
  let blk := a / 0x10000
  let o := a % 0x10000
  let at32 (off n : Nat) : Option (List Nat × List Nat) := some ([], addrs (a - o + off) 4 n)
  if blk = 1 then (if o % 0x40 = 0x18 then some ([a + 4], addrs (a + 12) 4 3) else none)
  else match locPortAt a with
    | some (_, q) => if q = 0x80 then some ([a + 4], addrs (a + 12) 4 8) else none
    | none =>
      if blk = 0 ∧ o = 0x40 then at32 0x44 3
      else if blk = 2 ∧ o = 0x20 then some ([a + 8, a + 16], addrs (a + 24) 4 3)
      else if blk = 3 ∧ o = 0x80 then at32 0x84 1
      else if blk = 4 ∧ o = 0 then at32 4 3
      else if blk = 7 ∧ o = 0x200 then at32 0x204 3
      else if blk = 8 ∧ o = 0x30 then at32 0x34 4
      else if blk = 0x19 ∧ o = 0x30 then at32 0x34 4
      else if blk = 0x1A ∧ o = 0x10 then at32 0x14 2
      else if blk = 0x1B ∧ o = 0x20 then at32 0x24 2
      else if blk = 0x1C ∧ o = 0x100 then at32 0x104 1
      else if 0x20 ≤ blk ∧ blk ≤ 0x23 ∧ o = 0x300 then some (addrs (a + 0x10) 8 6, addrs (a + 0x40) 4 12)
      else if 0x24 ≤ blk ∧ blk ≤ 0x29 ∧ o = 0x80 then some (addrs (a + 0x10) 8 4, addrs (a + 0x30) 4 8)
      else if 0x2B ≤ blk ∧ blk ≤ 0x2E ∧ o = 0x80 then at32 0x84 5
      else if blk = 0x2F ∧ o = 0x400 then
        some ([], addrs (a + 4) 4 2 ++ ((addrs 0 1 10).map (fun r => addrs (Reg.CLK_LOSS_CNT r) 4 3)).flatten)
      else if blk = 0x43 ∧ o = 0x10 then at32 0x14 3
      else if blk = 0x44 ∧ o = 0x80 then at32 0x84 7
      else if blk = 0x45 ∧ o = 0x80 then at32 0x84 3
      else none

/-- STR.CNT_SNAP captures the counters of the slot that FSEL names. -/
def State.snapFlow (s : State) : State :=
  let f := s.flow s.fsel
  let put64 (s : State) (r : Nat → Nat) (v : Nat) : State :=
    (s.setReg (r 0) (BitVec.ofNat 32 v)).setReg (r 1) (BitVec.ofNat 32 (v / 2 ^ 32))
  (addrs 0 1 10).foldl (fun s j => s.setReg (Reg.STR_CNT32 j) (BitVec.ofNat 32 (f.events.get (fun _ => 0) j)))
    (put64 (put64 s Reg.STR_FRAMES f.frames) Reg.STR_DUP f.dup)

/-- Does the register at `a` capture counters? -/
def isSnapshot (a : Nat) : Bool := a == Reg.STR_CNT_SNAP || (snapshotOf a).isSome

/-- A write of a CNT_SNAP register of the main die. -/
def State.snapCounters (s : State) (a : Nat) : State :=
  if a = Reg.STR_CNT_SNAP then s.snapFlow
  else match snapshotOf a with
    | some (l64, l32) =>
      let n := a / 0x10000 - 0x20
      ((if 0x20 ≤ a / 0x10000 ∧ n < 4 then s.countLpi n else s).capture64 l64).capture32 l32
    | none => s

/-! ### Writes of W0 and W2 -/

/-- A write at a W0 address by the host or the house cores, once it is served. -/
def State.writeW0 (s : State) (a : Nat) (w : Word) : State :=
  if onSupply a then s.tunnel true a w
  else if (regDesc a).isNone then s
  else if isTimed a then s.writeTimed a w
  else if isSnapshot a then s.snapCounters a
  else s.writeBlock a w

/-- The vector a pending bit waits for is unmasked: its message goes out (R420). -/
def State.unmaskVec (s : State) (v : Nat) : State :=
  if s.host.pba.getLsbD v && !(s.host.msix.get msixReset (4 * v + 3)).getLsbD 0 then
    (s.setHost { s.host with pba := s.host.pba &&& ~~~(BitVec.ofNat 32 (2 ^ v)) }).send (.msix v)
  else s

/-- A host write at a W2 offset (R495, R618). -/
def State.writeW2 (s : State) (o : Nat) (w : Word) : State :=
  if o < 0x100 then s.hostMailbox (o / 4) w
  else if 0x400 ≤ o ∧ o < 0x420 then s.writeTwsend ((o - 0x400) / 4) w
  else if o = 0x108 then { s with evt := { s.evt with rej := s.evt.rej &&& ~~~(w.setWidth 64) } }
  else if o = 0x10C then { s with evt := { s.evt with rej := s.evt.rej &&& ~~~(w.setWidth 64 <<< 32) } }
  else if o = 0x110 then { s with evt := { s.evt with twrej := s.evt.twrej &&& ~~~(w.setWidth 8) } }
  else if 0x4000 ≤ o ∧ o < 0x4200 ∧ o % 4 = 0 then
    let i := (o - 0x4000) / 4
    (s.setHost { s.host with msix := s.host.msix.set msixReset i w }).unmaskVec (i / 4)
  else s

/-- A host write of W0 (R421, R455, R572). -/
def State.hostWrite (s : State) (a : Nat) (w : Word) : State :=
  if a % 4 ≠ 0 then s.badAccess false true a
  else if s.regServed then s.writeW0 a w
  else if s.sup.powered && s.nodeState == 1 && a == Reg.HIF_WAKE then s.writeHif a w
  else if s.sup.powered && s.nodeState == 1 && (a == Reg.HIF_ID || a == Reg.HIF_REV || a == Reg.HIF_PWRSTAT) then s
  else if s.sup.powered then s.badAccess false true a
  else s

/-- A write of W0 by the house cores, which run while registers are served. -/
def State.houseWrite (s : State) (a : Nat) (w : Word) : State := if s.regServed && decide (a % 4 = 0) then s.writeW0 a w else s

/-- REGISTER_WRITE: by the host in W0 or W2, or by the house cores in W0. -/
def execRegisterWrite (house w2 : Bool) (addr : BitVec 23) (value : BitVec 32) (s : State) : Answer :=
  let a := addr.toNat
  .next (if house then (if w2 then s else s.houseWrite a value)
    else if !w2 then s.hostWrite a value
    else if s.regServed && decide (a % 4 = 0) then s.writeW2 a value
    else if s.sup.powered then s.badAccess true true a
    else s)

/-- PROFILE_WRITE. -/
def execProfileWrite (value : BitVec 32) (s : State) : Answer :=
  .next (if s.regServed then s.writeEng Reg.ENG_PROFILE value else s)

/-- Does RS-FEC run on a lane (R262)? -/
def State.fecRuns (s : State) (n : Nat) : Bool :=
  s.laneMode n == 4 || (s.laneMode n == 3 && decide (n < 4) && s.on (Fld.NET_CFG_RSFEC n))

/-- A lane's line counts since the last capture (R293): codewords corrected and not correctable where FEC runs, code violations,
and, on LANE0 to LANE3, idle units inserted and deleted (R273; log entry 74). -/
def State.lineCounts (s : State) (n fecCorr fecUncorr blockErr ins del : Nat) : State :=
  if s.laneMode n = 0 then s
  else
    let fec := s.fecRuns n
    let s1 := (s.countLane n 0 (if fec then fecCorr else 0)).countBy (ctrLane n 6) (if fec then fecUncorr else 0)
    let s2 := s1.countBy (ctrLane n 5) blockErr
    if n < 4 then (s2.countLane n 1 ins).countLane n 2 del else s2

/-- CNT_SNAP: a write of the snapshot register at a W0 address; those on the supply die go through the tunnel. A lane's line
counts since its last capture come with the command. -/
def execCntSnap (req : SnapWrite) (s : State) : Answer :=
  let a := req.addr.toNat
  let n := a / 0x10000 - 0x24
  let s := if 0x24 ≤ a / 0x10000 ∧ n < 6 ∧ s.regServed then
      s.lineCounts n req.fecCorr.toNat req.fecUncorr.toNat req.blockErr.toNat req.fillIns.toNat req.fillDel.toNat
    else s
  .next (if !s.regServed then s
    else if onSupply a then
      (if a = Reg.PWR_CNT_SNAP ∨ a = Reg.SUP_CNT_SNAP ∨ (0x461000 ≤ a ∧ a < 0x461800 ∧ a % 0x100 = 0x40) then s.tunnel true a 0
       else s)
    else s.snapCounters a)

/-- TIME_SNAP: of time base 0 to 3, or of the clock unit (R329). -/
def execTimeSnap (unit : Fin 5) (s : State) : Answer :=
  .next (if s.regServed then (if unit.val < 4 then s.snapBase unit else s.snapClk) else s)

/-! ### What a read returns -/

/-- Fields that a read shows as 0: WO and WS (R10). -/
def readMask (a : Nat) (w : Word) : Word :=
  (fieldsAt a).foldl (fun x f => if f.acc == .wo || f.acc == .ws then x else withBits x f.msb f.lsb (f.of w)) 0

/-- Word `k` of four DFE taps: those that the mode does not use read 0 (R278). -/
def tapsShown (mode k : Nat) (w : Word) : Word :=
  let used := if mode = 1 then 0 else if mode = 2 then 5 else 10
  BitVec.ofNat 32 (w.toNat % 2 ^ (8 * (used - 4 * k)))

/-- The word that a read of the register at `a` would return, without the side effects of the read. Registers that show a
computed value do so here; the others read what they hold. -/
def State.view (s : State) (a : Nat) : Word :=
  let blk := a / 0x10000
  let o := a % 0x10000
  let w := readMask a (s.reg a)
  let n32 (n : Nat) : Word := BitVec.ofNat 32 n
  if onSupply a then n32 (s.supplyView a)
  else if Reg.BOOT_UID 0 ≤ a ∧ a ≤ Reg.BOOT_UID 3 then Config.uid ((a - Reg.BOOT_UID 0) / 4)
  else if a = Reg.HIF_PWRSTAT then n32 s.nodeState
  else if a = Reg.EVT_STAT then n32 (s.evt.src.filter (fun p => p.2.count != 0)).length
  else if a = Reg.ENG_TP_STAT then n32 (s.row.tpq.filter (fun r => !r.direct)).length
  else if 9 ≤ blk ∧ blk ≤ 0x18 ∧ 0x1000 ≤ o ∧ o % 0x100 = 4 then
    let k := s.core (8 * (blk - 9) + (o - 0x1000) / 0x100)
    n32 ((w.toNat / 2 ^ 20) * 2 ^ 20 + coreStateCode k.state * 2 ^ 17 + k.inBank1.toNat * 2 ^ 16 + k.bank.pc)
  else if a = Reg.MTX_CAPACITY then n32 (min s.mtxCapNow (mtxLmax s.isFast s.fs))
  else if a = Reg.MTX_GLIDE_STAT then n32 (s.fab.glides.filter Glide.runs).length
  else if a = Reg.MTX_XP_CUR then
    let i := s.get Fld.MTX_XP_SEL_INDEX
    (match s.glideOn i with
     | some g => g.last
     | none => (s.mtxEntry s.mtxActive i).1)
  else if a = Reg.SST_MAP_DATA then (mapEntry s.activeMap (s.get Fld.SST_MAP_SEL_CLASS) (s.get Fld.SST_MAP_SEL_INDEX)).setWidth 32
  else if a = Reg.SST_PEEK_VAL then (s.slot (s.get Fld.SST_PEEK_SEL_SLOT)).rd
  else if a = Reg.SST_PEEK_AGE then n32 (min 255 (slotAge s.fab.r0 (s.slot (s.get Fld.SST_PEEK_SEL_SLOT))))
  else if a = Reg.DLY_POOL then n32 s.poolQuarters.length
  else if a = Reg.DLY_XF_STAT then n32 s.fadingLines.length
  else if blk = 0x1A ∧ 0x1000 ≤ o ∧ o % 16 = 0x0C then
    let i := (o - 0x1000) / 16
    n32 ((s.lineLen i != 0).toNat * 2 ^ 31 + (s.line i).xfade.isSome.toNat * 2 ^ 30 + s.lineDelay i)
  else if 0x20 ≤ blk ∧ blk ≤ 0x23 ∧ 0x1400 ≤ o ∧ o < 0x1800 then
    (match (s.port (blk - 0x20)).gates[(o - 0x1400) / 4]? with
     | some e => n32 (e.1 * 2 ^ 24 + e.2)
     | none => w)
  else if 0x20 ≤ blk ∧ blk ≤ 0x23 ∧ a = Reg.NET_STAT (blk - 0x20) then
    let n := blk - 0x20
    withBits w 6 6 (s.laneState n == 4 && (s.laneS n).rxIdle && !s.on (Fld.LANE_STAT_SIGDET n)).toNat
  else if a = Reg.STR_CHAN_USE then n32 (s.chanUse false * 2 ^ 16 + s.chanUse true)
  else if a = Reg.STR_FSTAT then let f := s.flow s.fsel; n32 (f.state * 2 ^ 28 + f.reason * 2 ^ 24 + f.incarn)
  else if a = Reg.STR_FLATCH then n32 (s.flow s.fsel).latch
  else if Reg.STR_FCFG 0 ≤ a ∧ a ≤ Reg.STR_FCFG 12 then s.reg (fcfgBase + 0x40 * s.fsel + (a - Reg.STR_FCFG 0))
  else if a = Reg.STR_CNT_SAT then (s.flow s.fsel).sat.setWidth 32
  else if 0x24 ≤ blk ∧ blk ≤ 0x29 ∧ 0x20 ≤ o ∧ o < 0x4C then tapsShown (s.laneMode (blk - 0x24)) (o % 0x10 / 4) w
  else if 0x2B ≤ blk ∧ blk ≤ 0x2E ∧ o = 0x44 then
    BitVec.ofInt 32 (clampTo (2 ^ 31 - 1) ((s.base (blk - 0x2B)).phase.tdiv nsUnit))
  else if (match locPortAt a with | some (_, q) => q == 8 | none => false) then
    (match locPortAt a with
     | some (p, _) => if s.portLocked p then withBits w 23 23 1 else w
     | none => w)
  else if a = Reg.LNK_STAT then n32 (1 + 2 * s.row.sag.toNat)
  else w

end Sys2Proof.Machine
end

