-- ==== Sys2Proof/Machine/Timed.lean ====
section
/-! DEFINITION. The write of a timed register at its tick (R142, R169, R616), whatever the register. -/

namespace Sys2Proof.Machine

/-- A write of CMD of a time base takes effect (R307 to R314); reserved operations are reported (R13). -/
def State.applyTbCmd (s : State) (n : Nat) (w : Word) : State :=
  match w.toNat / 2 ^ 28 with
  | 0 => s
  | 1 => s.applyTbSet n
  | 2 => s.applyTbRestep n (w.getLsbD 0)
  | 3 => s.applyTbHold n
  | 4 => s.applyTbRelease n
  | _ => s.invalid (Reg.TB_CMD n)

/-- The write of one of the registers of the matrix, the delay unit and the channel map takes effect. -/
def State.applyFabricReg (s : State) (r : TpRec) : State :=
  let a := r.target
  let w := r.value
  if a = Reg.MTX_CTL then s.applyEnable Fld.MTX_CTL_EN w
  else if a = Reg.MTX_TBL_CTL then s.applyTblCtl w r.direct
  else if a = Reg.MTX_XP_SEL then s.setReg Reg.MTX_XP_SEL w
  else if a = Reg.MTX_XP_GAIN then s.applyXpGain w
  else if a = Reg.DLY_CTL then s.applyEnable Fld.DLY_CTL_EN w
  else if a = Reg.SST_MAP_SEL then s.applyMapSel w
  else if a = Reg.SST_MAP_DATA then s.applyMapData w
  else if a = Reg.SST_MAP_CTL then s.applyMapCtl w r.direct
  else if isLineReg (Reg.DLY_LINE_LEN 0) a then s.applyLineLen (lineOf (Reg.DLY_LINE_LEN 0) a) w
  else if isLineReg (Reg.DLY_LINE_DELAY 0) a then s.applyLineDelay (lineOf (Reg.DLY_LINE_DELAY 0) a) w
  else s

/-- The write of a timed register takes effect. -/
def State.applyTimed (s : State) (r : TpRec) : State :=
  let a := r.target
  let w := r.value
  let blk := a / 0x10000
  if a = Reg.STR_FCMD then s.applyFcmd w s.tickRow
  else if a = Reg.TB0_MEDIASEL then s.applyMediasel w
  else if a = Reg.CLK_PHSTEP then s.applyPhstep w
  else if 0x20 ≤ blk ∧ blk ≤ 0x23 then (if w.getLsbD 0 then s.applyGclSwap (blk - 0x20) else s)
  else if 0x2B ≤ blk ∧ blk ≤ 0x2E then s.applyTbCmd (blk - 0x2B) w
  else if 0x19 ≤ blk ∧ blk ≤ 0x1B then s.applyFabricReg r
  else match (addrs 0 1 4).find? (fun g => a == Reg.GRP_CMD g) with
    | some g => s.applyGroupCmd g w
    | none =>
      match (addrs 0 1 34).find? (fun p => a == Reg.PORT_CMD p) with
      | some p => s.applyPortCmd p w
      | none => s

/-- A record of the queue takes effect at its tick, by its class (R140, R142). -/
def State.applyRecord (s : State) (r : TpRec) : State :=
  if r.direct then s.applyBy r State.applyTimed
  else match r.cls with
  | 1 => s.applyDoorbell r
  | 2 => s.applyCoefWord r
  | 3 => s.applySwap r
  | 4 => s.applyBindoff r
  | _ => s.applyTimed r

end Sys2Proof.Machine
end

