-- ==== Sys2Proof/Machine/Image.lean ====
section
/-! DEFINITION. The Kidoril image (R576 to R578), its register defaults (R582, R583) and the records of its start-up sequence
(R585, R586). -/

namespace Sys2Proof.Machine

/-! ### Layout (R576, R577) -/

/-- One entry of the section table. -/
structure ImageSection where
  typ : Nat
  off : Nat
  len : Nat
  param : Nat
  digest : List Byte
  deriving DecidableEq, Repr

def imgLen (b : List Byte) : Nat := leAt b 8 4
def imgSeq (b : List Byte) : Word := BitVec.ofNat 32 (leAt b 12 4)
def imgSvn (b : List Byte) : Nat := leAt b 16 1
def imgKey (b : List Byte) : Nat := leAt b 17 1
def imgDbg (b : List Byte) : Nat := leAt b 18 1
def imgFlags (b : List Byte) : Nat := leAt b 19 1

/-- SIGOFF: where the signature block begins. -/
def imgSigOff (b : List Byte) : Nat := 64 + 64 * leAt b 6 2

/-- The section table. -/
def imgSections (b : List Byte) : List ImageSection :=
  (addrs 64 64 (leAt b 6 2)).map (fun o => ⟨leAt b o 1, leAt b (o + 4) 4, leAt b (o + 8) 4, leAt b (o + 12) 4, bytesAt b (o + 16) 48⟩)

/-- The bytes of a section. -/
def sectionBytes (b : List Byte) (x : ImageSection) : List Byte := bytesAt b x.off x.len

/-- `n` bytes from `o` are 0. -/
def zeroAt (b : List Byte) (o n : Nat) : Bool := decide (leAt b o n = 0)

/-- Check 0x02 (R578); the reserved bytes of the section table are judged here too. -/
def imgFormatOk (b : List Byte) : Bool :=
  let n := leAt b 6 2
  decide (leAt b 0 4 = 0x4C52444B) && decide (leAt b 4 2 = 1) && decide (1 ≤ n) && decide (n ≤ 64) && decide (imgDbg b < 4) &&
    decide (imgFlags b < 2) && zeroAt b 20 12 && zeroAt b 48 16 && decide (imgSvn b ≤ 64) && decide (imgKey b ≤ 1) &&
    (addrs 64 64 n).all (fun o => zeroAt b (o + 1) 3)

/-- No two sections share a byte. -/
def apart : List ImageSection → Bool
  | [] => true
  | x :: t =>
    t.all (fun y => decide (x.len = 0) || decide (y.len = 0) || decide (x.off + x.len ≤ y.off) || decide (y.off + y.len ≤ x.off)) &&
      apart t

/-- Check 0x03: the image fits its slot or buffer of `limit` bytes, and its sections are placed as R577 says. -/
def imgPlaced (limit : Nat) (b : List Byte) : Bool :=
  let secs := imgSections b
  let n := imgLen b
  decide (4096 ≤ n) && decide (n ≤ 33554432) && decide (n ≤ limit) &&
    secs.all (fun x => decide (x.off % 64 = 0) && decide (imgSigOff b + 192 ≤ x.off) && decide (x.off + x.len ≤ n)) &&
    apart secs &&
    decide ((secs.filter (fun x => x.typ == 1 || x.typ == 2)).foldl (fun m x => m + x.len) 0 ≤ 8388608)

/-! ### The start-up sequence's records (R585) -/

/-- Bytes of a record of the start-up sequence. -/
def seqRecords (b : List Byte) : List (List Byte) := (addrs 0 24 (b.length / 24)).map (fun o => bytesAt b o 24)

/-- A W0 offset of a record. -/
def seqOffOk (a : Nat) : Bool := decide (a < 0x800000) && decide (a % 4 = 0)

/-- Is a record valid (R586)? -/
def seqRecordOk (r : List Byte) : Bool :=
  let x := leAt r 4 4
  zeroAt r 1 3 &&
    (match leAt r 0 1 with
     | 1 => seqOffOk x && zeroAt r 12 12
     | 2 => decide (1 ≤ x) && decide (x ≤ 16777216) && zeroAt r 8 16
     | 3 => seqOffOk x && decide (1 ≤ leAt r 16 4) && decide (leAt r 16 4 ≤ 60000) && zeroAt r 20 4
     | 4 => decide (2 ≤ x) && decide (x ≤ 16777216) && zeroAt r 20 4
     | _ => false)

/-! ### Sections (R577, check 0x08) -/

/-- PARAM and LEN of a section, and the records of a SEQUENCE. Where a section is loaded as a ring command, the range that
the command admits binds it too. -/
def sectionOk (b : List Byte) (x : ImageSection) : Bool :=
  let p := x.param
  let n := x.len
  match x.typ with
  | 1 => decide (p = 0) && decide (65536 ≤ n) && decide (n ≤ 6291456)
  | 2 => decide (p = 0) && decide (n % 12 = 0) && decide (n ≤ 1048572)
  | 3 => decide (p < 128) && lenOk n 4 32768 4
  | 4 => decide (p < 128) && lenOk n 4 65536 4
  | 5 => decide (p < 2 ^ 24) && decide (n % 2 = 0) && decide (p % 65536 < classSize (p / 65536)) &&
      decide (p % 65536 + n / 2 ≤ classSize (p / 65536))
  | 6 => decide (p < 2 ^ 18) && decide (n % 8 = 0) && decide (p + n / 8 ≤ 2 ^ 18)
  | 7 => decide (p % 64 = 0) && decide (0x400000 ≤ p) && decide (n % 64 = 0) && decide (p + n ≤ 100663296)
  | 8 => decide (p = 0) && decide (n % 24 = 0) && (seqRecords (sectionBytes b x)).all seqRecordOk
  | _ => false

/-- Check 0x08. -/
def sectionsOk (b : List Byte) : Bool :=
  let secs := imgSections b
  let count (t : Nat) : Nat := (secs.filter (fun x => x.typ == t)).length
  let perCore (t : Nat) : Bool :=
    let ps := (secs.filter (fun x => x.typ == t)).map ImageSection.param
    ps.all (fun p => ps.count p == 1)
  count 1 == 1 && decide (count 2 ≤ 1) && decide (count 8 ≤ 1) && perCore 3 && perCore 4 && secs.all (sectionOk b)

/-- Does a section have its digest (check 0x09)? -/
def digestOk (b : List Byte) (x : ImageSection) : Bool := beBytes (Config.sha384 (sectionBytes b x)).toNat 48 == x.digest

/-- Check 0x04. -/
def Fuses.keyOk (f : Fuses) (b : List Byte) : Bool :=
  let h := some (beBytes (Config.sha384 (bytesAt b (imgSigOff b) 96)).toNat 48)
  if imgKey b = 0 then f.key0 == h && !f.revoked else f.key1 == h

/-- Check 0x05. -/
def imgSigned (b : List Byte) : Bool :=
  Config.signatureOk (bytesAt b (imgSigOff b) 96) (bytesAt b 0 (imgSigOff b)) (bytesAt b (imgSigOff b + 96) 96)

/-- The unique identifier as DEVUID names it. -/
def uidBytes : List Byte := ((addrs 0 1 4).map (fun w => beBytes (Config.uid w).toNat 4)).flatten

/-! ### Register defaults (R582, R583) -/

/-- Fields of the shadow words of a flow slot (FCFG table). -/
def fcfgFields (w : Nat) : List FieldDesc :=
  let f (m l : Nat) (ok : List (Nat × Nat)) : FieldDesc := ⟨m, l, .rw, bitsOf (BitVec.ofNat 32 (fcfgReset w)) m l, .image, ok, false⟩
  match w with
  | 0 => [f 31 28 [(0, 3)], f 27 26 [(0, 2)], f 23 16 [(1, 128)], f 10 0 []]
  | 1 => [f 31 28 [], f 27 25 [], f 24 24 [], f 23 21 [], f 11 0 []]
  | 3 => [f 15 0 []]
  | 6 => [f 31 16 [], f 15 0 []]
  | 7 => [f 22 16 [(96, 127)], f 15 8 [(1, 255)], f 7 2 []]
  | 9 => [f 31 16 []]
  | 11 => [f 31 28 [(0, 8)], f 12 0 [(1, 8191)]]
  | 12 => [f 31 31 [], f 30 30 [], f 29 29 [], f 15 0 []]
  | _ => [f 31 0 []]

/-- Does an address name a shadow word of the flow slot that FSEL selects? -/
def isFcfg (a : Nat) : Bool := decide (Reg.STR_FCFG 0 ≤ a) && decide (a ≤ Reg.STR_FCFG 12)

/-- Fields that a DEFAULTS record may cover in the register at `a`. -/
def defaultFields (a : Nat) : List FieldDesc := if isFcfg a then fcfgFields ((a - Reg.STR_FCFG 0) / 4) else fieldsAt a

/-- Where the model keeps the register at `a` after reset: FCFG words are those of receive slot 0, which FSEL then names. -/
def homeOf (a : Nat) : Nat := if isFcfg a then fcfgBase + (a - Reg.STR_FCFG 0) else a

/-- The bits of a field. -/
def FieldDesc.mask (f : FieldDesc) : Nat := (2 ^ (f.msb + 1 - f.lsb) - 1) * 2 ^ f.lsb

/-- One DEFAULTS record: register, mask, value. -/
structure DefaultRec where
  addr : Nat
  mask : Word
  value : Word
  deriving DecidableEq, Repr

/-- The records of an image, in section order. -/
def imgDefaults (b : List Byte) : List DefaultRec :=
  match (imgSections b).find? (fun x => x.typ == 2) with
  | some x => (addrs x.off 12 (x.len / 12)).map (fun o => ⟨leAt b o 4, BitVec.ofNat 32 (leAt b (o + 4) 4), BitVec.ofNat 32 (leAt b (o + 8) 4)⟩)
  | none => []

/-- The rules of R583 on one record. -/
def DefaultRec.ok (r : DefaultRec) : Bool :=
  let fs := defaultFields r.addr
  let m := r.mask.toNat
  let covers (f : FieldDesc) : Bool := Nat.land m f.mask != 0
  decide (r.addr < 2 ^ 24) && decide (r.addr % 4 = 0) && (regDesc r.addr).isSome &&
    decide (m = ((fs.filter covers).map FieldDesc.mask).foldl (· + ·) 0) &&
    (fs.filter covers).all (fun f => f.src == .image && f.legal (f.of r.value))

/-- The bits of a record that take effect: not those of a field kept through full reset, unless at a power-on (R582). -/
def DefaultRec.live (r : DefaultRec) (cold : Bool) : Word :=
  if cold then r.mask
  else (defaultFields r.addr).foldl (fun m f => if keptField r.addr f then m &&& ~~~(BitVec.ofNat 32 f.mask) else m) r.mask

/-- One record over a register. -/
def DefaultRec.lay (r : DefaultRec) (cold : Bool) (s : State) : State :=
  let m := r.live cold
  let a := homeOf r.addr
  s.setReg a ((s.reg a &&& ~~~m) ||| (r.value &&& m &&& existing r.addr))

/-- The settings in effect follow the registers that request them, as no tick has been yet. -/
def State.showSettings (s : State) : State :=
  let s1 := ((s.put Fld.ENG_PROFILE_STAT_FS_ACT (s.get Fld.ENG_PROFILE_FS)).flag Fld.ENG_PROFILE_STAT_LATENCY_ACT
    (s.on Fld.ENG_PROFILE_LATENCY)).put Fld.ENG_PROFILE_STAT_POLICY_ACT (s.get Fld.ENG_PROFILE_POLICY)
  let s2 := (addrs 0 1 4).foldl (fun (s : State) n => s.put (Fld.NET_STAT_SPEED_ACT n) (s.get (Fld.NET_CTL_SPEED n))) s1
  let s3 := s2.setRow { s2.row with selvage := s.get Fld.ENG_GUARD_SELVAGE, mustres := s.get Fld.ENG_GUARD_MUSTRES,
                                    gauge := max s2.row.gauge s2.lowStep }
  s3.put Fld.ENG_GUARD_STAT_CHKSTEP s3.checkStepNow

/-- Would a host write of its final value be accepted by the register at `a`, with every other register at its final value
in `t`? REQ takes any legal code (R559), and MEDIASEL is free while every flow slot is FREE (R315), as after any reset. -/
def State.acceptsFinal (s t : State) (a : Nat) : Bool :=
  let w := t.reg a
  if isFcfg a ∨ a = Reg.SUP_PWR_CTL ∨ a = Reg.TB0_MEDIASEL then true
  else if a = Reg.PWR_BOOST_CFG then boostCfgOk w
  else if onSupply a then true
  else
    let u := t.setReg a (s.reg a)
    !((if isTimed a then u.applyTimed ⟨true, 0, 5, 0, 0, a, w⟩ else u.writeBlock a w).refusedSince u)

/-- Check 0x0A: the records one by one, then the values that result, judged together. -/
def State.defaultsOk (s : State) (b : List Byte) : Bool :=
  let rs := imgDefaults b
  rs.all DefaultRec.ok &&
    (let t := (rs.foldl (fun (t : State) r => r.lay s.boot.cold t) s).showSettings
     rs.all (fun r => s.acceptsFinal t r.addr))

/-! ### The checks in order (R578) -/

/-- The reason that rejects an image, 0 when it is accepted. `limit` is the slot or buffer, `full` asks for every digest,
`tries` is the count of the slot to be booted. -/
def State.imageReason (s : State) (limit : Nat) (full : Bool) (tries : Nat) (b : List Byte) : Nat :=
  let f := s.boot.fuses
  let k := imgKey b
  if (!f.keyed 0 && !f.keyed 1) || (decide (k ≤ 1) && !f.keyed k) then 1
  else if !imgFormatOk b then 2
  else if !imgPlaced limit b then 3
  else if !f.keyOk b then 4
  else if !imgSigned b then 5
  else if imgSvn b < f.count then 6
  else if imgDbg b = 3 ∨ (imgDbg b = 2 ∧ bytesAt b 32 16 ≠ uidBytes) then 7
  else if !sectionsOk b then 8
  else if !((imgSections b).filter (fun x => full || x.typ == 1 || x.typ == 2)).all (digestOk b) then 9
  else if !s.defaultsOk b then 0x0A
  else if 2 ≤ tries then 0x0B
  else 0

/-- Size of a slot of the boot flash (R574). -/
def slotBytes : Nat := 33554432

/-- Checks of a boot from a slot: bytes that are missing are reason READ. -/
def State.slotReason (s : State) (tries : Nat) (b : Option (List Byte)) : Nat :=
  match b with
  | none => 0x0C
  | some b => if b.length < min (max 4096 (imgLen b)) slotBytes then 0x0C else s.imageReason slotBytes false tries b

/-- Does the header of a slot pass checks 0x02 and 0x03 (R579)? -/
def headerOk (b : List Byte) : Bool := imgFormatOk b && imgPlaced slotBytes b

end Sys2Proof.Machine
end

