-- ==== Sys2Proof/Machine/BootExec.lean ====
section
/-! DEFINITION. Boot (R570 to R593): power-on, reset release, the phases, the start-up sequence, images from the host. -/

namespace Sys2Proof.Machine

/-! ### Events and failures -/

/-- A boot event: raised as it occurs once firmware runs, and at RUNNING for what happened before (R593). -/
def State.bootEvent (s : State) (n info : Nat) : State :=
  if 2 ≤ s.bootPhase ∧ s.bootPhase ≤ 5 then s.raise n info
  else { s with boot := { s.boot with events := s.boot.events ++ [(n, info)] } }

/-- TRIES of a slot, and the result of its last check. -/
def fdTries (slot : Nat) : Fd := if slot = 0 then Fld.BOOT_STAT_TRIESA else Fld.BOOT_STAT_TRIESB
def fdRej (slot : Nat) : Fd := if slot = 0 then Fld.BOOT_STAT_REJA else Fld.BOOT_STAT_REJB

/-- One more failed attempt of a slot, 2 at most (R580). -/
def State.countTry (s : State) (src : Nat) : State :=
  if src < 2 then s.put (fdTries src) (min 2 (s.get (fdTries src) + 1)) else s

/-- A boot attempt fails (R580). -/
def State.failBoot (s : State) (src : Nat) : State := (s.countTry src).beginReset causeBootfail

/-- The source whose attempt runs: that of the image, else the slot tried now. -/
def State.bootSource (s : State) : Nat :=
  match s.boot.image with
  | some i => i.src
  | none => s.boot.order.headD 2

/-- The device enters RECOVERY (R587). -/
def State.enterRecovery (s : State) : State := (s.put Fld.BOOT_STAT_PHASE 6).put Fld.BOOT_STAT_SRC 3

/-! ### Power-on and release (R565, R570, R575, R579) -/

/-- POWER_ON: VBUS has risen and the rails regulate; a latched core rail keeps the node off until the bus is cycled (R556). -/
def execPowerOn (s : State) : Answer :=
  .next (if s.sup.powered || s.on Fld.SUP_RAIL_STAT_CLATCH then s
    else
      let s1 : State := { s with
        sup := { s.sup with powered := true }, boot := { s.boot with causes := [causePowerOn], cold := true } }
      (s1.put Fld.BOOT_RST_CAUSE_CAUSE causePowerOn).loadLife.riseSats)

/-- The order of R579. -/
def bootOrder (strap next : Nat) (hdrA hdrB : List Byte) : List Nat :=
  let late := headerOk hdrB && (!headerOk hdrA || laterThan 32 (imgSeq hdrB).toNat (imgSeq hdrA).toNat)
  if strap = 1 ∨ next = 3 then [2]
  else if next = 1 then [0, 1, 2]
  else if next = 2 then [1, 0, 2]
  else if late then [1, 0, 2]
  else [0, 1, 2]

/-- May the main die leave reset: powered, and no cause lasts? At the release the boot has not begun. -/
def State.mayRelease (s : State) : Bool :=
  s.sup.powered && !s.causeLasts &&
    (!s.boot.causes.isEmpty || (s.bootPhase == 0 && s.boot.order.isEmpty && s.boot.image.isNone))

/-- RESET_RELEASE: the balls BOOTMODE, the PCIe link that trains or stayed trained, and the headers and section tables of the
slots. -/
def execResetRelease (strap : BitVec 2) (gen : BitVec 4) (width : BitVec 3) (hdrA hdrB : List (BitVec 8)) (s : State) : Answer :=
  if s.mayRelease then
    let order := bootOrder strap.toNat (s.get Fld.BOOT_NEXT_NEXT) hdrA hdrB
    let s1 : State := { s with boot := { s.boot with causes := [], order := order } }
    let s2 := ((s1.put Fld.BOOT_STRAP_MODE strap.toNat).put Fld.BOOT_NEXT_NEXT 0).put Fld.SUP_RAIL_STAT_OK 0x1F
    let s3 := ((s2.put Fld.HIF_LINK_GEN gen.toNat).put Fld.HIF_LINK_WIDTH width.toNat).showFuses.showLevel 0
    let s3 := (addrs 0 1 16).foldl State.showIdle (if s.boot.cold then s3.clocksOn else s3)
    .next (if order = [2] then s3.enterRecovery else s3)
  else .next s

/-! ### Register defaults take effect (R582) -/

/-- The image's defaults are laid over the factory defaults, and the blocks start from them. -/
def State.applyDefaults (s : State) (b : List Byte) : State :=
  let cold := s.boot.cold
  let rs := (imgDefaults b).filter (fun r => !onSupply r.addr)
  let s1 := (rs.foldl (fun (t : State) r => r.lay cold t) s).showSettings
  let s1 : State := { s1 with fab := { s1.fab with r0 := s1.get Fld.SST_CFG_HOLD + 64 } }
  let s2 := (addrs 0 1 4).foldl (fun (t : State) n =>
    let v := t.get (Fld.NET_CTL_SPEED n)
    if v = 0 then t else t.setMode n v) s1
  let s3 := (addrs 4 1 2).foldl (fun (t : State) n => if t.on (Fld.LANE_CFG_EN n) then t.setMode n 5 else t) s2
  let s4 := s3.put Fld.TWN_CLAIM_VALUE (s3.claimOf (s3.get Fld.TWN_GEN0_GEN))
  let s5 := if s4.on Fld.TWN_CFG_EN then s4.setTwin 1 else s4
  let s6 := if rs.any (fun r => r.addr == Reg.SST_MAP_DATA) then
      ((s5.setActiveMap (s5.activeMap.set (fun _ => 0) (mapKey (s5.get Fld.SST_MAP_SEL_CLASS) (s5.get Fld.SST_MAP_SEL_INDEX))
        ((s5.reg Reg.SST_MAP_DATA).setWidth 16 &&& 0xBFFF))).setReg Reg.SST_MAP_DATA 0)
    else s5
  let s7 := if cold then
      (addrs 0 1 10).foldl (fun (t : State) r => if t.get (fdRefPrio r) = 0 then t else t.setStage r 1)
        ((addrs 0 1 4).foldl (fun (t : State) n => if t.on (Fld.TB_CTL_EN n) then t.enableBase n else t) s6)
    else s6
  if s7.on Fld.SUP_RAIL_STAT_SAG then s7.assertSag 0 else s7

/-- Defaults of the supply die, one word a register, in the order in which the section names them first (R417, R582). -/
def State.supplyDefaults (s : State) (b : List Byte) : State :=
  let rs := (imgDefaults b).filter (fun r => onSupply r.addr)
  let t := rs.foldl (fun (t : State) r => r.lay true t) s
  let as := rs.foldl (fun (l : List Nat) r => if l.contains r.addr then l else l ++ [r.addr]) []
  as.foldl (fun (s : State) a => s.tunnel true a (t.reg a)) s

/-! ### The phases (R581) -/

/-- An image has passed its checks: its defaults are laid, and firmware starts. -/
def State.acceptImage (s : State) (src : Nat) (b : List Byte) : State :=
  let s1 := s.applyDefaults b
  let s2 : State := { s1 with boot := { s1.boot with image := some ⟨b, src⟩, order := [], trial := decide (src < 2) } }
  let s3 := ((s2.put Fld.BOOT_STAT_SRC src).setReg Reg.BOOT_IMG_SEQ (imgSeq b)).put Fld.BOOT_IMG_INFO_SVN (imgSvn b)
  (((s3.put Fld.BOOT_IMG_INFO_DBG (imgDbg b)).put Fld.BOOT_IMG_INFO_KEYIDX (imgKey b)).put Fld.BOOT_IMG_INFO_CONSOLEIN
    (imgFlags b)).put Fld.BOOT_STAT_PHASE 1

/-- BOOT_EARLY: the image in the slot tried next, or none where the flash did not deliver every byte. -/
def execBootEarly (image : Option (List (BitVec 8))) (s : State) : Answer :=
  match s.boot.order with
  | src :: rest =>
    if s.inReset ∨ ¬ s.sup.powered ∨ s.bootPhase ≠ 0 ∨ 2 ≤ src then .next s
    else
      let r := s.slotReason (s.get (fdTries src)) image
      let s1 := s.put (fdRej src) r
      match r, image with
      | 0, some b => .next (s1.acceptImage src b)
      | _, _ =>
        let fell := match s1.boot.fell with
          | some x => some x
          | none => some r
        let s2 := ({ s1 with boot := { s1.boot with order := rest, fell := fell } } : State).bootEvent 235 (src + 256 * r)
        .next (if rest.headD 2 = 2 then s2.enterRecovery else s2)
  | [] => .next s

/-- BOOT_RUNNING: firmware runs; the debug level is set, and events of the boot are raised. -/
def execBootRunning (s : State) : Answer :=
  match s.boot.image with
  | some i =>
    if s.bootPhase ≠ 1 ∨ s.inReset then .next s
    else
      let s1 := (s.put Fld.BOOT_STAT_PHASE 2).showLevel (imgDbg i.bytes)
      let s2 := s1.boot.events.foldl (fun (t : State) e => (if e.1 = 239 then t.count (ctrSwt 2) else t).raise e.1 e.2) s1
      let s3 := match s2.boot.fell with
        | some r => s2.raise 234 (i.src + 256 * r)
        | none => s2
      let s4 := if s3.boot.cold then s3.supplyDefaults i.bytes else s3
      .next ({ s4 with boot := { s4.boot with events := [], cold := false, last := some i.src } } : State).payOwed
  | none => .next s

/-! ### Loading (R581, R577) -/

/-- A descriptor with the fields of a load command. -/
def loadTransfer (op p0 p2 len : Nat) : Transfer :=
  ⟨⟨leBytesN op 4 ++ leBytesN p0 4 ++ leBytesN 0 8 ++ leBytesN len 4 ++ leBytesN p2 4 ++ leBytesN 0 8, 0, 0, false, none⟩, op, 0, len, [], none⟩

/-- A section takes its place. -/
def State.loadSection (s : State) (b : List Byte) (x : ImageSection) : State :=
  let d := sectionBytes b x
  let p := x.param
  match x.typ with
  | 3 => ((s.setPready p false).deliver (loadTransfer 2 p 0 x.len) d).1.setPready p true
  | 4 => ((s.setCready p false).deliver (loadTransfer 3 p 0 x.len) d).1.setCready p true
  | 5 => ((s.setMapReady false).deliver (loadTransfer 4 p 0 x.len) d).1
  | 6 => (s.touchShadowTable.deliver (loadTransfer 5 p 1 x.len) d).1.put Fld.MTX_SHD_LEN_COUNT (p + x.len / 8)
  | 7 => s.setShared (memSetBytes s.fab.shared p d)
  | _ => s

/-- The sections in table order, each after its digest passes; the flag says that all did. -/
def State.loadSections (s : State) (b : List Byte) : List ImageSection → State × Bool
  | [] => (s, true)
  | x :: t =>
    if x.typ < 3 ∨ 7 < x.typ then s.loadSections b t
    else if digestOk b x then (s.loadSection b x).loadSections b t
    else (s, false)

/-- Logical cores of marked physical cores move to their spares (R601). -/
def State.avoidFailed (s : State) : State :=
  (addrs 0 1 128).foldl (fun (s : State) c =>
    if s.physFailed c && s.migrateRefusal c false true == 0 && (s.core c).state == .reset then s.movePhys c false else s) s

/-- The image-load-done event (R586, R588). -/
def State.loadDone (s : State) (target reason index : Nat) : State := s.bootEvent 236 (target + 256 * reason + 65536 * index)

/-- An IMAGE_LOAD completes, and its event is raised. -/
def State.endImageLoad (s : State) (r target reason : Nat) : State :=
  let s1 := match (s.ring r).active with
    | some t => if t.op = 10 then s.endTransfer r t.desc (t.desc.comp r (if reason = 0 then 0 else 5) reason) else s
    | none => s
  (s1.loadDone target reason 0).pumpAll

/-! ### The start-up sequence (R584 to R586) -/

/-- Record `i` of the image's sequence. -/
def State.seqRecord (s : State) (i : Nat) : Option (List Byte) :=
  match s.boot.image with
  | some m =>
    match (imgSections m.bytes).find? (fun x => x.typ == 8) with
    | some x => if 24 * i < x.len then some (bytesAt m.bytes (x.off + 24 * i) 24) else none
    | none => none
  | none => none

/-- The sequence ends: done, or failed at the record that runs. -/
def State.seqEnd (s : State) (failed : Bool) : State :=
  let s1 := s.put Fld.BOOT_SEQ_STAT_RESULT (if failed then 3 else 2)
  let s2 : State := { s1 with boot := { s1.boot with seqTick := false, seqBad := false, seqRows := 0 } }
  (s2.put Fld.BOOT_STAT_PHASE 4).loadDone 3 (if failed then 0x10 else 0) (s2.get Fld.BOOT_SEQ_STAT_INDEX)

/-- Record `i` begins, or the sequence ends behind its last. -/
def State.seqEnter (s : State) (i : Nat) : State :=
  match s.seqRecord i with
  | some r =>
    let s1 : State := { s with boot := { s.boot with
      seqAt := i, seqTick := false, seqBad := false, seqRows := if leAt r 0 1 = 2 then leAt r 4 4 else 0 } }
    s1.put Fld.BOOT_SEQ_STAT_INDEX i
  | none => s.seqEnd false

/-- The next record. -/
def State.seqNext (s : State) : State := s.seqEnter (s.boot.seqAt + 1)

/-- The record that runs, when it has operation `op`. -/
def State.seqNow (s : State) (op : Nat) : Option (List Byte) :=
  if s.bootPhase = 5 ∧ ¬ s.inReset ∧ ¬ s.asleep then (s.seqRecord s.boot.seqAt).filter (fun (r : List Byte) => leAt r 0 1 == op) else none

/-- After DONE: the sequence begins, where the image has one. -/
def State.startSequence (s : State) : State :=
  match s.boot.image with
  | some m =>
    if (imgSections m.bytes).any (fun x => x.typ == 8) then
      ((s.put Fld.BOOT_STAT_PHASE 5).put Fld.BOOT_SEQ_STAT_RESULT 1).seqEnter 0
    else s
  | none => s

/-- SEQ_WRITE. A timed register's write waits for its tick. -/
def execSeqWrite (s : State) : Answer :=
  match s.seqNow 1 with
  | some r =>
    let a := leAt r 4 4
    if s.boot.seqTick then .next s
    else
      let t := s.writeW0 a (BitVec.ofNat 32 (leAt r 8 4))
      .next (if t.bootPhase ≠ 5 then t
        else if t.refusedFrom s a then t.seqEnd true
        else if isTimed a && !onSupply a then { t with boot := { t.boot with seqTick := true, seqBad := false } }
        else t.seqNext)
  | none => .next s

/-- SEQ_WAITROWS: its row ticks have passed. -/
def execSeqWaitrows (s : State) : Answer :=
  .next (match s.seqNow 2 with
    | some _ => if s.boot.seqRows = 0 then s.seqNext else s
    | none => s)

/-- SEQ_WAITFIELD: the register is observed; `timeout` says that TIMEOUT has run out. -/
def execSeqWaitfield (timeout : Bool) (s : State) : Answer :=
  .next (match s.seqNow 3 with
    | some r =>
      let v := s.view (leAt r 4 4)
      if v &&& BitVec.ofNat 32 (leAt r 8 4) = BitVec.ofNat 32 (leAt r 12 4) then s.bumpFree.seqNext
      else if timeout then s.bumpFree.seqEnd true
      else s.bumpFree
    | none => s)

/-- SEQ_TPARAM. -/
def execSeqTparam (s : State) : Answer :=
  .next (match s.seqNow 4 with
    | some r =>
      let p := tpOfBytes (bytesAt r 4 16)
      let q := s.tpSubmit { p with row := s.row.openRow + p.row }
      if q.2 = 0 then q.1.seqNext else q.1.seqEnd true
    | none => s)

/-! ### DONE and trials (R580, R581) -/

/-- BOOT_DONE: the sections are loaded, and the node enters its power state (R559). -/
def execBootDone (s : State) : Answer :=
  match s.boot.image with
  | some i =>
    if (s.bootPhase ≠ 2 ∧ s.bootPhase ≠ 3) ∨ s.inReset then .next s
    else
      let l := (s.put Fld.BOOT_STAT_PHASE 3).loadSections i.bytes (imgSections i.bytes)
      if !l.2 then .next (l.1.failBoot i.src)
      else
        let s1 := (l.1.avoidFailed.put Fld.BOOT_STAT_PHASE 4).changeState (if s.get Fld.SUP_PWR_CTL_REQ = 3 then 3 else 2) 0
        let s2 := match s1.boot.hostLoad with
          | some r => ({ s1 with boot := { s1.boot with hostLoad := none } } : State).endImageLoad r 0 0
          | none => s1
        .next s2.startSequence
  | none => .next s

/-- BOOT_TRIAL_TIMEOUT: 200 ms after the release, phase DONE has not been reached. -/
def execBootTrialTimeout (s : State) : Answer :=
  .next (if s.sup.powered && !s.inReset && decide (s.bootPhase < 4) && decide (s.bootSource < 2) then s.failBoot s.bootSource else s)

/-- WDOG: the watchdog of the house cores, which run from phase RUNNING and not in Standby. -/
def execWdog (s : State) : Answer :=
  .next (if s.regServed && s.bootPhase != 6 then
      (if s.boot.trial then s.countTry s.bootSource else s).beginReset causeWdog
    else s)

/-- TRIAL_CONFIRM: the slot has run for 10 s after DONE. -/
def execTrialConfirm (s : State) : Answer :=
  .next (if s.boot.trial && (s.bootPhase == 4 || s.bootPhase == 5) && decide (s.bootSource < 2) then
      ({ s with boot := { s.boot with trial := false } } : State).put (fdTries s.bootSource) 0
    else s)

/-! ### Images from the host (R587, R588) -/

/-- Why an IMAGE_LOAD of a target is refused before its image is read. -/
def State.loadRefusal (s : State) (target : Nat) : Nat :=
  if target = 0 then (if s.bootPhase = 6 then 0 else 0x11)
  else if s.bootPhase ≠ 4 ∧ s.bootPhase ≠ 5 then 0x11
  else if s.bootSource = target - 1 then 0x12
  else 0

/-- An IMAGE_LOAD at the head of a ring. -/
def State.imageLoad (s : State) (r : Nat) (p : Desc → Bool) : State :=
  s.execHead r (fun d => d.op == 10 && p d) (fun s d =>
    let why := s.loadRefusal d.p0
    if why = 0 then s.startHead r d else (s.finishHead r (d.comp r 5 why)).loadDone d.p0 why 0)

/-- IMAGE_LOAD_RUN. -/
def execImageLoadRun (ring : Fin 64) (s : State) : Answer := .next (s.imageLoad ring (fun d => !(d.p0 == 1 || d.p0 == 2)))

/-- IMAGE_LOAD_SLOT. -/
def execImageLoadSlot (ring : Fin 64) (s : State) : Answer := .next (s.imageLoad ring (fun d => d.p0 != 0))

/-- An image has been read from host memory whole: it is checked, and boots or is programmed. -/
def State.imageRead (s : State) (r : Nat) (t : Transfer) : State :=
  let target := t.desc.p0
  let why := s.imageReason (min t.desc.len slotBytes) true 0 t.buf
  if s.boot.hostLoad = some r ∨ s.boot.programs.contains r then s
  else if s.loadRefusal target ≠ 0 then s.endImageLoad r target (s.loadRefusal target)
  else if why ≠ 0 then (if target = 0 then s.bootEvent 235 (2 + 256 * why) else s).endImageLoad r target why
  else if target = 0 then ({ s with boot := { s.boot with hostLoad := some r } } : State).acceptImage 2 t.buf
  else ({ s with boot := { s.boot with programs := r :: s.boot.programs } } : State).send (.flash (target - 1) t.buf)

/-- DMA_TRANSFER_DONE. -/
def execDmaTransferDone (ring : Fin 64) (s : State) : Answer :=
  match (s.ring ring).active with
  | some t =>
    if t.len ≤ t.off ∧ s.ringState ring ≠ 4 then
      .next (if t.op = 10 then s.imageRead ring t else (s.transferDone ring t).pumpAll)
    else .next s
  | none => .next s

/-- SLOT_PROGRAM_DONE: erase, program and read-back of a slot have ended, with its digests right or not. -/
def execSlotProgramDone (ring : Fin 64) (ok : Bool) (s : State) : Answer :=
  if s.boot.programs.contains ring.val then
    let s1 : State := { s with boot := { s.boot with programs := s.boot.programs.filter (fun r => r != ring.val) } }
    match (s.ring ring).active with
    | some t =>
      let s2 := if ok then s1.put (fdTries (t.desc.p0 - 1)) 0 else s1
      .next (s2.endImageLoad ring t.desc.p0 (if ok then 0 else 0x13))
    | none => .next s1
  else .next s

/-- RECOVERY_POLL: every 100 us in RECOVERY, in place of the row tick, the doorbell page is read and the status page
written (R587). -/
def execRecoveryPoll (s : State) : Answer :=
  .next (if s.bootPhase = 6 ∧ s.on Fld.HIF_HCTL_EN ∧ ¬ s.inReset then
      let s1 := s.setHost { s.host with rowFetch := 0, dbErr := [] }
      let s2 := s1.ringKeys.foldl (fun (t : State) r =>
        t.modRing r (fun x => { x with rowFetch := 0, age := if x.unsig = 0 then 0 else x.age + 1 })) s1
      s2.writeStatus.readDoorbells.pumpAll
    else s)

end Sys2Proof.Machine
end

