-- ==== Sys2Proof/Machine/RowExec.lean ====
section
/-! DEFINITION. The row tick, the engine tick and the stop point (R15, R26, R119 to R138, R142, R318). -/

namespace Sys2Proof.Machine

/-! ### The stop point (R133, R137) -/

/-- The guard ends the row programs that still run, and the passes end. -/
def State.stopPoint (s : State) : State :=
  if s.row.inWindow then
    let p := s.stopCores
    let s1 := p.1.endPasses
    let s2 := s1.setRow { s1.row with inWindow := false }
    if p.2 = 0 then s2 else s2.raise 37 p.2
  else s

/-- STOP_POINT. -/
def execStopPoint (s : State) : Answer := .next s.stopPoint

/-! ### The engine tick (R120) -/

/-- Registers written at the tick of their row on a paired twin (R518), and the GUARD settings in effect (R122). -/
def State.tickRegs (s : State) : State :=
  let due := s.twn.regHeld.filter (fun r => r.row == s.tickRow)
  let s1 := s.setTwn { s.twn with regHeld := s.twn.regHeld.filter (fun r => r.row != s.tickRow) }
  let s2 := due.foldl (fun (t : State) r => t.writeMirrored r.off r.value) s1
  let s3 := s2.setRow { s2.row with selvage := s2.get Fld.ENG_GUARD_SELVAGE, mustres := s2.get Fld.ENG_GUARD_MUSTRES }
  s3.put Fld.ENG_GUARD_STAT_CHKSTEP s3.checkStepNow

/-- May the pending request be performed at the coming tick (R154)? The budget is that of the row that the tick starts, with the
SELVAGE that takes effect at it (R122). -/
def State.migrateReady (s : State) (m : Migration) : Bool :=
  let k := s.core m.core
  k.state == .halted ||
    (k.state == .wait && decide (coreFULL s m.core + 96 ≤ budgetAt s.isFast s.row.gauge s.tickRegs.row.selvage s.fs))

/-- MIGRATION_PERFORM (R154), at a tick that meets its conditions. -/
def execMigrationPerform (s : State) : Answer :=
  match s.row.migration with
  | some m =>
    if s.migrateReady m then
      let s1 := (s.movePhys m.core m.back).modCore m.core (fun k => { k with moved := true })
      .next ((s1.setRow { s1.row with migration := none }).put Fld.ENG_MIGRATE_RES_RESULT 1)
    else .next s
  | none => .next s

/-- Does a program that runs, or the active table, not fit at the new check step (R129, R174)? DEDUCED (log entry 127): a program
runs on every core that is not in RESET. -/
def State.testFit (s : State) : State :=
  if !s.row.fitDue then s
  else
    let e := s.listedCores.any (fun c => (s.core c).state != .reset && s.unfitMust (coreMUST s c))
    let m := decide (mtxCapacity (fabricAt s.isFast s.checkStepNow s.row.selvage s.fs) < s.get Fld.MTX_ACT_LEN_COUNT)
    let s1 := s.setRow { s.row with fitDue := false }
    let s2 := if e then s1.flag Fld.ENG_GUARD_STAT_UNFIT true else s1
    let s3 := if m then s2.flag Fld.MTX_TBL_STAT_UNFIT true else s2
    if e || m then s3.raise 36 (e.toNat + 2 * m.toNat) else s3

/-- The due records of one class take effect, in order of acceptance; `fuel` is the length of the queue. -/
def State.applyClass (cls : Nat) : Nat → State → State
  | 0, s => s
  | fuel + 1, s =>
    match s.tpTake (fun r => r.cls == cls) with
    | some (r, t) => (t.applyRecord r).applyClass cls fuel
    | none => s

/-- Every due record takes effect, in the order of R142. -/
def State.applyDue (s : State) : State :=
  let n := s.row.tpq.length
  ((((s.applyClass 3 n).applyClass 4 n).applyClass 2 n).applyClass 5 n).applyClass 1 n

/-- The budgets and OUTCFG values held for JOIN go into every core, whatever its state (R515, step 4). -/
def State.joinRegs (s : State) : State :=
  if s.twn.joinDue then
    let s1 := s.twn.heldRegs.foldl (fun (t : State) p =>
      if p.1 % 0x100 = 0x18 then t.setReg p.1 p.2 else t.put ⟨p.1, 9, 0⟩ (p.2.toNat % 1024)) s
    s1.setTwn { s1.twn with joinDue := false, heldRegs := [] }
  else s

/-- One more tick for a migration that waits (R155). -/
def State.countMigration (s : State) : State :=
  match s.row.migration with
  | some m => s.setRow { s.row with migration := some { m with waited := m.waited + 1 } }
  | none => s

/-- A write of the start-up sequence to a timed register has had its tick (R585). -/
def State.seqTicked (s : State) : State :=
  if s.boot.seqTick then (if s.boot.seqBad then s.seqEnd true else s.seqNext) else s

/-- Output words of row `j` leave the write page behind: streams, local ports, power stage and cross-feed (R30, R230, R360). -/
def State.outputRow (s : State) : State := ((s.sendFlows s.row.rowIdx).latchPorts).latchAmp

/-- The pages swap, and the input page of the tick's row opens (R26, R54). -/
def State.openPage (s : State) : State :=
  let t := s.swapPages
  let s1 := t.setRow { t.row with pageOpen := true, openRow := s.tickRow, ticked := true, inWindow := true, accU := 0,
                                  sinceU := windowStart s.isFast, shedRow := false }
  s1.openFlows

/-- The cores and the passes start on the page that has opened (R83, R125, R172). -/
def State.startRow (s : State) : State :=
  let b := budgetAt s.isFast s.row.gauge s.row.selvage s.fs
  let s1 := s.put Fld.ENG_GUARD_STAT_BUDGET b
  (s1.listedCores.foldl (fun (t : State) c => t.coreTick c b s.row.openRow) s1).startPasses

/-- The engine tick, once a row. -/
def State.engineTick (s : State) : State :=
  let s1 := (s.stopPoint.closeFlows.settleReady s.tickRow).tickRegs
  if !s1.row.ticks then s1
  else
    let s2 := s1.testFit.applyDue.joinRegs.countMigration
    if !s2.row.ticks then s2
    else
      let s3 := s2.openPage.startRow
      let s4 := (s3.recordRow s3.row.openRow).playRow (s3.row.openRow + 1)
      (if s4.isFast then s4 else s4.outputRow).seqTicked

/-- ENGINE_TICK; a second one in a row changes nothing. The row tick at which FAST gives way to DENSE is an engine tick (R648). -/
def execEngineTick (s : State) : Answer :=
  .next (if s.row.ticks && !s.row.fresh && !s.inReset && !s.row.ticked then s.engineTick else s)

/-! ### The row tick -/

/-- The row that ends: its digests become final (R157), and slots that started to decay and link errors are reported (R162,
R25). -/
def State.endRow (s : State) : State :=
  let s1 := s.stopPoint
  let s2 := if s1.row.pageOpen then s1.finalDigests.compareRow else s1
  let s3 := if s2.row.decayRow = 0 then s2 else (s2.raise 42 s2.row.decayRow).setRow { s2.row with decayRow := 0 }
  if s3.link.rowErr = 0 then s3
  else ({ s3 with link := { s3.link with rowErr := 0 } } : State).raise 205 s3.link.rowErr.toNat

/-- The index of the new row (R15, R318). -/
def State.countRow (s : State) : State :=
  s.setRow { s.row with rowIdx := if s.row.fresh then s.mediaRow else s.row.rowIdx + 1, fresh := false, ticked := false }

/-- The twin unit's and the referee's part in a row tick (R505, R508, R515, R516, R527). -/
def State.twinRow (s : State) : State :=
  let s1 := match s.twn.genDue with
    | some g => ({ s with twn := { s.twn with genDue := none } } : State).setGen g
    | none => s
  let s2 := if s1.maySettle then s1.setTwin 3
    else if s1.twinState = 3 then s1.setTwn { s1.twn with settle := s1.twn.settle - 1 }
    else s1
  s2.countHeartbeats.refereeRow

/-- A media re-step that has ended is reported with the first row tick after it (R317, step 4). -/
def State.reportRestep (s : State) : State :=
  match s.tb.doneDue with
  | some (n, r) => ({ s with tb := { s.tb with doneDue := none } } : State).raise 134 (n + 256 * r)
  | none => s

/-- The row tick. -/
def State.rowTick (s : State) : State :=
  let s1 := s.endRow.countRow.latencyEffect.policyEffect.powerTick
  let s2 := (s1.put Fld.ENG_PROFILE_STAT_GAUGE s1.row.gauge).twinRow.reportRestep.portsRow
  let s3 := if s2.isFast then s2.outputRow else s2
  let s4 : State := { s3 with boot := { s3.boot with seqRows := s3.boot.seqRows - 1 } }
  (s4.send (.edge "WCKO")).hostRow.deliveryPass

/-- Has the media time base reached the row after the last one, so that its tick is due (R318)? -/
def State.tickDue (s : State) : Bool := laterThan 32 s.mediaRow.toNat (if s.row.fresh then s.row.fromRow else s.row.rowIdx).toNat

/-- ROW_TICK: while row ticks run, once the media time base has reached the row (R318). -/
def execRowTick (s : State) : Answer := .next (if s.row.ticks && !s.inReset && s.tickDue then s.rowTick else s)

end Sys2Proof.Machine
end

