-- ==== Sys2Proof/Machine/Dispatch.lean ====
section
/-! DEFINITION. The dispatch: one arm per command. -/

namespace Sys2Proof.Machine

def exec (i : Instr) (s : State) : Host.Outcome State Fault Refusal :=
  match i with
  | .rowTick => Sys2Proof.Machine.execRowTick s
  | .engineTick => Sys2Proof.Machine.execEngineTick s
  | .slotDecayStart slot => Sys2Proof.Machine.execSlotDecayStart slot s
  | .stopPoint => Sys2Proof.Machine.execStopPoint s
  | .profileWrite value => Sys2Proof.Machine.execProfileWrite value s
  | .latencyChangeEffect => Sys2Proof.Machine.execLatencyChangeEffect s
  | .policyChangeEffect => Sys2Proof.Machine.execPolicyChangeEffect s
  | .gaugeRecoveryStep ns => Sys2Proof.Machine.execGaugeRecoveryStep ns s
  | .mediaClockLock => Sys2Proof.Machine.execMediaClockLock s
  | .modulationFlitSend => Sys2Proof.Machine.execModulationFlitSend s
  | .idleFlit toMain flit => Sys2Proof.Machine.execIdleFlit toMain flit s
  | .rowFlit flit => Sys2Proof.Machine.execRowFlit flit s
  | .modLoFlit flit => Sys2Proof.Machine.execModLoFlit flit s
  | .modHiFlit flit => Sys2Proof.Machine.execModHiFlit flit s
  | .senseFlit flit => Sys2Proof.Machine.execSenseFlit flit s
  | .regWrFlit flit => Sys2Proof.Machine.execRegWrFlit flit s
  | .regRdFlit flit => Sys2Proof.Machine.execRegRdFlit flit s
  | .regRspFlit flit => Sys2Proof.Machine.execRegRspFlit flit s
  | .mbxFlit toMain flit => Sys2Proof.Machine.execMbxFlit toMain flit s
  | .evtFlit flit => Sys2Proof.Machine.execEvtFlit flit s
  | .nakFlit toMain flit => Sys2Proof.Machine.execNakFlit toMain flit s
  | .flitCreditSend onMain => Sys2Proof.Machine.execFlitCreditSend onMain s
  | .nop core => Sys2Proof.Machine.execNop core s
  | .waitrow core => Sys2Proof.Machine.execWaitrow core s
  | .gie core e => Sys2Proof.Machine.execGie core e s
  | .reti core => Sys2Proof.Machine.execReti core s
  | .mac core ad da db bc k z => Sys2Proof.Machine.execMac core ad da db bc k z s
  | .msu core ad da db bc k z => Sys2Proof.Machine.execMsu core ad da db bc k z s
  | .tap core ad pn pc ddir cv cdir neg z => Sys2Proof.Machine.execTap core ad pn pc ddir cv cdir neg z s
  | .aadd core ad da => Sys2Proof.Machine.execAadd core ad da s
  | .asub core ad da => Sys2Proof.Machine.execAsub core ad da s
  | .amov core ad src => Sys2Proof.Machine.execAmov core ad src s
  | .ahsum core ad src => Sys2Proof.Machine.execAhsum core ad src s
  | .ext core dd src sc c => Sys2Proof.Machine.execExt core dd src sc c s
  | .vadd core dd da db => Sys2Proof.Machine.execVadd core dd da db s
  | .vsub core dd da db => Sys2Proof.Machine.execVsub core dd da db s
  | .vaddw core dd da db => Sys2Proof.Machine.execVaddw core dd da db s
  | .vsubw core dd da db => Sys2Proof.Machine.execVsubw core dd da db s
  | .vand core dd da db => Sys2Proof.Machine.execVand core dd da db s
  | .vor core dd da db => Sys2Proof.Machine.execVor core dd da db s
  | .vxor core dd da db => Sys2Proof.Machine.execVxor core dd da db s
  | .vandn core dd da db => Sys2Proof.Machine.execVandn core dd da db s
  | .vshl core dd da n => Sys2Proof.Machine.execVshl core dd da n s
  | .vshls core dd da n => Sys2Proof.Machine.execVshls core dd da n s
  | .vshra core dd da n => Sys2Proof.Machine.execVshra core dd da n s
  | .vshrl core dd da n => Sys2Proof.Machine.execVshrl core dd da n s
  | .vmax core dd da db => Sys2Proof.Machine.execVmax core dd da db s
  | .vmin core dd da db => Sys2Proof.Machine.execVmin core dd da db s
  | .vabs core dd da => Sys2Proof.Machine.execVabs core dd da s
  | .vneg core dd da => Sys2Proof.Machine.execVneg core dd da s
  | .vcmpeq core dd da db => Sys2Proof.Machine.execVcmpeq core dd da db s
  | .vcmplt core dd da db => Sys2Proof.Machine.execVcmplt core dd da db s
  | .vcmple core dd da db => Sys2Proof.Machine.execVcmple core dd da db s
  | .vcmpltu core dd da db => Sys2Proof.Machine.execVcmpltu core dd da db s
  | .vsel core dd da db => Sys2Proof.Machine.execVsel core dd da db s
  | .vperm core dd da db => Sys2Proof.Machine.execVperm core dd da db s
  | .vbc core dd da lane => Sys2Proof.Machine.execVbc core dd da lane s
  | .vmul core dd da db => Sys2Proof.Machine.execVmul core dd da db s
  | .vmulB core dd da db lane => Sys2Proof.Machine.execVmulB core dd da db lane s
  | .vsplat core dv sn => Sys2Proof.Machine.execVsplat core dv sn s
  | .vput core dv k sn => Sys2Proof.Machine.execVput core dv k sn s
  | .vget core sn dv k => Sys2Proof.Machine.execVget core sn dv k s
  | .add core sd sa sb f => Sys2Proof.Machine.execAdd core sd sa sb f s
  | .sub core sd sa sb f => Sys2Proof.Machine.execSub core sd sa sb f s
  | .and core sd sa sb f => Sys2Proof.Machine.execAnd core sd sa sb f s
  | .or core sd sa sb f => Sys2Proof.Machine.execOr core sd sa sb f s
  | .xor core sd sa sb f => Sys2Proof.Machine.execXor core sd sa sb f s
  | .shl core sd sa sb f => Sys2Proof.Machine.execShl core sd sa sb f s
  | .shra core sd sa sb f => Sys2Proof.Machine.execShra core sd sa sb f s
  | .shrl core sd sa sb f => Sys2Proof.Machine.execShrl core sd sa sb f s
  | .mul core sd sa sb f => Sys2Proof.Machine.execMul core sd sa sb f s
  | .cmp core sa sb => Sys2Proof.Machine.execCmp core sa sb s
  | .min core sd sa sb f => Sys2Proof.Machine.execMin core sd sa sb f s
  | .max core sd sa sb f => Sys2Proof.Machine.execMax core sd sa sb f s
  | .addi core sd sa f imm => Sys2Proof.Machine.execAddi core sd sa f imm s
  | .andi core sd sa f imm => Sys2Proof.Machine.execAndi core sd sa f imm s
  | .ori core sd sa f imm => Sys2Proof.Machine.execOri core sd sa f imm s
  | .xori core sd sa f imm => Sys2Proof.Machine.execXori core sd sa f imm s
  | .setr core cl n hi sx imm => Sys2Proof.Machine.execSetr core cl n hi sx imm s
  | .movr core dcl dn scl sn => Sys2Proof.Machine.execMovr core dcl dn scl sn s
  | .xmov core toBank1 dcl dn scl sn => Sys2Proof.Machine.execXmov core toBank1 dcl dn scl sn s
  | .padd core pn imm => Sys2Proof.Machine.execPadd core pn imm s
  | .lds core rg pn mode ofs => Sys2Proof.Machine.execLds core rg pn mode ofs s
  | .ldv core rg pn mode ofs => Sys2Proof.Machine.execLdv core rg pn mode ofs s
  | .sts core rg pn mode ofs => Sys2Proof.Machine.execSts core rg pn mode ofs s
  | .stv core rg pn mode ofs => Sys2Proof.Machine.execStv core rg pn mode ofs s
  | .xfer core ch dir pw px sn => Sys2Proof.Machine.execXfer core ch dir pw px sn s
  | .transferDone core ch run => Sys2Proof.Machine.execTransferDone core ch run s
  | .xwait core mask => Sys2Proof.Machine.execXwait core mask s
  | .b core cond target => Sys2Proof.Machine.execB core cond target s
  | .call core cond target => Sys2Proof.Machine.execCall core cond target s
  | .jr core cond sn => Sys2Proof.Machine.execJr core cond sn s
  | .callr core cond sn => Sys2Proof.Machine.execCallr core cond sn s
  | .ret core cond => Sys2Proof.Machine.execRet core cond s
  | .loop core inner creg len count => Sys2Proof.Machine.execLoop core inner creg len count s
  | .rdc core sn idx => Sys2Proof.Machine.execRdc core sn idx s
  | .wrc core sn idx => Sys2Proof.Machine.execWrc core sn idx s
  | .interruptAccept core idle => Sys2Proof.Machine.execInterruptAccept core idle s
  | .clrfault core => Sys2Proof.Machine.execClrfault core s
  | .coreBudgetWrite core value => Sys2Proof.Machine.execCoreBudgetWrite core value s
  | .coreOutcfgWrite core value => Sys2Proof.Machine.execCoreOutcfgWrite core value s
  | .coreSatrowsRead core => Sys2Proof.Machine.execCoreSatrowsRead core s
  | .corePeakRead core => Sys2Proof.Machine.execCorePeakRead core s
  | .coreStitchRead core => Sys2Proof.Machine.execCoreStitchRead core s
  | .wmaxRtRead => Sys2Proof.Machine.execWmaxRtRead s
  | .cntSnap req => Sys2Proof.Machine.execCntSnap req s
  | .digestSnap cluster value => Sys2Proof.Machine.execDigestSnap cluster value s
  | .timeSnap unit => Sys2Proof.Machine.execTimeSnap unit s
  | .registerWrite house w2 addr value => Sys2Proof.Machine.execRegisterWrite house w2 addr value s
  | .timedParam ring => Sys2Proof.Machine.execTimedParam ring s
  | .tpDoorbell => Sys2Proof.Machine.execTpDoorbell s
  | .tpCoefWord => Sys2Proof.Machine.execTpCoefWord s
  | .tpSwap => Sys2Proof.Machine.execTpSwap s
  | .tpBindoff => Sys2Proof.Machine.execTpBindoff s
  | .coreBindoffReset core => Sys2Proof.Machine.execCoreBindoffReset core s
  | .migrateGo value => Sys2Proof.Machine.execMigrateGo value s
  | .firmwareMigrationRequest core back => Sys2Proof.Machine.execFirmwareMigrationRequest core back s
  | .migrationPerform => Sys2Proof.Machine.execMigrationPerform s
  | .migrationAbandon => Sys2Proof.Machine.execMigrationAbandon s
  | .mapDataApply => Sys2Proof.Machine.execMapDataApply s
  | .shdDataWrite value => Sys2Proof.Machine.execShdDataWrite value s
  | .mapCheck => Sys2Proof.Machine.execMapCheck s
  | .mapCheckDone => Sys2Proof.Machine.execMapCheckDone s
  | .mapSwap => Sys2Proof.Machine.execMapSwap s
  | .shdRouteWrite value => Sys2Proof.Machine.execShdRouteWrite value s
  | .mtxCheck => Sys2Proof.Machine.execMtxCheck s
  | .mtxCheckDone => Sys2Proof.Machine.execMtxCheckDone s
  | .mtxTableSwap => Sys2Proof.Machine.execMtxTableSwap s
  | .mtxCtlApply => Sys2Proof.Machine.execMtxCtlApply s
  | .xpSelApply => Sys2Proof.Machine.execXpSelApply s
  | .xpGainApply => Sys2Proof.Machine.execXpGainApply s
  | .glideEnd entry => Sys2Proof.Machine.execGlideEnd entry s
  | .dlyCtlApply => Sys2Proof.Machine.execDlyCtlApply s
  | .lineLenApply => Sys2Proof.Machine.execLineLenApply s
  | .lineDelayApply => Sys2Proof.Machine.execLineDelayApply s
  | .crossfadeEnd line => Sys2Proof.Machine.execCrossfadeEnd line s
  | .qownWrite bank value => Sys2Proof.Machine.execQownWrite bank value s
  | .speedWrite port value => Sys2Proof.Machine.execSpeedWrite port value s
  | .frameReceive port bytes => Sys2Proof.Machine.execFrameReceive port bytes s
  | .cutThroughDecision port egress head ns => Sys2Proof.Machine.execCutThroughDecision port egress head ns s
  | .underrun port bytes => Sys2Proof.Machine.execUnderrun port bytes s
  | .pauseFrameReceive port quanta => Sys2Proof.Machine.execPauseFrameReceive port quanta s
  | .pfcFrameReceive port vector quanta => Sys2Proof.Machine.execPfcFrameReceive port vector quanta s
  | .pauseHaltExpire port prio => Sys2Proof.Machine.execPauseHaltExpire port prio s
  | .pauseFrameSend port => Sys2Proof.Machine.execPauseFrameSend port s
  | .frameTransmitStart port ns => Sys2Proof.Machine.execFrameTransmitStart port ns s
  | .frameTransmitDone port => Sys2Proof.Machine.execFrameTransmitDone port s
  | .gateCycleStart port => Sys2Proof.Machine.execGateCycleStart port s
  | .gateEntryStart port => Sys2Proof.Machine.execGateEntryStart port s
  | .gclSwap port => Sys2Proof.Machine.execGclSwap port s
  | .lpiEnter port ns => Sys2Proof.Machine.execLpiEnter port ns s
  | .lpiExit port ns => Sys2Proof.Machine.execLpiExit port ns s
  | .lldpReceive port twrx => Sys2Proof.Machine.execLldpReceive port twrx s
  | .eeeTlvTimeout port => Sys2Proof.Machine.execEeeTlvTimeout port s
  | .txtsPop port value => Sys2Proof.Machine.execTxtsPop port value s
  | .fdbHiWrite value => Sys2Proof.Machine.execFdbHiWrite value s
  | .rxBind slot => Sys2Proof.Machine.execRxBind slot s
  | .txBind slot => Sys2Proof.Machine.execTxBind slot s
  | .rxBindoff slot => Sys2Proof.Machine.execRxBindoff slot s
  | .txBindoff slot => Sys2Proof.Machine.execTxBindoff slot s
  | .flowBindoffEnd tx slot => Sys2Proof.Machine.execFlowBindoffEnd tx slot s
  | .flowDrainEnd tx slot => Sys2Proof.Machine.execFlowDrainEnd tx slot s
  | .malraingFrameReceive port bytes ns => Sys2Proof.Machine.execMalraingFrameReceive port bytes ns s
  | .flowLost slot => Sys2Proof.Machine.execFlowLost slot s
  | .aafPacketReceive port bytes => Sys2Proof.Machine.execAafPacketReceive port bytes s
  | .rtpPacketReceive port bytes => Sys2Proof.Machine.execRtpPacketReceive port bytes s
  | .receiveDeadline => Sys2Proof.Machine.execReceiveDeadline s
  | .laneLock lane gain peak taps => Sys2Proof.Machine.execLaneLock lane gain peak taps s
  | .laneUp lane => Sys2Proof.Machine.execLaneUp lane s
  | .laneLockLoss lane => Sys2Proof.Machine.execLaneLockLoss lane s
  | .adaptFreeze lane ctle taps units => Sys2Proof.Machine.execAdaptFreeze lane ctle taps units s
  | .runEnd lane gain peak taps => Sys2Proof.Machine.execRunEnd lane gain peak taps s
  | .retrainEnd lane gain peak taps => Sys2Proof.Machine.execRetrainEnd lane gain peak taps s
  | .laneEidleEnter lane gain peak taps => Sys2Proof.Machine.execLaneEidleEnter lane gain peak taps s
  | .laneSignalDetect lane => Sys2Proof.Machine.execLaneSignalDetect lane s
  | .fastExitLock lane gain peak taps => Sys2Proof.Machine.execFastExitLock lane gain peak taps s
  | .fastExitFail lane => Sys2Proof.Machine.execFastExitFail lane s
  | .elasticError run => Sys2Proof.Machine.execElasticError run s
  | .txfirWrite lane value => Sys2Proof.Machine.execTxfirWrite lane value s
  | .txrefWrite lane value => Sys2Proof.Machine.execTxrefWrite lane value s
  | .laneEnWrite lane value => Sys2Proof.Machine.execLaneEnWrite lane value s
  | .loopbackStart lane value => Sys2Proof.Machine.execLoopbackStart lane value s
  | .loopbackEnd lane => Sys2Proof.Machine.execLoopbackEnd lane s
  | .eyeScanGo lane value => Sys2Proof.Machine.execEyeScanGo lane value s
  | .eyePointDone lane errors => Sys2Proof.Machine.execEyePointDone lane errors s
  | .tbEnWrite tb value => Sys2Proof.Machine.execTbEnWrite tb value s
  | .ptpSyncReceive tb msg servo => Sys2Proof.Machine.execPtpSyncReceive tb msg servo s
  | .ptpDelayRespReceive tb => Sys2Proof.Machine.execPtpDelayRespReceive tb s
  | .ptpAnnounceReceive tb port sender gm prio1 cls accuracy prio2 variance trail => Sys2Proof.Machine.execPtpAnnounceReceive tb port sender gm prio1 cls accuracy prio2 variance trail s
  | .ptpReceiptTimeout tb => Sys2Proof.Machine.execPtpReceiptTimeout tb s
  | .tbSet tb => Sys2Proof.Machine.execTbSet tb s
  | .tbRestep tb => Sys2Proof.Machine.execTbRestep tb s
  | .tbHold tb => Sys2Proof.Machine.execTbHold tb s
  | .tbRelease tb => Sys2Proof.Machine.execTbRelease tb s
  | .mediaselApply => Sys2Proof.Machine.execMediaselApply s
  | .mediaRestepPrepared => Sys2Proof.Machine.execMediaRestepPrepared s
  | .restepNostepTimeout => Sys2Proof.Machine.execRestepNostepTimeout s
  | .dpllUpdate err dphi freq => Sys2Proof.Machine.execDpllUpdate err dphi freq s
  | .refLoss input => Sys2Proof.Machine.execRefLoss input s
  | .refLossClear input offset => Sys2Proof.Machine.execRefLossClear input offset s
  | .rateWindow input count => Sys2Proof.Machine.execRateWindow input count s
  | .refOffsetUpdate input offset => Sys2Proof.Machine.execRefOffsetUpdate input offset s
  | .wtrExpire input => Sys2Proof.Machine.execWtrExpire input s
  | .histokSet => Sys2Proof.Machine.execHistokSet s
  | .esmcReceive port ssm => Sys2Proof.Machine.execEsmcReceive port ssm s
  | .esmcTimeout port => Sys2Proof.Machine.execEsmcTimeout port s
  | .esmcInfoSend port => Sys2Proof.Machine.execEsmcInfoSend port s
  | .esmcEventSend port => Sys2Proof.Machine.execEsmcEventSend port s
  | .phstepApply => Sys2Proof.Machine.execPhstepApply s
  | .xoLoss => Sys2Proof.Machine.execXoLoss s
  | .xoRestore => Sys2Proof.Machine.execXoRestore s
  | .portCaston port => Sys2Proof.Machine.execPortCaston port s
  | .portBindoff port => Sys2Proof.Machine.execPortBindoff port s
  | .portCommit port => Sys2Proof.Machine.execPortCommit port s
  | .groupStart group => Sys2Proof.Machine.execGroupStart group s
  | .groupStop group => Sys2Proof.Machine.execGroupStop group s
  | .groupCommit group => Sys2Proof.Machine.execGroupCommit group s
  | .startPinEdge => Sys2Proof.Machine.execStartPinEdge s
  | .portStart port => Sys2Proof.Machine.execPortStart port s
  | .preclkEnd port => Sys2Proof.Machine.execPreclkEnd port s
  | .postclkEnd port => Sys2Proof.Machine.execPostclkEnd port s
  | .zcTimeout port => Sys2Proof.Machine.execZcTimeout port s
  | .localFrameReceive port ns clocks good hz a b => Sys2Proof.Machine.execLocalFrameReceive port ns clocks good hz a b s
  | .portNoclkTimeout port => Sys2Proof.Machine.execPortNoclkTimeout port s
  | .portAutoRearm port => Sys2Proof.Machine.execPortAutoRearm port s
  | .localFrameSend port => Sys2Proof.Machine.execLocalFrameSend port s
  | .xfeedFrameReceive bytes => Sys2Proof.Machine.execXfeedFrameReceive bytes s
  | .xfeedClockLoss => Sys2Proof.Machine.execXfeedClockLoss s
  | .ampRowSelect rails sense => Sys2Proof.Machine.execAmpRowSelect rails sense s
  | .boostShortfall rail draw => Sys2Proof.Machine.execBoostShortfall rail draw s
  | .busLow => Sys2Proof.Machine.execBusLow s
  | .busLowRecover => Sys2Proof.Machine.execBusLowRecover s
  | .railOvervoltage => Sys2Proof.Machine.execRailOvervoltage s
  | .overTemperature => Sys2Proof.Machine.execOverTemperature s
  | .protectionRecover temperature => Sys2Proof.Machine.execProtectionRecover temperature s
  | .bootstrapUndervoltage channel us => Sys2Proof.Machine.execBootstrapUndervoltage channel us s
  | .currentLimit channel fresh us => Sys2Proof.Machine.execCurrentLimit channel fresh us s
  | .tripRetry channel => Sys2Proof.Machine.execTripRetry channel s
  | .retryGainStep channel => Sys2Proof.Machine.execRetryGainStep channel s
  | .chEnable channel => Sys2Proof.Machine.execChEnable channel s
  | .chDisable channel => Sys2Proof.Machine.execChDisable channel s
  | .chClear channel => Sys2Proof.Machine.execChClear channel s
  | .prechgEnd channel => Sys2Proof.Machine.execPrechgEnd channel s
  | .channelRampEnd channel => Sys2Proof.Machine.execChannelRampEnd channel s
  | .impedanceWindow channel mv ma => Sys2Proof.Machine.execImpedanceWindow channel mv ma s
  | .lookaheadWrite value => Sys2Proof.Machine.execLookaheadWrite value s
  | .tunnelAccess write addr value => Sys2Proof.Machine.execTunnelAccess write addr value s
  | .tunnelTimeout tag => Sys2Proof.Machine.execTunnelTimeout tag s
  | .badHostAccess w2 write offset => Sys2Proof.Machine.execBadHostAccess w2 write offset s
  | .doorbellReadComplete data => Sys2Proof.Machine.execDoorbellReadComplete data s
  | .ringEnable ring value => Sys2Proof.Machine.execRingEnable ring value s
  | .ringReset ring => Sys2Proof.Machine.execRingReset ring s
  | .ringResetDone ring => Sys2Proof.Machine.execRingResetDone ring s
  | .cmdNop ring => Sys2Proof.Machine.execCmdNop ring s
  | .loadProg ring => Sys2Proof.Machine.execLoadProg ring s
  | .loadCoef ring => Sys2Proof.Machine.execLoadCoef ring s
  | .loadMap ring => Sys2Proof.Machine.execLoadMap ring s
  | .loadMtx ring => Sys2Proof.Machine.execLoadMtx ring s
  | .shmemWrite ring => Sys2Proof.Machine.execShmemWrite ring s
  | .shmemRead ring => Sys2Proof.Machine.execShmemRead ring s
  | .fwConfigSyncInterval ring => Sys2Proof.Machine.execFwConfigSyncInterval ring s
  | .fwConfigAnnounceInterval ring => Sys2Proof.Machine.execFwConfigAnnounceInterval ring s
  | .fwConfigAnnounceTimeout ring => Sys2Proof.Machine.execFwConfigAnnounceTimeout ring s
  | .fwConfigMetadataTlv ring => Sys2Proof.Machine.execFwConfigMetadataTlv ring s
  | .fwConfigLldpInterval ring => Sys2Proof.Machine.execFwConfigLldpInterval ring s
  | .fwConfigEsmc ring => Sys2Proof.Machine.execFwConfigEsmc ring s
  | .resume ring => Sys2Proof.Machine.execResume ring s
  | .resumeAbort ring => Sys2Proof.Machine.execResumeAbort ring s
  | .imageLoadRun ring => Sys2Proof.Machine.execImageLoadRun ring s
  | .imageLoadSlot ring => Sys2Proof.Machine.execImageLoadSlot ring s
  | .slotProgramDone ring ok => Sys2Proof.Machine.execSlotProgramDone ring ok s
  | .txFrame ring => Sys2Proof.Machine.execTxFrame ring s
  | .rxBuf ring => Sys2Proof.Machine.execRxBuf ring s
  | .rtPlayBlock ring => Sys2Proof.Machine.execRtPlayBlock ring s
  | .rtRecBlock ring => Sys2Proof.Machine.execRtRecBlock ring s
  | .rtPlayBlockDone ring => Sys2Proof.Machine.execRtPlayBlockDone ring s
  | .rtRecBlockWrite ring => Sys2Proof.Machine.execRtRecBlockWrite ring s
  | .dmaTransferDone ring => Sys2Proof.Machine.execDmaTransferDone ring s
  | .coalesceTimeout ring => Sys2Proof.Machine.execCoalesceTimeout ring s
  | .hostReadCompletion id ok data => Sys2Proof.Machine.execHostReadCompletion id ok data s
  | .readCompletionTimeout id => Sys2Proof.Machine.execReadCompletionTimeout id s
  | .tlbInvalidate value => Sys2Proof.Machine.execTlbInvalidate value s
  | .invalidateDone => Sys2Proof.Machine.execInvalidateDone s
  | .eventDeliveryPass => Sys2Proof.Machine.execEventDeliveryPass s
  | .eventRaise value => Sys2Proof.Machine.execEventRaise value s
  | .mailboxWrite box value => Sys2Proof.Machine.execMailboxWrite box value s
  | .mailboxRead box => Sys2Proof.Machine.execMailboxRead box s
  | .firmwareMailboxAccess box write => Sys2Proof.Machine.execFirmwareMailboxAccess box write s
  | .twsendWrite index value => Sys2Proof.Machine.execTwsendWrite index value s
  | .twsendTimeout index => Sys2Proof.Machine.execTwsendTimeout index s
  | .twinEnWrite value => Sys2Proof.Machine.execTwinEnWrite value s
  | .join value => Sys2Proof.Machine.execJoin value s
  | .helloSend => Sys2Proof.Machine.execHelloSend s
  | .hello bytes => Sys2Proof.Machine.execHello bytes s
  | .twinHeartbeatSend ns => Sys2Proof.Machine.execTwinHeartbeatSend ns s
  | .heartbeat bytes ns => Sys2Proof.Machine.execHeartbeat bytes ns s
  | .heartbeatLoss => Sys2Proof.Machine.execHeartbeatLoss s
  | .linkDownTimeout => Sys2Proof.Machine.execLinkDownTimeout s
  | .settleEnd => Sys2Proof.Machine.execSettleEnd s
  | .digestSend => Sys2Proof.Machine.execDigestSend s
  | .digest bytes => Sys2Proof.Machine.execDigest bytes s
  | .mirror bytes => Sys2Proof.Machine.execMirror bytes s
  | .mirrorRetry seq => Sys2Proof.Machine.execMirrorRetry seq s
  | .ack bytes => Sys2Proof.Machine.execAck bytes s
  | .mbx bytes => Sys2Proof.Machine.execMbx bytes s
  | .mbxAck bytes => Sys2Proof.Machine.execMbxAck bytes s
  | .pingSend => Sys2Proof.Machine.execPingSend s
  | .ping bytes => Sys2Proof.Machine.execPing bytes s
  | .pong bytes => Sys2Proof.Machine.execPong bytes s
  | .pingMeasureEnd => Sys2Proof.Machine.execPingMeasureEnd s
  | .refereeHeartbeatSend => Sys2Proof.Machine.execRefereeHeartbeatSend s
  | .refereeHeartbeatReceive payload => Sys2Proof.Machine.execRefereeHeartbeatReceive payload s
  | .grant payload => Sys2Proof.Machine.execGrant payload s
  | .grantApply => Sys2Proof.Machine.execGrantApply s
  | .prstOutEnd => Sys2Proof.Machine.execPrstOutEnd s
  | .prstInAssert => Sys2Proof.Machine.execPrstInAssert s
  | .prstInRelease => Sys2Proof.Machine.execPrstInRelease s
  | .powerOn => Sys2Proof.Machine.execPowerOn s
  | .vbusUndervoltage => Sys2Proof.Machine.execVbusUndervoltage s
  | .vbusOvervoltage => Sys2Proof.Machine.execVbusOvervoltage s
  | .vbusOvervoltageClear => Sys2Proof.Machine.execVbusOvervoltageClear s
  | .powerFailWarning => Sys2Proof.Machine.execPowerFailWarning s
  | .powerFailWarningClear => Sys2Proof.Machine.execPowerFailWarningClear s
  | .sagAssert level slope vbus ns => Sys2Proof.Machine.execSagAssert level slope vbus ns s
  | .sagDeassert => Sys2Proof.Machine.execSagDeassert s
  | .railFault rail cause ms => Sys2Proof.Machine.execRailFault rail cause ms s
  | .railRestartDone => Sys2Proof.Machine.execRailRestartDone s
  | .reqActive => Sys2Proof.Machine.execReqActive s
  | .reqIdle => Sys2Proof.Machine.execReqIdle s
  | .reqStandby => Sys2Proof.Machine.execReqStandby s
  | .standbyEntryDone => Sys2Proof.Machine.execStandbyEntryDone s
  | .wakeGo value => Sys2Proof.Machine.execWakeGo value s
  | .wakein => Sys2Proof.Machine.execWakein s
  | .wakeFrame port bytes => Sys2Proof.Machine.execWakeFrame port bytes s
  | .alarm => Sys2Proof.Machine.execAlarm s
  | .wakeDone ok => Sys2Proof.Machine.execWakeDone ok s
  | .resetRelease strap gen width hdrA hdrB => Sys2Proof.Machine.execResetRelease strap gen width hdrA hdrB s
  | .rstCtlGo value => Sys2Proof.Machine.execRstCtlGo value s
  | .perstAssert => Sys2Proof.Machine.execPerstAssert s
  | .perstDeassert => Sys2Proof.Machine.execPerstDeassert s
  | .functionLevelReset => Sys2Proof.Machine.execFunctionLevelReset s
  | .wdog => Sys2Proof.Machine.execWdog s
  | .bootEarly image => Sys2Proof.Machine.execBootEarly image s
  | .bootRunning => Sys2Proof.Machine.execBootRunning s
  | .bootDone => Sys2Proof.Machine.execBootDone s
  | .bootTrialTimeout => Sys2Proof.Machine.execBootTrialTimeout s
  | .trialConfirm => Sys2Proof.Machine.execTrialConfirm s
  | .seqWrite => Sys2Proof.Machine.execSeqWrite s
  | .seqWaitrows => Sys2Proof.Machine.execSeqWaitrows s
  | .seqWaitfield timeout => Sys2Proof.Machine.execSeqWaitfield timeout s
  | .seqTparam => Sys2Proof.Machine.execSeqTparam s
  | .recoveryPoll => Sys2Proof.Machine.execRecoveryPoll s
  | .fuseProgramKey0 => Sys2Proof.Machine.execFuseProgramKey0 s
  | .fuseProgramKey1 => Sys2Proof.Machine.execFuseProgramKey1 s
  | .fuseRevokeKey0 => Sys2Proof.Machine.execFuseRevokeKey0 s
  | .fuseRaiseCount => Sys2Proof.Machine.execFuseRaiseCount s
  | .fuseOpDone => Sys2Proof.Machine.execFuseOpDone s
  | .jtagInstruction instr => Sys2Proof.Machine.execJtagInstruction instr s
  | .loopCalibrationRequest value => Sys2Proof.Machine.execLoopCalibrationRequest value s
  | .loopCalibrationDone gain offset => Sys2Proof.Machine.execLoopCalibrationDone gain offset s
  | .memoryMarchRequest value => Sys2Proof.Machine.execMemoryMarchRequest value s
  | .memoryMarchStart => Sys2Proof.Machine.execMemoryMarchStart s
  | .memoryMarchDone fail => Sys2Proof.Machine.execMemoryMarchDone fail s
  | .coreTestPeriod group => Sys2Proof.Machine.execCoreTestPeriod group s
  | .coreTestDone group pass => Sys2Proof.Machine.execCoreTestDone group pass s
  | .eyeScanPeriod lane width height aborted => Sys2Proof.Machine.execEyeScanPeriod lane width height aborted s
  | .senseTrim => Sys2Proof.Machine.execSenseTrim s
  | .agingMeasure degr => Sys2Proof.Machine.execAgingMeasure degr s
  | .lifeSample temp => Sys2Proof.Machine.execLifeSample temp s
  | .lifeSave => Sys2Proof.Machine.execLifeSave s
  | .illegalInstruction core word => Sys2Proof.Machine.execIllegalInstruction core word s
  | .referenceEdge input ps => Sys2Proof.Machine.execReferenceEdge input ps s
  | .ptpMessageSend tb port kind => Sys2Proof.Machine.execPtpMessageSend tb port kind s
  | .ptpDelayReqReceive tb port msg => Sys2Proof.Machine.execPtpDelayReqReceive tb port msg s
  | .lldpSend port => Sys2Proof.Machine.execLldpSend port s
  | .senseTrimDone gain offset => Sys2Proof.Machine.execSenseTrimDone gain offset s

end Sys2Proof.Machine
end

