-- ==== Sys2Proof/Safety.lean ====
section
/-! DEFINITION. The terms that the statements use: when a command completes, when a core issues, and the canonical form of
the state's tables. -/

namespace Sys2Proof.Machine

/-- A command completes with effect `Q`: the block answers a next state, and that state satisfies `Q`. -/
def Completes (i : Instr) (s : State) (Q : State → Prop) : Prop := ∃ t, exec i s = .next t ∧ Q t

/-- A core issues the instructions given to it: it runs a row program or a handler, does not stall, and its PC is in program
memory (R86, R90, R108). -/
abbrev State.runs (s : State) (c : Nat) : Prop :=
  ((s.core c).state = .row ∨ (s.core c).state = .handler) ∧ (s.core c).xwait = 0 ∧ (s.core c).bank.pc < 0x2000

/-- A control transfer may stand here: no delay slot is open and no running loop ends within two words (R111, R114). -/
abbrev State.mayTransfer (s : State) (c : Nat) : Prop :=
  (s.core c).slots = 0 ∧ loopEndNear (s.core c).bank = false

/-- The results `ws` of an instruction of core `c`, each with its latency, join the results in flight for the running bank,
and the core goes on; every other part of the block is as before. -/
def State.fly (s : State) (c : Nat) (ws : List (Nat × Write)) : State :=
  (s.setCore c { s.core c with
    flights := (s.core c).flights ++ ws.map (fun p => ⟨p.1, (s.core c).inBank1, p.2⟩) }).afterIssue
      c (s.core c).inBank1 .seq 0

/-- `t` is `s` after core `c` alone went on with the results `ws` in flight. -/
abbrev State.flew (s t : State) (c : Nat) (ws : List (Nat × Write)) : Prop :=
  t = { s with cores := t.cores } ∧ (∀ d, d ≠ c → t.core d = s.core d) ∧ t.core c = (s.fly c ws).core c

/-- `k'` is `k` but for its working RAM and the note of its last store (R71). -/
def Core.sameButRam (k k' : Core) : Prop := k' = { k with ram := k'.ram, stored := k'.stored }

/-- The pointer update of a memory access: none, post-increment by the offset, or by a modifier register (R105). -/
def ptrUpdate (b : Bank) (pn mode ofs : Nat) : List (Nat × Write) :=
  if mode = 0 then []
  else [(1, .p pn (circ (bankP b pn) (if mode = 1 then (BitVec.ofNat 15 ofs).signExtend 32 else bankM b (ofs % 8))
    (bankB b pn) (bankL b pn)))]

/-- Record `r` is the first of the queue, due at the coming tick, and is none of the start-up sequence (R141, R142). -/
abbrev State.front (s : State) (r : TpRec) (q : List TpRec) : Prop :=
  s.row.tpq = r :: q ∧ s.tpDue r = true ∧ s.boot.seqTick = false

/-- The state with the record queue `q`. -/
def State.withQueue (s : State) (q : List TpRec) : State := s.setRow { s.row with tpq := q }

/-- Descriptor `d` is the head of ring `r` and it is its turn: the ring runs, no transfer is under way, it was fetched
without a fault, its tag is free and its opcode is one of the ring (R435, R437, R440). -/
abbrev State.headIs (s : State) (r : Nat) (d : Desc) : Prop :=
  (s.ring r).fetched.head? = some d ∧ s.ringState r = 1 ∧ (s.ring r).active = none ∧ d.dup = false ∧ d.lost = none ∧
    s.opTaken r d.op = true

/-- The bytes are a good twin-link frame of type `want` with SEQ `q`, new to the history, and payload `p`, at a unit that is
on and has a usable lane (R509, R510). -/
abbrev State.twinNew (s : State) (want : Nat) (b : List Byte) (q : Word) (p : List Byte) : Prop :=
  s.twinUsable = true ∧ s.twinState ≠ 0 ∧ twinParse b = some (want, q, p) ∧ payloadFits want p.length p = true ∧
    seqNew s.twn.history q = true

/-- The state with SEQ `q` in the history (R510). -/
def State.noted (s : State) (q : Word) : State := s.setTwn { s.twn with history := (q :: s.twn.history).take 64 }

/-- The fields of a register lie inside the word and do not overlap. -/
abbrev FieldsOk (fs : List FieldDesc) : Prop :=
  (∀ f ∈ fs, f.lsb ≤ f.msb ∧ f.msb ≤ 31) ∧ fs.Pairwise (fun f g => f.msb < g.lsb ∨ g.msb < f.lsb)

/-- The canonical form of the state's tables: the registers, the counters, the cores, the shared memory, and the data memory
of every core. -/
structure State.Inv (s : State) : Prop where
  regs : Table.wf resetWord s.regs = true
  live : Table.wf (fun _ => 0) s.live = true
  cores : Table.wf (fun _ => coreReset) s.cores = true
  shared : Memory.wf s.fab.shared = true
  ram : ∀ c, Memory.wf (s.core c).ram = true

/-- FLAGS[3:0] of a result: V, C, N, Z from bit 3 down (R101). -/
def condFlags (r : Word) (c v : Bool) : BitVec 4 :=
  BitVec.ofNat 4 (8 * v.toNat + 4 * c.toNat + 2 * r.msb.toNat + (decide (r = 0)).toNat)

end Sys2Proof.Machine
end

