-- ==== Sys2Proof/Certificates/Slice0/Obligations.lean ====
section
/-! DEFINITION. The statements for the provers. -/

open Sys2Proof Sys2Proof.Machine

/-- R101: every scalar instruction, its result and its flags, with carry and signed overflow stated on numbers. -/
def Obligations.ScalarResults : Prop :=
  ∀ (c : Fin 128) (sd sa sb : BitVec 4) (f : Bool) (imm : BitVec 16) (s : State), s.runs c →
    let a := bankS (s.core c).bank sa.toNat
    let b := bankS (s.core c).bank sb.toNat
    let n := b.toNat % 32
    let i : Word := imm.signExtend 32
    let z : Word := imm.setWidth 32
    let out (r : Word) (cy ov : Bool) : Answer :=
      .next (s.fly c ((1, .s sd.toNat r) :: (if f then [(1, .nzcv (condFlags r cy ov))] else [])))
    exec (.add c sd sa sb f) s = out (a + b) (decide (2 ^ 32 ≤ a.toNat + b.toNat)) (BitVec.saddOverflow a b) ∧
    exec (.sub c sd sa sb f) s = out (a - b) (decide (b.toNat ≤ a.toNat)) (BitVec.ssubOverflow a b) ∧
    exec (.and c sd sa sb f) s = out (a &&& b) false false ∧
    exec (.or c sd sa sb f) s = out (a ||| b) false false ∧
    exec (.xor c sd sa sb f) s = out (a ^^^ b) false false ∧
    exec (.shl c sd sa sb f) s = out (a <<< n) (decide (n ≠ 0) && a.getLsbD (32 - n)) false ∧
    exec (.shra c sd sa sb f) s = out (BitVec.ofInt 32 (a.toInt / 2 ^ n)) (decide (n ≠ 0) && a.getLsbD (n - 1)) false ∧
    exec (.shrl c sd sa sb f) s = out (BitVec.ofNat 32 (a.toNat / 2 ^ n)) (decide (n ≠ 0) && a.getLsbD (n - 1)) false ∧
    exec (.mul c sd sa sb f) s = out (BitVec.ofNat 32 (a.toNat * b.toNat)) false false ∧
    exec (.min c sd sa sb f) s = out (BitVec.ofInt 32 (Min.min a.toInt b.toInt)) false false ∧
    exec (.max c sd sa sb f) s = out (BitVec.ofInt 32 (Max.max a.toInt b.toInt)) false false ∧
    exec (.cmp c sa sb) s =
      .next (s.fly c [(1, .nzcv (condFlags (a - b) (decide (b.toNat ≤ a.toNat)) (BitVec.ssubOverflow a b)))]) ∧
    exec (.addi c sd sa f imm) s = out (a + i) (decide (2 ^ 32 ≤ a.toNat + i.toNat)) (BitVec.saddOverflow a i) ∧
    exec (.andi c sd sa f imm) s = out (a &&& z) false false ∧
    exec (.ori c sd sa f imm) s = out (a ||| z) false false ∧
    exec (.xori c sd sa f imm) s = out (a ^^^ z) false false

/-- R98 to R100: the lane-wise instructions that touch no flag. -/
def Obligations.VectorResults : Prop :=
  ∀ (c : Fin 128) (dd da db n : BitVec 5) (l : BitVec 3) (sn : BitVec 4) (s : State), s.runs c →
    let k := (s.core c).bank
    let a (i : Fin 8) : Word := vLane (bankD k da.toNat) i
    let b (i : Fin 8) : Word := vLane (bankD k db.toNat) i
    let old (i : Fin 8) : Word := vLane (bankD k dd.toNat) i
    let out (f : Fin 8 → Word) : Answer := .next (s.fly c [(2, .d dd.toNat (vOf f))])
    let ones (p : Bool) : Word := if p then 0xFFFFFFFF else 0
    exec (.vaddw c dd da db) s = out (fun i => a i + b i) ∧
    exec (.vsubw c dd da db) s = out (fun i => a i - b i) ∧
    exec (.vand c dd da db) s = out (fun i => a i &&& b i) ∧
    exec (.vor c dd da db) s = out (fun i => a i ||| b i) ∧
    exec (.vxor c dd da db) s = out (fun i => a i ^^^ b i) ∧
    exec (.vandn c dd da db) s = out (fun i => a i &&& ~~~(b i)) ∧
    exec (.vshl c dd da n) s = out (fun i => a i <<< n.toNat) ∧
    exec (.vshra c dd da n) s = out (fun i => (a i).sshiftRight n.toNat) ∧
    exec (.vshrl c dd da n) s = out (fun i => a i >>> n.toNat) ∧
    exec (.vmax c dd da db) s = out (fun i => if (a i).toInt < (b i).toInt then b i else a i) ∧
    exec (.vmin c dd da db) s = out (fun i => if (b i).toInt < (a i).toInt then b i else a i) ∧
    exec (.vcmpeq c dd da db) s = out (fun i => ones (a i == b i)) ∧
    exec (.vcmplt c dd da db) s = out (fun i => ones (decide ((a i).toInt < (b i).toInt))) ∧
    exec (.vcmple c dd da db) s = out (fun i => ones (decide ((a i).toInt ≤ (b i).toInt))) ∧
    exec (.vcmpltu c dd da db) s = out (fun i => ones (decide ((a i).toNat < (b i).toNat))) ∧
    exec (.vsel c dd da db) s = out (fun i => if (old i).msb then a i else b i) ∧
    exec (.vperm c dd da db) s = out (fun i => a ⟨(b i).toNat % 8, Nat.mod_lt _ (by decide)⟩) ∧
    exec (.vbc c dd da l) s = out (fun _ => a l.toFin) ∧
    exec (.vsplat c dd sn) s = out (fun _ => bankS k sn.toNat) ∧
    exec (.vput c dd l sn) s = out (fun i => if i = l.toFin then bankS k sn.toNat else old i) ∧
    exec (.vget c sn dd l) s = .next (s.fly c [(2, .s sn.toNat (old l.toFin))])

/-- R58, R60, R97, R98: Q1.31 results with the rounding and overflow modes of CMODE. -/
def Obligations.SaturatingResults : Prop :=
  ∀ (c : Fin 128) (dd da db n : BitVec 5) (l src : BitVec 3) (sc : BitVec 4) (clr : Bool) (s : State), s.runs c →
    let k := s.core c
    let a (i : Fin 8) : Word := vLane (bankD k.bank da.toNat) i
    let b (i : Fin 8) : Word := vLane (bankD k.bank db.toNat) i
    let x (i : Fin 8) : Int := (vLane (bankA k.bank src.toNat) i).toInt
    let cm := k.bank.cmode
    let into (lat : Nat) (f : Fin 8 → Word × Bool) : State :=
      (s.setCore c (k.push lat k.inBank1 (.d dd.toNat (vOf (fun i => (f i).1))))).stickySet c lat k.inBank1
        (if (vList (vOf f)).any Prod.snd then flagSAT else 0)
    let out (lat : Nat) (f : Fin 8 → Word × Bool) : Answer := .next ((into lat f).afterIssue c k.inBank1 .seq 0)
    exec (.vadd c dd da db) s = out 2 (fun i => qsat (cmSatm cm) ((a i).toInt + (b i).toInt)) ∧
    exec (.vsub c dd da db) s = out 2 (fun i => qsat (cmSatm cm) ((a i).toInt - (b i).toInt)) ∧
    exec (.vshls c dd da n) s = out 2 (fun i => qsat (cmSatm cm) ((a i).toInt * 2 ^ n.toNat)) ∧
    exec (.vabs c dd da) s = out 2 (fun i => qsat (cmSatm cm) (if (a i).toInt < 0 then -(a i).toInt else (a i).toInt)) ∧
    exec (.vneg c dd da) s = out 2 (fun i => qsat (cmSatm cm) (-(a i).toInt)) ∧
    exec (.vmul c dd da db) s = out 3 (fun i => extract cm 0 (2 * ((a i).toInt * (b i).toInt))) ∧
    exec (.vmulB c dd da db l) s = out 3 (fun i => extract cm 0 (2 * ((a i).toInt * (b l.toFin).toInt))) ∧
    (sc.toNat ≤ 8 → exec (.ext c dd src sc clr) s =
      if clr then
        .next ((into 3 (fun i => extract cm sc.toNat (x i))).fly c [(3, .a src.toNat zeroA true)])
      else out 3 (fun i => extract cm sc.toNat (x i)))

/-- R57, R93, R96: the accumulator instructions. -/
def Obligations.Accumulations : Prop :=
  ∀ (c : Fin 128) (ad src l : BitVec 3) (da db : BitVec 5) (bc z : Bool) (s : State), s.runs c →
    let k := s.core c
    let a (i : Fin 8) : Int := (vLane (bankD k.bank da.toNat) i).toInt
    let b (i : Fin 8) : Int := (vLane (bankD k.bank db.toNat) (if bc then l.toFin else i)).toInt
    let from0 (z : Bool) (i : Fin 8) : Int := if z then 0 else (vLane (k.accView k.inBank1 ad.toNat) i).toInt
    let sum (z : Bool) (x : Fin 8 → Int) : Answer :=
      .next (((s.setCore c (k.push 3 k.inBank1 (.a ad.toNat (vOf (fun i => (sat72 (from0 z i + x i)).1)) true))).stickySet c 3
        k.inBank1 (if (vList (vOf (fun i => sat72 (from0 z i + x i)))).any Prod.snd then flagAOV else 0)).afterIssue
          c k.inBank1 .seq 0)
    ((bc = true ∨ l = 0) → exec (.mac c ad da db bc l z) s = sum z (fun i => 2 * (a i * b i))) ∧
    ((bc = true ∨ l = 0) → exec (.msu c ad da db bc l z) s = sum z (fun i => -(2 * (a i * b i)))) ∧
    exec (.aadd c ad da) s = sum false (fun i => a i * 2 ^ 32) ∧
    exec (.asub c ad da) s = sum false (fun i => -(a i * 2 ^ 32)) ∧
    exec (.amov c ad src) s = .next (s.fly c [(3, .a ad.toNat (bankA k.bank src.toNat) false)]) ∧
    (let v := bankA k.bank src.toNat
     let r := sat72 (v.l0.toInt + v.l1.toInt + v.l2.toInt + v.l3.toInt + v.l4.toInt + v.l5.toInt + v.l6.toInt + v.l7.toInt)
     exec (.ahsum c ad src) s =
      .next (((s.setCore c (k.push 3 k.inBank1 (.a ad.toNat ⟨r.1, 0, 0, 0, 0, 0, 0, 0⟩ false))).stickySet c 3 k.inBank1
        (if r.2 then flagAOV else 0)).afterIssue c k.inBank1 .seq 0))

/-- R94, R95, R649: the filter tap. -/
def Obligations.TapStep : Prop :=
  ∀ (c : Fin 128) (ad : BitVec 3) (pn pc : BitVec 4) (ddir cv cdir neg z : Bool) (s : State), s.runs c → pn ≠ pc →
    let k := s.core c
    let b := k.bank
    let xa := (circ (bankP b pn.toNat) 0 (bankB b pn.toNat) (bankL b pn.toNat)).toNat
    let ca := (bankP b pc.toNat).toNat
    let size := if cv then 32 else 4
    let sampleOk := regionOf xa = .ram ∨ regionOf xa = .inport ∨ regionOf xa = .outport
    let run := exec (.tap c ad pn pc ddir cv cdir neg z) s
    (sampleOk → regionOf ca = .coef → xa % 32 = 0 → ca % size = 0 →
      let x (i : Fin 8) : Int := (s.coreLoad c (xa + 4 * i.val)).toInt
      let h (i : Fin 8) : Int := (s.coreLoad c (if cv then ca + 4 * i.val else ca)).toInt
      let p (i : Fin 8) : Int := if neg then -(2 * (x i * h i)) else 2 * (x i * h i)
      let base (i : Fin 8) : Int := if z then 0 else (vLane (k.accView k.inBank1 ad.toNat) i).toInt
      let acc := (s.setCore c (k.push 3 k.inBank1 (.a ad.toNat (vOf (fun i => (sat72 (base i + p i)).1)) true))).stickySet c 3
        k.inBank1 (if (vList (vOf (fun i => sat72 (base i + p i)))).any Prod.snd then flagAOV else 0)
      ∃ t, run = .next t ∧ acc.flew t c
        [(1, .p pn.toNat (circ (bankP b pn.toNat) (if ddir then 32 else -32) (bankB b pn.toNat) (bankL b pn.toNat))),
         (1, .p pc.toNat (circ (bankP b pc.toNat) (if cdir then -(BitVec.ofNat 32 size) else BitVec.ofNat 32 size)
           (bankB b pc.toNat) (bankL b pc.toNat)))]) ∧
    (¬ sampleOk → run = .next (s.coreFault c 2 xa b.pc k.inBank1)) ∧
    (sampleOk → regionOf ca ≠ .coef → run = .next (s.coreFault c 2 ca b.pc k.inBank1)) ∧
    (sampleOk → regionOf ca = .coef → xa % 32 ≠ 0 → run = .next (s.coreFault c 3 xa b.pc k.inBank1)) ∧
    (sampleOk → regionOf ca = .coef → xa % 32 = 0 → ca % size ≠ 0 → run = .next (s.coreFault c 3 ca b.pc k.inBank1))

/-- R102 to R104, R115, R116: the moves. -/
def Obligations.Moves : Prop :=
  ∀ (c : Fin 128) (cl : BitVec 3) (n dn sn : BitVec 5) (hi sx e dir : Bool) (imm : BitVec 16) (p : BitVec 4) (idx : BitVec 8)
    (s : State), s.runs c →
    let k := s.core c
    let b := k.bank
    let ptr := circ (bankP b p.toNat) (imm.signExtend 32) (bankB b p.toNat) (bankL b p.toNat)
    exec (.nop c) s = .next (s.fly c []) ∧
    exec (.gie c e) s = .next (s.fly c [(1, .ctrl 0x0B (if e then 1 else 0))]) ∧
    exec (.padd c p imm) s = .next (s.fly c [(1, .p p.toNat ptr)]) ∧
    (∀ m : Nat, m ≤ 4 → cl.toNat = m → classNumOk m n.toNat = true → (hi && sx) = false →
      exec (.setr c cl n hi sx imm) s = .next (s.fly c [(1, classWrite m n.toNat
        (if hi then imm ++ (bankWord b m n.toNat).setWidth 16 else if sx then imm.signExtend 32 else imm.setWidth 32))])) ∧
    (∀ dcl scl : BitVec 3, dcl.toNat ≤ 4 → scl.toNat ≤ 4 → moveOk dcl.toNat dn.toNat scl.toNat sn.toNat = true →
      exec (.movr c dcl dn scl sn) s = .next (s.fly c [(1, classWrite dcl.toNat dn.toNat (bankWord b scl.toNat sn.toNat))])) ∧
    exec (.movr c 5 dn 5 sn) s = .next (s.fly c [(2, .d dn.toNat (bankD b sn.toNat))]) ∧
    (dn.toNat < 8 → sn.toNat < 8 →
      exec (.movr c 6 dn 6 sn) s = .next (s.fly c [(3, .a dn.toNat (bankA b sn.toNat) false)])) ∧
    (k.state = .handler → ∀ dcl scl : BitVec 3, dcl.toNat ≤ 4 → scl.toNat ≤ 4 →
      moveOk dcl.toNat dn.toNat scl.toNat sn.toNat = true →
      exec (.xmov c dir dcl dn scl sn) s =
        .next ((s.setCore c (k.push 1 dir
          (classWrite dcl.toNat dn.toNat (bankWord (if dir then k.bank0 else k.bank1) scl.toNat sn.toNat)))).afterIssue c true .seq 0)) ∧
    (k.state = .handler →
      exec (.xmov c dir 5 dn 5 sn) s =
        .next ((s.setCore c (k.push 2 dir (.d dn.toNat (bankD (if dir then k.bank0 else k.bank1) sn.toNat)))).afterIssue
          c true .seq 0)) ∧
    (k.state = .handler → dn.toNat < 8 → sn.toNat < 8 →
      exec (.xmov c dir 6 dn 6 sn) s =
        .next ((s.setCore c (k.push 3 dir (.a dn.toNat (bankA (if dir then k.bank0 else k.bank1) sn.toNat) false))).afterIssue
          c true .seq 0)) ∧
    (k.state = .row → exec (.xmov c dir cl dn cl sn) s = .next (s.coreFault c 1 0 b.pc false)) ∧
    exec (.rdc c p idx) s = .next (s.fly c [(1, .s p.toNat (k.readCtrl c (s.watchedFull c) idx.toNat))]) ∧
    exec (.rdc c p 0x08) s = .next (s.fly c [(1, .s p.toNat (BitVec.ofNat 32 c))]) ∧
    exec (.rdc c p 0x09) s = .next (s.fly c [(1, .s p.toNat k.rowidx)]) ∧
    exec (.rdc c p 0x0A) s = .next (s.fly c [(1, .s p.toNat (BitVec.ofNat 32 k.cycle))]) ∧
    (0x10 < idx.toNat → exec (.rdc c p idx) s = .next (s.fly c [(1, .s p.toNat 0)])) ∧
    (¬ (idx = 0x03 ∧ (bankS b p.toNat).toNat % 4 = 3) →
      exec (.wrc c p idx) s = .next (s.fly c [(1, .ctrl idx.toNat (bankS b p.toNat))])) ∧
    ((bankS b p.toNat).toNat % 4 = 3 → exec (.wrc c p 0x03) s =
      .next (((s.setCore c (k.push 1 k.inBank1 (.ctrl 0x03 (bankS b p.toNat)))).raise 33 (0x80000000 + c)).afterIssue
        c k.inBank1 .seq 0))

/-- R105, R106, R649: memory instructions, with the address the instruction uses and every byte it leaves alone. -/
def Obligations.LoadsAndStores : Prop :=
  ∀ (c : Fin 128) (rg pn : BitVec 4) (rv : BitVec 5) (mode : BitVec 2) (ofs : BitVec 15) (s : State), s.runs c →
    modeOk mode ofs = true →
    let k := s.core c
    let b := k.bank
    let a := (circ (bankP b pn.toNat) (if mode = 0 then ofs.signExtend 32 else 0) (bankB b pn.toNat) (bankL b pn.toNat)).toNat
    let ptr := ptrUpdate b pn.toNat mode.toNat ofs.toNat
    (∀ cause, accessFault a false false = some cause →
      exec (.lds c rg pn mode ofs) s = .next (s.coreFault c cause a b.pc k.inBank1)) ∧
    (∀ cause, accessFault a true false = some cause →
      exec (.ldv c rv pn mode ofs) s = .next (s.coreFault c cause a b.pc k.inBank1)) ∧
    (∀ cause, accessFault a false true = some cause →
      exec (.sts c rg pn mode ofs) s = .next (s.coreFault c cause a b.pc k.inBank1)) ∧
    (∀ cause, accessFault a true true = some cause →
      exec (.stv c rv pn mode ofs) s = .next (s.coreFault c cause a b.pc k.inBank1)) ∧
    (accessFault a false false = none → regionOf a ≠ .mailbox → regionOf a ≠ .fullFlags →
      ∃ t, exec (.lds c rg pn mode ofs) s = .next t ∧ s.flew t c (ptr ++ [(3, .s rg.toNat (s.coreLoad c a))])) ∧
    (accessFault a true false = none →
      ∃ t, exec (.ldv c rv pn mode ofs) s = .next t ∧
        s.flew t c (ptr ++ [(3, .d rv.toNat (vOf (fun i => s.coreLoad c (a + 4 * i.val))))])) ∧
    (accessFault a false true = none → regionOf a = .ram →
      ∃ t, exec (.sts c rg pn mode ofs) s = .next t ∧ t = { s with cores := t.cores } ∧ (∀ d, d ≠ c.val → t.core d = s.core d) ∧
        ((s.fly c ptr).core c).sameButRam (t.core c) ∧
        memWord (t.core c).ram a = bankS b rg.toNat ∧
        (∀ x, (x < a ∨ a + 4 ≤ x) → memByte (t.core c).ram x = memByte k.ram x)) ∧
    (accessFault a true true = none → regionOf a = .ram →
      ∃ t, exec (.stv c rv pn mode ofs) s = .next t ∧ t = { s with cores := t.cores } ∧ (∀ d, d ≠ c.val → t.core d = s.core d) ∧
        ((s.fly c ptr).core c).sameButRam (t.core c) ∧
        (∀ i : Fin 8, memWord (t.core c).ram (a + 4 * i.val) = vLane (bankD b rv.toNat) i) ∧
        (∀ x, (x < a ∨ a + 32 ≤ x) → memByte (t.core c).ram x = memByte k.ram x)) ∧
    (accessFault a false false = none → regionOf a = .mailbox → (s.mbx ((a - 0x32000) / 4)).full = true →
      ∃ t, exec (.lds c rg pn mode ofs) s = .next t ∧ (t.mbx ((a - 0x32000) / 4)).full = false ∧
        t.free = s.free + 1 ∧ (t.core c).ram = k.ram) ∧
    (accessFault a false true = none → regionOf a = .mailbox → (s.mbx ((a - 0x32000) / 4)).full = false →
      ∃ t, exec (.sts c rg pn mode ofs) s = .next t ∧ t.mbx ((a - 0x32000) / 4) = ⟨bankS b rg.toNat, true⟩ ∧
        t.free = s.free + 1 ∧ (t.core c).ram = k.ram)

/-- R69, R71, R107, R108: transfer channels. -/
def Obligations.Transfers : Prop :=
  (∀ (c : Fin 128) (ch : BitVec 2) (dir : Bool) (pw px sn m : BitVec 4) (s : State), s.runs c →
    let k := s.core c
    let b := k.bank
    let w := (bankP b pw.toNat).toNat
    let x := (bankP b px.toNat).toNat
    let n := (bankS b sn.toNat).toNat
    let countOk := 64 ≤ n ∧ n ≤ 16384 ∧ n % 64 = 0
    let wOk := w % 64 = 0 ∧ w + n ≤ 0x1E000
    let xOk := x % 64 = 0 ∧ 0x10000000 ≤ x ∧ x + n ≤ 0x16000000
    let bit := bit4 ch.toNat
    let run := exec (.xfer c ch dir pw px sn) s
    (k.busy.getLsbD ch.toNat = true →
      run = .next ((s.setCore c { k with rej := k.rej ||| bit }).afterIssue c k.inBank1 .seq 0)) ∧
    (k.busy.getLsbD ch.toNat = false → countOk → wOk → xOk →
      run = .next ((s.setCore c { k with
        busy := k.busy ||| bit,
        xfers := k.xfers.set (fun _ => none) ch.toNat (some ⟨dir, w, x - 0x10000000, n, b.pc, k.inBank1, 0⟩) }).afterIssue
          c k.inBank1 .seq 0)) ∧
    (k.busy.getLsbD ch.toNat = false → ¬ (countOk ∧ wOk ∧ xOk) →
      run = .next ((s.setCore c { k with
        done := k.done ||| bit, err := k.err ||| bit, busy := k.busy &&& ~~~bit,
        xfPending := k.xfPending || decide (bit &&& ~~~k.done ≠ 0) }).coreFault c 5
          (if wOk ∧ ¬ xOk then x else w) b.pc k.inBank1)) ∧
    exec (.xwait c m) s =
      .next ((s.setCore c { k with xwait := if k.busy &&& m = 0 then 0 else m }).afterIssue c k.inBank1 .seq 0)) ∧
  (∀ (c : Fin 128) (ch : BitVec 2) (beats : Fin 257) (waited : Fin 65536) (s : State) (x : Xfer) (n : Nat),
    let k := s.core c
    let bit := bit4 ch.toNat
    let hi := min n (x.moved + beats.val)
    let moves (a : Nat) (base : Nat) : Prop := base + 64 * x.moved ≤ a ∧ a < base + 64 * hi
    let own (a : Nat) : Prop := ∃ p, k.justStored = some p ∧ p.1 ≤ a ∧ a < p.1 + p.2
    k.xfers.get (fun _ => none) ch.toNat = some x → x.count = 64 * n → x.moved ≤ n →
    (∀ i, x.moved ≤ i → i < hi → admits (s.ownerAt (x.shared + 64 * i)) (c.val / 8) false = true ∧
      hasPath (c.val / 8) ((x.shared + 64 * i) / 0x200000) = true) →
    ∃ t, exec (.transferDone c ch ⟨beats, waited⟩) s = .next t ∧
      (hi < n → t.core c = { k with ram := (t.core c).ram, xfers := k.xfers.set (fun _ => none) ch.toNat (some { x with moved := hi }) }) ∧
      (hi = n → k.xwait = 0 →
        (t.core c).busy = k.busy &&& ~~~bit ∧ (t.core c).done = k.done ||| bit ∧ (t.core c).err = k.err ∧
        (t.core c).xfers.get (fun _ => none) ch.toNat = none) ∧
      (hi = n → k.xwait ≠ 0 → k.busy &&& ~~~bit &&& k.xwait = 0 → (t.core c).xwait = 0) ∧
      t = { s with cores := t.cores, fab := { s.fab with shared := t.fab.shared } } ∧
      (∀ d, d ≠ c.val → t.core d = s.core d) ∧
      (x.toShared = true → (t.core c).ram = k.ram ∧
        ∀ a, (moves a x.shared → memByte t.fab.shared a = memByte k.ram (x.ram + (a - x.shared))) ∧
          (¬ moves a x.shared → memByte t.fab.shared a = memByte s.fab.shared a)) ∧
      (x.toShared = false → t.fab.shared = s.fab.shared ∧
        ∀ a, (moves a x.ram → ¬ own a → memByte (t.core c).ram a = memByte s.fab.shared (x.shared + (a - x.ram))) ∧
          (¬ moves a x.ram ∨ own a → memByte (t.core c).ram a = memByte k.ram a)))

/-- R109, R110, R112, R114: control transfers. -/
def Obligations.Branches : Prop :=
  ∀ (c : Fin 128) (cond sn : BitVec 4) (target : BitVec 13) (inner creg : Bool) (len : BitVec 10) (count : BitVec 14) (s : State),
    s.runs c →
    let k := s.core c
    let b := k.bank
    let reg := (bankS b sn.toNat).toNat % 0x2000
    let holds := condHolds cond b.flags k.shed
    let linked := s.setCore c (k.push 1 k.inBank1 (.ctrl 1 (BitVec.ofNat 32 (b.pc + 3))))
    let go (s : State) (t : Nat) : Answer := .next (s.afterIssue c k.inBank1 (.taken t) 0)
    let stay : Answer := .next (s.afterIssue c k.inBank1 .untaken 0)
    let illegal : Answer := .next (s.coreFault c 1 0 b.pc k.inBank1)
    let n : Word := if creg then bankS b count.toNat else count.setWidth 32
    let last := b.pc + 1 + len.toNat
    let set := s.setCore c ((k.push 1 k.inBank1 (.ctrl (if inner then 7 else 5) (laOf last (b.pc + 1)))).push 1 k.inBank1
      (.ctrl (if inner then 6 else 4) n))
    let fits := last ≤ 0x1FFF ∧ (creg = true → count.toNat < 16)
    (s.mayTransfer c → holds = true →
      exec (.b c cond target) s = go s target.toNat ∧
      exec (.call c cond target) s = go linked target.toNat ∧
      exec (.jr c cond sn) s = go s reg ∧
      exec (.callr c cond sn) s = go linked reg ∧
      exec (.ret c cond) s = go s b.link.toNat) ∧
    (s.mayTransfer c → holds = false →
      exec (.b c cond target) s = stay ∧ exec (.call c cond target) s = stay ∧ exec (.jr c cond sn) s = stay ∧
      exec (.callr c cond sn) s = stay ∧ exec (.ret c cond) s = stay) ∧
    (s.mayTransfer c → fits → exec (.loop c inner creg len count) s =
      if n = 0 then .next (set.afterIssue c k.inBank1 (.skip (last + 1)) 0) else .next (set.afterIssue c k.inBank1 .seq 0)) ∧
    (¬ fits → exec (.loop c inner creg len count) s = illegal) ∧
    (¬ s.mayTransfer c →
      exec (.b c cond target) s = illegal ∧ exec (.call c cond target) s = illegal ∧ exec (.jr c cond sn) s = illegal ∧
      exec (.callr c cond sn) s = illegal ∧ exec (.ret c cond) s = illegal ∧
      exec (.loop c inner creg len count) s = illegal)

/-- R77: delay slots, with NOPs in them. -/
def Obligations.DelaySlots : Prop :=
  ∀ (c : Fin 128) (cond sn : BitVec 4) (target : BitVec 13) (s : State), s.runs c → s.mayTransfer c →
    (s.core c).flights = [] → (s.core c).bank.lc0 = 0 → (s.core c).bank.lc1 = 0 → (s.core c).bank.pc + 2 < 0x2000 →
    condHolds cond (s.core c).bank.flags (s.core c).shed = true →
    ∀ (i : Instr) (dest : Nat),
      ((i = .b c cond target ∨ i = .call c cond target) ∧ dest = target.toNat) ∨
      ((i = .jr c cond sn ∨ i = .callr c cond sn) ∧ dest = (bankS (s.core c).bank sn.toNat).toNat % 0x2000) ∨
      (i = .ret c cond ∧ dest = (s.core c).bank.link.toNat) →
    ∃ t1 t2 t3, exec i s = .next t1 ∧ exec (.nop c) t1 = .next t2 ∧ exec (.nop c) t2 = .next t3 ∧
      (t1.core c).bank.pc = (s.core c).bank.pc + 1 ∧ (t2.core c).bank.pc = (s.core c).bank.pc + 2 ∧ (t3.core c).bank.pc = dest

/-- R66, R78 to R84, R90: the row program's end, interrupts and faults. -/
def Obligations.RowEndAndInterrupts : Prop :=
  ∀ (c : Fin 128) (s : State),
    let k := s.core c
    let peak := fdCore Fld.CLU_CORE_PEAK_CYCLES c
    (s.runs c → k.state = .row → s.mayTransfer c →
      ∃ t, exec (.waitrow c) s = .next t ∧ (t.core c).state = .wait ∧ (t.core c).post.posted = true ∧
        (t.core c).post.window = memBytes k.ram 0 32 ∧ (t.core c).ram = k.ram ∧
        t.fab = (k.posted.foldl (fun s p => s.sourceWrite 0x06 (512 * c + p.1) p.2) s).fab ∧
        t = { s with cores := t.cores, fab := t.fab, regs := t.regs } ∧
        t.reg peak.addr = BitVec.ofNat 32 (max (s.reg peak.addr).toNat k.cycle % 2 ^ 32) ∧
        (∀ a, a ≠ peak.addr → t.reg a = s.reg a) ∧ (∀ d, d ≠ c.val → t.core d = s.core d)) ∧
    (s.runs c → k.state = .handler → exec (.waitrow c) s = .next (s.coreFault c 1 0 k.bank.pc true)) ∧
    (s.runs c → k.state = .row → exec (.reti c) s = .next (s.coreFault c 1 0 k.bank.pc false)) ∧
    (s.runs c → k.state = .handler → s.mayTransfer c → k.rowOwed = false → k.haltOwed = false → k.swapOwed = none →
      ∃ t, exec (.reti c) s = .next t ∧ t = { s with cores := t.cores } ∧ (∀ d, d ≠ c.val → t.core d = s.core d) ∧
        t.core c = { (s.afterIssue c true .seq 1).core c with
          state := if k.fromWait then .wait else .row, slots := k.heldSlots, heldSlots := 0, taken := false }) ∧
    (∀ idle : Fin 65536, k.mayAccept = true →
      let fire (vec : Nat) : Prop :=
        ∃ t, exec (.interruptAccept c idle) s = .next t ∧ (t.core c).state = .handler ∧ (t.core c).bank1.pc = vec ∧
          (t.core c).fromWait = (k.state == .wait) ∧ t = { s with cores := t.cores } ∧ (∀ d, d ≠ c.val → t.core d = s.core d)
      (k.dbPending = true ∧ k.ien.getLsbD 0 = true → fire 0x08) ∧
      (k.dbPending = false ∧ k.xfPending = true ∧ k.ien.getLsbD 1 = true → fire 0x10) ∧
      (k.dbPending = false ∧ k.xfPending = false ∧ s.watchedFull c = true ∧ k.ien.getLsbD 2 = true → fire 0x18)) ∧
    (k.state = .faulted →
      ∃ t, exec (.clrfault c) s = .next t ∧ t = { s with cores := t.cores } ∧ (∀ d, d ≠ c.val → t.core d = s.core d) ∧
        (t.core c).state = .idle ∧ (t.core c).bank0 = bankReset ∧ (t.core c).bank1 = bankReset ∧ (t.core c).ram = k.ram ∧
        (t.core c).prog0 = k.prog0 ∧ (t.core c).prog1 = k.prog1 ∧ (t.core c).coef0 = k.coef0 ∧ (t.core c).coef1 = k.coef1) ∧
    (∀ w : Word, s.runs c → decodeEngine c w = none →
      exec (.illegalInstruction c w) s = .next (s.coreFault c 1 0 k.bank.pc k.inBank1))

/-- R87: the effect that every faulting instruction has. -/
def Obligations.FaultEffect : Prop :=
  ∀ (c : Fin 128) (cause addr pc : Nat) (b1 : Bool) (s : State), cause < 16 → pc < 0x2000 → (s.core c).flights = [] →
    let t := s.coreFault c cause addr pc b1
    let k := s.core c
    t.get (fdCore Fld.CLU_CORE_FAULT_CAUSE c) = cause ∧
    t.get (fdCore Fld.CLU_CORE_FAULT_BANK c) = b1.toNat ∧
    t.get (fdCore Fld.CLU_CORE_FAULT_PC c) = pc ∧
    t.reg (Reg.CLU_CORE_FADDR (c / 8) (c % 8)) = BitVec.ofNat 32 addr ∧
    t.on (fdStatus 35) = true ∧
    t.reg (Reg.EVT_INFO 35) = BitVec.ofNat 32 (c.val + cause * 256) ∧
    (t.core c).state = .faulted ∧ (t.core c).ram = k.ram ∧ (t.core c).busy = 0 ∧
    (t.core c).err = k.err ||| k.busy ∧ (t.core c).done = k.done ||| k.busy ∧
    (∀ d, d ≠ c.val → t.core d = s.core d) ∧
    (∀ a, a ≠ Reg.CLU_CORE_FAULT (c / 8) (c % 8) → a ≠ Reg.CLU_CORE_FADDR (c / 8) (c % 8) → a ≠ (fdStatus 35).addr →
      a ≠ Reg.EVT_INFO 35 → t.reg a = s.reg a) ∧
    t = { s with cores := t.cores, regs := t.regs, evt := t.evt, outbox := t.outbox }

/-- R74: results retire exactly when their latency has passed. -/
def Obligations.Latency : Prop :=
  ∀ (k : Core) (n : Nat) (b1 : Bool) (w : Write), k.flights = [⟨n + 1, b1, w⟩] →
    Core.advance k n = { k with flights := [⟨1, b1, w⟩], cycle := if n = 0 then k.cycle else (k.cycle + n) % 2 ^ 32 } ∧
    Core.advance k (n + 1) = ({ k with flights := [], cycle := (k.cycle + (n + 1)) % 2 ^ 32 } : Core).apply b1 w

/-- R52, R55, R74: the frame of a register write. -/
def Obligations.ResultFrame : Prop :=
  ∀ (k : Core) (b1 : Bool) (n m : Nat) (v : V8 Word) (x : V8 Acc) (w : Word) (f : BitVec 4) (g : BitVec 8) (fwd : Bool),
    let old := if b1 then k.bank1 else k.bank0
    let bk (r : Write) : Bank := if b1 then (k.apply b1 r).bank1 else (k.apply b1 r).bank0
    let kept (r : Write) : Prop := k.apply b1 r = k.setBank b1 (bk r)
    (kept (.d n v) ∧ bankD (bk (.d n v)) m = (if m = n then v else bankD old m) ∧ bk (.d n v) = { old with d := (bk (.d n v)).d }) ∧
    (kept (.a n x fwd) ∧ bankA (bk (.a n x fwd)) m = (if m = n then x else bankA old m) ∧
      bk (.a n x fwd) = { old with a := (bk (.a n x fwd)).a }) ∧
    (kept (.p n w) ∧ bankP (bk (.p n w)) m = (if m = n then w else bankP old m) ∧ bk (.p n w) = { old with p := (bk (.p n w)).p }) ∧
    (kept (.b n w) ∧ bankB (bk (.b n w)) m = (if m = n then w else bankB old m) ∧ bk (.b n w) = { old with b := (bk (.b n w)).b }) ∧
    (kept (.l n w) ∧ bankL (bk (.l n w)) m = (if m = n then w else bankL old m) ∧ bk (.l n w) = { old with l := (bk (.l n w)).l }) ∧
    (kept (.m n w) ∧ bankM (bk (.m n w)) m = (if m = n then w else bankM old m) ∧ bk (.m n w) = { old with m := (bk (.m n w)).m }) ∧
    (kept (.s n w) ∧ bankS (bk (.s n w)) m = (if m = n then w else bankS old m) ∧ bk (.s n w) = { old with s := (bk (.s n w)).s }) ∧
    (kept (.nzcv f) ∧ bk (.nzcv f) = { old with flags := (bk (.nzcv f)).flags } ∧
      (bk (.nzcv f)).flags.setWidth 4 = f ∧ (bk (.nzcv f)).flags.extractLsb' 4 4 = old.flags.extractLsb' 4 4) ∧
    (kept (.sticky g) ∧ bk (.sticky g) = { old with flags := old.flags ||| g }) ∧
    (kept (.ctrl 0x01 w) ∧ bk (.ctrl 0x01 w) = { old with link := w.setWidth 13 }) ∧
    (kept (.ctrl 0x04 w) ∧ bk (.ctrl 0x04 w) = { old with lc0 := w }) ∧
    (kept (.ctrl 0x06 w) ∧ bk (.ctrl 0x06 w) = { old with lc1 := w }) ∧
    k.apply b1 (.ctrl 0x0B w) = { k with gie := w.getLsbD 0 } ∧
    k.apply b1 (.ctrl 0x0C w) = { k with ien := w.setWidth 3 } ∧
    (∀ idx, idx = 0 ∨ idx = 8 ∨ idx = 9 ∨ idx = 10 ∨ idx = 13 ∨ 16 ≤ idx → k.apply b1 (.ctrl idx w) = k)

/-- R89 to R117: decode of encode, over every engine instruction with every operand, and words spelled field by field. -/
def Obligations.EngineRoundTrip : Prop :=
  (∀ (i : Instr) (w : Word), i.wf = true → encodeEngine i = some w →
    ∃ c : Fin 128, decodeEngine c w = some i ∧ ∀ d : Fin 128, decodeEngine d w = some i → d = c) ∧
  (∀ (c : Fin 128) (i : Instr) (w : Word), decodeEngine c w = some i → i.wf = true ∧ encodeEngine i = some w) ∧
  decodeEngine 5 0x00000000#32 = some (.nop 5) ∧
  decodeEngine 5 0xC3800020#32 = some (.b 5 14 0x20) ∧
  decodeEngine 5 0xD8400009#32 = some (.rdc 5 1 9) ∧
  decodeEngine 5 0x684400FF#32 = some (.andi 5 1 1 false 0xFF) ∧
  decodeEngine 5 0xD40000FF#32 = some (.loop 5 false false 0 255) ∧
  decodeEngine 5 0x2C200000#32 = some (.ext 5 1 0 0 false)

/-- R78, R140 to R151: the classes of timed parameters. -/
def Obligations.TimedParameters : Prop :=
  (∀ (s : State) (r : TpRec) (q : List TpRec), s.front r q →
    let u := s.withQueue q
    let c := r.core
    let off := r.target / 65536
    (r.cls = 1 → (s.core c).dbPending = false → exec .tpDoorbell s = .next (u.modCore c (fun k =>
      { k with dbPending := true, dbNew := true, dbIndex := BitVec.ofNat 16 r.index, dbValue := r.value }))) ∧
    (r.cls = 2 → exec .tpCoefWord s = .next (u.modCore c (fun k =>
      if s.on (fdCore Fld.CLU_CORE_BANKS_CBANK c) then { k with coef1 := memSetWord k.coef1 off r.value }
      else { k with coef0 := memSetWord k.coef0 off r.value }))) ∧
    (r.cls = 3 → r.prog = false → r.coef = true → s.on (fdCore Fld.CLU_CORE_BANKS_CREADY c) = true →
      s.twinReady 1 c s.tickRow = true → exec .tpSwap s = .next ((u.swapCoef c).modCore c Core.endBindoff)) ∧
    (r.cls = 3 → r.prog = true → r.coef = false → (s.core c).state ≠ .handler →
      s.on (fdCore Fld.CLU_CORE_BANKS_PREADY c) = true → s.twinReady 0 c s.tickRow = true →
      exec .tpSwap s = .next (u.castOn c r.keep r.withFade r.value r.row)) ∧
    (r.cls = 3 → r.coef = true → s.on (fdCore Fld.CLU_CORE_BANKS_CREADY c) = false →
      exec .tpSwap s = .next ((u.count ctrSwapfail).raise 40 c)) ∧
    (r.cls = 4 → ((s.core c).state = .row ∨ (s.core c).state = .wait ∨ (s.core c).state = .handler) →
      exec .tpBindoff s = .next (u.modCore c (fun k => { k with fade := .bindOff r.row }))) ∧
    (r.cls = 4 → ((s.core c).state = .idle ∨ (s.core c).state = .halted ∨ (s.core c).state = .faulted) →
      exec .tpBindoff s = .next (u.modCore c Core.toReset))) ∧
  (∀ s : State, s.row.tpq = [] → exec .tpDoorbell s = .next s ∧ exec .tpCoefWord s = .next s ∧ exec .tpSwap s = .next s ∧
    exec .tpBindoff s = .next s) ∧
  (∀ (c : Fin 128) (s : State) (start : Word), (s.core c).fade = .bindOff start →
    (64 ≤ (s.tickRow - start).toNat →
      exec (.coreBindoffReset c) s = .next (s.setCore c (s.core c).toReset) ∧ (s.core c).toReset.state = .reset ∧
        (s.core c).toReset.bank0 = bankReset ∧ (s.core c).toReset.ram = (s.core c).ram) ∧
    ((s.tickRow - start).toNat < 64 → exec (.coreBindoffReset c) s = .next (s.setCore c (s.core c))))

/-- R147, R148, R53: swaps, on a unit without a partner. -/
def Obligations.SwapEffect : Prop :=
  ∀ (c : Fin 128) (keep fade : Bool) (value start : Word) (s : State), s.paired = false →
    let cb := fdCore Fld.CLU_CORE_BANKS_CBANK c
    let pb := fdCore Fld.CLU_CORE_BANKS_PBANK c
    let t := s.swapCoef c
    let u := s.castOn c keep fade value start
    t.on cb = !s.on cb ∧ t.get (fdCore Fld.CLU_CORE_BANKS_CGEN c) = (s.get (fdCore Fld.CLU_CORE_BANKS_CGEN c) + 1) % 4096 ∧
    t.on (fdCore Fld.CLU_CORE_BANKS_CREADY c) = false ∧ t.on pb = s.on pb ∧ t.cores = s.cores ∧
    (∀ a, a ≠ Reg.CLU_CORE_BANKS (c / 8) (c % 8) → t.reg a = s.reg a) ∧
    u.on pb = !s.on pb ∧ u.get (fdCore Fld.CLU_CORE_BANKS_PGEN c) = (s.get (fdCore Fld.CLU_CORE_BANKS_PGEN c) + 1) % 4096 ∧
    u.on (fdCore Fld.CLU_CORE_BANKS_PREADY c) = false ∧ u.on cb = s.on cb ∧
    u.reg (Reg.CLU_CORE_BUDGET (c / 8) (c % 8)) = value ∧
    (keep = false → (u.core c).bank0 = bankReset ∧ (u.core c).bank1 = bankReset ∧ (u.core c).flights = []) ∧
    (keep = true → (u.core c).bank0 = (s.core c).bank0 ∧ (u.core c).bank1 = (s.core c).bank1) ∧
    (u.core c).ram = (s.core c).ram ∧ (u.core c).prog0 = (s.core c).prog0 ∧ (u.core c).prog1 = (s.core c).prog1 ∧
    (u.core c).coef0 = (s.core c).coef0 ∧ (u.core c).coef1 = (s.core c).coef1 ∧ (∀ d, d ≠ c.val → u.core d = s.core d)

/-- R166 to R181: timed writes at their tick. -/
def Obligations.TimedRegisters : Prop :=
  ∀ (s : State) (r : TpRec) (q : List TpRec), s.front r q → r.direct = true ∨ r.cls = 5 →
    let u := s.withQueue q
    let w := r.value
    let check (t c : State) : State := if w.getLsbD 0 = true ∧ r.direct = false then c else t
    (r.target = Reg.SST_MAP_SEL →
      (selOk w = true → exec .mapDataApply s = .next (u.setReg Reg.SST_MAP_SEL (w &&& 0x00FFFFFF))) ∧
      (selOk w = false → exec .mapDataApply s = .next (u.invalid Reg.SST_MAP_SEL))) ∧
    (r.target = Reg.SST_MAP_DATA →
      let cls := s.get Fld.SST_MAP_SEL_CLASS
      let idx := s.get Fld.SST_MAP_SEL_INDEX
      let e := w.setWidth 16 &&& 0xBFFF#16
      let second := cls < 0x10 ∧ ∃ n, entrySlot e = some n ∧ slotTaken s.activeMap (mapKey cls idx) n = true
      (classSize cls ≤ idx → exec .mapDataApply s = .next (u.invalid Reg.SST_MAP_DATA)) ∧
      (idx < classSize cls → second → exec .mapDataApply s = .next ((u.count ctrMapref).invalid Reg.SST_MAP_DATA)) ∧
      (idx < classSize cls → ¬ second → exec .mapDataApply s =
        .next (u.setActiveMap (s.activeMap.set (fun _ => 0) (mapKey cls idx) e)))) ∧
    (r.target = Reg.SST_MAP_CTL →
      let ready := s.on Fld.SST_MAP_STAT_SHREADY = true ∧ s.loadOpen 4 = false ∧ s.twinReady 2 0 s.tickRow = true
      let swapped := (u.flag Fld.SST_MAP_STAT_ACTIVE (!s.on Fld.SST_MAP_STAT_ACTIVE)).setMapReady false
      let failed := (u.count ctrMapref).raise 43 0
      (w.getLsbD 1 = true → ready → exec .mapSwap s = .next (check swapped swapped.startMapCheck)) ∧
      (w.getLsbD 1 = true → ¬ ready → exec .mapSwap s = .next (check failed failed.startMapCheck)) ∧
      (w.getLsbD 1 = false → exec .mapSwap s = .next (check u u.startMapCheck))) ∧
    (r.target = Reg.MTX_TBL_CTL →
      let ready := s.on Fld.MTX_TBL_STAT_SHREADY = true ∧ s.loadOpen 5 = false ∧ s.twinReady 3 0 s.tickRow = true ∧
        s.get Fld.MTX_SHD_LEN_COUNT ≤ mtxCapacity (fabricAt s.isFast s.checkStepNow s.row.selvage s.fs)
      let swapped := ((((u.put Fld.MTX_SHD_LEN_COUNT (s.get Fld.MTX_ACT_LEN_COUNT)).put Fld.MTX_ACT_LEN_COUNT
        (s.get Fld.MTX_SHD_LEN_COUNT)).flag Fld.MTX_TBL_STAT_ACTIVE (!s.on Fld.MTX_TBL_STAT_ACTIVE)).setMtxReady false).setGlides []
      let failed := (u.count ctrSwapref).raise 45 0
      (w.getLsbD 1 = true → ready → exec .mtxTableSwap s = .next (check swapped swapped.startMtxCheck)) ∧
      (w.getLsbD 1 = true → ¬ ready → exec .mtxTableSwap s = .next (check failed failed.startMtxCheck)) ∧
      (w.getLsbD 1 = false → exec .mtxTableSwap s = .next (check u u.startMtxCheck))) ∧
    (r.target = Reg.MTX_CTL → exec .mtxCtlApply s = .next (u.flag Fld.MTX_CTL_EN (w.getLsbD 0))) ∧
    (r.target = Reg.MTX_XP_SEL → exec .xpSelApply s = .next (u.setReg Reg.MTX_XP_SEL w)) ∧
    (r.target = Reg.MTX_XP_GAIN →
      let i := s.get Fld.MTX_XP_SEL_INDEX
      let n := s.get Fld.MTX_XP_SEL_GLIDE
      let others := s.fab.glides.filter (fun g => g.entry != i)
      let v := u.setReg Reg.MTX_XP_GAIN w
      let full := n ≠ 0 ∧ 16384 ≤ (others.filter Glide.runs).length
      (s.get Fld.MTX_ACT_LEN_COUNT ≤ i → exec .xpGainApply s = .next (u.invalid Reg.MTX_XP_GAIN)) ∧
      (i < s.get Fld.MTX_ACT_LEN_COUNT → full → exec .xpGainApply s =
        .next ((((v.setGlides others).setActGain i w).count ctrGlidefull).raise 46 i)) ∧
      (i < s.get Fld.MTX_ACT_LEN_COUNT → ¬ full →
        (∀ g, s.glideOn i = some g → exec .xpGainApply s = .next (v.setGlides (others ++ [⟨i, g.last, w, n, 0, g.last⟩]))) ∧
        (s.glideOn i = none → let g0 := (s.mtxEntry s.mtxActive i).1
          exec .xpGainApply s = .next (v.setGlides (others ++ [⟨i, g0, w, n, 0, g0⟩]))))) ∧
    (r.target = Reg.DLY_CTL → exec .dlyCtlApply s = .next (u.flag Fld.DLY_CTL_EN (w.getLsbD 0))) ∧
    (∀ n, n < 2048 → r.target = Reg.DLY_LINE_LEN n →
      let len := w.toNat % 2 ^ 21
      let base := 64 * s.lineBase n
      let others := s.enabledLines.filter (fun m => m != n)
      let fits := len % 16 = 0 ∧ len ≤ 1048576 ∧ base + 4 * len ≤ s.poolQuarters.length * 0x80000 ∧
        (∀ m ∈ others, 64 * s.lineBase m + 4 * s.lineLen m ≤ base ∨ base + 4 * len ≤ 64 * s.lineBase m) ∧ s.lineDelay n < len ∧
        dlyBound s.poolWait (others.length + 1) s.fadingLines.length ≤ fabricAt s.isFast s.checkStepNow s.row.selvage s.fs
      (len = 0 → exec .lineLenApply s = .next ((u.setReg (Reg.DLY_LINE_LEN n) 0).setLine n dlyReset)) ∧
      (len ≠ 0 → ¬ fits → exec .lineLenApply s = .next (u.invalid (Reg.DLY_LINE_LEN n))) ∧
      (len ≠ 0 → fits → s.lineLen n = 0 → exec .lineLenApply s =
        .next ((u.put (Fld.DLY_LINE_LEN_LEN n) len).setLine n { dlyReset with pos := n % 16 })) ∧
      (len ≠ 0 → fits → s.lineLen n ≠ 0 → exec .lineLenApply s = .next ((u.put (Fld.DLY_LINE_LEN_LEN n) len).setLine n
        { s.line n with hist := (s.line n).hist.take len, pos := (s.line n).pos % len }))) ∧
    (∀ n, n < 2048 → r.target = Reg.DLY_LINE_DELAY n →
      let d := w.toNat % 2 ^ 20
      let xf := w.getLsbD 31
      let set := (u.put (Fld.DLY_LINE_DELAY_DELAY n) d).flag (Fld.DLY_LINE_DELAY_XF n) xf
      let full := 256 ≤ (s.fadingLines.filter (fun m => m != n)).length
      (s.lineLen n ≤ d → exec .lineDelayApply s = .next (u.invalid (Reg.DLY_LINE_DELAY n))) ∧
      (d < s.lineLen n → d = s.lineDelay n → exec .lineDelayApply s = .next set) ∧
      (d < s.lineLen n → d ≠ s.lineDelay n →
        (xf = false → exec .lineDelayApply s = .next (set.setLine n { s.line n with xfade := none })) ∧
        (xf = true → ¬ full → exec .lineDelayApply s =
          .next (set.setLine n { s.line n with xfade := some (s.lineDelay n, 0) })) ∧
        (xf = true → full → exec .lineDelayApply s =
          .next (((set.setLine n { s.line n with xfade := none }).count ctrXffull).raise 48 n))))

/-- R162 to R185: the fabric's direct commands. -/
def Obligations.FabricCommands : Prop :=
  (∀ (w : Word) (s : State),
    let cls := s.get Fld.SST_SHD_SEL_CLASS
    let idx := s.get Fld.SST_SHD_SEL_INDEX
    (idx < classSize cls → exec (.shdDataWrite w) s = .next
      (((s.writeShadowEntry cls idx (w.setWidth 16)).setReg Reg.SST_SHD_DATA (w &&& 0xFFFF)).put Fld.SST_SHD_SEL_INDEX
        (if idx + 1 = classSize cls then 0 else idx + 1))) ∧
    (classSize cls ≤ idx → exec (.shdDataWrite w) s = .next (s.invalid Reg.SST_SHD_DATA)) ∧
    exec (.shdRouteWrite w) s = .next
      ((((s.setMtxEntry s.mtxShadow (s.get Fld.MTX_SHD_SEL_INDEX) (s.reg Reg.MTX_SHD_GAIN) ((w &&& 0x07FF07FF).toNat % 65536)
        ((w &&& 0x07FF07FF).toNat / 65536)).touchShadowTable).setReg Reg.MTX_SHD_ROUTE (w &&& 0x07FF07FF)).put
          Fld.MTX_SHD_SEL_INDEX (s.get Fld.MTX_SHD_SEL_INDEX + 1))) ∧
  (∀ s : State, s.paired = false →
    (∃ t, exec .mapCheck s = .next t ∧ t.on Fld.SST_MAP_STAT_CHECKING = true ∧ t.on Fld.SST_MAP_STAT_SHREADY = false ∧
      t.on Fld.SST_MAP_STAT_SHBAD = false ∧ t = { s with regs := t.regs } ∧
      ∀ a, a ≠ Reg.SST_MAP_STAT → t.reg a = s.reg a) ∧
    (∃ t, exec .mtxCheck s = .next t ∧ t.on Fld.MTX_TBL_STAT_CHECKING = true ∧ t.on Fld.MTX_TBL_STAT_SHREADY = false ∧
      t.on Fld.MTX_TBL_STAT_SHBAD = false ∧ t = { s with regs := t.regs } ∧
      ∀ a, a ≠ Reg.MTX_TBL_STAT → t.reg a = s.reg a) ∧
    (s.on Fld.SST_MAP_STAT_CHECKING = true → ∃ t, exec .mapCheckDone s = .next t ∧
      t.on Fld.SST_MAP_STAT_CHECKING = false ∧
      (s.loadOpen 4 = true → t.on Fld.SST_MAP_STAT_SHREADY = s.on Fld.SST_MAP_STAT_SHREADY) ∧
      (s.loadOpen 4 = false → dupSlot s.shadowMap = none → t.on Fld.SST_MAP_STAT_SHREADY = true) ∧
      (∀ n, s.loadOpen 4 = false → dupSlot s.shadowMap = some n → t.on Fld.SST_MAP_STAT_SHBAD = true ∧
        t.get Fld.SST_MAP_STAT_DUPSLOT = n % 16384) ∧ t = { s with regs := t.regs }) ∧
    (s.on Fld.MTX_TBL_STAT_CHECKING = true → ∃ t, exec .mtxCheckDone s = .next t ∧
      t.on Fld.MTX_TBL_STAT_CHECKING = false ∧
      (s.loadOpen 5 = true → t.on Fld.MTX_TBL_STAT_SHREADY = s.on Fld.MTX_TBL_STAT_SHREADY) ∧
      (s.loadOpen 5 = false → s.get Fld.MTX_SHD_LEN_COUNT = 0 → t.on Fld.MTX_TBL_STAT_SHREADY = true) ∧
      (s.loadOpen 5 = false → mtxLmax s.isFast s.fs < s.get Fld.MTX_SHD_LEN_COUNT → t.on Fld.MTX_TBL_STAT_SHBAD = true) ∧
      t = { s with regs := t.regs })) ∧
  (∀ (e : Fin 262144) (s : State) (g : Glide), s.glideOn e = some g → g.reached = true →
    exec (.glideEnd e) s = .next ((s.setGlides (s.fab.glides.filter (fun g => g.entry != e.val))).setActGain e g.target)) ∧
  (∀ (l : Fin 2048) (s : State) (old m : Nat), (s.line l).xfade = some (old, m) → 64 ≤ m →
    exec (.crossfadeEnd l) s = .next (s.setLine l { s.line l with xfade := none })) ∧
  (∀ (b : Fin 48) (w : Word) (s : State),
    ((∀ q, q < 4 → s.get (fdQown b q) = bitsOf w (8 * q + 7) (8 * q)) → exec (.qownWrite b w) s = .next s) ∧
    (2 ≤ b.val → b.val < 40 → ∀ n, (n ≤ 5 ∨ (0x10 ≤ n ∧ n ≤ 0x1F)) → n ≠ 0 → n ≠ 3 → bitsOf w 7 0 = n →
      s.get (fdQown b 0) = 0 → (∀ q, 1 ≤ q → q < 4 → s.get (fdQown b q) = bitsOf w (8 * q + 7) (8 * q)) →
      exec (.qownWrite b w) s = .next (s.put (fdQown b 0) n))) ∧
  (∀ (n : Fin 16384) (s : State),
    ((s.slot n).decayDue = true →
      ∃ t, exec (.slotDecayStart n) s = .next t ∧ (t.slot n) = { s.slot n with decayDue := false } ∧
        t.row = { s.row with decayRow := s.row.decayRow + 1 } ∧
        (s.liveAt Reg.SST_DECAY_CNT + 1 < 2 ^ 32 - 1 → t.liveAt Reg.SST_DECAY_CNT = s.liveAt Reg.SST_DECAY_CNT + 1)) ∧
    ((s.slot n).decayDue = false → exec (.slotDecayStart n) s = .next s))

/-- R127, R158, R10, R157. -/
def Obligations.CoreRegisters : Prop :=
  (∀ (c : Fin 128) (w : Word) (s : State), s.paired = false →
    let a := Reg.CLU_CORE_BUDGET (c / 8) (c % 8)
    let o := Reg.CLU_CORE_OUTCFG (c / 8) (c % 8)
    (isDeclaration w = true → (s.core c).settled = true → w ≠ s.reg a →
      exec (.coreBudgetWrite c w) s = .next (s.setReg a w)) ∧
    (isDeclaration w = false → exec (.coreBudgetWrite c w) s = .next (s.invalid a)) ∧
    (isDeclaration w = true → (s.core c).settled = false → w ≠ s.reg a →
      exec (.coreBudgetWrite c w) s = .next (s.invalid a)) ∧
    (w.toNat ≤ 512 → (s.core c).settled = true → w.toNat ≠ s.get (fdCore Fld.CLU_CORE_OUTCFG_DIGN c) →
      exec (.coreOutcfgWrite c w) s = .next (s.put (fdCore Fld.CLU_CORE_OUTCFG_DIGN c) w.toNat)) ∧
    (512 < w.toNat % 1024 → w.msb = false → exec (.coreOutcfgWrite c w) s = .next (s.invalid o))) ∧
  (∀ (c : Fin 128) (s : State),
    let clears (i : Instr) (a : Nat) : Prop :=
      ∃ t, exec i s = .next t ∧ t.reg a = 0 ∧ t.outbox = .answer (s.reg a) :: s.outbox ∧
        t = { s with regs := t.regs, outbox := t.outbox } ∧ ∀ b, b ≠ a → t.reg b = s.reg b
    clears (.coreSatrowsRead c) (Reg.CLU_CORE_SATROWS (c / 8) (c % 8)) ∧
    clears (.corePeakRead c) (Reg.CLU_CORE_PEAK (c / 8) (c % 8)) ∧
    clears (.coreStitchRead c) (Reg.CLU_CORE_STITCH (c / 8) (c % 8))) ∧
  (∀ s : State, ∃ t, exec .wmaxRtRead s = .next t ∧ t.get Fld.FAB_WMAX_RT_WAIT = 0 ∧
    t.outbox = .answer (BitVec.ofNat 32 (s.get Fld.FAB_WMAX_RT_WAIT)) :: s.outbox ∧ ∀ b, b ≠ Reg.FAB_WMAX_RT → t.reg b = s.reg b) ∧
  (∀ (n : Fin 16) (w : Word) (s : State),
    let d := s.row.digests.get (fun _ => digestNone) n
    ∃ t, exec (.digestSnap n w) s = .next t ∧ t.reg (Reg.CLU_DIGEST_LO n) = d.value.setWidth 32 ∧
      t.reg (Reg.CLU_DIGEST_HI n) = (d.value >>> 32).setWidth 32 ∧ t.reg (Reg.CLU_DIGEST_ROW n) = d.row ∧
      t.reg (Reg.CLU_DIGEST_STITCH n) = d.stitch.setWidth 32 ∧ t = { s with regs := t.regs } ∧
      ∀ a, a ≠ Reg.CLU_DIGEST_LO n → a ≠ Reg.CLU_DIGEST_HI n → a ≠ Reg.CLU_DIGEST_ROW n → a ≠ Reg.CLU_DIGEST_STITCH n →
        t.reg a = s.reg a)

/-- R42, R130, R153 to R155, R648. -/
def Obligations.MigrationAndGauge : Prop :=
  (∀ (c : Fin 128) (back : Bool) (w : Word) (s : State),
    let r := s.migrateRefusal c back true
    (r ≠ 0 → exec (.firmwareMigrationRequest c back) s = .next (s.put Fld.ENG_MIGRATE_RES_RESULT r)) ∧
    (r = 0 → (s.core c).state = .reset →
      exec (.firmwareMigrationRequest c back) s = .next ((s.movePhys c back).put Fld.ENG_MIGRATE_RES_RESULT 1)) ∧
    (r = 0 → (s.core c).state ≠ .reset → exec (.firmwareMigrationRequest c back) s =
      .next ((s.setRow { s.row with migration := some ⟨c, back, 0⟩ }).put Fld.ENG_MIGRATE_RES_RESULT 5)) ∧
    (w.getLsbD 9 = false → exec (.migrateGo w) s = .next (s.setReg Reg.ENG_MIGRATE (w &&& 0x17F))) ∧
    (w.getLsbD 9 = true → exec (.migrateGo w) s =
      .next ((s.setReg Reg.ENG_MIGRATE (w &&& 0x17F)).migrateRequest (w.toNat % 128) (w.getLsbD 8) false))) ∧
  (∀ (s : State) (m : Migration), s.row.migration = some m →
    (s.migrateReady m = true → ∃ t, exec .migrationPerform s = .next t ∧ t.row.migration = none ∧
      t.get Fld.ENG_MIGRATE_RES_RESULT = 1 ∧ (t.core m.core).moved = true ∧ (∀ d, d ≠ m.core → t.core d = s.core d)) ∧
    (s.migrateReady m = false → exec .migrationPerform s = .next s) ∧
    (64 ≤ m.waited → exec .migrationAbandon s =
      .next (((s.setRow { s.row with migration := none }).put Fld.ENG_MIGRATE_RES_RESULT 4).raise 41 m.core)) ∧
    (m.waited < 64 → exec .migrationAbandon s = .next s)) ∧
  (∀ (s : State) (b : Bool) (ns : Fin 65536),
    (s.row.pendLatency = some b → exec .latencyChangeEffect s =
      .next ((s.setRow { s.row with pendLatency := none, fitDue := true }).flag Fld.ENG_PROFILE_STAT_LATENCY_ACT b)) ∧
    (s.row.pendPolicy = true → s.row.inWindow = false → ∃ t, exec .policyChangeEffect s = .next t ∧
      t.get Fld.ENG_PROFILE_STAT_POLICY_ACT = s.get Fld.ENG_PROFILE_POLICY % 4 ∧ t.row.pendPolicy = false ∧ t.row.fitDue = true ∧
      policyStep (s.get Fld.ENG_PROFILE_POLICY) ≤ t.row.gauge ∧ s.row.gauge ≤ t.row.gauge ∧
      (policyStep (s.get Fld.ENG_PROFILE_POLICY) ≤ s.row.gauge → t.row.gauge = s.row.gauge)) ∧
    (s.row.recovering = true → s.row.sag = false → s.lowStep < s.row.gauge → ∃ t, exec (.gaugeRecoveryStep ns) s = .next t ∧
      t.row.gauge = s.row.gauge - 1) ∧
    (s.row.recovering = false → exec (.gaugeRecoveryStep ns) s = .next s))

/-- R15, R318: ROW_TICK. -/
def Obligations.RowTickCounts : Prop :=
  ∀ s : State,
    (s.row.ticks = true → s.inReset = false → s.tickDue = true → s.sup.move = .none →
      ∃ t, exec .rowTick s = .next t ∧ t.row.rowIdx = if s.row.fresh then s.mediaRow else s.row.rowIdx + 1) ∧
    (s.row.ticks = false ∨ s.inReset = true ∨ s.tickDue = false → exec .rowTick s = .next s)

/-- R26, R30, R119, R133: ENGINE_TICK and STOP_POINT. -/
def Obligations.EngineTickAndStopPoint : Prop :=
  (∀ s : State, s.row.ticks = true → s.inReset = false → s.row.fresh = false → s.row.tpq = [] → s.twn.regHeld = [] →
    s.twn.joinDue = false → s.boot.seqTick = false → s.row.ticked = false →
    ∃ t, exec .engineTick s = .next t ∧ t.row.pageOpen = true ∧ t.row.inWindow = true ∧
      t.row.ticked = true ∧ t.row.openRow = (if s.isFast then s.row.rowIdx else s.row.rowIdx - 1)) ∧
  (∀ s : State, s.row.ticks = false ∨ s.inReset = true ∨ s.row.fresh = true ∨ s.row.ticked = true →
    exec .engineTick s = .next s) ∧
  (∀ s : State,
    (s.row.inWindow = true → ∃ t, exec .stopPoint s = .next t ∧ t.row.inWindow = false ∧
      ∀ c, (t.core c).state = if (s.core c).state = .row then .wait else (s.core c).state) ∧
    (s.row.inWindow = false → exec .stopPoint s = .next s))

/-- R10, R12, R13: what a write does to the fields of its register. -/
def Obligations.RegisterWriteFields : Prop :=
  ∀ (s : State) (a : Nat) (w : Word), FieldsOk (fieldsAt a) → (fieldsAt a).any FieldDesc.sat = false →
    let t := s.writeFields a w
    (∀ f ∈ fieldsAt a,
      (f.acc = .rw → f.legal (bitsOf w f.msb f.lsb) = true → t.get ⟨a, f.msb, f.lsb⟩ = bitsOf w f.msb f.lsb) ∧
      (f.acc = .rw → f.legal (bitsOf w f.msb f.lsb) = false → t.get ⟨a, f.msb, f.lsb⟩ = s.get ⟨a, f.msb, f.lsb⟩) ∧
      (f.acc = .w1c → ∀ i, i ≤ f.msb - f.lsb →
        (t.get ⟨a, f.msb, f.lsb⟩).testBit i = ((s.get ⟨a, f.msb, f.lsb⟩).testBit i && !(bitsOf w f.msb f.lsb).testBit i)) ∧
      (f.acc ≠ .rw → f.acc ≠ .w1c → t.get ⟨a, f.msb, f.lsb⟩ = s.get ⟨a, f.msb, f.lsb⟩)) ∧
    (∀ b, b ≠ a → t.reg b = s.reg b) ∧ t = { s with regs := t.regs }

/-- R9, R11, R615: the whole register table. -/
def Obligations.RegisterTableOk : Prop :=
  ∀ b, b < 0x48 → ∀ d ∈ windowRegs b, FieldsOk d.fields ∧ ∀ f ∈ d.fields, f.reset < 2 ^ (f.msb + 1 - f.lsb)

/-- R10, R14, R40, R421: the register commands. -/
def Obligations.RegisterCommands : Prop :=
  (∀ (a : BitVec 23) (w : Word) (s : State), s.regServed = true →
    (a.toNat % 4 = 0 → exec (.registerWrite false false a w) s = .next (s.writeW0 a.toNat w) ∧
      exec (.registerWrite true false a w) s = .next (s.writeW0 a.toNat w) ∧
      exec (.registerWrite false true a w) s = .next (s.writeW2 a.toNat w)) ∧
    (a.toNat % 4 ≠ 0 → exec (.registerWrite false false a w) s = .next (s.badAccess false true a.toNat) ∧
      exec (.registerWrite true false a w) s = .next s) ∧
    exec (.registerWrite true true a w) s = .next s) ∧
  (∀ (w : Word) (s : State), s.regServed = true → s.paired = false → s.allBoundOff = false →
    (s.writeFields Reg.ENG_PROFILE w).get Fld.ENG_PROFILE_FS ≠ s.get Fld.ENG_PROFILE_FS →
    exec (.profileWrite w) s = .next ((s.flag Fld.ENG_PROFILE_STAT_REFUSED true).raise 34 w.toNat)) ∧
  (∀ (w : Word) (s : State), s.regServed = true → s.paired = false → badCodes Reg.ENG_PROFILE w = false →
    (s.writeFields Reg.ENG_PROFILE w).get Fld.ENG_PROFILE_FS = s.get Fld.ENG_PROFILE_FS →
    (s.writeFields Reg.ENG_PROFILE w).get Fld.ENG_PROFILE_LATENCY = s.get Fld.ENG_PROFILE_LATENCY →
    (s.writeFields Reg.ENG_PROFILE w).get Fld.ENG_PROFILE_POLICY ≠ s.get Fld.ENG_PROFILE_POLICY →
    let u := (s.writeFields Reg.ENG_PROFILE w).setRow { s.row with pendPolicy := true }
    exec (.profileWrite w) s = .next ((addrs 0 1 4).foldl State.checkLpi u) ∧
    (∀ n : Fin 4, (s.on (Fld.NET_STAT_LPITX n) = false → u.checkLpi n = u) ∧
      (s.on (Fld.NET_STAT_LPITX n) = true → u.get Fld.ENG_PROFILE_POLICY ≠ 2 →
        u.checkLpi n = ((u.countLpi n).flag (Fld.NET_STAT_LPITX n) false).laneTxIdle n false))) ∧
  (∀ (a : BitVec 23) (f1 f2 be fi fd : BitVec 32) (s : State) (l32 : List Nat), s.regServed = true → onSupply a.toNat = false →
    a.toNat ≠ Reg.STR_CNT_SNAP → (a.toNat / 0x10000 < 0x24 ∨ 0x2A ≤ a.toNat / 0x10000) → snapshotOf a.toNat = some ([], l32) →
    ∃ t, exec (.cntSnap ⟨a, f1, f2, be, fi, fd⟩) s = .next t ∧ (∀ b ∈ l32, t.reg b = BitVec.ofNat 32 (s.liveAt b)) ∧
      (∀ b, b ∉ l32 → t.reg b = s.reg b) ∧ t = { s with regs := t.regs }) ∧
  (∀ (n : Fin 4) (s : State), s.regServed = true →
    exec (.timeSnap ⟨n.val, by omega⟩) s = .next (s.snapBase n) ∧ exec (.timeSnap 4) s = .next s.snapClk)

/-- R21, R22: the flit layout with its CRC. -/
def Obligations.FlitRoundTrip : Prop :=
  ∀ typ seq ack credit p : Nat, typ < 16 → seq < 16 → ack < 16 → credit < 16 → p < 2 ^ 96 →
    let f := mkFlit typ seq ack credit p
    flitGood f = true ∧ flitType f = typ ∧ flitSeq f = seq ∧ flitAck f = ack ∧ flitCredit f = credit ∧ flitPayload f = p

/-- R21 to R25: the flit commands. -/
def Obligations.FlitReception : Prop :=
  ∀ (f : BitVec 128) (s : State),
    let p := flitPayload f
    let m := s.takeAck true (flitAck f) (flitCredit f)
    let d := s.takeAck false (flitAck f) (flitCredit f)
    let words : List Word := [sext24 (p / 2 ^ 72), sext24 (p / 2 ^ 48), sext24 (p / 2 ^ 24), sext24 p]
    let next (s : State) (onMain : Bool) : State :=
      s.setLinkEnd onMain { s.linkEnd onMain with expSeq := ((s.linkEnd onMain).expSeq + 1) % 16, nakSent := false }
    let inOrder (s : State) (onMain : Bool) : Prop := flitSeq f = (s.linkEnd onMain).expSeq ∧ flitSeq f < 16
    (s.inReset = false → flitGood f = false →
      let bad : Answer := .next ((s.countLinkErr 0).sendNak true)
      exec (.idleFlit true f) s = bad ∧ exec (.senseFlit f) s = bad ∧ exec (.regRspFlit f) s = bad ∧
      exec (.mbxFlit true f) s = bad ∧ exec (.evtFlit f) s = bad ∧ exec (.nakFlit true f) s = bad) ∧
    (s.inReset = false → flitGood f = false →
      let bad : Answer := .next ((s.supplyEvent 205 1).sendNak false)
      exec (.idleFlit false f) s = bad ∧ exec (.rowFlit f) s = bad ∧ exec (.modLoFlit f) s = bad ∧
      exec (.modHiFlit f) s = bad ∧ exec (.regWrFlit f) s = bad ∧ exec (.regRdFlit f) s = bad ∧
      exec (.mbxFlit false f) s = bad ∧ exec (.nakFlit false f) s = bad) ∧
    (s.inReset = true → exec (.idleFlit true f) s = .next s ∧ exec (.senseFlit f) s = .next s ∧
      exec (.evtFlit f) s = .next s) ∧
    (s.inReset = false → flitGood f = true →
      (flitType f = 0 → p = 0 → exec (.idleFlit true f) s = .next m ∧ exec (.idleFlit false f) s = .next d) ∧
      (flitType f = 1 → exec (.rowFlit f) s = .next (d.setAmp { d.amp with
        rowFlit := some (BitVec.ofNat 32 (payBits p 95 64), BitVec.ofNat 32 (payBits p 63 32)), lo := none, hi := none,
        rate := some (d.get Fld.ENG_PROFILE_STAT_FS_ACT) })) ∧
      (flitType f = 2 → exec (.modLoFlit f) s = .next (d.setAmp { d.amp with lo := some words })) ∧
      (flitType f = 3 → exec (.modHiFlit f) s = .next (d.setAmp { d.amp with hi := some words })) ∧
      (flitType f = 4 → payBits p 92 90 = 0 →
        exec (.senseFlit f) s = .next (m.setReg (Reg.PWR_TLM (payBits p 95 93)) (BitVec.ofNat 32 (payBits p 63 32)))) ∧
      (flitType f = 10 → exec (.nakFlit true f) s = .next (m.replay true (payBits p 95 92)) ∧
        exec (.nakFlit false f) s = .next (d.replay false (payBits p 95 92))) ∧
      (flitType f = 5 → inOrder s false → onSupply (payBits p 87 64) = true → (regDesc (payBits p 87 64)).isSome = true →
        exec (.regWrFlit f) s = .next (((next d false).supplyWrite (payBits p 87 64) (BitVec.ofNat 32 (payBits p 63 32))).queueFlit
          false 7 (rspPayload (payBits p 95 88) 0 0))) ∧
      (flitType f = 6 → inOrder s false → onSupply (payBits p 87 64) = true → (regDesc (payBits p 87 64)).isSome = true →
        exec (.regRdFlit f) s = .next ((next d false).bumpFree.queueFlit false 7
          (rspPayload (payBits p 95 88) 0 ((next d false).supplyView (payBits p 87 64))))) ∧
      (flitType f = 5 → inOrder s false → onSupply (payBits p 87 64) = false →
        exec (.regWrFlit f) s = .next ((next d false).queueFlit false 7 (rspPayload (payBits p 95 88) 1 0))) ∧
      (flitType f = 7 → inOrder s true → ∀ x : Tunnel, s.amp.tunnels.find? (fun t => t.tag == payBits p 95 88) = some x →
        payBits p 87 80 = 0 → x.wr = false →
        exec (.regRspFlit f) s = .next (((next m true).setAmp { m.amp with
          tunnels := s.amp.tunnels.filter (fun t => t.tag != payBits p 95 88) }).send (.answer (BitVec.ofNat 32 (payBits p 63 32))))) ∧
      (flitType f = 8 → inOrder s true → 56 ≤ payBits p 95 90 → (s.mbx (payBits p 95 90)).full = false →
        exec (.mbxFlit true f) s =
          .next ((next m true).mbxWrite (payBits p 95 90) (BitVec.ofNat 32 (payBits p 63 32)) 4).1) ∧
      (flitType f = 9 → inOrder s true → payBits p 95 88 ≠ 205 → eventListed (payBits p 95 88) = true →
        eventLevel (payBits p 95 88) = false →
        exec (.evtFlit f) s = .next ((next m true).raise (payBits p 95 88) (payBits p 63 32))))

/-- R24, R25, R416. -/
def Obligations.LinkSending : Prop :=
  (∀ s : State, s.row.ticks = true → s.inReset = false →
    let a := (s.linkEnd true).ackSeq
    let w (i : Nat) : Nat := (s.amp.words.getD i 0).toNat % 2 ^ 24
    let four (i : Nat) : Nat := w i * 2 ^ 72 + w (i + 1) * 2 ^ 48 + w (i + 2) * 2 ^ 24 + w (i + 3)
    let out : List Output := [.flit false (mkFlit 3 0 a 15 (four 4)), .flit false (mkFlit 2 0 a 15 (four 0)),
      .flit false (mkFlit 1 0 a 15 (s.row.rowIdx.toNat * 2 ^ 64 + s.amp.claimNow.toNat * 2 ^ 32))]
    exec .modulationFlitSend s = .next { s with outbox := out ++ s.outbox }) ∧
  (∀ (b : Bool) (s : State) (typ : Nat) (p : BitVec 96) (q : List (Nat × BitVec 96)), (s.linkEnd b).queue = (typ, p) :: q →
    let e := s.linkEnd b
    ((b && s.inReset) = false → 0 < e.credit → e.unacked.length < 8 → exec (.flitCreditSend b) s = .next ((s.setLinkEnd b { e with
      nextSeq := (e.nextSeq + 1) % 16, unacked := e.unacked ++ [⟨e.nextSeq, typ, p⟩], queue := q, credit := e.credit - 1 }).send
        (.flit (!b) (mkFlit typ e.nextSeq e.ackSeq 15 p.toNat)))) ∧
    ((b && s.inReset) = false → (e.credit = 0 ∨ 8 ≤ e.unacked.length) →
      exec (.flitCreditSend b) s = .next (s.send (.flit (!b) (mkFlit 0 0 e.ackSeq 15 0))))) ∧
  (∀ (b : Bool) (s : State), (s.linkEnd b).queue = [] → (b && s.inReset) = false →
    exec (.flitCreditSend b) s = .next (s.send (.flit (!b) (mkFlit 0 0 (s.linkEnd b).ackSeq 15 0)))) ∧
  (∀ (wr : Bool) (a : BitVec 24) (v : Word) (s : State),
    (onSupply a.toNat = true → ∃ t, exec (.tunnelAccess wr a v) s = .next t ∧
      t.amp = { s.amp with nextTag := (s.amp.nextTag + 1) % 256, tunnels := s.amp.tunnels ++ [⟨s.amp.nextTag, wr, a.toNat⟩] } ∧
      t = { s with amp := t.amp, link := t.link, outbox := t.outbox }) ∧
    (onSupply a.toNat = false → exec (.tunnelAccess wr a v) s = .next s)) ∧
  (∀ (tag : BitVec 8) (s : State) (x : Tunnel), s.amp.tunnels.find? (fun t => t.tag == tag.toNat) = some x →
    let u := (s.setAmp { s.amp with tunnels := s.amp.tunnels.filter (fun y => y.tag != tag.toNat) }).raise 204 (x.addr % 0x10000)
    exec (.tunnelTimeout tag) s = .next (if x.wr then u else u.send (.answer 0xFFFFFFFF)))

/-- R393 to R414: commands of the power stage without a channel's state change. -/
def Obligations.PowerStageRows : Prop :=
  (∀ (b : List (BitVec 8)) (s : State),
    (s.on Fld.PWR_XF_STAT_LOCK = false → xfSync b = true → xfCrcGood b = true → s.amp.xfGood = 0 →
      exec (.xfeedFrameReceive b) s = .next (s.setAmp { s.amp with xfGood := 1 })) ∧
    (s.on Fld.PWR_XF_STAT_LOCK = false → xfSync b = true → xfCrcGood b = true → 1 ≤ s.amp.xfGood →
      exec (.xfeedFrameReceive b) s =
        .next (((s.setAmp { s.amp with xfGood := 0, xfBad := 0 }).flag Fld.PWR_XF_STAT_LOCK true).takeXf b)) ∧
    (s.on Fld.PWR_XF_STAT_LOCK = false → (xfSync b && xfCrcGood b) = false →
      exec (.xfeedFrameReceive b) s = .next (s.setAmp { s.amp with xfGood := 0 })) ∧
    (s.on Fld.PWR_XF_STAT_LOCK = true → xfSync b = true → xfCrcGood b = false → s.amp.xfBad < 3 →
      exec (.xfeedFrameReceive b) s = .next ((s.setAmp { s.amp with xfBad := s.amp.xfBad + 1 }).count (ctrPwr 2))) ∧
    (s.on Fld.PWR_XF_STAT_LOCK = true → exec .xfeedClockLoss s =
      .next (((s.setAmp { s.amp with xfGood := 0, xfBad := 0 }).flag Fld.PWR_XF_STAT_LOCK false).supplyEvent 196 0))) ∧
  (∀ (vbus vrail : BitVec 20) (volts amps : List (BitVec 32)) (temp : BitVec 32) (s : State) (x cl : Word) (lo hi : List Word),
    s.amp.rowFlit = some (x, cl) → s.amp.lo = some lo → s.amp.hi = some hi → (s.amp.expect = none ∨ s.amp.expect = some x) →
    ∃ t, exec (.ampRowSelect ⟨vbus, vrail⟩ ⟨volts, amps, temp⟩) s = .next t ∧ t.amp.expect = some (x + 1) ∧ t.amp.quiet = 0 ∧ t.amp.rowFlit = none ∧
      t.amp.lo = none ∧ t.amp.hi = none ∧ t.amp.xf = none) ∧
  (∀ (rail : BitVec 20) (us ma : BitVec 16) (s : State),
    let below := railUnits (rail.toNat + 3000) < s.amp.target ∧ 20 ≤ us.toNat
    let short := s.on Fld.PWR_CTL_BOOSTEN = true ∧ s.busOk = true ∧ (below ∨ s.get Fld.PWR_BOOST_SLEW_IINLIM * 250 ≤ ma.toNat)
    ∃ t, exec (.boostShortfall rail ⟨us, ma⟩) s = .next t ∧ (t.amp.short = true ↔ short) ∧
      t.amp = { s.amp with short := t.amp.short } ∧ t.get Fld.PWR_STAT_LIMATT = attOf s.amp.glim ∧
      (t.on Fld.PWR_STAT_LIMIT = true ↔ short ∨ s.amp.glim < 2 ^ 31)) ∧
  (∀ (vbus vrail : Nat) (s : State), s.on Fld.PWR_CTL_BOOSTEN = true → s.busOk = true → 18000 ≤ vbus →
    let u := s.boostRow vbus vrail
    u.amp.rail ≤ s.amp.rail + s.railRise ∧ u.amp.target ≤ s.get Fld.PWR_BOOST_CFG_RAILMAX * 10 * (2 ^ 23 * railBase) ∧
      u.outbox = .boost u.amp.target u.amp.rail :: s.outbox ∧ u = { s with amp := u.amp, outbox := u.outbox }) ∧
  (∀ (c : Fin 8) (mv ma : BitVec 32) (s : State), s.chState c = 3 → s.get (Fld.PWR_CH_CFG_VFS c) ≤ mv.toNat → 0 < ma.toNat →
    ∃ t, exec (.impedanceWindow c mv ma) s = .next t ∧
      t.get (Fld.PWR_CH_Z_ZEST c) = min 0xFFFF (mv.toNat * 100 / ma.toNat) ∧ t.on (Fld.PWR_CH_STAT_ZVALID c) = true) ∧
  (∀ (w : Word) (s : State), bitsOf w 23 16 ≤ 0x40 → bitsOf w 23 16 ≠ s.lookahead →
    (channels.all s.chIdle = false →
      let u := s.writeFields Reg.PWR_CTL (keepBits (fieldBits [Fld.PWR_CTL_LOOKAHEAD]) (s.reg Reg.PWR_CTL) w)
      exec (.lookaheadWrite w) s = .next (u.supplyInvalid Reg.PWR_CTL).showBoost ∧ u.lookahead = s.lookahead) ∧
    (channels.all s.chIdle = true → ∃ t, exec (.lookaheadWrite w) s = .next t ∧ t.lookahead = bitsOf w 23 16 ∧
      ∀ c : Fin 8, (t.ampCh c).line = []))

/-- R401 to R413: the channel state machine. -/
def Obligations.ChannelStates : Prop :=
  (∀ s : State,
    let stops (i : Instr) (l : List Nat) : Prop := ∃ t, exec i s = .next t ∧ ∀ c : Fin 8,
      t.chState c = if s.chState c ∈ l then 8 else s.chState c
    (s.amp.busLow = false → stops .busLow [2, 3, 6]) ∧ (s.amp.railOv = false → stops .railOvervoltage [1, 2, 3, 4, 6]) ∧
    (s.amp.otemp = false → stops .overTemperature [1, 2, 3, 4, 6]) ∧
    (s.amp.busLow = true → exec .busLow s = .next s) ∧
    (let restarts (i : Instr) : Prop := ∃ t, exec i s = .next t ∧ ∀ c : Fin 8, s.chState c ≠ 5 →
        t.chState c = if s.chState c = 8 then 2 else s.chState c
     ((s.setAmp { s.amp with busLow := false }).busOk = true → restarts .busLowRecover) ∧
     ((s.setAmp { s.amp with otemp := false }).busOk = true → restarts (.protectionRecover true)) ∧
     ((s.setAmp { s.amp with railOv := false }).busOk = true → restarts (.protectionRecover false)))) ∧
  (∀ (c : Fin 8) (us : BitVec 64) (s : State), s.calibrating c = false →
    let near := ((s.ampCh c).trips.filter (fun t => decide (us.toNat < t + 10000000))).length
    let trips (i : Instr) : Prop := ∃ t, exec i s = .next t ∧ t.chState c = (if 2 ≤ near then 7 else 5) ∧
      ∀ d : Fin 8, d ≠ c → t.chState d = s.chState d
    ((s.chState c = 1 ∨ s.switching c = true) → trips (.bootstrapUndervoltage c us)) ∧
    (s.switching c = true → (s.ampCh c).limRun = 7 → trips (.currentLimit c false us)) ∧
    (s.switching c = true → exec (.currentLimit c true us) s =
      .next ((s.modAmpCh c (fun x => { x with limRun := 1 })).count64 (Reg.PWR_CH_LIMCYC_LO c) 1)) ∧
    (s.chState c = 5 → s.busOk = true → exec (.tripRetry c) s =
      .next ((s.modAmpCh c (fun x => { x with att := 20, limRun := 0 })).setChState c 6)) ∧
    (s.chState c = 6 → (s.ampCh c).att = 1 → exec (.retryGainStep c) s =
      .next ((s.modAmpCh c (fun x => { x with att := 0 })).setChState c 3)) ∧
    (s.chState c = 6 → 1 < (s.ampCh c).att → exec (.retryGainStep c) s =
      .next (s.modAmpCh c (fun x => { x with att := (s.ampCh c).att - 1 }))) ∧
    (s.chState c = 0 → exec (.chEnable c) s = .next (s.setChState c 1)) ∧
    (s.chState c = 3 → exec (.chDisable c) s =
      .next ((s.modAmpCh c (fun x => { x with base := 64, ramp := 0 })).setChState c 4)) ∧
    (s.chState c = 7 → exec (.chClear c) s = .next (s.setChState c 0)) ∧
    (s.chState c = 7 → exec (.chEnable c) s = .next (s.supplyInvalid (Reg.PWR_CH_CMD c)) ∧
      exec (.chDisable c) s = .next (s.supplyInvalid (Reg.PWR_CH_CMD c))) ∧
    (s.chState c = 1 → s.busOk = true → exec (.prechgEnd c) s = .next (s.startCh c 0)) ∧
    (s.chState c = 1 → s.busOk = false → exec (.prechgEnd c) s = .next (s.setChState c 8)) ∧
    (s.chState c = 2 → 64 ≤ (s.ampCh c).ramp →
      exec (.channelRampEnd c) s = .next (s.setChState c (if (s.ampCh c).att = 0 then 3 else 6))) ∧
    (s.chState c = 4 → 64 ≤ (s.ampCh c).ramp → exec (.channelRampEnd c) s = .next (s.setChState c 0)))

/-- R192 to R202: the reception of a frame. -/
def Obligations.FrameReception : Prop :=
  ∀ (p : Fin 4) (b : List (BitVec 8)) (s : State),
    (s.linkUp p = false → exec (.frameReceive p b) s = .next s) ∧
    (s.linkUp p = true → s.asleep = false → (s.port p).cut = none →
      let u := s.modPort p (fun x => { x with cut := none })
      let g := (u.countNet p 0 1).countNet p 1 b.length
      (b.length < 64 → exec (.frameReceive p b) s = .next (u.count (ctrNet p 1))) ∧
      (64 ≤ b.length → u.maxFrm p < b.length → exec (.frameReceive p b) s = .next (u.count (ctrNet p 2))) ∧
      (64 ≤ b.length → b.length ≤ u.maxFrm p → fcsGood b = false →
        exec (.frameReceive p b) s = .next (u.count (ctrNet p 0))) ∧
      (64 ≤ b.length → b.length ≤ u.maxFrm p → fcsGood b = true →
        (frameType b = 0x8808 → exec (.frameReceive p b) s = .next (g.takeControl p b)) ∧
        (frameType b ≠ 0x8808 → terminated b = true → exec (.frameReceive p b) s = .next (g.toHouse p b)) ∧
        (terminated b = false → g.matched p b = [] → g.filtered p b = false →
          (g.isOwn p b = true → exec (.frameReceive p b) s = .next (g.toHost p b)) ∧
          (g.isOwn p b = false → frameDst b ≠ 2 ^ 48 - 1 → (g.lookup p (b.take (b.length - 4))).1 = [] →
            exec (.frameReceive p b) s = .next
              (if (g.lookup p (b.take (b.length - 4))).2 then g.count (ctrNet p 11) else g)) ∧
          (g.isOwn p b = false → frameDst b ≠ 2 ^ 48 - 1 → ∀ l : List Nat, g.lookup p (b.take (b.length - 4)) = (l, false) →
            exec (.frameReceive p b) s = .next
              (let x := g.forwardTo p l (b.take (b.length - 4)); if x.2 then x.1.countNet p 4 1 else x.1))))) ∧
    (∀ (e : Fin 4) (ns : BitVec 24), (s.linkUp p = false ∨ terminated b = true ∨ s.ownOnly p b = true) →
      exec (.cutThroughDecision p e b ns) s = .next s)

/-- R199 to R218: the transmitter. -/
def Obligations.Transmission : Prop :=
  (∀ (p e : Fin 4) (h : List (BitVec 8)) (ns : BitVec 24) (s : State),
    let q := s.pcpQueue e (framePcp h)
    let l := s.lookup p h
    let u := if l.2 then s.count (ctrNet p 11) else s
    let now : TxNow := ⟨⟨h, q, framePcp h, p, none, none, 0⟩, some p.val, false, 0, 0⟩
    s.linkUp p = true → s.asleep = false → terminated h = false → s.ownOnly p h = false →
    64 * s.get (Fld.NET_TXQ_THR_THR e q) ≤ h.length → (s.port p).cut = none →
    (e.val ∈ l.1 → s.mayCut p e q ns.toNat = true → exec (.cutThroughDecision p e h ns) s =
      .next ((u.modPort p (fun x => { x with cut := some ⟨l.1, l.2, [e.val]⟩ })).modPort e (fun x => { x with tx := some now }))) ∧
    (e.val ∉ l.1 ∨ s.mayCut p e q ns.toNat = false → exec (.cutThroughDecision p e h ns) s =
      .next (u.modPort p (fun x => { x with cut := some ⟨l.1, l.2, []⟩ })))) ∧
  (∀ (p : Fin 4) (b : List (BitVec 8)) (s : State) (t : TxNow), (s.port p).tx = some t → t.cut.isSome = true →
    ∃ r, exec (.underrun p b) s = .next r ∧ (r.port p).tx = none ∧
      r.liveAt (Reg.NET_CNT32 p 6) = min (s.liveAt (Reg.NET_CNT32 p 6) + 1) (2 ^ 32 - 1) ∧
      (t.frame.queue < 8 → r.on (Fld.NET_TXQ_THR_STEPPED p t.frame.queue) = true ∧
        r.get (Fld.NET_TXQ_THR_THR p t.frame.queue) =
          (if s.get (Fld.NET_TXQ_THR_THR p t.frame.queue) < 0x90 then s.get (Fld.NET_TXQ_THR_THR p t.frame.queue) + 1 else 0xFF))) ∧
  (∀ (p : Fin 4) (b : List (BitVec 8)) (s : State), (s.port p).tx = none → exec (.underrun p b) s = .next s) ∧
  (∀ (p : Fin 4) (ns : BitVec 24) (s : State),
    (∀ f, s.portFree p = true → s.choice p ns.toNat = some f →
      let now : TxNow := ⟨f, none, false, (s.txStamp p f.bytes).1, (s.txStamp p f.bytes).2⟩
      exec (.frameTransmitStart p ns) s = .next (s.modPort p (fun x => { x with queue := x.queue.erase f, tx := some now }))) ∧
    (s.portFree p = false ∨ s.choice p ns.toNat = none → exec (.frameTransmitStart p ns) s = .next s)) ∧
  (∀ (p : Fin 4) (s : State),
    ((s.port p).tx = none → exec (.frameTransmitDone p) s = .next s.pumpAll) ∧
    (∀ t, (s.port p).tx = some t → t.cut = none → t.frame.stamp = none → t.frame.host = none →
      exec (.frameTransmitDone p) s = .next ((((s.modPort p (fun x => { x with tx := none })).countNet p 2 1).countNet p 3
        (t.frame.bytes.length + 4)).send (.frame p t.frame.bytes (!t.bad))).pumpAll))

/-- R205 to R212: flow control and gates. -/
def Obligations.HaltsAndGates : Prop :=
  (∀ (p : Fin 4) (q : BitVec 16) (v : BitVec 8) (w : BitVec 128) (s : State), s.linkUp p = true → s.asleep = false →
    let u := (((s.countNet p 0 1).countNet p 1 64).count (ctrNet p 4))
    (u.on (Fld.NET_FC_CFG_PAUSE_RX p) = true → exec (.pauseFrameReceive p q) s =
      .next ((u.modPort p (fun x => { x with haltAll := decide (q.toNat ≠ 0) })).showHalts p)) ∧
    (u.on (Fld.NET_FC_CFG_PAUSE_RX p) = false → exec (.pauseFrameReceive p q) s = .next u) ∧
    (∃ t, exec (.pfcFrameReceive p v w) s = .next t ∧ ∀ i, i < 8 → (t.port p).halts.getLsbD i =
      if (u.get (Fld.NET_FC_CFG_PFC_RX p)).testBit i && v.getLsbD i then decide (w.toNat / 2 ^ (16 * i) % 65536 ≠ 0)
      else (s.port p).halts.getLsbD i)) ∧
  (∀ (p : Fin 4) (s : State),
    exec (.pauseHaltExpire p none) s = .next ((s.modPort p (fun x => { x with haltAll := false })).showHalts p) ∧
    ∀ i : Fin 8, ∃ t, exec (.pauseHaltExpire p (some i)) s = .next t ∧
      ∀ j : Fin 8, (t.port p).halts.getLsbD j = ((s.port p).halts.getLsbD j && decide (j ≠ i))) ∧
  (∀ (p : Fin 4) (s : State), s.linkUp p = true → (s.port p).tx = none → s.on (Fld.NET_STAT_LPITX p) = false →
    s.on (Fld.NET_FC_CFG_PAUSE_TX p) = true →
    let k := s.stored p (fun _ => true)
    let sent (xoff : Bool) (quanta : Nat) : State :=
      ((((s.setPort p { s.port p with xoffAll := xoff }).count (ctrNet p 5)).countNet p 2 1).countNet p 3
        ((s.macControl p 1 (beBytes quanta 2)).length + 4)).send (.frame p (s.macControl p 1 (beBytes quanta 2)) true)
    ((s.port p).xoffAll = false → 1024 * s.get (Fld.NET_FC_THR_XOFF p) < k →
      exec (.pauseFrameSend p) s = .next (sent true 0xFFFF)) ∧
    ((s.port p).xoffAll = true → k < 1024 * s.get (Fld.NET_FC_THR_XON p) →
      exec (.pauseFrameSend p) s = .next (sent false 0)) ∧
    ((s.port p).xoffAll = false → k ≤ 1024 * s.get (Fld.NET_FC_THR_XOFF p) → exec (.pauseFrameSend p) s = .next s)) ∧
  (∀ (p : Fin 4) (s : State),
    let i := s.get (Fld.NET_GCL_STAT_ENTRY p) + 1
    (s.gated p = true → i < (s.port p).gates.length →
      entryStart (s.port p).gates i * s.fs < 2 ^ s.get (Fld.NET_GCL_STAT_CYCLE p) * 1000000000 →
      exec (.gateEntryStart p) s = .next ((s.put (Fld.NET_GCL_STAT_ENTRY p) i).closeGates p (s.gatesNow p))) ∧
    (s.gated p = false → exec (.gateEntryStart p) s = .next s)) ∧
  (∀ (p : Fin 4) (s : State) (g : GateList), (s.port p).pend = some g → s.on (Fld.NET_GCL_STAT_EN p) = false →
    s.row.ticks = true →
    (s.row.rowIdx.toNat % 2 ^ g.cycle = 0 → exec (.gateCycleStart p) s = .next (s.startCycle p)) ∧
    ((s.port p).queue = [] → let t := s.startCycle p; (t.port p).gates = g.entries ∧
      (t.port p).schedq = g.schedq ∧ (t.port p).pend = none ∧ (t.port p).cycling = g.en ∧ t.get (Fld.NET_GCL_STAT_ENTRY p) = 0) ∧
    (s.row.rowIdx.toNat % 2 ^ g.cycle ≠ 0 → exec (.gateCycleStart p) s = .next s)) ∧
  (∀ (p : Fin 4) (s : State) (r : TpRec) (q : List TpRec), s.front r q → gclSwapIs p r = true →
    let u := s.withQueue q
    let g := u.shadowGates p
    (0 < g.entries.length → g.entries.length ≤ 256 → (∀ e ∈ g.entries, e.2 ≠ 0) → exec (.gclSwap p) s =
      .next (u.modPort p (fun x => { x with pend := some g }))) ∧
    (g.entries = [] ∨ (∃ e ∈ g.entries, e.2 = 0) → exec (.gclSwap p) s = .next (u.invalid (Reg.NET_GCL_CTL p))))

/-- R196, R213, R214, R220. -/
def Obligations.IdleStampsAndTable : Prop :=
  (∀ (p : Fin 4) (ns : BitVec 24) (s : State),
    (s.on (Fld.NET_STAT_LPITX p) = false → s.maySleep p ns.toNat = true → exec (.lpiEnter p ns) s =
      .next (((s.modPort p (fun x => { x with lpiFrom := s.tb.edges })).flag (Fld.NET_STAT_LPITX p) true).laneTxIdle p true)) ∧
    (s.on (Fld.NET_STAT_LPITX p) = true → exec (.lpiEnter p ns) s = .next s) ∧
    (s.get (Fld.ENG_PROFILE_POLICY) ≠ 2 ∨ s.on (Fld.NET_EEE_CFG_EN p) = false ∨ s.on (Fld.NET_EEE_STAT_NEGOK p) = false ∨
      (s.port p).queue ≠ [] → exec (.lpiEnter p ns) s = .next s)) ∧
  (∀ (p : Fin 4) (ns : BitVec 24) (s : State),
    let us := (s.tb.edges - (s.port p).lpiFrom) * 25 / 12288
    let due := s.txBound p = true ∧ s.row.ticks = true ∧
      1000000000 + 1200 * s.fs ≤ (ns.toNat + 1000 * s.get (Fld.NET_EEE_STAT_TWTX p)) * s.fs
    (s.on (Fld.NET_STAT_LPITX p) = true → (s.port p).queue ≠ [] ∨ due →
      (exec (.lpiExit p ns) s = .next (((s.countLpi p).flag (Fld.NET_STAT_LPITX p) false).laneTxIdle p false)) ∧
      (s.countLpi p).liveAt (Reg.NET_CNT64 p 10) = (s.liveAt (Reg.NET_CNT64 p 10) + us) % 2 ^ 64 ∧
      (s.countLpi p).regs = s.regs) ∧
    (s.on (Fld.NET_STAT_LPITX p) = false ∨ ((s.port p).queue = [] ∧ ¬ due) → exec (.lpiExit p ns) s = .next s)) ∧
  (∀ (p : Fin 4) (tw : BitVec 16) (s : State), s.linkUp p = true →
    let set (m : Nat) : Answer :=
      .next ((s.put (Fld.NET_EEE_STAT_TWTX p) (max m tw.toNat)).flag (Fld.NET_EEE_STAT_NEGOK p) true)
    (s.portType p = 2 → exec (.lldpReceive p tw) s = set 5) ∧ (s.portType p = 3 → exec (.lldpReceive p tw) s = set 4) ∧
    (s.portType p = 4 → exec (.lldpReceive p tw) s = set 4) ∧ (s.portType p = 1 → exec (.lldpReceive p tw) s = .next s)) ∧
  (∀ (p : Fin 4) (s : State),
    exec (.eeeTlvTimeout p) s = .next ((s.flag (Fld.NET_EEE_STAT_NEGOK p) false).leaveLpi p) ∧
    (s.linkUp p = true → (padFrame (s.lldpBytes p)).length + 4 ≤ s.maxFrm p → ∃ f : TxFrame, exec (.lldpSend p) s =
      .next (s.modPort p (fun x => { x with queue := x.queue ++ [f] })) ∧ f.bytes = padFrame (s.lldpBytes p) ∧ f.queue = 5 ∧
      f.host = none) ∧
    (s.linkUp p = false → exec (.lldpSend p) s = .next (s.count (ctrNet p 9)))) ∧
  (∀ (p : Fin 4) (w : Word) (s : State),
    (w.getLsbD 0 = false → exec (.txtsPop p w) s = .next s) ∧
    (∀ x l, w.getLsbD 0 = true → popStamp true (s.port p).stamps = some (x, l) → ∃ t, exec (.txtsPop p w) s = .next t ∧ (t.port p).stamps = l ∧
      t.reg (Reg.NET_TXTS_NS_LO p) = BitVec.ofNat 32 x.ns ∧ t.reg (Reg.NET_TXTS_NS_HI p) = BitVec.ofNat 32 (x.ns / 2 ^ 32) ∧
      t.reg (Reg.NET_TXTS_FRAC p) = BitVec.ofNat 32 x.frac ∧
      t.reg (Reg.NET_TXTS_INFO p) = BitVec.ofNat 32 (2 ^ 31 + x.tb * 2 ^ 28 + l.length * 2 ^ 16 + x.tag) ∧
      t = { s with regs := t.regs, net := t.net }) ∧
    (w.getLsbD 0 = true → popStamp true (s.port p).stamps = none → ∃ t, exec (.txtsPop p w) s = .next t ∧
      t.reg (Reg.NET_TXTS_INFO p) = 0 ∧ t.reg (Reg.NET_TXTS_NS_LO p) = 0 ∧ t.reg (Reg.NET_TXTS_NS_HI p) = 0 ∧
      t.reg (Reg.NET_TXTS_FRAC p) = 0 ∧ t = { s with regs := t.regs })) ∧
  (∀ (w : Word) (s : State),
    let i := s.get Fld.FDB_SEL_INDEX
    ∃ t, exec (.fdbHiWrite w) s = .next t ∧ t.get Fld.FDB_SEL_INDEX = (i + 1) % 2048 ∧
      t.fdbEntry (i % 2048) = ⟨w.msb, BitVec.ofNat 4 (w.toNat / 2 ^ 26), w.toNat / 2 ^ 14 % 4096,
        (s.reg Reg.FDB_MAC).toNat * 2 ^ 32 + (s.reg Reg.FDB_LO).toNat⟩ ∧
      ∀ j, j ≠ i % 2048 → t.fdbEntry j = s.fdbEntry j)

/-- R242 to R244: flow commands. -/
def Obligations.FlowBinding : Prop :=
  (∀ (i : Fin 256) (s : State) (r : TpRec) (q : List TpRec), s.front r q →
    let u := s.withQueue q
    let bound (n st : Nat) : FlowSlot := { flowReset with
      state := st, incarn := (s.flow n).incarn, cfg := u.shadowCfg n, start := u.firstOut u.tickRow }
    (fcmdIs 1 false i r = true →
      (u.bindReason i (u.shadowCfg i) = 0 → exec (.rxBind i) s = .next ((u.setFlow i (bound i 1)).followFlowSat)) ∧
      (u.bindReason i (u.shadowCfg i) ≠ 0 →
        exec (.rxBind i) s = .next (u.refuseFlow i (u.bindReason i (u.shadowCfg i))))) ∧
    (fcmdIs 1 true i r = true →
      (u.bindReason (256 + i) (u.shadowCfg (256 + i)) = 0 →
        exec (.txBind i) s = .next ((u.setFlow (256 + i) (bound (256 + i) 2)).followFlowSat)) ∧
      (u.bindReason (256 + i) (u.shadowCfg (256 + i)) ≠ 0 →
        exec (.txBind i) s = .next (u.refuseFlow (256 + i) (u.bindReason (256 + i) (u.shadowCfg (256 + i)))))) ∧
    (fcmdIs 2 false i r = true →
      (1 ≤ (s.flow i).state → (s.flow i).state ≤ 3 → exec (.rxBindoff i) s = .next (u.modFlow i (fun f =>
        { f with state := 4, reason := 0, fade := 0, early := none, offRow := none }))) ∧
      ((s.flow i).state = 0 ∨ 3 < (s.flow i).state → exec (.rxBindoff i) s = .next (u.refuseFlow i 9))) ∧
    (fcmdIs 2 true i r = true →
      (1 ≤ (s.flow (256 + i)).state → (s.flow (256 + i)).state ≤ 3 →
        exec (.txBindoff i) s = .next (u.modFlow (256 + i) (fun f =>
          { f with state := 4, reason := 0, fade := 0, early := none, offRow := some (u.firstOut u.tickRow) }))) ∧
      ((s.flow (256 + i)).state = 0 ∨ 3 < (s.flow (256 + i)).state →
        exec (.txBindoff i) s = .next (u.refuseFlow (256 + i) 9)))) ∧
  (∀ (tx : Bool) (i : Fin 256) (s : State),
    let n := flowKey tx i
    (s.fadeDone n = true → ∃ t, exec (.flowBindoffEnd tx i) s = .next t ∧ (t.flow n).state = 5 ∧
      (t.flow n).drain = s.tbNs s.media ∧ (∀ m, m ≠ n → t.flow m = s.flow m) ∧ t = { s with str := t.str }) ∧
    ((s.flow n).state ≠ 4 → exec (.flowBindoffEnd tx i) s = .next s) ∧
    ((s.flow n).state = 5 → (s.flow n).drain + 2000000 ≤ s.tbNs s.media → ∃ t, exec (.flowDrainEnd tx i) s = .next t ∧
      (t.flow n).state = 0 ∧ (t.flow n).incarn = ((s.flow n).incarn + 1) % 65536 ∧ (∀ m, m ≠ n → t.flow m = s.flow m) ∧
      t = { s with str := t.str }) ∧
    ((s.flow n).state = 5 → s.tbNs s.media < (s.flow n).drain + 2000000 → exec (.flowDrainEnd tx i) s = .next s)) ∧
  (∀ (i : Fin 256) (s : State),
    ((s.flow i).state = 2 → s.get Fld.STR_CFG_TIMEOUT ≤ (s.flow i).quiet → exec (.flowLost i) s =
      .next ((s.modFlow i (fun f => { f with state := 3 })).raise 100 i)) ∧
    ((s.flow i).state ≠ 2 ∨ (s.flow i).quiet < s.get Fld.STR_CFG_TIMEOUT → exec (.flowLost i) s = .next s))

/-- R229, R235 to R238: what becomes of a Malraing frame. -/
def Obligations.MalraingReception : Prop :=
  ∀ (p : Fin 4) (b : List (BitVec 8)) (ns : BitVec 24) (s : State),
    let late := s.pastDeadline ns.toNat
    let ms := (s.matched p b).filter (fun n => cfgFmt (s.flow n).cfg == 0)
    (ms = [] → exec (.malraingFrameReceive p b ns) s = .next s) ∧
    (∀ n, ms = [n] →
      let f := s.flow n
      let u := s.countFrame n
      let h := frameBody b + 24
      let x : Word := BitVec.ofNat 32 (beAt b h 4)
      let claim : Word := BitVec.ofNat 32 (beAt b (h + 4) 4)
      let ws := rowIn b (h + 18) (cfgNch f.cfg) 4
      let d := (x - s.recvRow).toNat
      let known := copyOf f.hist x
      (f.state = 4 ∨ f.state = 5 → exec (.malraingFrameReceive p b ns) s = .next u) ∧
      (f.state < 4 → u.malFormed f b = false → exec (.malraingFrameReceive p b ns) s = .next (u.countFlow n 4 1)) ∧
      (f.state = 2 → u.malFormed f b = true → beAt b (h + 8) 2 ≠ f.latch → laterThan 16 (beAt b (h + 8) 2) f.latch = false →
        exec (.malraingFrameReceive p b ns) s = .next (u.countFlow n 5 1)) ∧
      ((f.state = 1 ∨ f.state = 3) → u.malFormed f b = true → cfgBits f.cfg 12 31 31 = 1 →
        beAt b (h + 8) 2 ≠ cfgBits f.cfg 12 15 0 → exec (.malraingFrameReceive p b ns) s = .next (u.countFlow n 5 1)) ∧
      (f.state = 2 → u.malFormed f b = true → beAt b (h + 8) 2 = f.latch → beAt b (h + 12) 1 / 32 % 2 = 0 →
        (d = 0 → late = false → (known = none ∨ ∃ c, known = some c ∧ claimHigher claim c = true) →
          exec (.malraingFrameReceive p b ns) s =
            .next ((u.modFlow n (fun f => { f with hist := noteCopy f.hist x claim })).writeFlow n ws)) ∧
        (∀ c, d = 0 → late = false → known = some c → claimHigher claim c = false →
          exec (.malraingFrameReceive p b ns) s = .next (u.countDup n)) ∧
        (∀ c, d = 0 → late = true → known = some c → exec (.malraingFrameReceive p b ns) s =
          .next (if claimHigher claim c then (u.countFlow n 1 1).countFlow n 7 1 else u.countFlow n 1 1)) ∧
        (d = 0 → late = true → known = none → exec (.malraingFrameReceive p b ns) s = .next (u.countLate n false)) ∧
        (d = 1 → s.on Fld.STR_CFG_EARLY = true → f.early = none → exec (.malraingFrameReceive p b ns) s =
          .next (u.modFlow n (fun f => { f with early := some ⟨x, claim, ws⟩ }))) ∧
        (1 ≤ d → d < 2 ^ 31 → (d ≠ 1 ∨ s.on Fld.STR_CFG_EARLY = false) →
          exec (.malraingFrameReceive p b ns) s = .next (u.countFlow n 3 1)) ∧
        (2 ^ 31 ≤ d → 2 ^ 32 - d ≤ 63 → known = none →
          exec (.malraingFrameReceive p b ns) s = .next (u.countLate n false)) ∧
        (2 ^ 31 ≤ d → 63 < 2 ^ 32 - d → exec (.malraingFrameReceive p b ns) s = .next (u.countLate n true))))

/-- R249 to R255. -/
def Obligations.PacketReception : Prop :=
  (∀ (p : Fin 4) (b : List (BitVec 8)) (s : State),
    let ma := (s.matched p b).filter (fun n => cfgFmt (s.flow n).cfg == 1)
    let mr := (s.matched p b).filter (fun n => decide (2 ≤ cfgFmt (s.flow n).cfg))
    let a := frameBody b
    let udp := a + beAt b a 1 % 16 * 4
    (ma = [] → exec (.aafPacketReceive p b) s = .next s) ∧ (mr = [] → exec (.rtpPacketReceive p b) s = .next s) ∧
    (∀ n, ma = [n] →
      let c := (s.flow n).cfg
      let u := s.countFrame n
      let t := nearestTime (u.tbNs u.media) (beAt b (a + 12) 4)
      ((s.flow n).state = 4 ∨ (s.flow n).state = 5 → exec (.aafPacketReceive p b) s = .next u) ∧
      ((s.flow n).state < 4 → u.aafFormed c b = false → exec (.aafPacketReceive p b) s = .next (u.countFlow n 4 1)) ∧
      ((s.flow n).state = 2 → u.aafFormed c b = true → exec (.aafPacketReceive p b) s =
        .next ((u.takeSeq n (beAt b (a + 2) 1) 8).placeRows n (BitVec.ofNat 32 ((t * u.fs + 999999999) / 1000000000))
          (payloadRows c b (a + 24))))) ∧
    (∀ n, mr = [n] →
      let c := (s.flow n).cfg
      let u := s.countFrame n
      ((s.flow n).state = 4 ∨ (s.flow n).state = 5 → exec (.rtpPacketReceive p b) s = .next u) ∧
      ((s.flow n).state < 4 → rtpPayload c b = none → exec (.rtpPacketReceive p b) s = .next (u.countFlow n 4 1)) ∧
      (∀ off, (s.flow n).state = 2 → rtpPayload c b = some off → (cfgBits c 8 31 0 = 0 ∨ beAt b (udp + 16) 4 = cfgBits c 8 31 0) →
        (beAt b (udp + 16) 4 = (s.flow n).latch → exec (.rtpPacketReceive p b) s =
          .next ((u.takeSeq n (beAt b (udp + 10) 2) 16).placeRows n
            (BitVec.ofNat 32 (beAt b (udp + 12) 4) - BitVec.ofNat 32 (cfgBits c 10 31 0) + BitVec.ofNat 32 (cfgBits c 11 12 0))
            (payloadRows c b off))) ∧
        (beAt b (udp + 16) 4 ≠ (s.flow n).latch → exec (.rtpPacketReceive p b) s = .next (u.countFlow n 5 1))))) ∧
  (∀ s : State, (s.str.dead = true → exec .receiveDeadline s = .next s) ∧
    (s.str.dead = false → s.rxKeys = [] → exec .receiveDeadline s = .next { s with str := { s.str with dead := true } }) ∧
    (∀ n, s.str.dead = false → s.rxKeys = [n] → ((s.flow n).state = 2 ∨ (s.flow n).state = 3) → cfgFmt (s.flow n).cfg ≠ 0 →
      let u := s.modFlow n (fun f => { f with jit := f.jit.filter (fun p => laterThan 32 p.1.toNat s.recvRow.toNat) })
      let done (s : State) : Answer := .next { s with str := { s.str with dead := true } }
      ((s.flow n).jit.find? (fun p => p.1 == s.recvRow) = none → exec .receiveDeadline s =
        done (if (s.flow n).state = 2 then u.countMissing n else u)) ∧
      (∀ x, (s.flow n).jit.find? (fun p => p.1 == s.recvRow) = some x →
        exec .receiveDeadline s = done (u.writeFlow n x.2))))

/-- R275 to R285: the lane state machine. -/
def Obligations.LaneStates : Prop :=
  ∀ (n : Fin 6) (g : BitVec 4) (pk : BitVec 5) (tp : BitVec 70) (s : State),
    let e := eqOf g pk tp
    let st := s.laneState n
    (st = 1 → exec (.laneLock n g pk tp) s = .next ((s.applyEq n e).setLaneState n 2)) ∧
    (st ≠ 1 → exec (.laneLock n g pk tp) s = .next s) ∧
    (st = 2 → exec (.laneUp n) s =
      .next (((s.setLaneState n (s.restState n)).flag (Fld.LANE_STAT_SIGDET n) true).laneUp n)) ∧
    (st ≠ 2 → exec (.laneUp n) s = .next s) ∧
    ((st = 3 ∨ st = 5) → exec (.laneLockLoss n) s = .next (((s.count (ctrLane n 0)).raise 70 n).acquire n)) ∧
    (st < 3 → exec (.laneLockLoss n) s = .next s) ∧
    (∀ units : BitVec 32,
      (s.receives n = true → s.adapt n = 0 → s.on (Fld.LANE_STAT_FROZEN n) = false →
        1024 * s.get (Fld.LANE_RXEQ_CFG_FRZRUN n) ≤ units.toNat → ∃ t, exec (.adaptFreeze n ⟨g, pk⟩ tp units) s = .next t ∧
        t.on (Fld.LANE_STAT_FROZEN n) = true ∧ t = { s with regs := t.regs, lane := t.lane }) ∧
      (s.adapt n ≠ 0 ∨ units.toNat < 1024 * s.get (Fld.LANE_RXEQ_CFG_FRZRUN n) →
        exec (.adaptFreeze n ⟨g, pk⟩ tp units) s = .next s)) ∧
    (s.receives n = true ↔ st = 3 ∨ st = 4 ∧ (s.laneS n).rxIdle = false) ∧
    (s.receives n = true → s.on (Fld.LANE_STAT_FROZEN n) = true → s.drifts n e (s.eqAt n 1) = false → exec (.runEnd n g pk tp) s =
      .next (((s.flag (Fld.LANE_STAT_FROZEN n) false).modLane n (fun x => { x with est := e })).putEq n 0 (s.eqAt n 1))) ∧
    (s.receives n = true → s.on (Fld.LANE_STAT_FROZEN n) = true → s.drifts n e (s.eqAt n 1) = true →
      let u := ((((s.flag (Fld.LANE_STAT_FROZEN n) false).modLane n (fun x => { x with est := e })).count (ctrLane n 2)).raise
        71 n).putEq n 0 e
      exec (.runEnd n g pk tp) s =
        .next (if s.on (Fld.LANE_DRIFT_CFG_ACT n) then u.setLaneState n 5 else u)) ∧
    (s.receives n = false → exec (.runEnd n g pk tp) s = .next s) ∧
    (st = 5 → exec (.retrainEnd n g pk tp) s =
      .next (((s.putEq n 0 e).setLaneState n (s.restState n)).count (ctrLane n 1))) ∧
    (st ≠ 5 → exec (.retrainEnd n g pk tp) s = .next s) ∧
    (s.receives n = true → exec (.laneEidleEnter n g pk tp) s =
      .next (((((s.freeze n e).modLane n (fun x => { x with rxIdle := true })).flag (Fld.LANE_STAT_SIGDET n) false).setLaneState n
        4).showTwinLane n)) ∧
    (st < 3 → exec (.laneEidleEnter n g pk tp) s = .next s) ∧
    (st = 4 → (s.laneS n).rxIdle = true → (n.val < 4 ∨ s.asleep = false) → exec (.laneSignalDetect n) s =
      .next ((s.flag (Fld.LANE_STAT_SIGDET n) true).applyEq n (s.eqAt n 1))) ∧
    (st ≠ 4 → exec (.laneSignalDetect n) s = .next s ∧ exec (.fastExitLock n g pk tp) s = .next s ∧
      exec (.fastExitFail n) s = .next s) ∧
    (s.fastExit n = true →
      let u := (s.modLane n (fun x => { x with rxIdle := false })).setLaneState n (s.restState n)
      exec (.fastExitLock n g pk tp) s = .next ((if u.adapt n = 0 then u.driftGuard n e else u).showTwinLane n)) ∧
    (s.fastExit n = true →
      exec (.fastExitFail n) s = .next (((s.count (ctrLane n 4)).raise 73 n).acquire n)) ∧
    (s.restState n = 4 ↔ s.on (Fld.LANE_STAT_EIDLE_TX n) = true) ∧ (s.restState n = 3 ↔ s.on (Fld.LANE_STAT_EIDLE_TX n) = false) ∧
    (∀ k, k < 7 → (s.setLaneState n k).laneState n = k ∧
      (n.val < 4 → ((s.setLaneState n k).on (Fld.NET_STAT_LINK n) = true ↔ k = 3 ∨ k = 5)) ∧
      (4 ≤ n.val → s.setLaneState n k = s.put (Fld.LANE_STAT_STATE n) k))

/-- R191, R269 to R291. -/
def Obligations.LaneSettings : Prop :=
  (∀ (p : Fin 4) (w : Word) (s : State),
    let u := s.writeReg (Reg.NET_CTL p) w
    let x := s.writeReg (Reg.LANE_CFG p) w
    let v := u.get (Fld.NET_CTL_SPEED p)
    (v ≠ s.get (Fld.NET_CTL_SPEED p) → exec (.speedWrite p w) s =
      .next (((u.dropLink p).put (Fld.NET_STAT_SPEED_ACT p) v).setMode p v)) ∧
    (v = s.get (Fld.NET_CTL_SPEED p) → exec (.speedWrite p w) s = .next u) ∧
    (x.on (Fld.LANE_CFG_TXREF p) ≠ s.on (Fld.LANE_CFG_TXREF p) → exec (.txrefWrite p w) s =
      .next ((x.dropLink p).setMode p (x.laneMode p))) ∧
    (x.on (Fld.LANE_CFG_TXREF p) = s.on (Fld.LANE_CFG_TXREF p) → exec (.txrefWrite p w) s = .next x)) ∧
  (∀ (i : Fin 2) (w : Word) (s : State),
    let n := 4 + i.val
    let x := s.writeReg (Reg.LANE_CFG n) w
    (x.on (Fld.LANE_CFG_EN n) ≠ s.on (Fld.LANE_CFG_EN n) → exec (.laneEnWrite i w) s =
      .next (x.setMode n (if x.on (Fld.LANE_CFG_EN n) then 5 else 0))) ∧
    (x.on (Fld.LANE_CFG_EN n) = s.on (Fld.LANE_CFG_EN n) → exec (.laneEnWrite i w) s = .next x) ∧
    let fill (k : Nat) : State := s.modLane n (fun x => { x with fill := k })
    let m := (s.laneS n).fill
    (s.laneMode n ≠ 0 → exec (.elasticError ⟨i, []⟩) s = .next s ∧
      (m ≠ 32 → exec (.elasticError ⟨i, [0]⟩) s = .next (fill (m + 1))) ∧ (m ≠ 0 → exec (.elasticError ⟨i, [1]⟩) s = .next (fill (m - 1))) ∧
      (m = 32 → exec (.elasticError ⟨i, [0]⟩) s = .next (((fill 16).count (ctrLane n 3)).raise 72 n)) ∧
      (m = 0 → exec (.elasticError ⟨i, [1]⟩) s = .next (((fill 16).count (ctrLane n 3)).raise 72 n)) ∧
      (20 < m → exec (.elasticError ⟨i, [2]⟩) s = .next ((fill (m - 1)).countLane n 2 1)) ∧
      (m < 12 → exec (.elasticError ⟨i, [2]⟩) s = .next ((fill (m + 1)).countLane n 1 1)) ∧
      (12 ≤ m → m ≤ 20 → exec (.elasticError ⟨i, [2]⟩) s = .next s) ∧
      (∀ a l, ∃ t, exec (.elasticError ⟨i, [a]⟩) s = .next t ∧ exec (.elasticError ⟨i, a :: l⟩) s = exec (.elasticError ⟨i, l⟩) t)) ∧
    (∀ l, s.laneMode n = 0 → exec (.elasticError ⟨i, l⟩) s = .next s)) ∧
  (∀ (n : Fin 6) (w : Word) (s : State),
    (txfirOk w = true → exec (.txfirWrite n w) s = .next (s.writeFields (Reg.LANE_TXFIR n) w)) ∧
    (txfirOk w = false → exec (.txfirWrite n w) s = .next (s.invalid (Reg.LANE_TXFIR n))) ∧
    (txfirOk w = true ↔ bitsOf w 28 24 ≤ 16 ∧ 24 ≤ bitsOf w 22 16 ∧ bitsOf w 22 16 ≤ 64 ∧ bitsOf w 12 8 ≤ 24 ∧
      bitsOf w 28 24 + bitsOf w 22 16 + bitsOf w 12 8 ≤ 64 ∧ 16 + bitsOf w 28 24 + bitsOf w 12 8 ≤ bitsOf w 22 16)) ∧
  (∀ (n : Fin 6) (w : Word) (s : State), s.laneState n ≠ 6 → s.inReset = false →
    let u := s.put (Fld.LANE_LOOP_CTL_MODE n) (w.toNat % 4)
    (w.toNat % 4 = 0 → exec (.loopbackStart n w) s = .next u ∧ exec (.loopbackEnd n) s = .next (s.put (Fld.LANE_LOOP_CTL_MODE n) 0)) ∧
    (w.toNat % 4 = 3 → u.laneState n ≠ 3 → exec (.loopbackStart n w) s =
      .next ((u.put (Fld.LANE_LOOP_STAT_RESULT n) 3).put (Fld.LANE_LOOP_STAT_MODE n) 0)) ∧
    ((w.toNat % 4 = 1 ∨ w.toNat % 4 = 2) → u.foregroundOk = false → exec (.loopbackStart n w) s =
      .next (((u.put (Fld.LANE_LOOP_STAT_RESULT n) 2).put (Fld.LANE_LOOP_STAT_MODE n) 0).refuseSwatch 6 1)) ∧
    ((w.toNat % 4 = 1 ∨ w.toNat % 4 = 2) → u.foregroundOk = true → ∃ t, exec (.loopbackStart n w) s = .next t ∧
      t.get (Fld.LANE_LOOP_STAT_RESULT n) = 1 ∧ t.get (Fld.LANE_LOOP_STAT_MODE n) = w.toNat % 4 ∧ t.laneState n = 6 ∧
      t.on (Fld.LANE_STAT_EIDLE_TX n) = true)) ∧
  (∀ (n : Fin 6) (s : State), s.laneState n = 6 → s.nearEnd n = false → s.get (Fld.LANE_LOOP_STAT_MODE n) ≠ 0 →
    (s.setMode n (s.laneMode n)).inReset = false →
    exec (.loopbackEnd n) s = .next ((s.setMode n (s.laneMode n)).put (Fld.LANE_LOOP_CTL_MODE n) 0)) ∧
  (∀ (n : Fin 6) (w : Word) (s : State),
    let a := Reg.LANE_EYE_SEL n
    let u := ((s.writeReg a w).flag (Fld.LANE_EYE_STAT_DONE n) false).flag (Fld.LANE_EYE_STAT_ABORT n) false
    (w.msb = true → (s.laneS n).eye = true → exec (.eyeScanGo n w) s = .next (s.invalid a)) ∧
    (w.msb = false → exec (.eyeScanGo n w) s = .next (s.writeReg a w)) ∧
    (w.msb = true → (s.laneS n).eye = false → badCodes a w = false →
      let st := s.laneState n
      ((st = 3 ∨ st = 5 ∨ st = 6) → exec (.eyeScanGo n w) s =
        .next ((u.modLane n (fun x => { x with eye := true })).flag (Fld.LANE_EYE_STAT_BUSY n) true)) ∧
      (st < 3 → exec (.eyeScanGo n w) s = .next (u.flag (Fld.LANE_EYE_STAT_ABORT n) true)))) ∧
  (∀ (n : Fin 6) (k : BitVec 32) (s : State),
    ((s.laneS n).eye = true → ∃ t, exec (.eyePointDone n k) s = .next t ∧ (t.laneS n).eye = false ∧
      t.on (Fld.LANE_EYE_STAT_BUSY n) = false ∧ t.on (Fld.LANE_EYE_STAT_DONE n) = true ∧
      t.get (Fld.LANE_EYE_ERR_ERR n) = min k.toNat (2 ^ (16 + s.get (Fld.LANE_EYE_SEL_DWELL n))) ∧
      t = { s with regs := t.regs, lane := t.lane }) ∧
    ((s.laneS n).eye = false → exec (.eyePointDone n k) s = .next s))

/-- R376 to R386: the states of a local port. -/
def Obligations.LocalPortStates : Prop :=
  (∀ (p : Fin 34) (s : State) (r : TpRec) (q : List TpRec), s.front r q →
    let u := s.withQueue q
    (portCmdIs 1 p r = true →
      (s.lstate p = 0 → u.portConfigOk p = true → ∃ t, exec (.portCaston p) s = .next t ∧ t.lstate p = 1 ∧
        t.get (Fld.PORT_STAT_REASON p) = 0) ∧
      (s.lstate p = 0 → u.portConfigOk p = false → exec (.portCaston p) s = .next (u.put (Fld.PORT_STAT_REASON p) 7)) ∧
      (s.lstate p ≠ 0 → exec (.portCaston p) s = .next ((u.put (Fld.PORT_STAT_REASON p) 6).invalid (Reg.PORT_CMD p)))) ∧
    (portCmdIs 2 p r = true →
      (s.lstate p = 0 → exec (.portBindoff p) s = .next ((u.put (Fld.PORT_STAT_REASON p) 6).invalid (Reg.PORT_CMD p))) ∧
      (s.lstate p = 1 ∨ s.lstate p = 2 ∨ s.lstate p = 7 → exec (.portBindoff p) s = .next (u.portOff p)) ∧
      (s.lstate p = 3 ∨ s.lstate p = 4 → s.on (Fld.PORT_START_CFG_METHOD p) = true → exec (.portBindoff p) s =
        .next ((u.modLport p (fun x => { x with stopAt := some s.row.rowIdx })).setLstate p 6)) ∧
      (s.lstate p = 3 ∨ s.lstate p = 4 → s.on (Fld.PORT_START_CFG_METHOD p) = false → ∃ t, exec (.portBindoff p) s = .next t ∧
        t.lstate p = 5 ∧ (t.lport p).zfrom = s.row.rowIdx ∧ (t.lport p).zlate = false) ∧
      (s.lstate p = 5 ∨ s.lstate p = 6 → exec (.portBindoff p) s = .next u)) ∧
    (portCmdIs 3 p r = true →
      (isAesIn p = true ∨ isAesOut p = true → exec (.portCommit p) s = .next (u.invalid (Reg.PORT_CMD p))) ∧
      (isTdm p = true ∨ isMadi p = true → s.lstate p = 0 → exec (.portCommit p) s = .next (u.copyMasks p)) ∧
      (isTdm p = true ∨ isMadi p = true → s.lstate p ≠ 0 → exec (.portCommit p) s = .next (u.modLport p (fun x => { x with commitDue := true }))))) ∧
  (∀ (g : Fin 4) (s : State) (r : TpRec), s.front r [] → s.group g = ⟨none, false⟩ → r.value.getLsbD 29 = false →
    let u := s.withQueue []
    let k := s.reg (Reg.GRP_ROW g)
    let lead := (k - s.tickRow).toNat
    (groupCmdIs 1 g r = true →
      (u.maxPreclk g + 1 ≤ lead → lead ≤ 2 ^ 24 →
        exec (.groupStart g) s = .next ((u.put (Fld.GRP_STAT_RESULT g) 1).scheduleStart g k)) ∧
      (lead < u.maxPreclk g + 1 → exec (.groupStart g) s = .next (u.put (Fld.GRP_STAT_RESULT g) 3))) ∧
    (groupCmdIs 2 g r = true → 1 ≤ lead → lead ≤ 2 ^ 24 →
      exec (.groupStop g) s = .next ((u.put (Fld.GRP_STAT_RESULT g) 1).setGroup g ⟨some (2, k), false⟩)) ∧
    (groupCmdIs 3 g r = true → 1 ≤ lead → lead ≤ 2 ^ 24 →
      exec (.groupCommit g) s = .next ((u.put (Fld.GRP_STAT_RESULT g) 1).setGroup g ⟨some (3, k), false⟩))) ∧
  (∀ s : State, (s.row.ticks = false → exec .startPinEdge s = .next s) ∧
    ((∀ g : Fin 4, (s.group g).pin = false) → exec .startPinEdge s = .next s) ∧
    (∀ g : Fin 4, s.row.ticks = true → (s.group g).pin = true → (∀ h : Fin 4, h ≠ g → (s.group h).pin = false) →
      let k := s.row.rowIdx + 1 + BitVec.ofNat 32 (s.maxPreclk g + 1)
      exec .startPinEdge s = .next ((s.setReg (Reg.GRP_ROW g) k).scheduleStart g k))) ∧
  (∀ (p : Fin 34) (s : State),
    let n := BitVec.ofNat 32 (s.preclk p)
    (s.lstate p ≠ 1 ∨ s.row.ticks = false → exec (.portStart p) s = .next s) ∧
    (s.lstate p = 1 → s.row.ticks = true → s.grouped p = false →
      (s.portLocked p = true → exec (.portStart p) s = .next (s.beginPort p (s.row.rowIdx + n))) ∧
      (s.portLocked p = false → exec (.portStart p) s = .next s)) ∧
    (∀ k, s.lstate p = 1 → s.row.ticks = true → s.grouped p = true → (s.lport p).startAt = some k →
      (s.row.rowIdx = k - n → s.portLocked p = true → exec (.portStart p) s = .next (s.beginPort p k)) ∧
      (s.row.rowIdx = k - n → s.portLocked p = false → exec (.portStart p) s = .next (s.portFault p 1)) ∧
      (s.row.rowIdx ≠ k - n → exec (.portStart p) s = .next s)) ∧
    (s.lstate p = 2 → (s.lport p).startAt = some s.row.rowIdx → exec (.preclkEnd p) s =
      .next ((s.modLport p (fun x => { x with startAt := none })).setLstate p 4)) ∧
    (s.lstate p ≠ 2 → exec (.preclkEnd p) s = .next s) ∧
    (∀ k, s.lstate p = 6 → (s.lport p).stopAt = some k →
      (s.get (Fld.PORT_START_CFG_PRECLK p) ≤ (s.row.rowIdx - k).toNat → exec (.postclkEnd p) s = .next (s.portOff p)) ∧
      ((s.row.rowIdx - k).toNat < s.get (Fld.PORT_START_CFG_PRECLK p) → exec (.postclkEnd p) s = .next s)) ∧
    (s.lstate p = 3 ∨ s.lstate p = 5 → (s.lport p).zlate = false →
      (s.zcRows p ≤ (s.row.rowIdx - (s.lport p).zfrom).toNat → exec (.zcTimeout p) s =
        .next (((s.setLport p { s.lport p with zlate := true }).count (ctrPort p 2)).raise 164 p)) ∧
      ((s.row.rowIdx - (s.lport p).zfrom).toNat < s.zcRows p → exec (.zcTimeout p) s = .next s)) ∧
    (s.lstate p = 7 → s.on (Fld.PORT_START_CFG_AUTO p) = true → s.fs ≤ (s.lport p).lockRows →
      exec (.portAutoRearm p) s = .next (s.armPort p true)) ∧
    (s.lstate p ≠ 7 ∨ s.on (Fld.PORT_START_CFG_AUTO p) = false → exec (.portAutoRearm p) s = .next s))

/-- R356 to R362: frames of the local ports. -/
def Obligations.LocalFrames : Prop :=
  (∀ (p : Fin 34) (ns : BitVec 16) (cl : BitVec 12) (good : Bool) (hz : BitVec 18) (a b : List (BitVec 32)) (s : State),
    let u := s.measure p hz.toNat
    let runs : Prop := 3 ≤ u.lstate p ∧ u.lstate p ≤ 6
    let bad : Prop := good = false ∨ (isTdm p = true ∧ cl.toNat ≠ u.tdmLen p)
    let off : Prop := u.portTol p < phaseDist (u.phaseOf ns.toNat) (u.phaseOf (u.get (Fld.PORT_STAT_PHASE p)))
    let lost := (u.setLport p { u.lport p with errs := (u.lport p).errs + 1 }).unlock p
    let act := exec (.localFrameReceive p ns cl good hz a b) s
    (isAesIn p = true → u = s.put (Fld.AESI_RX_INFO_MEASFS (p.val - 16)) (measuredFs hz.toNat)) ∧
    (isAesIn p = false → u = s) ∧
    (isAesOut p = true → act = .next s) ∧
    (isAesOut p = false → u.slavePort p = false → act = .next (u.takeFrame p a b)) ∧
    (isAesOut p = false → u.slavePort p = true →
      (bad → ¬ runs → act = .next lost) ∧
      (bad → runs → (u.lport p).errs = 0 → act = .next (lost.count (ctrPort p 0))) ∧
      (bad → runs → 1 ≤ (u.lport p).errs → act = .next ((lost.count (ctrPort p 0)).portFault p 4)) ∧
      (¬ bad → runs → off → act = .next ((u.lockFrame p ns.toNat).portFault p 3)) ∧
      (¬ bad → (¬ runs ∨ ¬ off) → act = .next ((u.lockFrame p ns.toNat).takeFrame p a b))) ∧
    (s.lstate p = 0 → s.takeFrame p a b = s) ∧
    (isTdm p = true → s.lstate p = 4 → s.on (Fld.TDM_CFG_CLAIMRX p) = false → (s.lport p).rebind = none →
      let ws := (addrs 0 1 (s.tdmSlots p)).map (s.tdmSlot p a)
      let out := ((ws.zip (s.inChans p)).zip (addrs 0 1 64)).map (fun y => if y.1.2 then some y.1.1 else some 0)
      s.takeFrame p a b =
        ((s.modLport p (fun x => { x with rxPrev := ws })).writeIn p out).count64 (Reg.PORT_FRAMES_LO p) 1)) ∧
  (∀ (p : Fin 34) (s : State),
    let u := s.measure p 0
    (u.slavePort p = true → 3 ≤ u.lstate p → u.lstate p ≤ 6 →
      exec (.portNoclkTimeout p) s = .next ((u.unlock p).portFault p 2)) ∧
    (u.slavePort p = true → u.lstate p < 3 ∨ u.lstate p = 7 → exec (.portNoclkTimeout p) s = .next (u.unlock p)) ∧
    (u.slavePort p = false → exec (.portNoclkTimeout p) s = .next u) ∧
    (isAesIn p = true ∨ s.lstate p < 2 → exec (.localFrameSend p) s = .next s) ∧
    (isTdm p = true → s.lstate p = 4 → (s.lport p).commitDue = false → (s.lport p).rebind = none →
      let ws := (addrs 0 1 (s.outChans p).length).map (fun c => (s.lport p).txNow.getD c 0)
      exec (.localFrameSend p) s = .next (((s.modLport p (fun x => { x with txPos := 0 })).send
        (s.tdmFrame p (s.tdmSlotsOut p ws true))).count64 (Reg.PORT_FRAMES_LO p) 1)))

/-- R299 to R311: time bases. -/
def Obligations.TimeBases : Prop :=
  (∀ (n : Fin 4) (w : Word) (s : State), w.toNat % 4 = s.get (Fld.TB_CTL_SOURCE n) → w.toNat % 4 < 2 →
    let u := s.put (Fld.TB_CTL_SOURCE n) (w.toNat % 4)
    (w.msb = true → s.tbState n = 0 →
      s.domainTaken n (s.get (Fld.TB_PTPCFG_PROFILE n)) (s.get (Fld.TB_PTPCFG_DOMAIN n)) = false →
      exec (.tbEnWrite n w) s = .next (State.checkBasePorts n (u.enableBase n))) ∧
    (w.msb = false → s.tbState n ≠ 0 → (n.val ≠ s.media ∨ s.allFree = true) →
      exec (.tbEnWrite n w) s = .next (State.checkBasePorts n (u.disableBase n))) ∧
    (w.msb = false → s.tbState n ≠ 0 → n.val = s.media → s.allFree = false →
      exec (.tbEnWrite n w) s = .next (State.checkBasePorts n (u.invalid (Reg.TB_CTL n)))) ∧
    (w.msb = true → s.tbState n ≠ 0 → exec (.tbEnWrite n w) s = .next (State.checkBasePorts n u)) ∧
    (let alone := s.tbClock n = false ∧ s.get (Fld.TB_PTPCFG_PORTS n) ≠ 0 ∧
        (∀ p < 4, (s.get (Fld.TB_PTPCFG_PORTS n)).testBit p = true → s.linkUp p = false)
     (alone → State.checkBasePorts n s = s.holdIfRuns n 4) ∧ (¬ alone → State.checkBasePorts n s = s))) ∧
  (∀ (n : Fin 4) (k : BitVec 16) (o f : Int) (info : List (BitVec 8)) (s : State), s.tbClock n = false →
    (s.base n).sel.isSome = true → s.clockRuns = true →
    (∀ q, (s.base n).seqIn = some q → laterThan 16 k.toNat q.toNat = false → exec (.ptpSyncReceive n ⟨k, info⟩ ⟨o, f⟩) s = .next s) ∧
    ((∀ q, (s.base n).seqIn = some q → laterThan 16 k.toNat q.toNat = true) →
    let v := s.modBase n (fun b => { b with seqIn := some k, info := info.take 22 })
    let far := decide ((s.get (Fld.TB_STEPTHR_THR n) : Int) < o.natAbs)
    let bad := decide (250 * 65536 < f.natAbs)
    let wide := decide ((s.get (Fld.TB_LOCKWIN_WIN n) : Int) < o.natAbs)
    let u := (v.showOffset n o).countRuns n far bad wide
    let b := u.base n
    (s.tbState n = 0 → exec (.ptpSyncReceive n ⟨k, info⟩ ⟨o, f⟩) s = .next v) ∧
    (s.tbState n = 1 → u.tbClock n = false →
      (bad = true ∨ b.pathOk = false → exec (.ptpSyncReceive n ⟨k, info⟩ ⟨o, f⟩) s = .next (u.setBase n { b with good := 0 })) ∧
      (bad = false → b.pathOk = true → b.good < 2 →
        exec (.ptpSyncReceive n ⟨k, info⟩ ⟨o, f⟩) s = .next (u.setBase n { b with good := b.good + 1 })) ∧
      (bad = false → b.pathOk = true → 2 ≤ b.good →
        exec (.ptpSyncReceive n ⟨k, info⟩ ⟨o, f⟩) s = .next (((u.stepBase n o).askFreq n f).enterLocking n))) ∧
    (s.tbState n = 3 → b.restep = .none → u.tbState n = 3 →
      (far = false → bad = false → b.offRun < u.get (Fld.TB_LOCKWIN_CNT n) →
        exec (.ptpSyncReceive n ⟨k, info⟩ ⟨o, f⟩) s = .next (u.applySample n o f)) ∧
      (far = true → 3 ≤ b.outRun → exec (.ptpSyncReceive n ⟨k, info⟩ ⟨o, f⟩) s = .next (u.refuseJump n)) ∧
      (far = true → b.outRun < 3 → bad = false → b.offRun < u.get (Fld.TB_LOCKWIN_CNT n) →
        exec (.ptpSyncReceive n ⟨k, info⟩ ⟨o, f⟩) s = .next (u.count (ctrTb n 0)))) ∧
    (s.tbState n = 4 → b.restep = .none → u.get (Fld.TB_STAT_REASON n) = 5 → exec (.ptpSyncReceive n ⟨k, info⟩ ⟨o, f⟩) s = .next u) ∧
    (s.tbState n = 4 → b.restep = .none → u.get (Fld.TB_STAT_REASON n) = 1 → far = false → bad = false →
      exec (.ptpSyncReceive n ⟨k, info⟩ ⟨o, f⟩) s = .next ((u.enterLocking n).applySample n o f)))) ∧
  (∀ (n : Fin 4) (s : State),
    (s.tbState n ≠ 0 → exec (.ptpDelayRespReceive n) s = .next (s.modBase n (fun b => { b with pathOk := true }))) ∧
    (s.tbState n = 0 → exec (.ptpDelayRespReceive n) s = .next s) ∧
    ((s.base n).sel = none → exec (.ptpReceiptTimeout n) s = .next s) ∧
    (∀ a, (s.base n).sel = some a →
      let u := (s.modBase n (fun b =>
        { b with masters := b.masters.filter (fun x => x.sender != a.sender || x.port != a.port) })).selectMaster n
      ((u.base n).sel = none → exec (.ptpReceiptTimeout n) s = .next (u.holdIfRuns n 1)) ∧
      ((u.base n).sel ≠ none → exec (.ptpReceiptTimeout n) s = .next u))) ∧
  (∀ (n p : Fin 4) (snd gm : BitVec 64) (p1 cl ac p2 : BitVec 8) (va st : BitVec 16) (path : List (BitVec 64))
    (tlv : List (BitVec 8)) (s : State),
    let a : Announce := ⟨snd.toNat, p, p1.toNat, cl.toNat, ac.toNat, va.toNat, p2.toNat, gm.toNat, st.toNat, path, tlv⟩
    let run := exec (.ptpAnnounceReceive n p snd gm p1 cl ac p2 va ⟨st, path, tlv⟩) s
    let round := s.ptpAs n = true ∧ BitVec.ofNat 64 (s.ownAnnounce n).gm ∈ path
    (s.tbState n ≠ 0 → s.get (Fld.TB_PTPCFG_PROFILE n) ≠ 0 → (s.get (Fld.TB_PTPCFG_PORTS n)).testBit p = true → ¬ round →
      run = .next ((s.modBase n (fun b =>
        { b with masters := a :: b.masters.filter (fun x => x.sender != a.sender || x.port != a.port) })).selectMaster n)) ∧
    (s.tbState n = 0 ∨ s.get (Fld.TB_PTPCFG_PROFILE n) = 0 ∨ round → run = .next s))

/-- R307 to R318: time-base commands. -/
def Obligations.TimeBaseCommands : Prop :=
  (∀ (n : Fin 4) (s : State) (r : TpRec) (q : List TpRec), s.front r q →
    let u := s.withQueue q
    let sec := s.get (Fld.TB_SET_SEC_LO_VALUE n) + 2 ^ 32 * s.get (Fld.TB_SET_SEC_HI_VALUE n)
    let res (s : State) (v : Nat) : State := s.put (Fld.TB_CMD_STAT_RESULT n) v
    (tbCmd n 1 r = true →
      (s.tbState n = 1 → exec (.tbSet n) s = .next (((res (u.modBase n (fun b => { b.clearRuns with
        acc := (sec * 1000000000 + s.get (Fld.TB_SET_NS_VALUE n)) * nsUnit, phase := 0,
        lead := ((sec * 1000000000 + s.get (Fld.TB_SET_NS_VALUE n)) * nsUnit : Nat) - s.clk.count })) 2).setTbState n 3).selectMaster n)) ∧
      (s.tbState n ≠ 1 → exec (.tbSet n) s = .next (res u 4))) ∧
    (tbCmd n 3 r = true →
      (s.tbRuns n = true → exec (.tbHold n) s = .next (res (u.enterHoldover n 5) 2)) ∧
      (s.tbRuns n = false → exec (.tbHold n) s = .next (res u 4))) ∧
    (tbCmd n 4 r = true →
      (s.tbState n = 4 → s.get (Fld.TB_STAT_REASON n) = 5 → exec (.tbRelease n) s =
        .next (res ((u.modBase n TimeBase.clearRuns).put (Fld.TB_STAT_REASON n) 1) 2)) ∧
      (s.tbState n ≠ 4 ∨ s.get (Fld.TB_STAT_REASON n) ≠ 5 → exec (.tbRelease n) s = .next (res u 4))) ∧
    (tbCmd n 2 r = true →
      (s.mayRestep n = false → exec (.tbRestep n) s = .next ((res u 4).raise 135 n)) ∧
      (s.mayRestep n = true → n.val ≠ s.media → exec (.tbRestep n) s = .next (res (u.setRestep n .prepared) 1)) ∧
      (s.mayRestep n = true → n.val = s.media → r.value.getLsbD 0 = false → s.allFree = true →
        exec (.tbRestep n) s = .next (res (u.setRestep n (.binding none)) 1)) ∧
      (s.mayRestep n = true → n.val = s.media → r.value.getLsbD 0 = false → s.allFree = false →
        exec (.tbRestep n) s = .next ((res u 4).raise 135 n)) ∧
      (s.mayRestep n = true → n.val = s.media → r.value.getLsbD 0 = true → exec (.tbRestep n) s =
        .next (res ((u.bindOffOutputs u.tickRow).setRestep n (.binding (some u.tickRow))) 1)))) ∧
  (∀ (s : State) (r : TpRec) (q : List TpRec), s.front r q → r.names [Reg.TB0_MEDIASEL] = true →
    let u := s.withQueue q
    let n := r.value.toNat % 4
    (n = s.media → exec .mediaselApply s = .next u) ∧
    (n ≠ s.media → s.allFree = true → s.mayRestep n = true → (s.base s.media).restep = .none → exec .mediaselApply s =
      .next (((u.put Fld.TB0_MEDIASEL_SEL n).setRestep n (.binding none)).put (Fld.TB_CMD_STAT_RESULT n) 1)) ∧
    (n ≠ s.media → s.allFree = false → exec .mediaselApply s =
      .next ((u.put (Fld.TB_CMD_STAT_RESULT n) 4).raise 135 n))) ∧
  (∀ s : State,
    ((s.base s.media).restep = .binding none → exec .mediaRestepPrepared s = .next s.prepareRestep) ∧
    ((s.base s.media).restep = .none → exec .mediaRestepPrepared s = .next s) ∧
    (∀ k, (s.base s.media).restep = .binding (some k) →
      exec .mediaRestepPrepared s = .next (if 64 ≤ (s.tickRow - k).toNat then s.prepareRestep else s)) ∧
    ((s.base s.media).restep = .prepared →
      let u := (s.setRestep s.media .none).put (Fld.TB_CMD_STAT_RESULT s.media) 3
      exec .restepNostepTimeout s = .next { u with tb := { u.tb with doneDue := some (s.media, 3) } }) ∧
    ((s.base s.media).restep = .none → exec .restepNostepTimeout s = .next s) ∧
    (s.row.ticks = false → s.tbRuns s.media = true → (s.base s.media).restep = .none → s.boot.causes = [] →
      s.clockRuns = true → ∃ t, exec .mediaClockLock s = .next t ∧ t.row = { s.row with ticks := true, fresh := true, fromRow := s.mediaRow } ∧
      t.on Fld.CLK_STAT_MLOCK = true) ∧
    (s.row.ticks = true → exec .mediaClockLock s = .next s))

/-- R302, R333 to R349. -/
def Obligations.ReferencesAndMessages : Prop :=
  (∀ (i : Fin 10) (o : Int) (s : State),
    (2 ≤ s.stage i → exec (.refLoss i) s = .next (s.setStage i 1)) ∧ (s.stage i < 2 → exec (.refLoss i) s = .next s) ∧
    (s.clockRuns = true → s.stage i = 1 → s.get (fdRefPrio i) ≠ 0 →
      i.val < 4 ∨ i.val < 8 ∧ s.laneState (i.val - 4) = 3 → exec (.refLossClear i o) s =
      .next ((s.setRefIn i { s.refIn i with
        offset := o, upW := 0, upN := 0, upD := 0, downW := 0, downN := 0, downD := 0 }).setStage i (s.stageOf i o))) ∧
    (s.stage i ≠ 1 → exec (.refLossClear i o) s = .next s) ∧
    (s.stage i < 2 ∨ 5 < s.stage i → exec (.refOffsetUpdate i o) s = .next s) ∧
    (2 ≤ s.stage i → s.stage i ≤ 5 → exec (.refOffsetUpdate i o) s = .next (s.offsetUpdate i o)) ∧
    (s.on (Fld.CLK_REF_STAT_WTRRUN i) = true → ∃ t, exec (.wtrExpire i) s = .next t ∧ t.on (Fld.CLK_REF_STAT_WTRRUN i) = false ∧
      t.get (Fld.CLK_REF_STAT_WTRLEFT i) = 0 ∧ (t.refIn i).wtr = 0) ∧
    (s.on (Fld.CLK_REF_STAT_WTRRUN i) = false → exec (.wtrExpire i) s = .next s)) ∧
  (∀ (k : BitVec 16) (s : State), s.stage 2 ≠ 0 → s.clockRuns = true →
    let ok := decide (((k.toNat : Int) * 1000 - 10000000).natAbs * 50 ≤ 10000000)
    let u := s.setRefIn 2 { s.refIn 2 with goodWin := runOf ok (s.refIn 2).goodWin }
    (ok = false → exec (.rateWindow 2 k) s = .next (u.setStage 2 6)) ∧
    (ok = true → s.stage 2 ≠ 6 → exec (.rateWindow 2 k) s = .next u)) ∧
  (∀ (i : Fin 4) (ps : BitVec 48) (s : State),
    let p := s.refPeriod i
    (s.clockRuns = false → exec (.referenceEdge i ps) s = .next s) ∧
    (s.clockRuns = true → (s.refIn i).seen = true → (8 * ps.toNat * p.2 < 7 * p.1 ∨ 9 * p.1 < 8 * ps.toNat * p.2) →
      exec (.referenceEdge i ps) s = .next (s.count (ctrRef i 1))) ∧
    (s.clockRuns = true → (s.refIn i).seen = false → exec (.referenceEdge i ps) s = .next (s.setRefIn i { s.refIn i with seen := true }))) ∧
  (∀ (e d f : Int) (s : State),
    (s.clockRuns = true → exec (.dpllUpdate e d f) s = .next (s.dpllUpdate e d f)) ∧
    (s.clockRuns = false → exec (.dpllUpdate e d f) s = .next s)) ∧
  (∀ s : State, (s.dpll = 2 → 128000 ≤ s.clk.lockedRun → ∃ t, exec .histokSet s = .next t ∧
      t.on Fld.CLK_STAT_HISTOK = true ∧ t.clk = { s.clk with held := avgRuns s.clk.hist }) ∧
    (s.dpll ≠ 2 → exec .histokSet s = .next s)) ∧
  (∀ (p : Fin 4) (m : BitVec 4) (s : State),
    exec (.esmcReceive p m) s = .next (s.setRefIn (4 + p) { s.refIn (4 + p) with esmc := rankOfSsm m.toNat }) ∧
    exec (.esmcTimeout p) s = .next (s.setRefIn (4 + p) { s.refIn (4 + p) with esmc := 4 }) ∧
    (s.on (Fld.LANE_CFG_TXREF p) = true → s.tb.esmcOn.getLsbD p = true →
      exec (.esmcInfoSend p) s = .next (s.houseFrame p 5 none (s.esmcBytes p false (s.ssmOut p))) ∧
      exec (.esmcEventSend p) s = .next (s.houseFrame p 5 none (s.esmcBytes p true (s.ssmOut p)))) ∧
    (s.on (Fld.LANE_CFG_TXREF p) = false → exec (.esmcInfoSend p) s = .next s ∧ exec (.esmcEventSend p) s = .next s)) ∧
  (∀ (s : State) (r : TpRec) (q : List TpRec), s.front r q → r.names [Reg.CLK_PHSTEP] = true →
    let u := s.withQueue q
    (s.dpll = 1 ∨ s.dpll = 2 → r.value ≠ 0x80000000 →
      exec .phstepApply s = .next (u.setClk { s.clk with rem := s.clk.rem + 4 * r.value.toInt })) ∧
    (s.dpll = 0 ∨ s.dpll = 3 → exec .phstepApply s = .next (u.invalid Reg.CLK_PHSTEP))) ∧
  (∀ (p : Fin 4) (q : Nat) (st : Option (Bool × Nat)) (b : List (BitVec 8)) (s : State),
    let f : TxFrame := ⟨padFrame b, q, 0, 4, st, none, 0⟩
    (s.linkUp p = true → f.wire ≤ s.maxFrm p →
      s.houseFrame p q st b = s.modPort p (fun x => { x with queue := x.queue ++ [f] })) ∧
    (s.linkUp p = false ∨ s.maxFrm p < f.wire → s.houseFrame p q st b = s.count (ctrNet p 9))) ∧
  (∀ (n p : Fin 4) (req : BitVec 80) (seq : BitVec 16) (reply : Option (BitVec 80)) (s : State),
    let e2e := s.get (Fld.TB_PTPCFG_PROFILE n) ≠ 3
    let q := s.ptpSeq n p 0
    (s.masterPort n p = true → (∀ k : Fin 5, k.val < 3 → exec (.ptpMessageSend n p k) s = .next (s.ptpSend n p k)) ∧
      exec (.ptpMessageSend n p 0) s = .next ((s.nextSeq n p 0).ptpQueue n p true q none
        (s.ptpMsg n p 0 0x0208 0 q (s.logSync n) (beBytes 0 10))) ∧ (s.nextSeq n p 0).ptpSeq n p 0 = q + 1) ∧
    (s.ptpOn n p = false → (∀ k : Fin 5, exec (.ptpMessageSend n p k) s = .next s) ∧
      ∀ b : Bool, exec (.ptpDelayReqReceive n p ⟨b, req, seq, reply⟩) s = .next s) ∧
    (s.ptpOn n p = true → ¬ e2e → exec (.ptpMessageSend n p 4) s = .next (s.ptpSend n p 4) ∧
      exec (.ptpDelayReqReceive n p ⟨true, req, seq, reply⟩) s = .next (s.pdelayResp n p req seq)) ∧
    (s.masterPort n p = true → e2e → exec (.ptpDelayReqReceive n p ⟨false, req, seq, reply⟩) s =
      .next (s.delayResp n p req seq (if s.get (Fld.TB_PTPCFG_PROFILE n) = 2 then reply else none))))

/-- R440, R441, R588: the commands of the rings. -/
def Obligations.RingCommands : Prop :=
  ∀ (r : Fin 64) (s : State),
    ((s.ring r).fetched = [] → ∀ i ∈ [Instr.cmdNop r, .timedParam r, .loadProg r, .loadCoef r, .loadMap r, .loadMtx r,
      .shmemWrite r, .shmemRead r, .fwConfigSyncInterval r, .fwConfigAnnounceInterval r, .fwConfigAnnounceTimeout r,
      .fwConfigMetadataTlv r, .fwConfigLldpInterval r, .fwConfigEsmc r, .resume r, .resumeAbort r, .imageLoadRun r,
      .imageLoadSlot r, .txFrame r, .rxBuf r], exec i s = .next s) ∧
    (∀ d : Desc, s.headIs r d →
      let turn (i : Instr) (ok : State) : Prop :=
        (∀ o, s.badField r d = some o → exec i s = .next (s.finishHead r (d.comp r 2 o)).startAllRx.pumpAll) ∧
        (s.badField r d = none → exec i s = .next ok.startAllRx.pumpAll)
      let fin (s : State) : State := s.finishHead r (d.comp r 0 0)
      let q := s.tpSubmit (tpOfBytes (bytesAt d.bytes 8 16))
      (d.op = 0 → turn (.cmdNop r) (fin s)) ∧
      (d.op = 1 → turn (.timedParam r) (q.1.finishHead r (d.comp r (if q.2 = 0 then 0 else 5) q.2))) ∧
      (d.op = 2 → turn (.loadProg r) ((s.setPready d.p0 false).startHead r d)) ∧
      (d.op = 3 → turn (.loadCoef r) ((s.setCready d.p0 false).startHead r d)) ∧
      (d.op = 4 → turn (.loadMap r) (((s.setMapReady false).flag Fld.SST_MAP_STAT_SHBAD false).startHead r d)) ∧
      (d.op = 5 → turn (.loadMtx r) (s.touchShadowTable.startHead r d)) ∧
      (d.op = 6 → turn (.shmemWrite r) (s.startHead r d)) ∧
      (d.op = 7 → turn (.shmemRead r) (s.startHead r d)) ∧
      (d.op = 8 → d.p0 = 1 → turn (.fwConfigSyncInterval r) (fin (s.modFw d.p2 (fun c => { c with sync := some d.value })))) ∧
      (d.op = 8 → d.p0 = 2 →
        turn (.fwConfigAnnounceInterval r) (fin (s.modFw d.p2 (fun c => { c with announce := some d.value })))) ∧
      (d.op = 8 → d.p0 = 3 →
        turn (.fwConfigAnnounceTimeout r) (fin (s.modFw d.p2 (fun c => { c with timeout := some (d.p3 % 2 ^ 32) })))) ∧
      (d.op = 8 → d.p0 = 4 → turn (.fwConfigMetadataTlv r) (s.startHead r d)) ∧
      (d.op = 8 → d.p0 = 0x10 → turn (.fwConfigLldpInterval r)
        (fin { s with tb := { s.tb with lldp := s.tb.lldp.set (fun _ => 0) d.p2 (d.p3 % 2 ^ 32) } })) ∧
      (d.op = 8 → d.p0 = 0x11 → let m : BitVec 4 := BitVec.ofNat 4 (2 ^ d.p2)
        turn (.fwConfigEsmc r)
          (fin { s with tb := { s.tb with esmcOn := if d.p3 = 1 then s.tb.esmcOn ||| m else s.tb.esmcOn &&& ~~~m } })) ∧
      (∀ f, d.op = 9 → s.faultOf d.p0 = some f →
        (d.p2 = 0 → turn (.resume r) (((s.closeFault d.p0).restart f.what).okAfter r d (.issued f.what))) ∧
        (d.p2 = 1 → turn (.resumeAbort r) (((s.closeFault d.p0).abortFault d.p0 f.what).okAfter r d (s.abortGate f)))) ∧
      (d.op = 10 →
        let w := s.loadRefusal d.p0
        let load := if w = 0 then s.startHead r d else (s.finishHead r (d.comp r 5 w)).loadDone d.p0 w 0
        (d.p0 = 0 → turn (.imageLoadRun r) load) ∧ (d.p0 = 1 ∨ d.p0 = 2 → turn (.imageLoadSlot r) load)) ∧
      (d.op = 0x20 → turn (.txFrame r) (s.startHead r d)))

/-- R431 to R451: the rings. -/
def Obligations.RingStates : Prop :=
  (∀ (r : Fin 64) (w : Word) (s : State),
    (s.ringState r ≠ 0 → exec (.ringEnable r w) s = .next (s.invalid (Reg.RING_CFG r))) ∧
    (s.ringState r = 0 → 1 ≤ w.toNat / 2 ^ 24 % 16 → w.toNat / 2 ^ 24 % 16 ≤ 8 →
      let u := s.writeReg (Reg.RING_CFG r) (w &&& 0x7FFFFFFF)
      (w.msb = false → exec (.ringEnable r w) s = .next u) ∧
      (w.msb = true → u.enableReason r = 0 → ∃ t, exec (.ringEnable r w) s = .next t ∧ t.ringState r = 1 ∧
        t.ring r = ringReset ∧ t.on (Fld.RING_CFG_EN r) = true) ∧
      (w.msb = true → u.enableReason r ≠ 0 → exec (.ringEnable r w) s =
        .next ((u.put (Fld.RING_STAT_REASON r) (u.enableReason r)).raise 5 (r + 256 * u.enableReason r))))) ∧
  (∀ (r : Fin 64) (s : State),
    (s.ringType r = 2 → s.cqInUse r = true → exec (.ringReset r) s = .next (s.invalid (Reg.RING_CTL r))) ∧
    (s.ringType r ≠ 2 → s.ringState r = 1 ∨ s.ringState r = 3 ∨ s.ringState r = 4 → exec (.ringReset r) s =
      .next ((s.setRingState r 2).drainRing r).startAllRx.pumpAll) ∧
    (s.ringType r ≠ 2 → s.ringState r = 0 ∨ s.ringState r = 2 → exec (.ringReset r) s = .next s) ∧
    (s.ringState r = 2 → s.drained r = true → ∃ t, exec (.ringResetDone r) s = .next t ∧ t.ringState r = 0 ∧
      t.ringGen r = (s.ringGen r + 1) % 256 ∧ t.ring r = ringReset ∧ t.on (Fld.RING_CFG_EN r) = false) ∧
    (s.ringState r ≠ 2 ∨ s.drained r = false → exec (.ringResetDone r) s = .next s) ∧
    (s.ringType r = 2 → 0 < (s.ring r).unsig → s.get (Fld.RING_CFG2_IROWS r) ≠ 0 →
      (s.get (Fld.RING_CFG2_IROWS r) ≤ (s.ring r).age → exec (.coalesceTimeout r) s = .next (s.signalRing r)) ∧
      ((s.ring r).age < s.get (Fld.RING_CFG2_IROWS r) → exec (.coalesceTimeout r) s = .next s))) ∧
  (∀ (r : Fin 64) (d : Desc) (l : List Desc) (s : State), (s.ring r).fetched = d :: l → s.ringState r = 1 → d.dup = false → d.lost = none →
    let k : Word := BitVec.ofNat 32 d.p0
    let b : RtBlock := ⟨k, d, [], false, false, false, none⟩
    let taken := s.modRing r (fun x => { x with fetched := l, blocks := x.blocks ++ [b], due := none })
    let p := taken.newAcc (.play r) false 0 d.addr d.len []
    (s.ringType r = 8 → d.op = 0x21 → s.badField r d = none → exec (.rxBuf r) s =
      .next (s.modRing r (fun x => { x with fetched := l, posted := x.posted ++ [d] })).pumpAll) ∧
    (d.op = 0x30 → s.row.ticks = true → s.badField r d = none →
      (earlierThan 32 k.toNat (s.row.rowIdx + 16).toNat = true →
        let left := s.modRing r (fun x => { x with fetched := l })
        let late := if s.dueInGap k then (left.count (ctrRing r 1)).raise 7 r else left
        (s.ringType r = 5 → exec (.rtPlayBlock r) s = .next ((late.endBlock r d 0x0B 0).settle r).pumpAll) ∧
        (s.ringType r = 6 → exec (.rtRecBlock r) s = .next ((late.endBlock r d 0x0B 0).settle r).pumpAll)) ∧
      (k = s.row.rowIdx + 16 → (s.ring r).due = some k →
        (s.ringType r = 5 → exec (.rtPlayBlock r) s = .next (p.1.goOn p.2.pages p.2).settle.pumpAll) ∧
        (s.ringType r = 6 → exec (.rtRecBlock r) s = .next taken.pumpAll)))) ∧
  (∀ (r : Fin 64) (s : State),
    ((s.ring r).blocks = [] → exec (.rtPlayBlockDone r) s = .next s ∧ exec (.rtRecBlockWrite r) s = .next s) ∧
    (∀ b, (s.ring r).blocks = [b] → b.signalled = false → b.complete = true → s.ringType r = 5 →
      exec (.rtPlayBlockDone r) s = .next (((s.modRing r (fun x => { x with blocks := [{ b with signalled := true }] })).queueComp
        { b.desc.comp r 0 b.k.toNat with ts := some (s.rowNs b.k) }).settleBlocks r |>.settle r).pumpAll) ∧
    (∀ b l, (s.ring r).blocks = b :: l → b.rows.length = 64 → b.ended = none → s.ringState r ≠ 3 → s.ringType r = 6 → s.accOn (.record r) = false →
      let p := s.newAcc (.record r) true 0 b.desc.addr (rowsBytes b.rows).length (rowsBytes b.rows)
      exec (.rtRecBlockWrite r) s = .next (p.1.goOn p.2.pages p.2).settle.pumpAll) ∧
    ((s.ring r).active = none → exec (.dmaTransferDone r) s = .next s) ∧
    (∀ t, (s.ring r).active = some t →
      (t.off < t.len → exec (.dmaTransferDone r) s = .next s) ∧
      (t.len ≤ t.off → s.ringState r ≠ 4 → t.op = 7 → exec (.dmaTransferDone r) s =
        .next (s.endTransfer r t.desc (t.desc.comp r 0 0)).pumpAll) ∧
      (t.len ≤ t.off → s.ringState r ≠ 4 → t.op = 2 → exec (.dmaTransferDone r) s =
        .next ((if s.otherLoad r 2 t.desc.p0 then s else s.setPready t.desc.p0 true).endTransfer r t.desc
          (t.desc.comp r 0 0)).pumpAll)) ∧
    (r.val ∉ s.boot.programs → ∀ ok, exec (.slotProgramDone r ok) s = .next s) ∧
    (∀ t ok, r.val ∈ s.boot.programs → (s.ring r).active = some t →
      let u : State := { s with boot := { s.boot with programs := s.boot.programs.filter (fun x => x != r.val) } }
      exec (.slotProgramDone r ok) s = .next ((if ok then u.put (fdTries (t.desc.p0 - 1)) 0 else u).endImageLoad r t.desc.p0
        (if ok then 0 else 0x13))))

/-- R419, R421, R424, R465, R469. -/
def Obligations.HostAccesses : Prop :=
  (∀ (w2 : Bool) (a : BitVec 23) (s : State),
    let info := w2.toNat * 2 ^ 31 + a.toNat
    let u := ((s.setReg Reg.HIF_ACCERR_ADDR (BitVec.ofNat 32 info)).count (ctrHif 1)).raise 2 info
    exec (.badHostAccess w2 true a) s = .next u ∧ exec (.badHostAccess w2 false a) s = .next (u.send (.answer 0xFFFFFFFF)) ∧
    u.reg Reg.HIF_ACCERR_ADDR = BitVec.ofNat 32 info) ∧
  (∀ (id : BitVec 16) (ok : Bool) (b : List (BitVec 8)) (s : State),
    ((∀ a ∈ s.host.accs, (a.id == id.toNat && a.sent) = false) →
      exec (.hostReadCompletion id ok b) s = .next s ∧ exec (.readCompletionTimeout id) s = .next s) ∧
    (∀ a l, takeFirst (fun (a : HostAcc) => a.id == id.toNat && a.sent) s.host.accs = some (a, l) →
      let u := (s.setHost { s.host with accs := l }).nextRead a.cls
      exec (.hostReadCompletion id ok b) s = .next (u.accRead a ok b).settle.startAllRx.pumpAll ∧
      exec (.readCompletionTimeout id) s = .next (u.accRead a false []).settle.startAllRx.pumpAll ∧
      (∀ n, a.what = .doorbell → a.pos = .data n 256 → s.host.accs = [a] → exec (.doorbellReadComplete b) s =
        .next (u.accRead a true b).settle.startAllRx.pumpAll))) ∧
  (∀ (b : List (BitVec 8)) (s : State), s.host.accs = [] → exec (.doorbellReadComplete b) s = .next s) ∧
  (∀ (w : Word) (s : State), badCodes Reg.XLT_INV_CTL w = false →
    let u := s.writeReg Reg.XLT_INV_CTL w
    (w.msb = false → exec (.tlbInvalidate w) s = .next u) ∧
    (w.msb = true → s.on Fld.XLT_INV_STAT_BUSY = true → exec (.tlbInvalidate w) s = .next (u.invalid Reg.XLT_INV_CTL)) ∧
    (w.msb = true → s.on Fld.XLT_INV_STAT_BUSY = false → ∃ t, exec (.tlbInvalidate w) s = .next t ∧
      t.on Fld.XLT_INV_STAT_BUSY = true ∧
      t.host.tlb = u.host.tlb.filter (fun x => !Tlb.inScope (u.get Fld.XLT_INV_CTL_SCOPE) u.invAddr x))) ∧
  (∀ s : State, (s.on Fld.XLT_INV_STAT_BUSY = true → s.invalidateMayEnd = true →
      exec .invalidateDone s = .next s.invalidateEnd) ∧
    (s.on Fld.XLT_INV_STAT_BUSY = false → exec .invalidateDone s = .next s))

/-- R482 to R501. -/
def Obligations.EventsAndMailboxes : Prop :=
  (∀ (n i : Nat) (s : State), n < 256 →
    let t := s.raise n i
    t.on (fdStatus n) = true ∧ t.reg (Reg.EVT_INFO n) = BitVec.ofNat 32 i ∧
    (t.evtSrc n).count = (if s.on (fdEnable n) then min 255 ((s.evtSrc n).count + 1) else (s.evtSrc n).count) ∧
    (∀ m, m ≠ n → t.evtSrc m = s.evtSrc m) ∧ t = { s with regs := t.regs, evt := t.evt, outbox := t.outbox }) ∧
  (∀ (w : Word) (s : State),
    let n := w.toNat % 256
    (eventListed n = true → eventLevel n = false → exec (.eventRaise w) s = .next (s.raise n 0xFFFFFFFF)) ∧
    (eventListed n = false ∨ eventLevel n = true → exec (.eventRaise w) s = .next (s.invalid Reg.EVT_RAISE)) ∧
    (s.row.ticks = true → exec .eventDeliveryPass s = .next s) ∧
    (s.row.ticks = false → s.evt.src = [] → exec .eventDeliveryPass s = .next s.pumpAll)) ∧
  (∀ (b : Fin 64) (w : Word) (s : State),
    ((s.mbx b).full = false → (∃ t, exec (.mailboxWrite b w) s = .next t ∧ t.mbx b = ⟨w, true⟩ ∧
        t.get (Fld.MBX_LASTW_WRITER b) = 1 ∧ ∀ c : Fin 64, c ≠ b → t.mbx c = s.mbx c) ∧
      (∃ t, exec (.firmwareMailboxAccess b (some w)) s = .next t ∧ t.mbx b = ⟨w, true⟩ ∧
        t.get (Fld.MBX_LASTW_WRITER b) = 2 ∧ ∀ c : Fin 64, c ≠ b → t.mbx c = s.mbx c) ∧
      exec (.mailboxRead b) s = .next (s.send (.answer 0)) ∧
      exec (.firmwareMailboxAccess b none) s = .next (s.send (.answer 0))) ∧
    ((s.mbx b).full = true →
      exec (.mailboxWrite b w) s = .next (({ s with evt := { s.evt with rej := s.evt.rej ||| BitVec.ofNat 64 (2 ^ b.val) } }.count
        ctrHrej).raise 11 b) ∧
      exec (.firmwareMailboxAccess b (some w)) s = .next ((s.count ctrBuserr).send .busError) ∧
      ∃ t, exec (.mailboxRead b) s = .next t ∧ t.mbx b = mbxReset ∧ t.outbox.head? = some (.answer (s.mbx b).word) ∧
        (∀ c : Fin 64, c ≠ b → t.mbx c = s.mbx c) ∧ exec (.firmwareMailboxAccess b none) s = .next t)) ∧
  (∀ (i : Fin 8) (w : Word) (s : State),
    let m : BitVec 8 := BitVec.ofNat 8 (2 ^ i.val)
    (s.evt.twbusy.getLsbD i = true → exec (.twsendWrite i w) s =
      .next (({ s with evt := { s.evt with twrej := s.evt.twrej ||| m } }.count ctrTwrej).raise 11 (0x40 + i))) ∧
    (s.evt.twbusy.getLsbD i = false → s.on Fld.TWN_STAT_TLUP = false → exec (.twsendWrite i w) s = .next (s.rejectTwsend i)) ∧
    (s.evt.twbusy.getLsbD i = false → s.on Fld.TWN_STAT_TLUP = true → ∃ t, exec (.twsendWrite i w) s = .next t ∧
      t.evt = { s.evt with twbusy := s.evt.twbusy ||| m } ∧ t.twn.mbxSeq.get (fun _ => 0) i = s.twn.txSeq) ∧
    (s.evt.twbusy.getLsbD i = true → exec (.twsendTimeout i) s = .next (s.rejectTwsend i)) ∧
    (s.evt.twbusy.getLsbD i = false → exec (.twsendTimeout i) s = .next s))

/-- R509 to R521: twin-link frames. -/
def Obligations.TwinFrames : Prop :=
  (∀ (t : Nat) (q : Word) (p : List (BitVec 8)), t < 256 → p.length % 8 = 0 → p.length < 8 * 65536 →
    twinParse (twinFrame t q p) = some (t, q, p)) ∧
  (∀ (b : List (BitVec 8)) (ns : BitVec 24) (s : State),
    let all (a : Answer) : Prop := ∀ i ∈ [Instr.hello b, .heartbeat b ns, .digest b, .mirror b, .ack b, .mbx b, .mbxAck b,
      .ping b, .pong b], exec i s = a
    (s.twinUsable = false ∨ s.twinState = 0 → all (.next s)) ∧
    (s.twinUsable = true → s.twinState ≠ 0 → twinParse b = none → all (.next (s.count (ctrTwn 4)))) ∧
    (∀ t q p, s.twinUsable = true → s.twinState ≠ 0 → twinParse b = some (t, q, p) → payloadFits t p.length p = false →
      all (.next (s.count (ctrTwn 4)))) ∧
    (∀ q p,
      let u := s.noted q
      (s.twinNew 1 b q p → exec (.hello b) s = .next (u.takeHello p)) ∧
      (s.twinNew 2 b q p → ∃ t, exec (.heartbeat b ns) s = .next t ∧
        t.reg Reg.TWN_PCLAIM = BitVec.ofNat 32 (beAt p 4 4) ∧ t.twn.noHb = 0 ∧ t.twn.lost = false) ∧
      (s.twinNew 3 b q p → exec (.digest b) s =
        .next (u.setTwn { u.twn with partner := (digestOf p :: u.twn.partner).take 4 })) ∧
      (s.twinNew 4 b q p → exec (.mirror b) s =
        .next (((addrs 8 24 (beAt p 0 1)).foldl (fun s o => s.takeRecord (bytesAt p o 24)) u).sendAck q)) ∧
      (s.twinNew 5 b q p → exec (.ack b) s =
        .next (u.setTwn { u.twn with unacked := u.twn.unacked.filter (fun m => m.seq.toNat != beAt p 0 4) })) ∧
      (s.twinNew 6 b q p → beAt p 0 1 < 8 →
        let r := u.mbxWrite (48 + beAt p 0 1) (BitVec.ofNat 32 (beAt p 4 4)) 3
        exec (.mbx b) s = .next (r.1.twinSend 0x07
          (beBytes (beAt p 0 1) 1 ++ beBytes (!r.2).toNat 1 ++ [0, 0] ++ beBytes q.toNat 4))) ∧
      (s.twinNew 7 b q p → beAt p 0 1 < 8 → s.evt.twbusy.getLsbD (beAt p 0 1) = true →
        (s.twn.mbxSeq.get (fun _ => 0) (beAt p 0 1)).toNat = beAt p 4 4 →
        (beAt p 1 1 = 0 → exec (.mbxAck b) s = .next { u with evt := { u.evt with
          twbusy := u.evt.twbusy &&& ~~~ BitVec.ofNat 8 (2 ^ beAt p 0 1) } }) ∧
        (beAt p 1 1 ≠ 0 → exec (.mbxAck b) s = .next (u.rejectTwsend (beAt p 0 1)))) ∧
      (s.twinNew 8 b q p → exec (.ping b) s =
        .next (u.twinSend 0x09 (bytesAt p 0 8 ++ beBytes u.mediaStamp 8 ++ beBytes u.mediaStamp 8))) ∧
      (s.twinNew 9 b q p → s.twinState = 2 → s.twn.measured = false → s.twn.pongs.length < 8 → exec (.pong b) s =
        .next (u.setTwn { u.twn with pongs := u.twn.pongs ++
          [((u.mediaStamp : Int) - beAt p 0 8) - ((beAt p 16 8 : Int) - beAt p 8 8)] })))) ∧
  (∀ (q : BitVec 32) (s : State),
    (s.twn.unacked.find? (fun m => m.seq == q) = none → exec (.mirrorRetry q) s = .next s) ∧
    (∀ m, s.twn.unacked.find? (fun m => m.seq == q) = some m →
      (m.tries < 4 →
        let upd (x : MirFrame) : MirFrame := if x.seq = q then { x with tries := x.tries + 1 } else x
        exec (.mirrorRetry q) s = .next (((s.setTwn { s.twn with unacked := s.twn.unacked.map upd }).send (.twin (twinFrame 0x04 q
          (beBytes m.records.length 1 ++ List.replicate 7 0 ++ m.records.flatten)))).count (ctrTwn 5))) ∧
      (4 ≤ m.tries → s.twn.pause = false →
        exec (.mirrorRetry q) s = .next (s.setTwn { s.twn with pause := true }).showTwinLink)))

/-- R512 to R531: twin pairing and grants. -/
def Obligations.TwinUnit : Prop :=
  (∀ (w : Word) (s : State),
    (s.twinState = 0 → (s.writeReg Reg.TWN_CFG w).twinState = 0 →
      let u := (s.writeReg Reg.TWN_CFG w).put Fld.TWN_CLAIM_VALUE ((s.writeReg Reg.TWN_CFG w).claimOf (s.writeReg Reg.TWN_CFG w).gen)
      (u.on Fld.TWN_CFG_EN = true → u.twinState = 0 → exec (.twinEnWrite w) s = .next (u.setTwin 1)) ∧
      (u.on Fld.TWN_CFG_EN = false → u.twinState = 0 → exec (.twinEnWrite w) s = .next u)) ∧
    (w.getLsbD 0 = true → s.waitsJoin = true → exec (.join w) s = .next s.doJoin) ∧
    (w.getLsbD 0 = false ∨ s.waitsJoin = false → exec (.join w) s = .next s)) ∧
  (∀ s : State,
    (s.twinState = 1 ∨ s.twinState = 2 ∨ s.twinState = 5 → ∃ t, exec .helloSend s = .next t ∧
      t.outbox = .twin (twinFrame 0x01 s.twn.txSeq s.helloBytes) :: s.outbox ∧ t.twn.txSeq = s.twn.txSeq + 1 ∧
      t = { s with twn := t.twn, outbox := t.outbox }) ∧
    (s.twinState = 0 ∨ s.twinState = 3 ∨ s.twinState = 4 → exec .helloSend s = .next s) ∧
    (∀ ns : BitVec 24,
      (s.twinState ≠ 0 → s.twn.pause = false → s.row.ticks = true → exec (.twinHeartbeatSend ns) s =
        .next (s.twinSend 0x02 (beBytes s.row.rowIdx.toNat 4 ++ beBytes (s.reg Reg.TWN_CLAIM).toNat 4 ++
          beBytes s.twinStatus 4 ++ beBytes ns.toNat 4))) ∧
      (s.twinState = 0 ∨ s.twn.pause = true ∨ s.row.ticks = false → exec (.twinHeartbeatSend ns) s = .next s)) ∧
    (2 ≤ s.twn.noHb → s.twn.noHb < 4 → exec .heartbeatLoss s = .next (s.flag Fld.TWN_STAT_PALIVE false).showTwinLink) ∧
    (4 ≤ s.twn.noHb → s.twn.lost = false → (s.flag Fld.TWN_STAT_PALIVE false).twinUsable = true →
      let u := s.flag Fld.TWN_STAT_PALIVE false
      exec .heartbeatLoss s =
        .next (((u.setTwn { u.twn with lost := true }).count (ctrTwn 0)).raise 228 1).showTwinLink) ∧
    (s.paired = true → s.on Fld.TWN_STAT_TLUP = false → s.get Fld.TWN_CFG2_LINKTO ≤ s.twn.downRows →
      exec .linkDownTimeout s = .next (s.setTwin 5).showTwinLink) ∧
    (s.paired = false ∨ s.on Fld.TWN_STAT_TLUP = true → exec .linkDownTimeout s = .next s) ∧
    (s.twinState = 3 → s.twn.settle = 0 → ∃ t, exec .settleEnd s = .next t ∧ t.twinState = 4) ∧
    (s.twinState ≠ 3 ∨ s.twn.settle ≠ 0 → exec .settleEnd s = .next s) ∧
    (∀ d l, s.paired = true → s.disturbed = false → s.twn.own = d :: l →
      exec .digestSend s = .next (s.twinSend 0x03 d.bytes)) ∧
    (s.paired = false → exec .digestSend s = .next s) ∧
    (s.twinState = 2 → s.twn.pings < 8 → exec .pingSend s =
      .next ((s.setTwn { s.twn with pings := s.twn.pings + 1 }).twinSend 0x08 (beBytes s.mediaStamp 8))) ∧
    (s.twinState ≠ 2 → exec .pingSend s = .next s ∧ exec .pingMeasureEnd s = .next s) ∧
    (s.twinState = 2 → s.twn.measured = false →
      let u := if s.twn.pongs.length < 8 then s else s.putS Fld.TWN_LINKDLY_VALUE (medianDelay s.twn.pongs)
      exec .pingMeasureEnd s = .next (u.setTwn { u.twn with measured := true }).judgeHello)) ∧
  (∀ s : State,
    let port := s.get Fld.TWN_REFCTL_REFPORT
    let ip := s.get Fld.TWN_REFIP_ADDR
    (s.twinState ≠ 0 → port ≠ 0 → ip ≠ 0 → s.row.ticks = true → exec .refereeHeartbeatSend s =
      .next (s.sendDatagram (s.get Fld.TWN_CFG2_REFNET) 7
        (s.get Fld.TWN_REFCTL_MAC01 * 2 ^ 32 + s.get Fld.TWN_REFMAC_LO_ADDR) ip port s.refHeartbeat)) ∧
    (s.twinState = 0 ∨ port = 0 ∨ ip = 0 → exec .refereeHeartbeatSend s = .next s)) ∧
  (∀ (d : List (BitVec 8)) (s : State),
    (s.on Fld.REF_CFG_EN = false → exec (.refereeHeartbeatReceive d) s = .next s) ∧
    (s.on Fld.REF_CFG_EN = true → d.length ≠ 20 → exec (.refereeHeartbeatReceive d) s = .next (s.count (ctrRefU 1))) ∧
    (d.length ≠ 32 ∨ beAt d 0 4 ≠ 0xD72E0102 ∨ beAt d 4 2 ≠ s.get Fld.TWN_CFG_PAIRID →
      exec (.grant d) s = .next (s.count (ctrTwn 6))) ∧
    (d.length = 32 → beAt d 0 4 = 0xD72E0102 → beAt d 4 2 = s.get Fld.TWN_CFG_PAIRID →
      let q : Word := BitVec.ofNat 32 (beAt d 12 4)
      let r := s.grantResult d
      let reset := beAt d 20 1 % 2
      let u := s.put Fld.TWN_GRANTRES_RES r
      exec (.grant d) s = .next (
        if r = 4 ∧ s.twn.gseq = some q then s
        else if r = 1 then
          (((u.setReg Reg.TWN_GRANTSEQ q).setTwn { u.twn with
            gseq := some q, grants := u.twn.grants ++ [(beAt d 16 4 % 2 ^ 28, reset == 1)] }).raise 230 (1 + 16 * reset)).abortSwatches
        else (u.count (ctrTwn 6)).raise 230 (r + 16 * reset)))) ∧
  (∀ s : State,
    (s.twn.grants = [] → exec .grantApply s = .next s) ∧
    (∀ g r l, s.twn.grants = (g, r) :: l → s.twinState ≠ 0 →
      let u := (s.setTwn { s.twn with grants := l }).setGen g
      (r = false ∨ u.on Fld.TWN_CFG_RSTEN = false → exec .grantApply s = .next u) ∧
      (r = true → u.on Fld.TWN_CFG_RSTEN = true → exec .grantApply s =
        .next (((u.setTwn { u.twn with prst := true }).send (.ball "PRST_OUT" true)).raise 231 1))) ∧
    (s.twn.prst = true → exec .prstOutEnd s =
      .next ((s.setTwn { s.twn with prst := false }).send (.ball "PRST_OUT" false))) ∧
    (s.twn.prst = false → exec .prstOutEnd s = .next s))
/-- R540 to R547, R555, R556, R568. -/
def Obligations.BusAndRails : Prop :=
  (∀ s : State, ∃ t, exec .vbusUndervoltage s = .next t ∧ t.sup.powered = false ∧ t.regs = State.reset.regs ∧
    t.boot.fuses = s.boot.fuses ∧ t.swt.store = s.swt.store ∧ t.boot.causes = [0] ∧ t.pending = s.pending) ∧
  (∀ s : State,
    (s.sup.powered = true → s.on Fld.SUP_RAIL_STAT_OV = false → exec .vbusOvervoltage s =
      .next ((((s.flag Fld.SUP_RAIL_STAT_OV true).stopChannels [2, 3, 6]).count (ctrSup 2)).raiseSupply 207 3)) ∧
    (s.sup.powered = false ∨ s.on Fld.SUP_RAIL_STAT_OV = true → exec .vbusOvervoltage s = .next s) ∧
    (s.on Fld.SUP_RAIL_STAT_OV = true → exec .vbusOvervoltageClear s =
      .next ((s.flag Fld.SUP_RAIL_STAT_OV false).restartChannels.raiseSupply 207 4)) ∧
    (s.on Fld.SUP_RAIL_STAT_OV = false → exec .vbusOvervoltageClear s = .next s) ∧
    (s.sup.powered = true → s.on Fld.SUP_RAIL_STAT_PFW = false →
      let t := (((s.flag Fld.SUP_RAIL_STAT_PFW true).stopChannels [2, 3, 6]).count (ctrSup 1)).raiseSupply 207 1
      ((s.inReset || s.asleep) = false → exec .powerFailWarning s = .next t.saveLife) ∧
      ((s.inReset || s.asleep) = true → exec .powerFailWarning s = .next t)) ∧
    (s.sup.powered = false ∨ s.on Fld.SUP_RAIL_STAT_PFW = true → exec .powerFailWarning s = .next s) ∧
    (s.on Fld.SUP_RAIL_STAT_PFW = true → exec .powerFailWarningClear s =
      .next ((s.flag Fld.SUP_RAIL_STAT_PFW false).restartChannels.raiseSupply 207 2)) ∧
    (s.on Fld.SUP_RAIL_STAT_PFW = false → exec .powerFailWarningClear s = .next s) ∧
    (∀ n i, (s.nodeState = 1 → (s.raiseSupply n i).sup.owed = s.sup.owed ++ [(n, i)] ∧ (s.raiseSupply n i).evt = s.evt) ∧
      (s.nodeState ≠ 1 → s.raiseSupply n i = s.supplyEvent n i))) ∧
  (∀ (level slope : Bool) (vbus : BitVec 10) (ns : Fin 65536) (s : State),
    let cause := level = true ∨ (slope = true ∧ s.get Fld.SUP_SAG_CFG_SLOPE ≠ 0)
    let ready := s.sup.powered = true ∧ s.on Fld.SUP_SAG_CFG_EN = true ∧ s.on Fld.SUP_RAIL_STAT_SAG = false
    let t := (s.flag Fld.SUP_RAIL_STAT_SAG true).count (ctrSup 0)
    (ready → cause → s.nodeState = 1 → exec (.sagAssert level slope vbus ns) s = .next t) ∧
    (ready → cause → s.nodeState ≠ 1 → exec (.sagAssert level slope vbus ns) s =
      .next ((t.supplyEvent 206 (level.toNat + 2 * slope.toNat + 256 * vbus.toNat)).assertSag ns)) ∧
    (¬ (ready ∧ cause) → exec (.sagAssert level slope vbus ns) s = .next s)) ∧
  (∀ (n : Nat) (s : State), n < 65536 →
    let u := s.assertSag n
    u.row.sag = true ∧ u.row.sagStep = min 15 (s.lowStep + s.get Fld.SUP_SAGDEPTH_DEPTH) ∧ u.row.sagStep ≤ u.row.gauge) ∧
  (∀ s : State,
    (s.on Fld.SUP_RAIL_STAT_SAG = true → ∃ t, exec .sagDeassert s = .next t ∧ t.row.sag = false ∧
      t.on Fld.SUP_RAIL_STAT_SAG = false ∧ t.row.gauge = s.row.gauge) ∧
    (s.on Fld.SUP_RAIL_STAT_SAG = false → exec .sagDeassert s = .next s)) ∧
  (∀ (rail : Fin 7) (cause : Fin 4) (ms : BitVec 64) (s : State),
    let ok := s.sup.powered = true ∧ s.on Fld.SUP_RAIL_STAT_CLATCH = false ∧ rail.val ≠ 0 ∧ cause.val ≠ 0 ∧
      (cause.val = 3 → rail.val = 1)
    let recent := s.sup.faults.filter (fun t => decide (ms.toNat < t + 10000))
    (¬ ok → exec (.railFault rail cause ms) s = .next s) ∧
    (ok → ∃ t, exec (.railFault rail cause ms) s = .next t ∧ t.pending = s.pending ∧
      t.get Fld.SUP_RAIL_STAT_LASTRAIL = rail.val ∧ t.get Fld.SUP_RAIL_STAT_LASTCAUSE = cause.val ∧
      t.on Fld.SUP_RAIL_STAT_CLATCH = decide (2 ≤ recent.length) ∧
      (rail.val ≤ 4 → 1 ∈ t.boot.causes ∧ t.sup.restart = some rail.val ∧ t.inReset = true) ∧
      (4 < rail.val → t.sup.powered = false))) ∧
  (∀ s : State,
    (s.sup.restart ≠ none → s.on Fld.SUP_RAIL_STAT_CLATCH = false → exec .railRestartDone s =
      .next (({ s.startCoreRail with sup := { s.startCoreRail.sup with restart := none } } : State).endCause 1)) ∧
    (s.sup.restart = none ∨ s.on Fld.SUP_RAIL_STAT_CLATCH = true → exec .railRestartDone s = .next s))

/-- R328, R455, R558 to R570. -/
def Obligations.PowerStates : Prop :=
  (∀ (i : Instr) (req : Nat) (s : State), (i, req) ∈ [(Instr.reqActive, 3), (.reqIdle, 2), (.reqStandby, 1)] →
    let granted := (s.put Fld.SUP_PWR_CTL_REQ req).put Fld.SUP_PWR_STAT_REASON 0
    (s.nodeState = req → exec i s = .next granted) ∧
    (s.nodeState ≠ req → s.powerReason req ≠ 0 → exec i s =
      .next ((s.put Fld.SUP_PWR_STAT_REASON (s.powerReason req)).invalid Reg.SUP_PWR_CTL)) ∧
    (s.nodeState ≠ req → s.powerReason req = 0 → req ≠ 1 → exec i s =
      .next { granted with sup := { granted.sup with move := .atTick req } }) ∧
    (s.nodeState ≠ req → s.powerReason req = 0 → req = 1 → s.marchAsked = false →
      exec i s = .next granted.enterStandby) ∧
    (s.nodeState ≠ req → s.powerReason req = 0 → req = 1 → s.marchAsked = true →
      exec i s = .next (granted.beginReset 6))) ∧
  (∀ s : State,
    let busy := (∃ p ∈ s.str.flow, p.2.state ≠ 0) ∨ ∃ p < 34, s.lstate p ≠ 0
    let amp := ∃ c < 8, s.chState c ≠ 0 ∧ s.chState c ≠ 7
    let twin := s.get Fld.TWN_STAT_STATE ≠ 0 ∨ s.on Fld.REF_CFG_EN = true
    let wake := s.get Fld.SUP_STBY_CFG_PORT
    let deaf := s.on Fld.SUP_STBY_CFG_WOLEN = true ∧
      ¬ ((s.portType wake = 1 ∨ s.portType wake = 2) ∧ s.linkUp wake = true)
    (s.mayIdle = true ↔ (∀ p ∈ s.cores, p.2.state = .reset) ∧ s.on Fld.MTX_CTL_EN = false ∧ s.on Fld.DLY_CTL_EN = false) ∧
    (s.sup.move ≠ .none → ∀ q, s.powerReason q = 7) ∧
    (s.sup.move = .none →
      s.powerReason 3 = 0 ∧ (s.mayIdle = false → s.powerReason 2 = 1) ∧ (s.mayIdle = true → s.powerReason 2 = 0) ∧
      (s.nodeState = 3 → s.powerReason 1 = 6) ∧
      (s.nodeState ≠ 3 →
        (s.mayIdle = false → s.powerReason 1 = 1) ∧
        (s.mayIdle = true → busy → s.powerReason 1 = 2) ∧
        (s.mayIdle = true → ¬ busy → amp → s.powerReason 1 = 3) ∧
        (s.mayIdle = true → ¬ busy → ¬ amp → twin → s.powerReason 1 = 4) ∧
        (s.mayIdle = true → ¬ busy → ¬ amp → ¬ twin → deaf → s.powerReason 1 = 5) ∧
        (s.mayIdle = true → ¬ busy → ¬ amp → ¬ twin → ¬ deaf → s.powerReason 1 = 0)))) ∧
  (∀ s : State,
    let woken (src : Nat) : State :=
      let u := s.put Fld.SUP_PWR_STAT_WSRC src
      { u with sup := { u.sup with move := .waking } }
    let wakes (i : Instr) (src : Nat) : Prop :=
      (s.sup.move = .none → s.nodeState = 1 → exec i s = .next (woken src)) ∧
      (s.sup.move = .none → s.nodeState ≠ 1 → exec i s = .next s) ∧
      (s.sup.move = .entering 0 → exec i s = .next { s with sup := { s.sup with move := .entering src } }) ∧
      (∀ w, w ≠ 0 → s.sup.move = .entering w → exec i s = .next s) ∧
      (∀ q, s.sup.move = .atTick q ∨ s.sup.move = .waking → exec i s = .next s)
    let due := s.on Fld.SUP_STBY_CFG_ALMEN = true ∧ s.tbState s.media ≠ 0 ∧
      s.get Fld.SUP_ALARM_SEC_LO_SEC + 2 ^ 32 * s.get Fld.SUP_ALARM_SEC_HI_SEC ≤ s.tbNs s.media / 1000000000
    (∀ v, (v.getLsbD 0 = true → wakes (.wakeGo v) 1) ∧ (v.getLsbD 0 = false → exec (.wakeGo v) s = .next s)) ∧
    (s.on Fld.SUP_STBY_CFG_PINEN = true → wakes .wakein 2) ∧
    (s.on Fld.SUP_STBY_CFG_PINEN = false → exec .wakein s = .next s) ∧
    (∀ (p : Fin 4) (b : List (BitVec 8)),
      let good := s.on Fld.SUP_STBY_CFG_WOLEN = true ∧ s.get Fld.SUP_STBY_CFG_PORT = p.val ∧ s.linkUp p = true ∧
        fcsGood b = true ∧ 64 ≤ b.length ∧ b.length ≤ 1522 ∧ frameDst b = s.macOf p ∧
        frameType b = s.get Fld.SUP_STBY_CFG_ETYPE ∧ beAt b (frameBody b) 4 = s.get Fld.SUP_WOL_KEY_HI_KEY ∧
        beAt b (frameBody b + 4) 4 = s.get Fld.SUP_WOL_KEY_LO_KEY
      (good → wakes (.wakeFrame p b) 3) ∧ (¬ good → exec (.wakeFrame p b) s = .next s)) ∧
    (due → wakes .alarm 4) ∧ (¬ due → exec .alarm s = .next s)) ∧
  (∀ s : State,
    ((∀ w, s.sup.move ≠ .entering w) → exec .standbyEntryDone s = .next s) ∧
    (∀ w, s.sup.move = .entering w →
      let u := (s.loseState.showState 1).put Fld.SUP_RAIL_STAT_OK 0x1E
      let slept : State := { u with sup := { u.sup with move := .none } }
      let src := if w ≠ 0 then w else 4
      slept.nodeState = 1 ∧
      (w = 0 → slept.alarmDue = false → exec .standbyEntryDone s = .next slept) ∧
      (w ≠ 0 ∨ slept.alarmDue = true → exec .standbyEntryDone s = .next (slept.beginWake src))) ∧
    (s.sup.move = .waking → exec (.wakeDone true) s = .next s.endWake ∧
      exec (.wakeDone false) s = .next (s.startCoreRail.beginReset 8)) ∧
    (∀ ok, s.sup.move ≠ .waking → exec (.wakeDone ok) s = .next s)) ∧
  (∀ s : State,
    let causes (i : Instr) (c : Nat) : Prop :=
      (s.sup.powered = false → exec i s = .next s) ∧
      (s.sup.powered = true → ∃ t, exec i s = .next t ∧ c ∈ t.boot.causes ∧ t.inReset = true ∧ t.pending = s.pending ∧
        t.get Fld.BOOT_RST_CAUSE_CAUSE = (if s.inReset then min c (s.get Fld.BOOT_RST_CAUSE_CAUSE) else c))
    let ends (c : Nat) (t : State) : Prop := c ∉ t.boot.causes ∧ (c ∈ s.boot.causes → 9 ∈ t.boot.causes) ∧
      (∀ d, d ≠ c → d ≠ 9 → (d ∈ t.boot.causes ↔ d ∈ s.boot.causes)) ∧ t = { s with boot := t.boot }
    causes .prstInAssert 2 ∧ causes .perstAssert 4 ∧ causes .functionLevelReset 5 ∧
    (∃ t, exec .prstInRelease s = .next t ∧ ends 2 t) ∧ (∃ t, exec .perstDeassert s = .next t ∧ ends 4 t) ∧
    (∀ v, (s.inReset = true → exec (.rstCtlGo v) s = .next s) ∧
      (s.inReset = false → v.toNat / 2 ^ 24 ≠ 0xA5 → exec (.rstCtlGo v) s = .next (s.invalid Reg.BOOT_RST_CTL)) ∧
      (s.inReset = false → v.toNat / 2 ^ 24 = 0xA5 → v.getLsbD 0 = false → exec (.rstCtlGo v) s = .next s) ∧
      (s.inReset = false → v.toNat / 2 ^ 24 = 0xA5 → v.getLsbD 0 = true → causes (.rstCtlGo v) 6)) ∧
    (s.clk.xo = false → exec .xoLoss s = .next s ∧
      exec .xoRestore s = .next ((s.setClk { s.clk with xo := true }).endCause 3).clocksOn) ∧
    (s.clk.xo = true → exec .xoRestore s = .next s ∧ ∃ t, exec .xoLoss s = .next t ∧ t.clk.xo = false ∧
      3 ∈ t.boot.causes ∧ t.inReset = true ∧ t.row.ticks = false ∧
      (s.inReset = false → t.get Fld.BOOT_RST_CAUSE_CAUSE = 3)))

/-- R570 to R593. -/
def Obligations.Boot : Prop :=
  (∀ s : State,
    (s.sup.powered = true ∨ s.on Fld.SUP_RAIL_STAT_CLATCH = true → exec .powerOn s = .next s) ∧
    (s.sup.powered = false → s.on Fld.SUP_RAIL_STAT_CLATCH = false → ∃ t, exec .powerOn s = .next t ∧
      t.sup.powered = true ∧ t.boot.causes = [0] ∧ t.boot.cold = true)) ∧
  (∀ (strap : BitVec 2) (gen : BitVec 4) (width : BitVec 3) (a b : List (BitVec 8)) (s : State),
    let order := bootOrder strap.toNat (s.get Fld.BOOT_NEXT_NEXT) a b
    (s.mayRelease = false → exec (.resetRelease strap gen width a b) s = .next s) ∧
    (s.mayRelease = true → ∃ t, exec (.resetRelease strap gen width a b) s = .next t ∧ t.inReset = false ∧
      t.boot.order = order ∧ t.get Fld.BOOT_NEXT_NEXT = 0 ∧ t.get Fld.BOOT_STRAP_MODE = strap.toNat ∧
      (order = [2] → t.bootPhase = 6 ∧ t.get Fld.BOOT_STAT_SRC = 3))) ∧
  (∀ (n k : Nat) (a b : List (BitVec 8)),
    (n = 1 ∨ k = 3 → bootOrder n k a b = [2]) ∧ (n ≠ 1 → k = 1 → bootOrder n k a b = [0, 1, 2]) ∧
    (n ≠ 1 → k = 2 → bootOrder n k a b = [1, 0, 2]) ∧
    (n ≠ 1 → k = 0 → bootOrder n k a b =
      if headerOk b = true ∧ (headerOk a = false ∨ laterThan 32 (imgSeq b).toNat (imgSeq a).toNat = true) then [1, 0, 2]
      else [0, 1, 2])) ∧
  (∀ (src : Nat) (l : List Nat) (s : State), s.boot.order = src :: l → s.inReset = false → s.sup.powered = true →
      s.bootPhase = 0 → src < 2 →
    ∀ img, let r := s.slotReason (s.get (fdTries src)) img
      ∃ t, exec (.bootEarly img) s = .next t ∧
        (if img.isSome = true ∧ r = 0 then
          t = (s.put (fdRej src) 0).acceptImage src (img.getD []) ∧ t.bootPhase = 1 ∧ t.boot.image = some ⟨img.getD [], src⟩
        else t.get (fdRej src) = r ∧ t.boot.order = l ∧
          (src + 256 * r) ∈ (t.boot.events.filter (fun e => e.1 == 235)).map (fun e => e.2) ∧
          (l.headD 2 = 2 → t.bootPhase = 6))) ∧
  (∀ s : State,
    (s.boot.order = [] → ∀ img, exec (.bootEarly img) s = .next s) ∧
    (s.boot.image = none → exec .bootRunning s = .next s ∧ exec .bootDone s = .next s) ∧
    (∀ m, s.boot.image = some m → s.inReset = false →
      (s.bootPhase = 1 → (∀ e ∈ s.boot.events ++ s.sup.owed, e.1 < 256) → ∃ t, exec .bootRunning s = .next t ∧ t.bootPhase = 2 ∧ t.boot.events = [] ∧ t.boot.last = some m.src) ∧
      (s.bootPhase ≠ 1 → exec .bootRunning s = .next s) ∧
      (s.bootPhase ≠ 2 → s.bootPhase ≠ 3 → exec .bootDone s = .next s) ∧
      (s.bootPhase = 2 ∨ s.bootPhase = 3 →
        let l := (s.put Fld.BOOT_STAT_PHASE 3).loadSections m.bytes (imgSections m.bytes)
        let u := (l.1.avoidFailed.put Fld.BOOT_STAT_PHASE 4).changeState (if s.get Fld.SUP_PWR_CTL_REQ = 3 then 3 else 2) 0
        (l.2 = false → exec .bootDone s = .next (l.1.failBoot m.src)) ∧
        (l.2 = true → u.boot.hostLoad = none → exec .bootDone s = .next u.startSequence) ∧
        (∀ r, l.2 = true → u.boot.hostLoad = some r →
          let v : State := { u with boot := { u.boot with hostLoad := none } }
          exec .bootDone s = .next (v.endImageLoad r 0 0).startSequence)))) ∧
  (∀ s : State,
    (s.sup.powered = true → s.inReset = false → s.bootPhase < 4 → s.bootSource < 2 →
      exec .bootTrialTimeout s = .next ((s.countTry s.bootSource).beginReset 8)) ∧
    (s.sup.powered = false ∨ s.inReset = true ∨ 4 ≤ s.bootPhase ∨ 2 ≤ s.bootSource → exec .bootTrialTimeout s = .next s) ∧
    (s.boot.trial = true → s.bootPhase = 4 ∨ s.bootPhase = 5 → s.bootSource < 2 → ∃ t, exec .trialConfirm s = .next t ∧
      t.boot.trial = false ∧ t.get (fdTries s.bootSource) = 0) ∧
    (s.boot.trial = false → exec .trialConfirm s = .next s) ∧
    (s.regServed = true → s.bootPhase ≠ 6 → exec .wdog s =
      .next ((if s.boot.trial then s.countTry s.bootSource else s).beginReset 7)) ∧
    (s.regServed = false ∨ s.bootPhase = 6 → exec .wdog s = .next s)) ∧
  (∀ s : State,
    (∀ timeout, s.bootPhase ≠ 5 → exec .seqWrite s = .next s ∧ exec .seqWaitrows s = .next s ∧
      exec (.seqWaitfield timeout) s = .next s ∧ exec .seqTparam s = .next s) ∧
    (∀ r, s.seqNow 1 = some r →
      let a := leAt r 4 4
      let t := s.writeW0 a (BitVec.ofNat 32 (leAt r 8 4))
      (s.boot.seqTick = true → exec .seqWrite s = .next s) ∧
      (s.boot.seqTick = false → t.bootPhase = 5 → t.refusedFrom s a = true → exec .seqWrite s = .next (t.seqEnd true)) ∧
      (s.boot.seqTick = false → t.bootPhase = 5 → t.refusedFrom s a = false → isTimed a = false ∨ onSupply a = true →
        exec .seqWrite s = .next t.seqNext) ∧
      (s.boot.seqTick = false → t.bootPhase = 5 → t.refusedFrom s a = false → isTimed a = true → onSupply a = false →
        exec .seqWrite s = .next { t with boot := { t.boot with seqTick := true, seqBad := false } })) ∧
    (∀ r, s.seqNow 2 = some r → (s.boot.seqRows = 0 → exec .seqWaitrows s = .next s.seqNext) ∧
      (s.boot.seqRows ≠ 0 → exec .seqWaitrows s = .next s)) ∧
    (∀ r, s.seqNow 3 = some r → let hit := s.view (leAt r 4 4) &&& BitVec.ofNat 32 (leAt r 8 4) = BitVec.ofNat 32 (leAt r 12 4)
      (∀ o, hit → exec (.seqWaitfield o) s = .next s.bumpFree.seqNext) ∧
      (¬ hit → exec (.seqWaitfield true) s = .next (s.bumpFree.seqEnd true) ∧
        exec (.seqWaitfield false) s = .next s.bumpFree)) ∧
    (∀ r, s.seqNow 4 = some r → let p := tpOfBytes (bytesAt r 4 16)
      let q := s.tpSubmit { p with row := s.row.openRow + p.row }
      (q.2 = 0 → exec .seqTparam s = .next q.1.seqNext) ∧ (q.2 ≠ 0 → exec .seqTparam s = .next (q.1.seqEnd true)))) ∧
  (∀ s : State, (s.bootPhase ≠ 6 ∨ s.on Fld.HIF_HCTL_EN = false ∨ s.inReset = true → exec .recoveryPoll s = .next s) ∧
    (s.bootPhase = 6 → s.on Fld.HIF_HCTL_EN = true → s.inReset = false → s.ringKeys = [] →
      exec .recoveryPoll s = .next (s.setHost { s.host with rowFetch := 0, dbErr := [] }).writeStatus.readDoorbells.pumpAll))

/-- R589 to R608. -/
def Obligations.FusesAndSwatch : Prop :=
  (∀ (i : Instr) (op : Nat) (s : State),
      (i, op) ∈ [(Instr.fuseProgramKey0, 1), (.fuseProgramKey1, 2), (.fuseRevokeKey0, 3), (.fuseRaiseCount, 4)] →
    (s.regServed = false → exec i s = .next s) ∧
    (s.regServed = true → s.boot.fuseOp.isSome = true → exec i s = .next s) ∧
    (s.regServed = true → s.boot.fuseOp = none → s.fuseRefused op = true →
      exec i s = .next (s.put Fld.BOOT_FUSE_STAT_RESULT 3)) ∧
    (s.regServed = true → s.fuseRefused op = false → ∃ t v, exec i s = .next t ∧ t.boot.fuseOp = some (op, v) ∧
      t.get Fld.BOOT_FUSE_STAT_RESULT = 1 ∧ (op ≤ 2 → v = s.fuseData) ∧
      (∀ src n k, op = 4 → s.runningSvn = some (src, n, k) → v = n))) ∧
  (∀ s : State, (s.boot.fuseOp = none → exec .fuseOpDone s = .next s) ∧
    (∀ op v, s.boot.fuseOp = some (op, v) → ∃ t, exec .fuseOpDone s = .next t ∧ t.boot.fuseOp = none ∧
      t.get Fld.BOOT_FUSE_STAT_RESULT = 2 ∧ t.boot.fuses = s.boot.fuses.blow op v)) ∧
  (∀ (n : Fin 5) (s : State),
    (s.sup.powered = false → exec (.jtagInstruction n) s = .next s) ∧
    (s.sup.powered = true → ∃ t, exec (.jtagInstruction n) s = .next t ∧
      t.boot.jtag = (if n.val ≤ 1 ∨ n.val ≤ 3 ∧ 1 ≤ s.jtagLevel ∨ 2 ≤ s.jtagLevel
        then [JtagInstr.bypass, .idcode, .samplePreload, .extest, .debug].getD n .bypass else .bypass) ∧
      (n.val = 3 → 1 ≤ s.jtagLevel → s.boot.jtag ≠ .extest → 6 ∈ t.boot.causes))) ∧
  (∀ (w : Word) (s : State),
    let u := s.writeReg Reg.SWT_FG_CTL w
    exec (.loopCalibrationRequest w) s = .next (s.writeFgCtl w) ∧ exec (.memoryMarchRequest w) s = .next (s.writeFgCtl w) ∧
    (w.msb = false → s.writeFgCtl w = u) ∧
    (w.msb = true → badCodes Reg.SWT_FG_CTL w = false → u.get Fld.SWT_FG_CTL_TEST ≠ 0 →
      s.writeFgCtl w = u.requestSwatch (u.get Fld.SWT_FG_CTL_TEST) (u.get Fld.SWT_FG_CTL_CHANNEL))) ∧
  (∀ (test ch : Nat) (s : State), let u := s.put Fld.SWT_FG_STAT_TEST test
    (u.foregroundOk = false → s.requestSwatch test ch = (u.put Fld.SWT_FG_STAT_RESULT 4).refuseSwatch test 1) ∧
    (u.foregroundOk = true → test = 1 → u.chState ch ≠ 0 →
      s.requestSwatch test ch = (u.put Fld.SWT_FG_STAT_RESULT 5).refuseSwatch test 2) ∧
    (u.foregroundOk = true → test = 2 → (s.requestSwatch test ch).swt.fg = some (2, 0))) ∧
  (∀ (g o : Int) (s : State),
    ((∀ c, s.swt.fg ≠ some (1, c)) → exec (.loopCalibrationDone g o) s = .next s) ∧
    (∀ c, s.swt.fg = some (1, c) →
      (g.natAbs ≤ 500 ∧ o.natAbs ≤ 100 → ∃ t, exec (.loopCalibrationDone g o) s = .next t ∧ t.swt.loops.get (fun _ => (0, 0)) c = (g, o)) ∧
      (¬ (g.natAbs ≤ 500 ∧ o.natAbs ≤ 100) → exec (.loopCalibrationDone g o) s = .next ((s.endForeground 2).setChState c 0))) ∧
    (s.marchAsked = false ∨ s.swt.marching = true → exec .memoryMarchStart s = .next s) ∧
    (s.marchAsked = true → s.swt.marching = false → ∃ t, exec .memoryMarchStart s = .next t ∧ t.swt.marching = true ∧
      (∀ p ∈ t.cores, p.2.state = .reset) ∧ t.fab.mtxOut = [] ∧ t.fab.dlyOut = []) ∧
    (∀ f, s.swt.marching = false → exec (.memoryMarchDone f) s = .next s) ∧
    (∀ f, s.swt.marching = true → ∃ t, exec (.memoryMarchDone f) s = .next t ∧ 6 ∈ t.boot.causes ∧ t.swt.marching = false ∧
      t.get Fld.SWT_FG_STAT_RESULT = (if f.isSome then 3 else 2) ∧
      (∀ a, f = some a → t.reg Reg.SWT_FG_ADDR = a))) ∧
  (∀ (g : Fin 4) (s : State),
    (s.on Fld.SWT_CORE_CFG_EN = false ∨ s.testsStopped g = true ∨ s.gaugeLow = false ∨ s.row.migration ≠ none →
      exec (.coreTestPeriod g) s = .next s) ∧
    (s.on Fld.SWT_CORE_CFG_EN = true → s.testsStopped g = false → s.gaugeLow = true → s.row.migration = none →
      s.tested g = none → exec (.coreTestPeriod g) s = .next (s.beginTest g)) ∧
    (∀ ok, s.tested g = none → exec (.coreTestDone g ok) s = .next s) ∧
    (s.tested g = some (128 + g) → exec (.coreTestDone g true) s =
        .next (((s.count (ctrSwt 0)).setPlace g 0).setTested g none) ∧
      ∃ t, exec (.coreTestDone g false) s = .next t ∧ t.physFailed (128 + g) = true ∧ t.tested g = none)) ∧
  (∀ (n : Fin 6) (w : BitVec 6) (h : BitVec 7) (s : State),
    exec (.eyeScanPeriod n w h true) s = .next s ∧
    (s.on Fld.SWT_EYE_CFG_EN = false ∨ s.laneState n ≠ 3 → exec (.eyeScanPeriod n w h false) s = .next s) ∧
    (s.on Fld.SWT_EYE_CFG_EN = true → s.laneState n = 3 →
      let u := ((s.flag (Fld.SWT_EYE_RES_VALID n) true).put (Fld.SWT_EYE_RES_WIDTH n) w.toNat).put (Fld.SWT_EYE_RES_HEIGHT n) h.toNat
      let low := w.toNat < s.get Fld.SWT_EYE_CFG_WMIN ∨ h.toNat < s.get Fld.SWT_EYE_CFG_HMIN
      (low → exec (.eyeScanPeriod n w h false) s = .next (u.failSwatch 4 n)) ∧
      (¬ low → exec (.eyeScanPeriod n w h false) s = .next u))) ∧
  (∀ (g o : Int) (s : State),
    (s.on Fld.SWT_SENSE_CFG_EN = true → s.swt.trimming = none → exec .senseTrim s = .next
      { s with swt := { s.swt with trimming := some s.swt.trimNext, trimNext := (s.swt.trimNext + 1) % 18 } }) ∧
    (s.on Fld.SWT_SENSE_CFG_EN = false ∨ s.swt.trimming ≠ none → exec .senseTrim s = .next s) ∧
    (s.swt.trimming = none → exec (.senseTrimDone g o) s = .next s) ∧
    (∀ v, s.swt.trimming = some v →
      let x := s.swt.trims.get (fun _ => (0, 0)) v
      let u : State := { s with swt := { s.swt with trimming := none } }
      let ok := (g - x.1).natAbs ≤ 200 ∧ (o - x.2).natAbs ≤ 200
      (ok → ∃ t, exec (.senseTrimDone g o) s = .next t ∧ t.swt.trims.get (fun _ => (0, 0)) v = (g, o) ∧ t.swt.trimming = none) ∧
      (¬ ok → exec (.senseTrimDone g o) s = .next (u.failSwatch 5 v)))) ∧
  (∀ (d : BitVec 320) (temp : Int) (s : State),
    ((s.inReset || s.asleep) = false → exec (.agingMeasure d) s = .next (s.measureAging d)) ∧
    ((s.inReset || s.asleep) = true → exec (.agingMeasure d) s = .next s) ∧
    (s.inReset = true → exec (.lifeSample temp) s = .next s ∧ exec .lifeSave s = .next s) ∧
    (s.inReset = false → s.nodeState = 1 → exec (.lifeSample temp) s = .next (s.lifeSecond 30) ∧ exec .lifeSave s = .next s) ∧
    (s.inReset = false → s.nodeState ≠ 1 → exec (.lifeSample temp) s =
        .next (s.lifeSecond (if temp < -400 then 0 else if 1100 ≤ temp then 29 else ((temp + 400) / 50).toNat)) ∧
      exec .lifeSave s = .next s.saveLife))
/-- The block's one way to move (log entries 1 and 7). -/
def Obligations.StepRunsFront : Prop :=
  (∀ (c : Instr) (q : List Instr) (s : State), s.pending = c :: q → step s = exec c { s with pending := q }) ∧
  (∀ (c : Instr) (q : List Instr) (s : State), step { s with pending := c :: q } = exec c { s with pending := q }) ∧
  (∀ s : State, s.pending = [] → step s = .next s.countOnce)

/-- The reset state (R571, R581; log entry 5 for what memory reads as). -/
def Obligations.ResetState : Prop :=
  let s := State.reset
  s.pending = [] ∧ s.Inv ∧ (∀ a, s.reg a = resetWord a) ∧ s.reg Reg.HIF_ID = 0x20481F3A ∧
    s.get Fld.SUP_SAGDEPTH_DEPTH = 4 ∧ s.get Fld.ENG_GUARD_MUSTRES = 4 ∧
    (∀ c, (s.core c).state = .reset) ∧ (∀ n < 6, s.laneState n = 0) ∧
    (∀ r < 64, s.ringState r = 0 ∧ s.ringGen r = 0 ∧ s.ring r = ringReset) ∧ (∀ n < 64, (s.mbx n).full = false) ∧
    s.twinState = 0 ∧ (∀ n < 4, s.tbState n = 0) ∧ (∀ c < 8, s.chState c = 0) ∧ s.bootPhase = 0 ∧ s.row.ticks = false ∧
    s.row.tpq = [] ∧ s.link.main.queue = [] ∧ s.link.sup.queue = [] ∧ (∀ a, memByte s.fab.shared a = 0)

/-- The laws of the addressed memories (R6). -/
def Obligations.MemoryLaws : Prop :=
  (∀ (m : Table Byte) (a : Nat) (b : List Byte),
    memBytes (memSetBytes m a b) a b.length = b ∧
    (∀ i, (h : i < b.length) → memByte (memSetBytes m a b) (a + i) = b[i]) ∧
    (∀ x, x < a ∨ a + b.length ≤ x → memByte (memSetBytes m a b) x = memByte m x)) ∧
  (∀ (m : Table Byte) (a : Nat) (w : Word), memWord (memSetWord m a w) a = w ∧
    (∀ i < 4, memByte (memSetWord m a w) (a + i) = w.extractLsb' (8 * i) 8) ∧
    (∀ x, x < a ∨ a + 4 ≤ x → memByte (memSetWord m a w) x = memByte m x)) ∧
  (∀ m m' : Table Byte, Memory.wf m = true → Memory.wf m' = true → (∀ a, memByte m a = memByte m' a) → m = m')

/-- No command of this block stops it. -/
def Obligations.EveryCommandCompletes : Prop :=
  ∀ (i : Instr) (s : State), ∃ t, exec i s = .next t ∧ t.pending = s.pending

/-- The invariant of the state's tables is kept by every command and by the idle step. -/
def Obligations.InvariantKept : Prop :=
  ∀ s t : State, s.Inv → step s = .next t → t.Inv
end

