-- ==== Sys2Proof/Laws/Map.lean ====
section
/-! SUPPORT. The laws of sparse tables: read after write, writes elsewhere change nothing, and every write keeps the
canonical form. -/

namespace Sys2Proof.Machine

variable {α : Type}

theorem Table.get_insert_same (d : Nat → α) (m : Table α) (k : Nat) (v : α) :
    Table.get d (Table.insert k v m) k = v := by
  induction m with
  | nil => simp [Table.insert, Table.get]
  | cons p t ih =>
    obtain ⟨a, w⟩ := p
    simp only [Table.insert]
    split
    · simp [Table.get]
    · split
      · simp [Table.get]
      · rename_i h; simp [Table.get, h, ih]

theorem Table.get_insert_other (d : Nat → α) (m : Table α) (k j : Nat) (v : α) (h : j ≠ k) :
    Table.get d (Table.insert k v m) j = Table.get d m j := by
  induction m with
  | nil => simp [Table.insert, Table.get, h]
  | cons p t ih =>
    obtain ⟨a, w⟩ := p
    simp only [Table.insert]
    split
    · simp [Table.get, h]
    · split
      · rename_i e; subst e; simp [Table.get, h]
      · simp [Table.get, ih]

theorem Table.get_erase_same (d : Nat → α) (m : Table α) (k : Nat) :
    Table.get d (Table.erase k m) k = d k := by
  induction m with
  | nil => rfl
  | cons p t ih =>
    obtain ⟨a, w⟩ := p
    simp only [Table.erase]
    split
    · exact ih
    · rename_i h; simp [Table.get, h, ih]

theorem Table.get_erase_other (d : Nat → α) (m : Table α) (k j : Nat) (h : j ≠ k) :
    Table.get d (Table.erase k m) j = Table.get d m j := by
  induction m with
  | nil => rfl
  | cons p t ih =>
    obtain ⟨a, w⟩ := p
    simp only [Table.erase]
    split
    · rename_i e; subst e; simp [Table.get, h, ih]
    · simp [Table.get, ih]

variable [DecidableEq α]

/-- Reading the key just written gives the value written. -/
@[simp] theorem Table.get_set_same (d : Nat → α) (m : Table α) (k : Nat) (v : α) :
    Table.get d (Table.set d m k v) k = v := by
  unfold Table.set
  split
  · rename_i h; rw [Table.get_erase_same, h]
  · exact Table.get_insert_same d m k v

/-- Reading any other key gives what it gave before. -/
theorem Table.get_set_other (d : Nat → α) (m : Table α) (k j : Nat) (v : α) (h : j ≠ k) :
    Table.get d (Table.set d m k v) j = Table.get d m j := by
  unfold Table.set
  split
  · exact Table.get_erase_other d m k j h
  · exact Table.get_insert_other d m k j v h

theorem Table.get_set (d : Nat → α) (m : Table α) (k j : Nat) (v : α) :
    Table.get d (Table.set d m k v) j = if j = k then v else Table.get d m j := by
  split
  · rename_i h; rw [h, Table.get_set_same]
  · rename_i h; exact Table.get_set_other d m k j v h

theorem Table.wfFrom_erase (d : Nat → α) (m : Table α) (k : Nat) :
    ∀ b c, (∀ y, c = some y → ∃ x, b = some x ∧ y ≤ x) → Table.wfFrom d b m = true →
      Table.wfFrom d c (Table.erase k m) = true := by
  induction m with
  | nil => intros; rfl
  | cons p t ih =>
    obtain ⟨a, w⟩ := p
    intro b c hbc h
    simp only [Table.wfFrom, Bool.and_eq_true, decide_eq_true_eq] at h
    obtain ⟨⟨h1, h2⟩, h3⟩ := h
    simp only [Table.erase]
    split
    · refine ih (some a) c ?_ h3
      intro y hy
      obtain ⟨x, hx, hxy⟩ := hbc y hy
      subst hx
      simp only [decide_eq_true_eq] at h1
      exact ⟨a, rfl, by omega⟩
    · simp only [Table.wfFrom, Bool.and_eq_true, decide_eq_true_eq]
      refine ⟨⟨?_, h2⟩, ih (some a) (some a) (fun y hy => ⟨a, rfl, by simp_all⟩) h3⟩
      cases c with
      | none => rfl
      | some y =>
        obtain ⟨x, hx, hxy⟩ := hbc y rfl
        subst hx
        simp only [decide_eq_true_eq] at h1 ⊢
        omega

theorem Table.wfFrom_insert (d : Nat → α) (m : Table α) (k : Nat) (v : α) (hv : v ≠ d k) :
    ∀ b, (∀ x, b = some x → x < k) → Table.wfFrom d b m = true →
      Table.wfFrom d b (Table.insert k v m) = true := by
  induction m with
  | nil =>
    intro b hb _
    cases b <;> simp_all [Table.insert, Table.wfFrom]
  | cons p t ih =>
    obtain ⟨a, w⟩ := p
    intro b hb h
    simp only [Table.wfFrom, Bool.and_eq_true, decide_eq_true_eq] at h
    obtain ⟨⟨h1, h2⟩, h3⟩ := h
    simp only [Table.insert]
    split
    · simp only [Table.wfFrom, Bool.and_eq_true, decide_eq_true_eq]
      refine ⟨⟨?_, hv⟩, ⟨by assumption, h2⟩, h3⟩
      cases b <;> simp_all
    · split
      · rename_i e; subst e
        simp only [Table.wfFrom, Bool.and_eq_true, decide_eq_true_eq]
        exact ⟨⟨h1, hv⟩, h3⟩
      · simp only [Table.wfFrom, Bool.and_eq_true, decide_eq_true_eq]
        refine ⟨⟨h1, h2⟩, ih (some a) ?_ h3⟩
        intro x hx
        have hxa : a = x := by simpa using hx
        omega

/-- Every write keeps the canonical form. -/
theorem Table.wf_set (d : Nat → α) (m : Table α) (k : Nat) (v : α) (h : Table.wf d m = true) :
    Table.wf d (Table.set d m k v) = true := by
  unfold Table.set
  split
  · exact Table.wfFrom_erase d m k none none (by simp) h
  · rename_i hv
    exact Table.wfFrom_insert d m k v hv none (by simp) h

end Sys2Proof.Machine
end

