-- ==== Sys2Proof/Laws/State.lean ====
section
/-! SUPPORT. The small laws of the state: what each update of a component leaves of every other component, and reading a
register, a counter or a core after writing one. -/

namespace Sys2Proof.Machine

@[simp] theorem State.setReg_pending (s : State) (a : Nat) (w : Word) : (s.setReg a w).pending = s.pending := rfl
@[simp] theorem State.setReg_live (s : State) (a : Nat) (w : Word) : (s.setReg a w).live = s.live := rfl
@[simp] theorem State.setReg_outbox (s : State) (a : Nat) (w : Word) : (s.setReg a w).outbox = s.outbox := rfl
@[simp] theorem State.setReg_free (s : State) (a : Nat) (w : Word) : (s.setReg a w).free = s.free := rfl
@[simp] theorem State.setReg_row (s : State) (a : Nat) (w : Word) : (s.setReg a w).row = s.row := rfl
@[simp] theorem State.setReg_fab (s : State) (a : Nat) (w : Word) : (s.setReg a w).fab = s.fab := rfl
@[simp] theorem State.setReg_cores (s : State) (a : Nat) (w : Word) : (s.setReg a w).cores = s.cores := rfl
@[simp] theorem State.setReg_link (s : State) (a : Nat) (w : Word) : (s.setReg a w).link = s.link := rfl
@[simp] theorem State.setReg_evt (s : State) (a : Nat) (w : Word) : (s.setReg a w).evt = s.evt := rfl
@[simp] theorem State.setReg_twn (s : State) (a : Nat) (w : Word) : (s.setReg a w).twn = s.twn := rfl
@[simp] theorem State.setReg_tb (s : State) (a : Nat) (w : Word) : (s.setReg a w).tb = s.tb := rfl
@[simp] theorem State.setReg_clk (s : State) (a : Nat) (w : Word) : (s.setReg a w).clk = s.clk := rfl
@[simp] theorem State.setReg_host (s : State) (a : Nat) (w : Word) : (s.setReg a w).host = s.host := rfl
@[simp] theorem State.setReg_net (s : State) (a : Nat) (w : Word) : (s.setReg a w).net = s.net := rfl
@[simp] theorem State.setReg_str (s : State) (a : Nat) (w : Word) : (s.setReg a w).str = s.str := rfl
@[simp] theorem State.setReg_lane (s : State) (a : Nat) (w : Word) : (s.setReg a w).lane = s.lane := rfl
@[simp] theorem State.setReg_loc (s : State) (a : Nat) (w : Word) : (s.setReg a w).loc = s.loc := rfl
@[simp] theorem State.setReg_amp (s : State) (a : Nat) (w : Word) : (s.setReg a w).amp = s.amp := rfl
@[simp] theorem State.setReg_sup (s : State) (a : Nat) (w : Word) : (s.setReg a w).sup = s.sup := rfl
@[simp] theorem State.setReg_boot (s : State) (a : Nat) (w : Word) : (s.setReg a w).boot = s.boot := rfl
@[simp] theorem State.setReg_swt (s : State) (a : Nat) (w : Word) : (s.setReg a w).swt = s.swt := rfl

@[simp] theorem State.setLive_pending (s : State) (a n : Nat) : (s.setLive a n).pending = s.pending := rfl
@[simp] theorem State.setLive_regs (s : State) (a n : Nat) : (s.setLive a n).regs = s.regs := rfl
@[simp] theorem State.setLive_outbox (s : State) (a n : Nat) : (s.setLive a n).outbox = s.outbox := rfl
@[simp] theorem State.setLive_free (s : State) (a n : Nat) : (s.setLive a n).free = s.free := rfl
@[simp] theorem State.setLive_row (s : State) (a n : Nat) : (s.setLive a n).row = s.row := rfl
@[simp] theorem State.setLive_fab (s : State) (a n : Nat) : (s.setLive a n).fab = s.fab := rfl
@[simp] theorem State.setLive_cores (s : State) (a n : Nat) : (s.setLive a n).cores = s.cores := rfl
@[simp] theorem State.setLive_link (s : State) (a n : Nat) : (s.setLive a n).link = s.link := rfl
@[simp] theorem State.setLive_evt (s : State) (a n : Nat) : (s.setLive a n).evt = s.evt := rfl
@[simp] theorem State.setLive_twn (s : State) (a n : Nat) : (s.setLive a n).twn = s.twn := rfl
@[simp] theorem State.setLive_tb (s : State) (a n : Nat) : (s.setLive a n).tb = s.tb := rfl
@[simp] theorem State.setLive_clk (s : State) (a n : Nat) : (s.setLive a n).clk = s.clk := rfl
@[simp] theorem State.setLive_host (s : State) (a n : Nat) : (s.setLive a n).host = s.host := rfl
@[simp] theorem State.setLive_net (s : State) (a n : Nat) : (s.setLive a n).net = s.net := rfl
@[simp] theorem State.setLive_str (s : State) (a n : Nat) : (s.setLive a n).str = s.str := rfl
@[simp] theorem State.setLive_lane (s : State) (a n : Nat) : (s.setLive a n).lane = s.lane := rfl
@[simp] theorem State.setLive_loc (s : State) (a n : Nat) : (s.setLive a n).loc = s.loc := rfl
@[simp] theorem State.setLive_amp (s : State) (a n : Nat) : (s.setLive a n).amp = s.amp := rfl
@[simp] theorem State.setLive_sup (s : State) (a n : Nat) : (s.setLive a n).sup = s.sup := rfl
@[simp] theorem State.setLive_boot (s : State) (a n : Nat) : (s.setLive a n).boot = s.boot := rfl
@[simp] theorem State.setLive_swt (s : State) (a n : Nat) : (s.setLive a n).swt = s.swt := rfl

@[simp] theorem State.send_pending (s : State) (o : Output) : (s.send o).pending = s.pending := rfl
@[simp] theorem State.send_regs (s : State) (o : Output) : (s.send o).regs = s.regs := rfl
@[simp] theorem State.send_live (s : State) (o : Output) : (s.send o).live = s.live := rfl
@[simp] theorem State.send_free (s : State) (o : Output) : (s.send o).free = s.free := rfl
@[simp] theorem State.send_row (s : State) (o : Output) : (s.send o).row = s.row := rfl
@[simp] theorem State.send_fab (s : State) (o : Output) : (s.send o).fab = s.fab := rfl
@[simp] theorem State.send_cores (s : State) (o : Output) : (s.send o).cores = s.cores := rfl
@[simp] theorem State.send_link (s : State) (o : Output) : (s.send o).link = s.link := rfl
@[simp] theorem State.send_evt (s : State) (o : Output) : (s.send o).evt = s.evt := rfl
@[simp] theorem State.send_twn (s : State) (o : Output) : (s.send o).twn = s.twn := rfl
@[simp] theorem State.send_tb (s : State) (o : Output) : (s.send o).tb = s.tb := rfl
@[simp] theorem State.send_clk (s : State) (o : Output) : (s.send o).clk = s.clk := rfl
@[simp] theorem State.send_host (s : State) (o : Output) : (s.send o).host = s.host := rfl
@[simp] theorem State.send_net (s : State) (o : Output) : (s.send o).net = s.net := rfl
@[simp] theorem State.send_str (s : State) (o : Output) : (s.send o).str = s.str := rfl
@[simp] theorem State.send_lane (s : State) (o : Output) : (s.send o).lane = s.lane := rfl
@[simp] theorem State.send_loc (s : State) (o : Output) : (s.send o).loc = s.loc := rfl
@[simp] theorem State.send_amp (s : State) (o : Output) : (s.send o).amp = s.amp := rfl
@[simp] theorem State.send_sup (s : State) (o : Output) : (s.send o).sup = s.sup := rfl
@[simp] theorem State.send_boot (s : State) (o : Output) : (s.send o).boot = s.boot := rfl
@[simp] theorem State.send_swt (s : State) (o : Output) : (s.send o).swt = s.swt := rfl

@[simp] theorem State.bumpFree_pending (s : State) : (s.bumpFree).pending = s.pending := rfl
@[simp] theorem State.bumpFree_regs (s : State) : (s.bumpFree).regs = s.regs := rfl
@[simp] theorem State.bumpFree_live (s : State) : (s.bumpFree).live = s.live := rfl
@[simp] theorem State.bumpFree_outbox (s : State) : (s.bumpFree).outbox = s.outbox := rfl
@[simp] theorem State.bumpFree_row (s : State) : (s.bumpFree).row = s.row := rfl
@[simp] theorem State.bumpFree_fab (s : State) : (s.bumpFree).fab = s.fab := rfl
@[simp] theorem State.bumpFree_cores (s : State) : (s.bumpFree).cores = s.cores := rfl
@[simp] theorem State.bumpFree_link (s : State) : (s.bumpFree).link = s.link := rfl
@[simp] theorem State.bumpFree_evt (s : State) : (s.bumpFree).evt = s.evt := rfl
@[simp] theorem State.bumpFree_twn (s : State) : (s.bumpFree).twn = s.twn := rfl
@[simp] theorem State.bumpFree_tb (s : State) : (s.bumpFree).tb = s.tb := rfl
@[simp] theorem State.bumpFree_clk (s : State) : (s.bumpFree).clk = s.clk := rfl
@[simp] theorem State.bumpFree_host (s : State) : (s.bumpFree).host = s.host := rfl
@[simp] theorem State.bumpFree_net (s : State) : (s.bumpFree).net = s.net := rfl
@[simp] theorem State.bumpFree_str (s : State) : (s.bumpFree).str = s.str := rfl
@[simp] theorem State.bumpFree_lane (s : State) : (s.bumpFree).lane = s.lane := rfl
@[simp] theorem State.bumpFree_loc (s : State) : (s.bumpFree).loc = s.loc := rfl
@[simp] theorem State.bumpFree_amp (s : State) : (s.bumpFree).amp = s.amp := rfl
@[simp] theorem State.bumpFree_sup (s : State) : (s.bumpFree).sup = s.sup := rfl
@[simp] theorem State.bumpFree_boot (s : State) : (s.bumpFree).boot = s.boot := rfl
@[simp] theorem State.bumpFree_swt (s : State) : (s.bumpFree).swt = s.swt := rfl

@[simp] theorem State.setRow_pending (s : State) (r : RowS) : (s.setRow r).pending = s.pending := rfl
@[simp] theorem State.setRow_regs (s : State) (r : RowS) : (s.setRow r).regs = s.regs := rfl
@[simp] theorem State.setRow_live (s : State) (r : RowS) : (s.setRow r).live = s.live := rfl
@[simp] theorem State.setRow_outbox (s : State) (r : RowS) : (s.setRow r).outbox = s.outbox := rfl
@[simp] theorem State.setRow_free (s : State) (r : RowS) : (s.setRow r).free = s.free := rfl
@[simp] theorem State.setRow_fab (s : State) (r : RowS) : (s.setRow r).fab = s.fab := rfl
@[simp] theorem State.setRow_cores (s : State) (r : RowS) : (s.setRow r).cores = s.cores := rfl
@[simp] theorem State.setRow_link (s : State) (r : RowS) : (s.setRow r).link = s.link := rfl
@[simp] theorem State.setRow_evt (s : State) (r : RowS) : (s.setRow r).evt = s.evt := rfl
@[simp] theorem State.setRow_twn (s : State) (r : RowS) : (s.setRow r).twn = s.twn := rfl
@[simp] theorem State.setRow_tb (s : State) (r : RowS) : (s.setRow r).tb = s.tb := rfl
@[simp] theorem State.setRow_clk (s : State) (r : RowS) : (s.setRow r).clk = s.clk := rfl
@[simp] theorem State.setRow_host (s : State) (r : RowS) : (s.setRow r).host = s.host := rfl
@[simp] theorem State.setRow_net (s : State) (r : RowS) : (s.setRow r).net = s.net := rfl
@[simp] theorem State.setRow_str (s : State) (r : RowS) : (s.setRow r).str = s.str := rfl
@[simp] theorem State.setRow_lane (s : State) (r : RowS) : (s.setRow r).lane = s.lane := rfl
@[simp] theorem State.setRow_loc (s : State) (r : RowS) : (s.setRow r).loc = s.loc := rfl
@[simp] theorem State.setRow_amp (s : State) (r : RowS) : (s.setRow r).amp = s.amp := rfl
@[simp] theorem State.setRow_sup (s : State) (r : RowS) : (s.setRow r).sup = s.sup := rfl
@[simp] theorem State.setRow_boot (s : State) (r : RowS) : (s.setRow r).boot = s.boot := rfl
@[simp] theorem State.setRow_swt (s : State) (r : RowS) : (s.setRow r).swt = s.swt := rfl

@[simp] theorem State.setCore_pending (s : State) (c : Nat) (k : Core) : (s.setCore c k).pending = s.pending := rfl
@[simp] theorem State.setCore_regs (s : State) (c : Nat) (k : Core) : (s.setCore c k).regs = s.regs := rfl
@[simp] theorem State.setCore_live (s : State) (c : Nat) (k : Core) : (s.setCore c k).live = s.live := rfl
@[simp] theorem State.setCore_outbox (s : State) (c : Nat) (k : Core) : (s.setCore c k).outbox = s.outbox := rfl
@[simp] theorem State.setCore_free (s : State) (c : Nat) (k : Core) : (s.setCore c k).free = s.free := rfl
@[simp] theorem State.setCore_row (s : State) (c : Nat) (k : Core) : (s.setCore c k).row = s.row := rfl
@[simp] theorem State.setCore_fab (s : State) (c : Nat) (k : Core) : (s.setCore c k).fab = s.fab := rfl
@[simp] theorem State.setCore_link (s : State) (c : Nat) (k : Core) : (s.setCore c k).link = s.link := rfl
@[simp] theorem State.setCore_evt (s : State) (c : Nat) (k : Core) : (s.setCore c k).evt = s.evt := rfl
@[simp] theorem State.setCore_twn (s : State) (c : Nat) (k : Core) : (s.setCore c k).twn = s.twn := rfl
@[simp] theorem State.setCore_tb (s : State) (c : Nat) (k : Core) : (s.setCore c k).tb = s.tb := rfl
@[simp] theorem State.setCore_clk (s : State) (c : Nat) (k : Core) : (s.setCore c k).clk = s.clk := rfl
@[simp] theorem State.setCore_host (s : State) (c : Nat) (k : Core) : (s.setCore c k).host = s.host := rfl
@[simp] theorem State.setCore_net (s : State) (c : Nat) (k : Core) : (s.setCore c k).net = s.net := rfl
@[simp] theorem State.setCore_str (s : State) (c : Nat) (k : Core) : (s.setCore c k).str = s.str := rfl
@[simp] theorem State.setCore_lane (s : State) (c : Nat) (k : Core) : (s.setCore c k).lane = s.lane := rfl
@[simp] theorem State.setCore_loc (s : State) (c : Nat) (k : Core) : (s.setCore c k).loc = s.loc := rfl
@[simp] theorem State.setCore_amp (s : State) (c : Nat) (k : Core) : (s.setCore c k).amp = s.amp := rfl
@[simp] theorem State.setCore_sup (s : State) (c : Nat) (k : Core) : (s.setCore c k).sup = s.sup := rfl
@[simp] theorem State.setCore_boot (s : State) (c : Nat) (k : Core) : (s.setCore c k).boot = s.boot := rfl
@[simp] theorem State.setCore_swt (s : State) (c : Nat) (k : Core) : (s.setCore c k).swt = s.swt := rfl

@[simp] theorem State.setEvtSrc_pending (s : State) (n : Nat) (e : EvtSrc) : (s.setEvtSrc n e).pending = s.pending := rfl
@[simp] theorem State.setEvtSrc_regs (s : State) (n : Nat) (e : EvtSrc) : (s.setEvtSrc n e).regs = s.regs := rfl
@[simp] theorem State.setEvtSrc_live (s : State) (n : Nat) (e : EvtSrc) : (s.setEvtSrc n e).live = s.live := rfl
@[simp] theorem State.setEvtSrc_outbox (s : State) (n : Nat) (e : EvtSrc) : (s.setEvtSrc n e).outbox = s.outbox := rfl
@[simp] theorem State.setEvtSrc_free (s : State) (n : Nat) (e : EvtSrc) : (s.setEvtSrc n e).free = s.free := rfl
@[simp] theorem State.setEvtSrc_row (s : State) (n : Nat) (e : EvtSrc) : (s.setEvtSrc n e).row = s.row := rfl
@[simp] theorem State.setEvtSrc_fab (s : State) (n : Nat) (e : EvtSrc) : (s.setEvtSrc n e).fab = s.fab := rfl
@[simp] theorem State.setEvtSrc_cores (s : State) (n : Nat) (e : EvtSrc) : (s.setEvtSrc n e).cores = s.cores := rfl
@[simp] theorem State.setEvtSrc_link (s : State) (n : Nat) (e : EvtSrc) : (s.setEvtSrc n e).link = s.link := rfl
@[simp] theorem State.setEvtSrc_twn (s : State) (n : Nat) (e : EvtSrc) : (s.setEvtSrc n e).twn = s.twn := rfl
@[simp] theorem State.setEvtSrc_tb (s : State) (n : Nat) (e : EvtSrc) : (s.setEvtSrc n e).tb = s.tb := rfl
@[simp] theorem State.setEvtSrc_clk (s : State) (n : Nat) (e : EvtSrc) : (s.setEvtSrc n e).clk = s.clk := rfl
@[simp] theorem State.setEvtSrc_host (s : State) (n : Nat) (e : EvtSrc) : (s.setEvtSrc n e).host = s.host := rfl
@[simp] theorem State.setEvtSrc_net (s : State) (n : Nat) (e : EvtSrc) : (s.setEvtSrc n e).net = s.net := rfl
@[simp] theorem State.setEvtSrc_str (s : State) (n : Nat) (e : EvtSrc) : (s.setEvtSrc n e).str = s.str := rfl
@[simp] theorem State.setEvtSrc_lane (s : State) (n : Nat) (e : EvtSrc) : (s.setEvtSrc n e).lane = s.lane := rfl
@[simp] theorem State.setEvtSrc_loc (s : State) (n : Nat) (e : EvtSrc) : (s.setEvtSrc n e).loc = s.loc := rfl
@[simp] theorem State.setEvtSrc_amp (s : State) (n : Nat) (e : EvtSrc) : (s.setEvtSrc n e).amp = s.amp := rfl
@[simp] theorem State.setEvtSrc_sup (s : State) (n : Nat) (e : EvtSrc) : (s.setEvtSrc n e).sup = s.sup := rfl
@[simp] theorem State.setEvtSrc_boot (s : State) (n : Nat) (e : EvtSrc) : (s.setEvtSrc n e).boot = s.boot := rfl
@[simp] theorem State.setEvtSrc_swt (s : State) (n : Nat) (e : EvtSrc) : (s.setEvtSrc n e).swt = s.swt := rfl

@[simp] theorem State.setMbx_pending (s : State) (n : Nat) (m : Mbx) : (s.setMbx n m).pending = s.pending := rfl
@[simp] theorem State.setMbx_regs (s : State) (n : Nat) (m : Mbx) : (s.setMbx n m).regs = s.regs := rfl
@[simp] theorem State.setMbx_live (s : State) (n : Nat) (m : Mbx) : (s.setMbx n m).live = s.live := rfl
@[simp] theorem State.setMbx_outbox (s : State) (n : Nat) (m : Mbx) : (s.setMbx n m).outbox = s.outbox := rfl
@[simp] theorem State.setMbx_free (s : State) (n : Nat) (m : Mbx) : (s.setMbx n m).free = s.free := rfl
@[simp] theorem State.setMbx_row (s : State) (n : Nat) (m : Mbx) : (s.setMbx n m).row = s.row := rfl
@[simp] theorem State.setMbx_fab (s : State) (n : Nat) (m : Mbx) : (s.setMbx n m).fab = s.fab := rfl
@[simp] theorem State.setMbx_cores (s : State) (n : Nat) (m : Mbx) : (s.setMbx n m).cores = s.cores := rfl
@[simp] theorem State.setMbx_link (s : State) (n : Nat) (m : Mbx) : (s.setMbx n m).link = s.link := rfl
@[simp] theorem State.setMbx_twn (s : State) (n : Nat) (m : Mbx) : (s.setMbx n m).twn = s.twn := rfl
@[simp] theorem State.setMbx_tb (s : State) (n : Nat) (m : Mbx) : (s.setMbx n m).tb = s.tb := rfl
@[simp] theorem State.setMbx_clk (s : State) (n : Nat) (m : Mbx) : (s.setMbx n m).clk = s.clk := rfl
@[simp] theorem State.setMbx_host (s : State) (n : Nat) (m : Mbx) : (s.setMbx n m).host = s.host := rfl
@[simp] theorem State.setMbx_net (s : State) (n : Nat) (m : Mbx) : (s.setMbx n m).net = s.net := rfl
@[simp] theorem State.setMbx_str (s : State) (n : Nat) (m : Mbx) : (s.setMbx n m).str = s.str := rfl
@[simp] theorem State.setMbx_lane (s : State) (n : Nat) (m : Mbx) : (s.setMbx n m).lane = s.lane := rfl
@[simp] theorem State.setMbx_loc (s : State) (n : Nat) (m : Mbx) : (s.setMbx n m).loc = s.loc := rfl
@[simp] theorem State.setMbx_amp (s : State) (n : Nat) (m : Mbx) : (s.setMbx n m).amp = s.amp := rfl
@[simp] theorem State.setMbx_sup (s : State) (n : Nat) (m : Mbx) : (s.setMbx n m).sup = s.sup := rfl
@[simp] theorem State.setMbx_boot (s : State) (n : Nat) (m : Mbx) : (s.setMbx n m).boot = s.boot := rfl
@[simp] theorem State.setMbx_swt (s : State) (n : Nat) (m : Mbx) : (s.setMbx n m).swt = s.swt := rfl

@[simp] theorem State.setShared_pending (s : State) (m : Table Byte) : (s.setShared m).pending = s.pending := rfl
@[simp] theorem State.setShared_regs (s : State) (m : Table Byte) : (s.setShared m).regs = s.regs := rfl
@[simp] theorem State.setShared_live (s : State) (m : Table Byte) : (s.setShared m).live = s.live := rfl
@[simp] theorem State.setShared_outbox (s : State) (m : Table Byte) : (s.setShared m).outbox = s.outbox := rfl
@[simp] theorem State.setShared_free (s : State) (m : Table Byte) : (s.setShared m).free = s.free := rfl
@[simp] theorem State.setShared_row (s : State) (m : Table Byte) : (s.setShared m).row = s.row := rfl
@[simp] theorem State.setShared_cores (s : State) (m : Table Byte) : (s.setShared m).cores = s.cores := rfl
@[simp] theorem State.setShared_link (s : State) (m : Table Byte) : (s.setShared m).link = s.link := rfl
@[simp] theorem State.setShared_evt (s : State) (m : Table Byte) : (s.setShared m).evt = s.evt := rfl
@[simp] theorem State.setShared_twn (s : State) (m : Table Byte) : (s.setShared m).twn = s.twn := rfl
@[simp] theorem State.setShared_tb (s : State) (m : Table Byte) : (s.setShared m).tb = s.tb := rfl
@[simp] theorem State.setShared_clk (s : State) (m : Table Byte) : (s.setShared m).clk = s.clk := rfl
@[simp] theorem State.setShared_host (s : State) (m : Table Byte) : (s.setShared m).host = s.host := rfl
@[simp] theorem State.setShared_net (s : State) (m : Table Byte) : (s.setShared m).net = s.net := rfl
@[simp] theorem State.setShared_str (s : State) (m : Table Byte) : (s.setShared m).str = s.str := rfl
@[simp] theorem State.setShared_lane (s : State) (m : Table Byte) : (s.setShared m).lane = s.lane := rfl
@[simp] theorem State.setShared_loc (s : State) (m : Table Byte) : (s.setShared m).loc = s.loc := rfl
@[simp] theorem State.setShared_amp (s : State) (m : Table Byte) : (s.setShared m).amp = s.amp := rfl
@[simp] theorem State.setShared_sup (s : State) (m : Table Byte) : (s.setShared m).sup = s.sup := rfl
@[simp] theorem State.setShared_boot (s : State) (m : Table Byte) : (s.setShared m).boot = s.boot := rfl
@[simp] theorem State.setShared_swt (s : State) (m : Table Byte) : (s.setShared m).swt = s.swt := rfl

@[simp] theorem State.setSlot_pending (s : State) (n : Nat) (x : Slot) : (s.setSlot n x).pending = s.pending := rfl
@[simp] theorem State.setSlot_regs (s : State) (n : Nat) (x : Slot) : (s.setSlot n x).regs = s.regs := rfl
@[simp] theorem State.setSlot_live (s : State) (n : Nat) (x : Slot) : (s.setSlot n x).live = s.live := rfl
@[simp] theorem State.setSlot_outbox (s : State) (n : Nat) (x : Slot) : (s.setSlot n x).outbox = s.outbox := rfl
@[simp] theorem State.setSlot_free (s : State) (n : Nat) (x : Slot) : (s.setSlot n x).free = s.free := rfl
@[simp] theorem State.setSlot_row (s : State) (n : Nat) (x : Slot) : (s.setSlot n x).row = s.row := rfl
@[simp] theorem State.setSlot_cores (s : State) (n : Nat) (x : Slot) : (s.setSlot n x).cores = s.cores := rfl
@[simp] theorem State.setSlot_link (s : State) (n : Nat) (x : Slot) : (s.setSlot n x).link = s.link := rfl
@[simp] theorem State.setSlot_evt (s : State) (n : Nat) (x : Slot) : (s.setSlot n x).evt = s.evt := rfl
@[simp] theorem State.setSlot_twn (s : State) (n : Nat) (x : Slot) : (s.setSlot n x).twn = s.twn := rfl
@[simp] theorem State.setSlot_tb (s : State) (n : Nat) (x : Slot) : (s.setSlot n x).tb = s.tb := rfl
@[simp] theorem State.setSlot_clk (s : State) (n : Nat) (x : Slot) : (s.setSlot n x).clk = s.clk := rfl
@[simp] theorem State.setSlot_host (s : State) (n : Nat) (x : Slot) : (s.setSlot n x).host = s.host := rfl
@[simp] theorem State.setSlot_net (s : State) (n : Nat) (x : Slot) : (s.setSlot n x).net = s.net := rfl
@[simp] theorem State.setSlot_str (s : State) (n : Nat) (x : Slot) : (s.setSlot n x).str = s.str := rfl
@[simp] theorem State.setSlot_lane (s : State) (n : Nat) (x : Slot) : (s.setSlot n x).lane = s.lane := rfl
@[simp] theorem State.setSlot_loc (s : State) (n : Nat) (x : Slot) : (s.setSlot n x).loc = s.loc := rfl
@[simp] theorem State.setSlot_amp (s : State) (n : Nat) (x : Slot) : (s.setSlot n x).amp = s.amp := rfl
@[simp] theorem State.setSlot_sup (s : State) (n : Nat) (x : Slot) : (s.setSlot n x).sup = s.sup := rfl
@[simp] theorem State.setSlot_boot (s : State) (n : Nat) (x : Slot) : (s.setSlot n x).boot = s.boot := rfl
@[simp] theorem State.setSlot_swt (s : State) (n : Nat) (x : Slot) : (s.setSlot n x).swt = s.swt := rfl

@[simp] theorem State.setPort_pending (s : State) (n : Nat) (p : PortS) : (s.setPort n p).pending = s.pending := rfl
@[simp] theorem State.setPort_regs (s : State) (n : Nat) (p : PortS) : (s.setPort n p).regs = s.regs := rfl
@[simp] theorem State.setPort_live (s : State) (n : Nat) (p : PortS) : (s.setPort n p).live = s.live := rfl
@[simp] theorem State.setPort_outbox (s : State) (n : Nat) (p : PortS) : (s.setPort n p).outbox = s.outbox := rfl
@[simp] theorem State.setPort_free (s : State) (n : Nat) (p : PortS) : (s.setPort n p).free = s.free := rfl
@[simp] theorem State.setPort_row (s : State) (n : Nat) (p : PortS) : (s.setPort n p).row = s.row := rfl
@[simp] theorem State.setPort_fab (s : State) (n : Nat) (p : PortS) : (s.setPort n p).fab = s.fab := rfl
@[simp] theorem State.setPort_cores (s : State) (n : Nat) (p : PortS) : (s.setPort n p).cores = s.cores := rfl
@[simp] theorem State.setPort_link (s : State) (n : Nat) (p : PortS) : (s.setPort n p).link = s.link := rfl
@[simp] theorem State.setPort_evt (s : State) (n : Nat) (p : PortS) : (s.setPort n p).evt = s.evt := rfl
@[simp] theorem State.setPort_twn (s : State) (n : Nat) (p : PortS) : (s.setPort n p).twn = s.twn := rfl
@[simp] theorem State.setPort_tb (s : State) (n : Nat) (p : PortS) : (s.setPort n p).tb = s.tb := rfl
@[simp] theorem State.setPort_clk (s : State) (n : Nat) (p : PortS) : (s.setPort n p).clk = s.clk := rfl
@[simp] theorem State.setPort_host (s : State) (n : Nat) (p : PortS) : (s.setPort n p).host = s.host := rfl
@[simp] theorem State.setPort_str (s : State) (n : Nat) (p : PortS) : (s.setPort n p).str = s.str := rfl
@[simp] theorem State.setPort_lane (s : State) (n : Nat) (p : PortS) : (s.setPort n p).lane = s.lane := rfl
@[simp] theorem State.setPort_loc (s : State) (n : Nat) (p : PortS) : (s.setPort n p).loc = s.loc := rfl
@[simp] theorem State.setPort_amp (s : State) (n : Nat) (p : PortS) : (s.setPort n p).amp = s.amp := rfl
@[simp] theorem State.setPort_sup (s : State) (n : Nat) (p : PortS) : (s.setPort n p).sup = s.sup := rfl
@[simp] theorem State.setPort_boot (s : State) (n : Nat) (p : PortS) : (s.setPort n p).boot = s.boot := rfl
@[simp] theorem State.setPort_swt (s : State) (n : Nat) (p : PortS) : (s.setPort n p).swt = s.swt := rfl

@[simp] theorem State.setLane_pending (s : State) (n : Nat) (x : LaneS) : (s.setLane n x).pending = s.pending := rfl
@[simp] theorem State.setLane_regs (s : State) (n : Nat) (x : LaneS) : (s.setLane n x).regs = s.regs := rfl
@[simp] theorem State.setLane_live (s : State) (n : Nat) (x : LaneS) : (s.setLane n x).live = s.live := rfl
@[simp] theorem State.setLane_outbox (s : State) (n : Nat) (x : LaneS) : (s.setLane n x).outbox = s.outbox := rfl
@[simp] theorem State.setLane_free (s : State) (n : Nat) (x : LaneS) : (s.setLane n x).free = s.free := rfl
@[simp] theorem State.setLane_row (s : State) (n : Nat) (x : LaneS) : (s.setLane n x).row = s.row := rfl
@[simp] theorem State.setLane_fab (s : State) (n : Nat) (x : LaneS) : (s.setLane n x).fab = s.fab := rfl
@[simp] theorem State.setLane_cores (s : State) (n : Nat) (x : LaneS) : (s.setLane n x).cores = s.cores := rfl
@[simp] theorem State.setLane_link (s : State) (n : Nat) (x : LaneS) : (s.setLane n x).link = s.link := rfl
@[simp] theorem State.setLane_evt (s : State) (n : Nat) (x : LaneS) : (s.setLane n x).evt = s.evt := rfl
@[simp] theorem State.setLane_twn (s : State) (n : Nat) (x : LaneS) : (s.setLane n x).twn = s.twn := rfl
@[simp] theorem State.setLane_tb (s : State) (n : Nat) (x : LaneS) : (s.setLane n x).tb = s.tb := rfl
@[simp] theorem State.setLane_clk (s : State) (n : Nat) (x : LaneS) : (s.setLane n x).clk = s.clk := rfl
@[simp] theorem State.setLane_host (s : State) (n : Nat) (x : LaneS) : (s.setLane n x).host = s.host := rfl
@[simp] theorem State.setLane_net (s : State) (n : Nat) (x : LaneS) : (s.setLane n x).net = s.net := rfl
@[simp] theorem State.setLane_str (s : State) (n : Nat) (x : LaneS) : (s.setLane n x).str = s.str := rfl
@[simp] theorem State.setLane_loc (s : State) (n : Nat) (x : LaneS) : (s.setLane n x).loc = s.loc := rfl
@[simp] theorem State.setLane_amp (s : State) (n : Nat) (x : LaneS) : (s.setLane n x).amp = s.amp := rfl
@[simp] theorem State.setLane_sup (s : State) (n : Nat) (x : LaneS) : (s.setLane n x).sup = s.sup := rfl
@[simp] theorem State.setLane_boot (s : State) (n : Nat) (x : LaneS) : (s.setLane n x).boot = s.boot := rfl
@[simp] theorem State.setLane_swt (s : State) (n : Nat) (x : LaneS) : (s.setLane n x).swt = s.swt := rfl

@[simp] theorem State.setAmp_pending (s : State) (a : AmpS) : (s.setAmp a).pending = s.pending := rfl
@[simp] theorem State.setAmp_regs (s : State) (a : AmpS) : (s.setAmp a).regs = s.regs := rfl
@[simp] theorem State.setAmp_live (s : State) (a : AmpS) : (s.setAmp a).live = s.live := rfl
@[simp] theorem State.setAmp_outbox (s : State) (a : AmpS) : (s.setAmp a).outbox = s.outbox := rfl
@[simp] theorem State.setAmp_free (s : State) (a : AmpS) : (s.setAmp a).free = s.free := rfl
@[simp] theorem State.setAmp_row (s : State) (a : AmpS) : (s.setAmp a).row = s.row := rfl
@[simp] theorem State.setAmp_fab (s : State) (a : AmpS) : (s.setAmp a).fab = s.fab := rfl
@[simp] theorem State.setAmp_cores (s : State) (a : AmpS) : (s.setAmp a).cores = s.cores := rfl
@[simp] theorem State.setAmp_link (s : State) (a : AmpS) : (s.setAmp a).link = s.link := rfl
@[simp] theorem State.setAmp_evt (s : State) (a : AmpS) : (s.setAmp a).evt = s.evt := rfl
@[simp] theorem State.setAmp_twn (s : State) (a : AmpS) : (s.setAmp a).twn = s.twn := rfl
@[simp] theorem State.setAmp_tb (s : State) (a : AmpS) : (s.setAmp a).tb = s.tb := rfl
@[simp] theorem State.setAmp_clk (s : State) (a : AmpS) : (s.setAmp a).clk = s.clk := rfl
@[simp] theorem State.setAmp_host (s : State) (a : AmpS) : (s.setAmp a).host = s.host := rfl
@[simp] theorem State.setAmp_net (s : State) (a : AmpS) : (s.setAmp a).net = s.net := rfl
@[simp] theorem State.setAmp_str (s : State) (a : AmpS) : (s.setAmp a).str = s.str := rfl
@[simp] theorem State.setAmp_lane (s : State) (a : AmpS) : (s.setAmp a).lane = s.lane := rfl
@[simp] theorem State.setAmp_loc (s : State) (a : AmpS) : (s.setAmp a).loc = s.loc := rfl
@[simp] theorem State.setAmp_sup (s : State) (a : AmpS) : (s.setAmp a).sup = s.sup := rfl
@[simp] theorem State.setAmp_boot (s : State) (a : AmpS) : (s.setAmp a).boot = s.boot := rfl
@[simp] theorem State.setAmp_swt (s : State) (a : AmpS) : (s.setAmp a).swt = s.swt := rfl

@[simp] theorem State.setAmpCh_pending (s : State) (c : Nat) (x : AmpCh) : (s.setAmpCh c x).pending = s.pending := rfl
@[simp] theorem State.setAmpCh_regs (s : State) (c : Nat) (x : AmpCh) : (s.setAmpCh c x).regs = s.regs := rfl
@[simp] theorem State.setAmpCh_live (s : State) (c : Nat) (x : AmpCh) : (s.setAmpCh c x).live = s.live := rfl
@[simp] theorem State.setAmpCh_outbox (s : State) (c : Nat) (x : AmpCh) : (s.setAmpCh c x).outbox = s.outbox := rfl
@[simp] theorem State.setAmpCh_free (s : State) (c : Nat) (x : AmpCh) : (s.setAmpCh c x).free = s.free := rfl
@[simp] theorem State.setAmpCh_row (s : State) (c : Nat) (x : AmpCh) : (s.setAmpCh c x).row = s.row := rfl
@[simp] theorem State.setAmpCh_fab (s : State) (c : Nat) (x : AmpCh) : (s.setAmpCh c x).fab = s.fab := rfl
@[simp] theorem State.setAmpCh_cores (s : State) (c : Nat) (x : AmpCh) : (s.setAmpCh c x).cores = s.cores := rfl
@[simp] theorem State.setAmpCh_link (s : State) (c : Nat) (x : AmpCh) : (s.setAmpCh c x).link = s.link := rfl
@[simp] theorem State.setAmpCh_evt (s : State) (c : Nat) (x : AmpCh) : (s.setAmpCh c x).evt = s.evt := rfl
@[simp] theorem State.setAmpCh_twn (s : State) (c : Nat) (x : AmpCh) : (s.setAmpCh c x).twn = s.twn := rfl
@[simp] theorem State.setAmpCh_tb (s : State) (c : Nat) (x : AmpCh) : (s.setAmpCh c x).tb = s.tb := rfl
@[simp] theorem State.setAmpCh_clk (s : State) (c : Nat) (x : AmpCh) : (s.setAmpCh c x).clk = s.clk := rfl
@[simp] theorem State.setAmpCh_host (s : State) (c : Nat) (x : AmpCh) : (s.setAmpCh c x).host = s.host := rfl
@[simp] theorem State.setAmpCh_net (s : State) (c : Nat) (x : AmpCh) : (s.setAmpCh c x).net = s.net := rfl
@[simp] theorem State.setAmpCh_str (s : State) (c : Nat) (x : AmpCh) : (s.setAmpCh c x).str = s.str := rfl
@[simp] theorem State.setAmpCh_lane (s : State) (c : Nat) (x : AmpCh) : (s.setAmpCh c x).lane = s.lane := rfl
@[simp] theorem State.setAmpCh_loc (s : State) (c : Nat) (x : AmpCh) : (s.setAmpCh c x).loc = s.loc := rfl
@[simp] theorem State.setAmpCh_sup (s : State) (c : Nat) (x : AmpCh) : (s.setAmpCh c x).sup = s.sup := rfl
@[simp] theorem State.setAmpCh_boot (s : State) (c : Nat) (x : AmpCh) : (s.setAmpCh c x).boot = s.boot := rfl
@[simp] theorem State.setAmpCh_swt (s : State) (c : Nat) (x : AmpCh) : (s.setAmpCh c x).swt = s.swt := rfl

@[simp] theorem State.setClk_pending (s : State) (c : ClkS) : (s.setClk c).pending = s.pending := rfl
@[simp] theorem State.setClk_regs (s : State) (c : ClkS) : (s.setClk c).regs = s.regs := rfl
@[simp] theorem State.setClk_live (s : State) (c : ClkS) : (s.setClk c).live = s.live := rfl
@[simp] theorem State.setClk_outbox (s : State) (c : ClkS) : (s.setClk c).outbox = s.outbox := rfl
@[simp] theorem State.setClk_free (s : State) (c : ClkS) : (s.setClk c).free = s.free := rfl
@[simp] theorem State.setClk_row (s : State) (c : ClkS) : (s.setClk c).row = s.row := rfl
@[simp] theorem State.setClk_fab (s : State) (c : ClkS) : (s.setClk c).fab = s.fab := rfl
@[simp] theorem State.setClk_cores (s : State) (c : ClkS) : (s.setClk c).cores = s.cores := rfl
@[simp] theorem State.setClk_link (s : State) (c : ClkS) : (s.setClk c).link = s.link := rfl
@[simp] theorem State.setClk_evt (s : State) (c : ClkS) : (s.setClk c).evt = s.evt := rfl
@[simp] theorem State.setClk_twn (s : State) (c : ClkS) : (s.setClk c).twn = s.twn := rfl
@[simp] theorem State.setClk_tb (s : State) (c : ClkS) : (s.setClk c).tb = s.tb := rfl
@[simp] theorem State.setClk_host (s : State) (c : ClkS) : (s.setClk c).host = s.host := rfl
@[simp] theorem State.setClk_net (s : State) (c : ClkS) : (s.setClk c).net = s.net := rfl
@[simp] theorem State.setClk_str (s : State) (c : ClkS) : (s.setClk c).str = s.str := rfl
@[simp] theorem State.setClk_lane (s : State) (c : ClkS) : (s.setClk c).lane = s.lane := rfl
@[simp] theorem State.setClk_loc (s : State) (c : ClkS) : (s.setClk c).loc = s.loc := rfl
@[simp] theorem State.setClk_amp (s : State) (c : ClkS) : (s.setClk c).amp = s.amp := rfl
@[simp] theorem State.setClk_sup (s : State) (c : ClkS) : (s.setClk c).sup = s.sup := rfl
@[simp] theorem State.setClk_boot (s : State) (c : ClkS) : (s.setClk c).boot = s.boot := rfl
@[simp] theorem State.setClk_swt (s : State) (c : ClkS) : (s.setClk c).swt = s.swt := rfl

@[simp] theorem State.setRefIn_pending (s : State) (r : Nat) (x : RefIn) : (s.setRefIn r x).pending = s.pending := rfl
@[simp] theorem State.setRefIn_regs (s : State) (r : Nat) (x : RefIn) : (s.setRefIn r x).regs = s.regs := rfl
@[simp] theorem State.setRefIn_live (s : State) (r : Nat) (x : RefIn) : (s.setRefIn r x).live = s.live := rfl
@[simp] theorem State.setRefIn_outbox (s : State) (r : Nat) (x : RefIn) : (s.setRefIn r x).outbox = s.outbox := rfl
@[simp] theorem State.setRefIn_free (s : State) (r : Nat) (x : RefIn) : (s.setRefIn r x).free = s.free := rfl
@[simp] theorem State.setRefIn_row (s : State) (r : Nat) (x : RefIn) : (s.setRefIn r x).row = s.row := rfl
@[simp] theorem State.setRefIn_fab (s : State) (r : Nat) (x : RefIn) : (s.setRefIn r x).fab = s.fab := rfl
@[simp] theorem State.setRefIn_cores (s : State) (r : Nat) (x : RefIn) : (s.setRefIn r x).cores = s.cores := rfl
@[simp] theorem State.setRefIn_link (s : State) (r : Nat) (x : RefIn) : (s.setRefIn r x).link = s.link := rfl
@[simp] theorem State.setRefIn_evt (s : State) (r : Nat) (x : RefIn) : (s.setRefIn r x).evt = s.evt := rfl
@[simp] theorem State.setRefIn_twn (s : State) (r : Nat) (x : RefIn) : (s.setRefIn r x).twn = s.twn := rfl
@[simp] theorem State.setRefIn_tb (s : State) (r : Nat) (x : RefIn) : (s.setRefIn r x).tb = s.tb := rfl
@[simp] theorem State.setRefIn_host (s : State) (r : Nat) (x : RefIn) : (s.setRefIn r x).host = s.host := rfl
@[simp] theorem State.setRefIn_net (s : State) (r : Nat) (x : RefIn) : (s.setRefIn r x).net = s.net := rfl
@[simp] theorem State.setRefIn_str (s : State) (r : Nat) (x : RefIn) : (s.setRefIn r x).str = s.str := rfl
@[simp] theorem State.setRefIn_lane (s : State) (r : Nat) (x : RefIn) : (s.setRefIn r x).lane = s.lane := rfl
@[simp] theorem State.setRefIn_loc (s : State) (r : Nat) (x : RefIn) : (s.setRefIn r x).loc = s.loc := rfl
@[simp] theorem State.setRefIn_amp (s : State) (r : Nat) (x : RefIn) : (s.setRefIn r x).amp = s.amp := rfl
@[simp] theorem State.setRefIn_sup (s : State) (r : Nat) (x : RefIn) : (s.setRefIn r x).sup = s.sup := rfl
@[simp] theorem State.setRefIn_boot (s : State) (r : Nat) (x : RefIn) : (s.setRefIn r x).boot = s.boot := rfl
@[simp] theorem State.setRefIn_swt (s : State) (r : Nat) (x : RefIn) : (s.setRefIn r x).swt = s.swt := rfl

@[simp] theorem State.setGroup_pending (s : State) (g : Nat) (x : LocGroup) : (s.setGroup g x).pending = s.pending := rfl
@[simp] theorem State.setGroup_regs (s : State) (g : Nat) (x : LocGroup) : (s.setGroup g x).regs = s.regs := rfl
@[simp] theorem State.setGroup_live (s : State) (g : Nat) (x : LocGroup) : (s.setGroup g x).live = s.live := rfl
@[simp] theorem State.setGroup_outbox (s : State) (g : Nat) (x : LocGroup) : (s.setGroup g x).outbox = s.outbox := rfl
@[simp] theorem State.setGroup_free (s : State) (g : Nat) (x : LocGroup) : (s.setGroup g x).free = s.free := rfl
@[simp] theorem State.setGroup_row (s : State) (g : Nat) (x : LocGroup) : (s.setGroup g x).row = s.row := rfl
@[simp] theorem State.setGroup_fab (s : State) (g : Nat) (x : LocGroup) : (s.setGroup g x).fab = s.fab := rfl
@[simp] theorem State.setGroup_cores (s : State) (g : Nat) (x : LocGroup) : (s.setGroup g x).cores = s.cores := rfl
@[simp] theorem State.setGroup_link (s : State) (g : Nat) (x : LocGroup) : (s.setGroup g x).link = s.link := rfl
@[simp] theorem State.setGroup_evt (s : State) (g : Nat) (x : LocGroup) : (s.setGroup g x).evt = s.evt := rfl
@[simp] theorem State.setGroup_twn (s : State) (g : Nat) (x : LocGroup) : (s.setGroup g x).twn = s.twn := rfl
@[simp] theorem State.setGroup_tb (s : State) (g : Nat) (x : LocGroup) : (s.setGroup g x).tb = s.tb := rfl
@[simp] theorem State.setGroup_clk (s : State) (g : Nat) (x : LocGroup) : (s.setGroup g x).clk = s.clk := rfl
@[simp] theorem State.setGroup_host (s : State) (g : Nat) (x : LocGroup) : (s.setGroup g x).host = s.host := rfl
@[simp] theorem State.setGroup_net (s : State) (g : Nat) (x : LocGroup) : (s.setGroup g x).net = s.net := rfl
@[simp] theorem State.setGroup_str (s : State) (g : Nat) (x : LocGroup) : (s.setGroup g x).str = s.str := rfl
@[simp] theorem State.setGroup_lane (s : State) (g : Nat) (x : LocGroup) : (s.setGroup g x).lane = s.lane := rfl
@[simp] theorem State.setGroup_amp (s : State) (g : Nat) (x : LocGroup) : (s.setGroup g x).amp = s.amp := rfl
@[simp] theorem State.setGroup_sup (s : State) (g : Nat) (x : LocGroup) : (s.setGroup g x).sup = s.sup := rfl
@[simp] theorem State.setGroup_boot (s : State) (g : Nat) (x : LocGroup) : (s.setGroup g x).boot = s.boot := rfl
@[simp] theorem State.setGroup_swt (s : State) (g : Nat) (x : LocGroup) : (s.setGroup g x).swt = s.swt := rfl

/-- Reading a register after writing one. -/
theorem State.reg_setReg (s : State) (a b : Nat) (w : Word) :
    (s.setReg a w).reg b = if b = a then w else s.reg b := Table.get_set resetWord s.regs a b w

@[simp] theorem State.reg_setReg_same (s : State) (a : Nat) (w : Word) : (s.setReg a w).reg a = w := by
  simp [State.reg_setReg]

theorem State.reg_setReg_other (s : State) (a b : Nat) (w : Word) (h : b ≠ a) : (s.setReg a w).reg b = s.reg b := by
  simp [State.reg_setReg, h]

/-- Reading a live count after writing one. -/
theorem State.liveAt_setLive (s : State) (a b n : Nat) :
    (s.setLive a n).liveAt b = if b = a then n else s.liveAt b := Table.get_set (fun _ => 0) s.live a b n

/-- Reading a core after writing one. -/
theorem State.core_setCore (s : State) (c d : Nat) (k : Core) :
    (s.setCore c k).core d = if d = c then k else s.core d := Table.get_set (fun _ => coreReset) s.cores c d k

@[simp] theorem State.core_setCore_same (s : State) (c : Nat) (k : Core) : (s.setCore c k).core c = k := by
  simp [State.core_setCore]

theorem State.core_setCore_other (s : State) (c d : Nat) (k : Core) (h : d ≠ c) : (s.setCore c k).core d = s.core d := by
  simp [State.core_setCore, h]

@[simp] theorem State.core_setReg (s : State) (a c : Nat) (w : Word) : (s.setReg a w).core c = s.core c := rfl
@[simp] theorem State.reg_setCore (s : State) (a c : Nat) (k : Core) : (s.setCore c k).reg a = s.reg a := rfl
@[simp] theorem State.reg_setLive (s : State) (a b n : Nat) : (s.setLive b n).reg a = s.reg a := rfl
@[simp] theorem State.reg_send (s : State) (a : Nat) (o : Output) : (s.send o).reg a = s.reg a := rfl
@[simp] theorem State.reg_setEvtSrc (s : State) (a n : Nat) (e : EvtSrc) : (s.setEvtSrc n e).reg a = s.reg a := rfl
@[simp] theorem State.core_send (s : State) (c : Nat) (o : Output) : (s.send o).core c = s.core c := rfl
@[simp] theorem State.core_setLive (s : State) (c b n : Nat) : (s.setLive b n).core c = s.core c := rfl
@[simp] theorem State.core_setEvtSrc (s : State) (c n : Nat) (e : EvtSrc) : (s.setEvtSrc n e).core c = s.core c := rfl

/-- The last of two writes of one key stands. -/
theorem Table.insert_insert {α : Type} (m : Table α) (k : Nat) (v w : α) :
    Table.insert k w (Table.insert k v m) = Table.insert k w m := by
  induction m with
  | nil => simp [Table.insert]
  | cons p t ih =>
    obtain ⟨a, x⟩ := p
    simp only [Table.insert]
    by_cases h1 : k < a
    · simp [h1, Table.insert]
    · by_cases h2 : k = a
      · simp [h2, Table.insert]
      · simp [h1, h2, Table.insert, ih]

end Sys2Proof.Machine
end

