-- ==== Sys2Proof/Laws/Engine.lean ====
section
/-! SUPPORT. What `State.issue` does, said once: a core that does not run is unchanged, a legal instruction does its work and
the core goes on, and an illegal one faults. -/

namespace Sys2Proof.Machine

/-- A core that issues nothing is unchanged. -/
theorem State.issue_idle (s : State) (c : Nat) (ctl i0 i1 l : Bool) (body : State → Issued)
    (h : ¬ ((s.core c).state = .row ∨ (s.core c).state = .handler) ∨ (s.core c).xwait ≠ 0) :
    s.issue c ctl i0 i1 l body = s := by
  unfold State.issue
  rcases h with h | h
  · have h1 : (s.core c).state ≠ .row := fun e => h (.inl e)
    have h2 : (s.core c).state ≠ .handler := fun e => h (.inr e)
    simp [h1, h2]
  · have h' : ((s.core c).xwait != 0) = true := by simpa using h
    simp only [h', Bool.or_true, if_true]

/-- Where the fields, the bank and the place are legal, the instruction's work decides. -/
theorem State.issue_runs (s : State) (c : Nat) (ctl i0 i1 l : Bool) (body : State → Issued) (h : s.runs c)
    (hl : l = true) (hb : (if (s.core c).inBank1 then i1 else i0) = true)
    (hc : ctl = true → s.mayTransfer c) :
    s.issue c ctl i0 i1 l body =
      match body s with
      | .fault s1 cause addr => s1.coreFault c cause addr (s.core c).bank.pc (s.core c).inBank1
      | .done s1 flow stall => s1.afterIssue c (s.core c).inBank1 flow stall := by
  obtain ⟨h1, h2, h3⟩ := h
  unfold State.issue
  have n1 : ¬ (((s.core c).state != .row && (s.core c).state != .handler) || (s.core c).xwait != 0) = true := by
    rcases h1 with h1 | h1 <;> simp [h1, h2]
  have n2 : ¬ (ctl = true ∧ (0 < (s.core c).slots ∨ loopEndNear (s.core c).bank = true)) := by
    rintro ⟨hct, hx⟩
    obtain ⟨m1, m2⟩ := hc hct
    rcases hx with hx | hx
    · omega
    · simp [m2] at hx
  refine (if_neg n1).trans ((if_neg ?_).trans rfl)
  rintro (hx | hx | hx | hx)
  · omega
  · simp [hl] at hx
  · simp [hb] at hx
  · exact n2 hx

/-- An instruction that works within its core. -/
theorem State.issueCore_runs (s : State) (c : Nat) (f : Core → Core) (h : s.runs c) :
    s.issueCore c true f = (s.modCore c f).afterIssue c (s.core c).inBank1 .seq 0 := by
  unfold State.issueCore
  rw [State.issue_runs s c _ _ _ _ _ h rfl (by split <;> rfl) (by simp)]

/-- An instruction of the plain kind. -/
theorem State.issuePlain_runs (s : State) (c : Nat) (f : State → State) (h : s.runs c) :
    s.issuePlain c true f = (f s).afterIssue c (s.core c).inBank1 .seq 0 := by
  unfold State.issuePlain
  rw [State.issue_runs s c _ _ _ _ _ h rfl (by split <;> rfl) (by simp)]

end Sys2Proof.Machine
end

