-- ==== Sys2Proof/Laws/Lane.lean ====
section
/-! SUPPORT. What a lane's mode leaves alone: the boot state. The chain of small laws that the reset causes survive a change of a
twin lane's mode. -/

namespace Sys2Proof.Machine

theorem State.raise_boot (t : State) (n i : Nat) : (t.raise n i).boot = t.boot := by
  unfold State.raise
  simp only [State.send_boot, State.setEvtSrc_boot, State.setReg_boot]
  exact State.setReg_boot _ _ _

theorem State.flag_boot (s : State) (f : Fd) (b : Bool) : (s.flag f b).boot = s.boot := rfl

theorem State.put_boot (s : State) (f : Fd) (b : Nat) : (s.put f b).boot = s.boot := rfl

theorem State.modLane_boot (s : State) (n : Nat) (k : LaneS → LaneS) : (s.modLane n k).boot = s.boot := rfl

theorem State.setTwn_boot (s : State) (t : TwnS) : (s.setTwn t).boot = s.boot := rfl

theorem State.countBy_boot (s : State) (c : Ctr) (k : Nat) : (s.countBy c k).boot = s.boot := by
  show (if k = 0 then s else if _ then State.level (State.flag _ _ _) _ _ _ else State.setLive _ _ _).boot = _
  split
  · rfl
  · split
    · show (if _ then _ else State.raise _ _ _).boot = _
      split
      · rfl
      · exact State.raise_boot _ _ _
    · rfl

theorem State.setTwin_boot (s : State) (st : Nat) : (s.setTwin st).boot = s.boot := by
  unfold State.setTwin
  split
  · rfl
  · show (State.raise _ _ _).boot = _
    rw [State.raise_boot]
    split
    · rw [State.flag_boot]
      exact State.put_boot _ _ _
    · exact State.put_boot _ _ _

theorem State.rejectBusy_boot (s : State) : s.rejectBusy.boot = s.boot := by
  have h (l : List Nat) (s : State) :
      (l.foldl (fun (s : State) i => if s.evt.twbusy.getLsbD i then s.rejectTwsend i else s) s).boot = s.boot := by
    induction l generalizing s with
    | nil => rfl
    | cons a l ih =>
      refine (ih _).trans ?_
      show (if _ then State.raise (State.countBy _ _ _) _ _ else s).boot = _
      split
      · rw [State.raise_boot, State.countBy_boot]
      · rfl
  exact h _ _

theorem State.twinDown_boot (s : State) : s.twinDown.boot = s.boot := by
  show (if _ then State.setTwin _ _ else State.rejectBusy _).boot = _
  split
  · rw [State.setTwin_boot, State.rejectBusy_boot]
    exact State.setTwn_boot _ _
  · rw [State.rejectBusy_boot]
    exact State.setTwn_boot _ _

theorem State.showTwinLink_boot (s : State) : s.showTwinLink.boot = s.boot := by
  show (if _ then s else if _ then State.setTwn _ _ else State.twinDown _).boot = _
  split
  · rfl
  · split
    · exact State.setTwn_boot _ _
    · rw [State.twinDown_boot, State.flag_boot]

theorem State.putEq_boot (s : State) (n k : Nat) (e : EqTaps) : (s.putEq n k e).boot = s.boot := by
  have h (l : List Nat) (g : Nat → Fd) (v : Nat → Int) (s : State) :
      (l.foldl (fun (s : State) i => s.putS (g i) (v i)) s).boot = s.boot := by
    induction l generalizing s with
    | nil => rfl
    | cons a l ih => exact (ih _).trans rfl
  unfold State.putEq
  rw [h, State.put_boot, State.put_boot]

theorem State.abortEye_boot (s : State) (n : Nat) : (s.abortEye n).boot = s.boot := by
  unfold State.abortEye
  split
  · rw [State.flag_boot, State.flag_boot, State.modLane_boot]
  · rfl

theorem State.laneDown_twin_boot (s : State) : (s.laneDown 4).boot = s.boot := by
  unfold State.laneDown
  rw [if_neg (by decide), State.showTwinLink_boot, State.flag_boot]

theorem State.applyEq_boot (s : State) (n : Nat) (e : EqTaps) : (s.applyEq n e).boot = s.boot := by
  unfold State.applyEq
  rw [State.putEq_boot]

theorem State.clearLoop_boot (s : State) (n : Nat) : (s.clearLoop n).boot = s.boot := by
  unfold State.clearLoop
  rw [State.modLane_boot, State.put_boot, State.put_boot]

theorem State.ite_boot {c : Prop} [Decidable c] {a b : State} {x : BootS} (ha : a.boot = x) (hb : b.boot = x) :
    (if c then a else b).boot = x := by split <;> assumption

theorem State.setLaneState_twin_boot (s : State) (st : Nat) : (s.setLaneState 4 st).boot = s.boot := by
  unfold State.setLaneState
  rw [if_neg (by decide)]
  simp only [Nat.lt_irrefl, decide_false, Bool.false_and, Bool.false_eq_true, if_false, State.put_boot]

theorem State.freeze_boot (s : State) (n : Nat) (e : EqTaps) : (s.freeze n e).boot = s.boot := by
  unfold State.freeze
  refine State.ite_boot rfl ?_
  dsimp only
  rw [State.modLane_boot, State.putEq_boot]
  exact State.ite_boot (by rw [State.flag_boot, State.putEq_boot]) rfl

theorem State.twinIdle_boot (s : State) (n : Nat) : (s.twinIdle n).boot = s.boot := by
  unfold State.twinIdle
  exact State.ite_boot rfl (by rw [State.flag_boot, State.modLane_boot, State.freeze_boot])

theorem State.acquire_twin_boot (s : State) : (s.acquire 4).boot = s.boot := by
  simp only [State.acquire, State.setLaneState_twin_boot, State.laneDown_twin_boot, State.applyEq_boot, State.modLane_boot,
    State.flag_boot, State.abortEye_boot]

theorem State.setMode_twin_boot (s : State) (m : Nat) : (s.setMode 4 m).boot = s.boot := by
  have g : (if s.laneState 4 = 6 then s.clearLoop 4 else s).boot = s.boot := State.ite_boot (State.clearLoop_boot _ _) rfl
  unfold State.setMode
  generalize (if s.laneState 4 = 6 then s.clearLoop 4 else s) = t at g
  rw [← g]
  dsimp only
  refine State.ite_boot ?_ ?_
  · rw [State.setLaneState_twin_boot, State.flag_boot, State.put_boot, State.twinIdle_boot, State.laneDown_twin_boot,
      State.abortEye_boot]
  · rw [State.putEq_boot, State.acquire_twin_boot, State.modLane_boot, State.put_boot]

end Sys2Proof.Machine
end

