-- ==== Sys2Proof/Laws/Memory.lean ====
section
/-! SUPPORT. The memories keep their canonical form: under every write, under the removal of a range, and at reset. -/

namespace Sys2Proof.Machine

theorem memSetByte_wf (m : Table Byte) (a : Nat) (b : Byte) (h : Memory.wf m = true) : Memory.wf (memSetByte m a b) = true :=
  Table.wf_set memDefault m a b h

theorem memSetBytes_wf (b : List Byte) : ∀ (m : Table Byte) (a : Nat), Memory.wf m = true →
    Memory.wf (memSetBytes m a b) = true := by
  induction b with
  | nil => intro m a h; exact h
  | cons x t ih => intro m a h; exact ih _ _ (memSetByte_wf m a x h)

theorem memSetWord_wf (m : Table Byte) (a : Nat) (w : Word) (h : Memory.wf m = true) : Memory.wf (memSetWord m a w) = true :=
  memSetBytes_wf _ m a h

variable {α : Type} [DecidableEq α]

/-- A lower bound may be weakened. -/
theorem Table.wfFrom_weaken (d : Nat → α) (m : Table α) (b c : Option Nat)
    (hbc : ∀ y, c = some y → ∃ x, b = some x ∧ y ≤ x) (h : Table.wfFrom d b m = true) : Table.wfFrom d c m = true := by
  cases m with
  | nil => rfl
  | cons p t =>
    obtain ⟨a, v⟩ := p
    simp only [Table.wfFrom, Bool.and_eq_true, decide_eq_true_eq] at h ⊢
    refine ⟨⟨?_, h.1.2⟩, h.2⟩
    cases c with
    | none => rfl
    | some y =>
      obtain ⟨x, hx, hxy⟩ := hbc y rfl
      subst hx
      have := h.1.1
      simp only [decide_eq_true_eq] at this ⊢
      omega

theorem Table.wfFrom_filter (d : Nat → α) (p : Nat × α → Bool) (m : Table α) :
    ∀ b, Table.wfFrom d b m = true → Table.wfFrom d b (m.filter p) = true := by
  induction m with
  | nil => intro b h; exact h
  | cons q t ih =>
    obtain ⟨a, v⟩ := q
    intro b h
    simp only [Table.wfFrom, Bool.and_eq_true, decide_eq_true_eq] at h
    obtain ⟨⟨h1, h2⟩, h3⟩ := h
    have hb : ∀ y, b = some y → ∃ x, (some a : Option Nat) = some x ∧ y ≤ x := by
      intro y hy; subst hy
      simp only [decide_eq_true_eq] at h1
      exact ⟨a, rfl, by omega⟩
    cases hp : p (a, v) with
    | false =>
      simp only [List.filter, hp]
      exact Table.wfFrom_weaken d _ (some a) b hb (ih (some a) h3)
    | true =>
      simp only [List.filter, hp, Table.wfFrom, Bool.and_eq_true, decide_eq_true_eq]
      exact ⟨⟨h1, h2⟩, ih (some a) h3⟩

/-- The removal of entries keeps the canonical form. -/
theorem Table.wf_filter (d : Nat → α) (p : Nat × α → Bool) (m : Table α) (h : Table.wf d m = true) :
    Table.wf d (m.filter p) = true := Table.wfFrom_filter d p m none h

theorem Table.wfFrom_remap (d : Nat → α) (f : α → α) (m : Table α) :
    ∀ b, Table.wfFrom d b m = true → Table.wfFrom d b (Table.remap d f m) = true := by
  induction m with
  | nil => intro b h; exact h
  | cons q t ih =>
    obtain ⟨a, v⟩ := q
    intro b h
    simp only [Table.wfFrom, Bool.and_eq_true, decide_eq_true_eq] at h
    obtain ⟨⟨h1, h2⟩, h3⟩ := h
    have hb : ∀ y, b = some y → ∃ x, (some a : Option Nat) = some x ∧ y ≤ x := by
      intro y hy; subst hy
      simp only [decide_eq_true_eq] at h1
      exact ⟨a, rfl, by omega⟩
    simp only [Table.remap]
    split
    · exact Table.wfFrom_weaken d _ (some a) b hb (ih (some a) h3)
    · rename_i hv
      simp only [Table.wfFrom, Bool.and_eq_true, decide_eq_true_eq]
      exact ⟨⟨h1, hv⟩, ih (some a) h3⟩

/-- Changing every value keeps the canonical form. -/
theorem Table.wf_remap (d : Nat → α) (f : α → α) (m : Table α) (h : Table.wf d m = true) :
    Table.wf d (Table.remap d f m) = true := Table.wfFrom_remap d f m none h

/-- Shared memory keeps its form under a write of bytes. -/
theorem State.setShared_wf (s : State) (a : Nat) (b : List Byte) (h : Memory.wf s.fab.shared = true) :
    Memory.wf (s.setShared (memSetBytes s.fab.shared a b)).fab.shared = true := memSetBytes_wf b _ a h

/-- Every memory is canonical at reset. -/
theorem reset_shared_wf : Memory.wf State.reset.fab.shared = true := rfl

theorem reset_ram_wf (c : Nat) : Memory.wf (State.reset.core c).ram = true := rfl

end Sys2Proof.Machine
end

