-- ==== Sys2Proof/Laws/Ops.lean ====
section
/-! SUPPORT. What the shared operations do: fields of registers, sources of events, counters, outputs. -/

namespace Sys2Proof.Machine

/-! ### Fields -/

/-- A field just written reads as its value, cut to its width. -/
theorem bitsOf_withBits (w : Word) (m l v : Nat) (h : l ≤ m) (hm : m ≤ 31) :
    bitsOf (withBits w m l v) m l = v % 2 ^ (m + 1 - l) := by
  unfold bitsOf withBits
  have e : (2:Nat) ^ (m + 1) = 2 ^ l * 2 ^ (m + 1 - l) := by rw [← Nat.pow_add]; congr 1; omega
  have h32 : (2:Nat) ^ 32 = 2 ^ l * 2 ^ (m + 1 - l) * 2 ^ (31 - m) := by
    rw [← e, ← Nat.pow_add]; congr 1; omega
  rw [BitVec.toNat_ofNat]
  have hl : 0 < 2 ^ l := Nat.two_pow_pos l
  have hb : 0 < 2 ^ (m + 1 - l) := Nat.two_pow_pos _
  have hr : w.toNat % 2 ^ l < 2 ^ l := Nat.mod_lt _ hl
  have hv : v % 2 ^ (m + 1 - l) < 2 ^ (m + 1 - l) := Nat.mod_lt _ hb
  have sum : w.toNat % 2 ^ l + v % 2 ^ (m + 1 - l) * 2 ^ l + w.toNat / 2 ^ (m + 1) * 2 ^ (m + 1)
      = w.toNat % 2 ^ l + 2 ^ l * (v % 2 ^ (m + 1 - l) + 2 ^ (m + 1 - l) * (w.toNat / 2 ^ (m + 1))) := by
    rw [e]; ring
  rw [sum, h32, Nat.mul_assoc (2 ^ l) _ (2 ^ (31 - m)), Nat.mod_mul]
  rw [Nat.add_mul_mod_self_left, Nat.mod_eq_of_lt hr, Nat.add_mul_div_left _ _ hl, Nat.div_eq_of_lt hr, Nat.zero_add,
    Nat.add_mul_div_left _ _ hl, Nat.div_eq_of_lt hr, Nat.zero_add, Nat.mod_mul_right_mod, Nat.add_mul_mod_self_left,
    Nat.mod_eq_of_lt hv]

theorem State.get_put_same (s : State) (f : Fd) (v : Nat) (h : f.lsb ≤ f.msb) (hm : f.msb ≤ 31) :
    (s.put f v).get f = v % 2 ^ (f.msb + 1 - f.lsb) := by
  simp only [State.get, State.put, State.reg, State.setReg, Table.get_set_same]
  exact bitsOf_withBits _ _ _ _ h hm

/-- A field of another register keeps its value. -/
theorem State.get_put_other (s : State) (f g : Fd) (v : Nat) (h : g.addr ≠ f.addr) : (s.put f v).get g = s.get g := by
  simp only [State.get, State.put, State.reg, State.setReg, Table.get_set_other _ _ _ _ _ h]

/-- A one-bit field just set or cleared. -/
theorem State.on_flag_same (s : State) (f : Fd) (b : Bool) (h : f.lsb = f.msb) (hm : f.msb ≤ 31) :
    (s.flag f b).on f = b := by
  unfold State.on State.flag
  rw [State.get_put_same _ _ _ (by omega) hm, h]
  cases b <;> simp

/-! ### Events -/

/-- All that an occurrence of a source changes: registers, delivery state and what goes out (R482, R492). -/
theorem State.raise_frame (s : State) (n i : Nat) :
    ∃ r e o, s.raise n i = { s with regs := r, evt := e, outbox := o } := by
  unfold State.raise
  simp only [State.flag, State.put, State.setReg, State.setEvtSrc, State.send]
  split <;> exact ⟨_, _, _, rfl⟩

theorem State.invalid_frame (s : State) (a : Nat) :
    ∃ r e o, s.invalid a = { s with regs := r, evt := e, outbox := o } := s.raise_frame _ _

theorem State.level_frame (s : State) (n : Nat) (b : Bool) (i : Nat) :
    ∃ r e o, s.level n b i = { s with regs := r, evt := e, outbox := o } := by
  unfold State.level
  split
  · split
    · exact ⟨_, _, _, rfl⟩
    · exact s.raise_frame n i
  · exact ⟨_, _, _, rfl⟩

/-! ### Counters -/

/-- All that counting changes: the live counts, and by saturation registers, delivery state and what goes out (R14). -/
theorem State.countBy_frame (s : State) (c : Ctr) (k : Nat) :
    ∃ r l e o, s.countBy c k = { s with regs := r, live := l, evt := e, outbox := o } := by
  unfold State.countBy
  simp only
  split
  · exact ⟨_, _, _, _, rfl⟩
  · split
    · obtain ⟨r, e, o, h⟩ := ((s.setLive c.addr (2 ^ 32 - 1)).flag c.sat true).level_frame (32 * groupOf c.sat.addr) true
        (c.sat.addr % 0x1000000)
      exact ⟨r, _, e, o, h⟩
    · exact ⟨_, _, _, _, rfl⟩

/-- A count below saturation advances by its step. -/
theorem State.liveAt_countBy (s : State) (c : Ctr) (k : Nat) (h : s.liveAt c.addr + k < 2 ^ 32 - 1) :
    (s.countBy c k).liveAt c.addr = s.liveAt c.addr + k := by
  unfold State.countBy
  simp only
  split
  · rename_i hk; rw [hk, Nat.add_zero]
  · rw [if_neg (by omega)]
    simp [State.liveAt, State.setLive]

/-- A capture changes registers only (R14). -/
theorem State.capture32_frame (l : List Nat) : ∀ s : State, ∃ r, s.capture32 l = { s with regs := r } := by
  induction l with
  | nil => intro s; exact ⟨_, rfl⟩
  | cons a t ih =>
    intro s
    obtain ⟨r, h⟩ := ih (s.setReg a (BitVec.ofNat 32 (s.liveAt a)))
    exact ⟨r, h⟩

/-! ### Idle -/

/-- With nothing waiting, a step counts the clock (log entry 7). -/
theorem step_empty (s : State) (h : s.pending = []) : step s = .next s.countOnce := by
  unfold step; rw [h]

end Sys2Proof.Machine
end

