-- ==== Sys2Proof/Laws/Sched.lean ====
section
/-! SUPPORT. What a timed command does with the record at the front of the queue (R141, R142). -/

namespace Sys2Proof.Machine

/-- The first element that satisfies `p`, where that is the head. -/
@[simp] theorem takeFirst_head {α : Type} {p : α → Bool} {a : α} (q : List α) (h : p a = true) :
    takeFirst p (a :: q) = some (a, q) := by simp [takeFirst, h]

/-- Nothing is taken where nothing satisfies `p`. -/
theorem takeFirst_none {α : Type} {p : α → Bool} (q : List α) (h : ∀ a ∈ q, p a = false) : takeFirst p q = none := by
  induction q with
  | nil => rfl
  | cons a q ih => simp_all [takeFirst]

/-- Outside the start-up sequence a record takes effect by its command's function alone. -/
@[simp] theorem State.applyBy_plain {s : State} {r : TpRec} (f : State → TpRec → State) (h : s.boot.seqTick = false) :
    s.applyBy r f = f s r := by simp [State.applyBy, h]

/-- The record at the front takes effect if it is of the command's kind. -/
theorem State.applyFirst_front {s : State} {r : TpRec} {q : List TpRec} (h : s.front r q) {p : TpRec → Bool} (hp : p r = true)
    (f : State → TpRec → State) : s.applyFirst p f = f (s.withQueue q) r := by
  obtain ⟨hq, hd, hs⟩ := h
  have hx : takeFirst (fun r => s.tpDue r && p r) (r :: q) = some (r, q) := takeFirst_head q (by simp only [hd, hp, Bool.and_self])
  have ht : s.tpTake p = some (r, s.withQueue q) := by
    simp only [State.tpTake, hq, hx, Option.map_some, State.withQueue]
  simp only [State.applyFirst, ht]
  exact State.applyBy_plain f hs

/-- With no due record of its kind a timed command changes nothing (log entry 6). -/
theorem State.applyFirst_none {s : State} {p : TpRec → Bool} (h : ∀ r ∈ s.row.tpq, (s.tpDue r && p r) = false)
    (f : State → TpRec → State) : s.applyFirst p f = s := by
  simp [State.applyFirst, State.tpTake, takeFirst_none s.row.tpq h]

end Sys2Proof.Machine
end

