-- ==== Sys2Proof/Tests/Slice0.lean ====
section
/-! SUPPORT. Tests: the well-formedness checks, engine words spelled from the encoding tables, single steps with values
worked by hand, and for every statement a witness that its premises can be met. -/

namespace Sys2Proof.Tests

open Sys2Proof Sys2Proof.Machine

/-! ### Well-formedness: each check refuses a term -/

theorem test_wf_mac_lane : (Instr.mac 0 0 1 2 false 3 false).wf = false ∧ (Instr.mac 0 0 1 2 true 3 false).wf = true := by decide
theorem test_wf_msu_lane : (Instr.msu 0 0 1 2 false 7 false).wf = false ∧ (Instr.msu 0 0 1 2 false 0 true).wf = true := by decide
theorem test_wf_tap_pointers : (Instr.tap 0 0 4 4 false true false false false).wf = false ∧
    (Instr.tap 0 0 4 5 false true false false false).wf = true := by decide
theorem test_wf_ext_scale : (Instr.ext 0 0 0 9 false).wf = false ∧ (Instr.ext 0 0 0 8 false).wf = true := by decide
theorem test_wf_setr_class : (Instr.setr 0 5 0 false false 0).wf = false ∧ (Instr.setr 0 4 7 false false 0).wf = true := by decide
theorem test_wf_setr_number : (Instr.setr 0 0 16 false false 0).wf = false ∧ (Instr.setr 0 4 8 false false 0).wf = false := by decide
theorem test_wf_setr_halves : (Instr.setr 0 0 0 true true 0).wf = false ∧ (Instr.setr 0 0 0 true false 0).wf = true := by decide
theorem test_wf_movr : (Instr.movr 0 5 1 0 2).wf = false ∧ (Instr.movr 0 6 8 6 0).wf = false ∧ (Instr.movr 0 7 0 7 0).wf = false ∧
    (Instr.movr 0 5 31 5 0).wf = true := by decide
theorem test_wf_xmov : (Instr.xmov 0 true 6 1 0 2).wf = false ∧ (Instr.xmov 0 true 3 15 4 7).wf = true := by decide
theorem test_wf_lds : (Instr.lds 0 0 0 3 0).wf = false ∧ (Instr.lds 0 0 0 2 8).wf = false ∧ (Instr.lds 0 0 0 2 7).wf = true := by decide
theorem test_wf_ldv : (Instr.ldv 0 0 0 3 0).wf = false ∧ (Instr.ldv 0 0 0 1 0x7FFF).wf = true := by decide
theorem test_wf_sts : (Instr.sts 0 0 0 3 1).wf = false ∧ (Instr.sts 0 0 0 0 1).wf = true := by decide
theorem test_wf_stv : (Instr.stv 0 0 0 2 9).wf = false ∧ (Instr.stv 0 0 0 0 9).wf = true := by decide
theorem test_wf_loop : (Instr.loop 0 false true 0 16).wf = false ∧ (Instr.loop 0 false true 0 15).wf = true ∧
    (Instr.loop 0 false false 0 16383).wf = true := by decide

/-! ### Engine words, spelled field by field from the encoding tables of R89 to R117 -/

theorem test_word_b : decodeEngine 5 0xC3800020#32 = some (.b 5 14 0x20) := by decide
theorem test_word_rdc : decodeEngine 5 0xD8400009#32 = some (.rdc 5 1 9) := by decide
theorem test_word_setr : decodeEngine 5 0x7484E000#32 = some (.setr 5 1 1 false false 0xE000) := by decide
theorem test_word_ldv : decodeEngine 5 0x84020000#32 = some (.ldv 5 0 1 0 0) := by decide
theorem test_word_andi : decodeEngine 5 0x684400FF#32 = some (.andi 5 1 1 false 0xFF) := by decide
theorem test_word_shl : decodeEngine 5 0x60448A00#32 = some (.shl 5 1 1 2 false) := by decide
theorem test_word_loop : decodeEngine 5 0xD40000FF#32 = some (.loop 5 false false 0 255) := by decide
theorem test_word_ext : decodeEngine 5 0x2C200000#32 = some (.ext 5 1 0 0 false) := by decide
theorem test_word_nop : decodeEngine 5 0x00000000#32 = some (.nop 5) := by decide
theorem test_word_refused : decodeEngine 5 0x00000001#32 = none := by decide
theorem test_word_tap : decodeEngine 5 0x24118400#32 = some (.tap 5 0 2 3 false false false false true) := by decide
theorem test_word_mac : decodeEngine 5 0x20061300#32 = some (.mac 5 0 1 16 true 1 true) := by decide

theorem test_word_stv : decodeEngine 5 0x8C040000#32 = some (.stv 5 0 2 0 0) := by decide
theorem test_word_movr : decodeEngine 5 0x78880400#32 = some (.movr 5 1 2 0 1) := by decide
theorem test_word_waitrow : decodeEngine 5 0x04000000#32 = some (.waitrow 5) := by decide
theorem test_circ_wraps : circ 0x1BFE0 32 0xC000 0x10000 = 0xC000 ∧ circ 0x10460 32 0xC000 0x10000 = 0x10480 ∧
    circ 0x8000 (-32) 0x8000 0x2000 = 0x9FE0 := by decide

/-! ### Engine: single steps and witnesses -/

/-- Core 5 runs a row program with these scalar registers, everything else after reset. -/
def engineState (s2 s3 : Word) : State :=
  State.reset.setCore 5 { coreReset with state := .row, bank0 := { bankReset with s := [(2, s2), (3, s3)] } }

/-- Core 5 with bank `b` in its row program. -/
def bankState (b : Bank) : State := State.reset.setCore 5 { coreReset with state := .row, bank0 := b }

/-- Core 5 in a handler entered from its row program. -/
def handlerState : State := State.reset.setCore 5 { coreReset with state := .handler, bank0 := bankReset }

/-- Results in flight on core 5 after a step. -/
def flightsOf (r : Answer) : List Flight :=
  match r with
  | .next t => (t.core 5).flights
  | _ => []

/-- Core 5 after a step. -/
def coreOf (r : Answer) : Core :=
  match r with
  | .next t => t.core 5
  | _ => coreReset

/-- A vector with `x` in lane 0 and `y` in lane 1. -/
def lanes (x y : Word) : V8 Word := ⟨x, y, 0, 0, 0, 0, 0, 0⟩

theorem test_add_wraps : bankS (coreOf (exec (.add 5 1 2 3 true) (engineState 0xFFFFFFFF 1))).bank 1 = 0 ∧
    (coreOf (exec (.add 5 1 2 3 true) (engineState 0xFFFFFFFF 1))).bank.flags = 0b0101 := by decide
theorem test_sub_overflow : bankS (coreOf (exec (.sub 5 1 2 3 true) (engineState 0x80000000 1))).bank 1 = 0x7FFFFFFF ∧
    (coreOf (exec (.sub 5 1 2 3 true) (engineState 0x80000000 1))).bank.flags = 0b1100 := by decide
theorem test_shl_carry : bankS (coreOf (exec (.shl 5 1 2 3 true) (engineState 0x80000001 1))).bank 1 = 2 ∧
    (coreOf (exec (.shl 5 1 2 3 true) (engineState 0x80000001 1))).bank.flags = 0b0100 := by decide
theorem test_shra_sign : bankS (coreOf (exec (.shra 5 1 2 3 true) (engineState 0x80000003 1))).bank 1 = 0xC0000001 ∧
    (coreOf (exec (.shra 5 1 2 3 true) (engineState 0x80000003 1))).bank.flags = 0b0110 := by decide
theorem test_addi_destination_is_source : bankS (coreOf (exec (.addi 5 2 2 false 0xFFFF) (engineState 1 0))).bank 2 = 0 := by decide
theorem test_setr_hi_keeps_low_half :
    bankP (coreOf (exec (.setr 5 1 1 true false 0x0001) (bankState { bankReset with p := [(1, 0xE000)] }))).bank 1 = 0x0001E000 := by
  decide
theorem test_vadd_saturates : flightsOf (exec (.vadd 5 1 2 3) (bankState { bankReset with
    d := [(2, lanes 0x7FFFFFFF 1), (3, lanes 1 1)] })) =
      [⟨1, false, .d 1 (lanes 0x7FFFFFFF 2)⟩, ⟨1, false, .sticky 0x20⟩] := by decide
theorem test_vaddw_wraps : flightsOf (exec (.vaddw 5 1 2 3) (bankState { bankReset with
    d := [(2, lanes 0x7FFFFFFF 1), (3, lanes 1 1)] })) = [⟨1, false, .d 1 (lanes 0x80000000 2)⟩] := by decide
theorem test_mac_half_squared : flightsOf (exec (.mac 5 0 2 2 false 0 true) (bankState { bankReset with
    d := [(2, lanes 0x40000000 0)] })) = [⟨2, false, .a 0 ⟨0x002000000000000000, 0, 0, 0, 0, 0, 0, 0⟩ true⟩] := by decide
theorem test_ext_quarter : flightsOf (exec (.ext 5 1 0 0 false) (bankState { bankReset with
    a := [(0, ⟨0x002000000000000000, 0, 0, 0, 0, 0, 0, 0⟩)] })) = [⟨2, false, .d 1 (lanes 0x20000000 0)⟩] := by decide
theorem test_call_links : (coreOf (exec (.call 5 14 0x20) (engineState 0 0))).bank.link = 3 ∧
    (coreOf (exec (.call 5 14 0x20) (engineState 0 0))).slots = 2 := by decide
theorem test_sts_bytes : memByte (coreOf (exec (.sts 5 2 1 0 0x100) (engineState 0x11223344 0))).ram 0x100 = 0x44 ∧
    memByte (coreOf (exec (.sts 5 2 1 0 0x100) (engineState 0x11223344 0))).ram 0x103 = 0x11 := by decide
theorem test_lds_unmapped_faults : (coreOf (exec (.lds 5 2 1 0 0) (bankState { bankReset with p := [(1, 0x40000)] }))).state =
    .faulted := by decide

theorem witness_ScalarResults : (engineState 0xFFFFFFFF 1).runs 5 := by decide
theorem witness_VectorResults : (bankState { bankReset with d := [(2, lanes 0x80000000 1)] }).runs 5 := by decide
theorem witness_SaturatingResults : handlerState.runs 5 ∧ (8#4).toNat ≤ 8 := by decide
theorem witness_Accumulations : (bankState bankReset).runs 5 ∧ ((true = true ∨ (3#3) = 0) ∧ (false = true ∨ (0#3) = 0)) := by decide

/-- Core 5 with P2 and P3 for a tap. -/
def tapState (x h : Word) : State := bankState { bankReset with p := [(2, x), (3, h)] }

theorem witness_TapStep : (tapState 0x8000 0x20000).runs 5 ∧ (2#4) ≠ 3#4 ∧ regionOf 0x8000 = .ram ∧ regionOf 0x1DFE0 = .ram ∧
    regionOf 0x1E000 = .inport ∧ regionOf 0x1F000 = .outport ∧ regionOf 0x20000 = .coef ∧ regionOf 0x32000 = .mailbox ∧
    0x8000 % 32 = 0 ∧ 0x8004 % 32 ≠ 0 ∧ 0x20000 % 32 = 0 ∧ 0x20004 % 32 ≠ 0 ∧ 0x20002 % 4 ≠ 0 := by decide
theorem test_tap_pointers : bankP (coreOf (exec (.tap 5 0 2 3 false false false false true) (tapState 0x8000 0x20000))).bank 2 =
    0x7FE0 ∧ bankP (coreOf (exec (.tap 5 0 2 3 false false false false true) (tapState 0x8000 0x20000))).bank 3 = 0x20004 := by
  decide
theorem test_tap_misaligned : (coreOf (exec (.tap 5 0 2 3 false false false false true) (tapState 0x8004 0x20000))).state =
    .faulted := by decide

theorem witness_Moves : (bankState bankReset).runs 5 ∧ (bankState bankReset).core 5 ≠ coreReset ∧ classNumOk 4 7 = true ∧
    classNumOk 0 15 = true ∧ moveOk 0 15 4 7 = true ∧ moveOk 5 31 5 0 = true ∧ (7#5).toNat < 8 ∧
    (handlerState.core 5).state = .handler ∧ ((bankState bankReset).core 5).state = .row ∧ 0x10 < (0x11#8).toNat ∧
    (bankS (bankState { bankReset with s := [(1, 3)] } |>.core 5).bank 1).toNat % 4 = 3 ∧
    ¬((0x03#8) = 0x03 ∧ (bankS ((bankState bankReset).core 5).bank 1).toNat % 4 = 3) := by decide
theorem test_xmov_in_row_program_faults : (coreOf (exec (.xmov 5 true 0 1 0 2) (bankState bankReset))).state = .faulted := by decide
theorem test_rdc_core_number : bankS (coreOf (exec (.rdc 5 1 0x08) (bankState bankReset))).bank 1 = 5 := by decide

/-- Core 5 with P1 at `a`. -/
def memState (a : Word) : State := bankState { bankReset with p := [(1, a)] }

theorem witness_LoadsAndStores : (memState 0x100).runs 5 ∧ modeOk 0 0x7FFF = true ∧ modeOk 2 7 = true ∧
    accessFault 0x100 false false = none ∧ accessFault 0x1DFE0 true true = none ∧ regionOf 0x1DFE0 = .ram ∧
    accessFault 0x1E000 false false = none ∧ accessFault 0x1E000 false true ≠ none ∧ accessFault 0x102 false false ≠ none ∧
    accessFault 0x104 true false ≠ none ∧ accessFault 0x104 true true ≠ none ∧ regionOf 0x1E000 ≠ .mailbox ∧
    accessFault 0x32000 false true = none ∧ regionOf 0x32000 = .mailbox ∧ accessFault 0x320FC false false = none ∧
    (((memState 0x32000).setMbx 0 ⟨7, true⟩).mbx ((0x32000 - 0x32000) / 4)).full = true ∧
    ((memState 0x32000).mbx ((0x320FC - 0x32000) / 4)).full = false := by decide

/-- A transfer of 64 bytes of core 5 on channel 1, from working RAM to bank 2, owned by cluster 0. -/
def xferState : State :=
  (State.reset.setCore 5 { coreReset with
    state := .row, busy := 0b0010, xwait := 0b0010, ram := [(3, 9)],
    xfers := [(1, some ⟨true, 0, 0x400000, 64, 0, false, 0⟩)] }).put (fdQown 2 0) 0x10

theorem witness_Transfers : (memState 0).runs 5 ∧ ((memState 0).core 5).busy.getLsbD 1 = false ∧
    (64 ≤ 64 ∧ 64 ≤ 16384 ∧ 64 % 64 = 0) ∧ (0 % 64 = 0 ∧ 0 + 64 ≤ 0x1E000) ∧
    (0x10000000 % 64 = 0 ∧ 0x10000000 ≤ 0x10000000 ∧ 0x10000000 + 64 ≤ 0x16000000) ∧
    (xferState.core 5).busy.getLsbD 1 = true ∧
    (xferState.core 5).xfers.get (fun _ => none) 1 = some ⟨true, 0, 0x400000, 64, 0, false, 0⟩ ∧ 64 = 64 * 1 ∧ 0 ≤ 1 ∧
    (∀ i, i < 1 → admits (xferState.ownerAt (0x400000 + 64 * i)) (5 / 8) false = true ∧
      hasPath (5 / 8) ((0x400000 + 64 * i) / 0x200000) = true) ∧ min 1 (0 + 1) = 1 ∧ min 1 (0 + 0) < 1 ∧
    (xferState.core 5).xwait ≠ 0 ∧ (xferState.core 5).busy &&& ~~~bit4 1 &&& (xferState.core 5).xwait = 0 := by decide
theorem test_transfer_moves_bytes : (match exec (.transferDone 5 1 ⟨1, 0⟩) xferState with
    | .next t => memByte t.fab.shared 0x400003
    | _ => 0) = 9 := by decide

/-- Core 5 at the last word of a running loop. -/
def loopState : State := bankState { bankReset with lc0 := 2, la0 := (laOf 0 0).setWidth 29 }

theorem witness_Branches : (engineState 0 0).runs 5 ∧ (engineState 0 0).mayTransfer 5 ∧ condHolds 14 0 false = true ∧
    (∃ cond : BitVec 4, condHolds cond 0 false = false) ∧ 0 + 1 + 1023 ≤ 0x1FFF ∧
    (bankState { bankReset with pc := 0x1FFF }).runs 5 ∧ ¬(0x1FFF + 1 + 0 ≤ 0x1FFF) ∧ loopState.runs 5 ∧
    ¬ loopState.mayTransfer 5 := by decide
theorem witness_DelaySlots : (engineState 0 0).runs 5 ∧ (engineState 0 0).mayTransfer 5 ∧
    ((engineState 0 0).core 5).flights = [] ∧ ((engineState 0 0).core 5).bank.lc0 = 0 ∧ ((engineState 0 0).core 5).bank.lc1 = 0 ∧
    ((engineState 0 0).core 5).bank.pc + 2 < 0x2000 ∧
    condHolds 14 ((engineState 0 0).core 5).bank.flags ((engineState 0 0).core 5).shed = true := by decide

/-- Core 5 with a doorbell pending and enabled. -/
def doorState : State := State.reset.setCore 5 { coreReset with state := .row, gie := true, ien := 1, dbPending := true }
/-- Core 5 with a transfer-done source pending and enabled. -/
def doneState : State := State.reset.setCore 5 { coreReset with state := .wait, gie := true, ien := 2, xfPending := true }
/-- Core 5 with a full watched mailbox. -/
def mailState : State := (State.reset.setCore 5 { coreReset with state := .wait, gie := true, ien := 4 }).setMbx 32 ⟨1, true⟩

theorem witness_RowEndAndInterrupts : (engineState 0 0).runs 5 ∧ ((engineState 0 0).core 5).state = .row ∧
    (engineState 0 0).mayTransfer 5 ∧ handlerState.runs 5 ∧ (handlerState.core 5).state = .handler ∧ handlerState.mayTransfer 5 ∧
    (handlerState.core 5).rowOwed = false ∧ (handlerState.core 5).swapOwed = none ∧
    (doorState.core 5).mayAccept = true ∧ (doorState.core 5).dbPending = true ∧ (doorState.core 5).ien.getLsbD 0 = true ∧
    (doneState.core 5).mayAccept = true ∧ (doneState.core 5).dbPending = false ∧ (doneState.core 5).xfPending = true ∧
    (doneState.core 5).ien.getLsbD 1 = true ∧ (mailState.core 5).mayAccept = true ∧ (mailState.core 5).xfPending = false ∧
    mailState.watchedFull 5 = true ∧ (mailState.core 5).ien.getLsbD 2 = true ∧
    ((State.reset.setCore 5 { coreReset with state := .faulted }).core 5).state = .faulted ∧ decodeEngine 5 1 = none := by decide
theorem test_interrupt_vectors : (coreOf (exec (.interruptAccept 5 0) doorState)).bank1.pc = 0x08 ∧
    (coreOf (exec (.interruptAccept 5 0) doneState)).bank1.pc = 0x10 ∧
    (coreOf (exec (.interruptAccept 5 0) mailState)).bank1.pc = 0x18 := by decide
theorem test_clrfault : (coreOf (exec (.clrfault 5) (State.reset.setCore 5 { coreReset with state := .faulted }))).state = .idle := by
  decide

theorem witness_FaultEffect : 15 < 16 ∧ 0x1FFF < 0x2000 ∧ ((engineState 0 0).core 5).flights = [] := by decide
theorem witness_Latency : ({ coreReset with flights := [⟨2 + 1, false, .s 1 7⟩] } : Core).flights = [⟨2 + 1, false, .s 1 7⟩] := by
  decide
theorem witness_ResultFrame : (0 = 0 ∨ 0 = 8) ∧ 16 ≤ 16 := by decide
theorem witness_EngineRoundTrip : (Instr.tap 5 0 2 3 false false false false true).wf = true ∧
    encodeEngine (.tap 5 0 2 3 false false false false true) = some 0x24118400 ∧
    decodeEngine 5 0x24118400 = some (.tap 5 0 2 3 false false false false true) := by decide

/-! ### Scheduler, fabric and registers -/

/-- Row ticks run in row 100; no page is open. -/
def nodeState : State := State.reset.setRow { rowReset with
  ticks := true, fresh := false, rowIdx := 100 }

/-- A record due at the coming engine tick. -/
def dueRec (cls flags index target : Nat) (v : Word) : TpRec := ⟨false, 99, cls, flags, index, target, v⟩
/-- A direct write that waits for the coming engine tick. -/
def directRec (a : Nat) (v : Word) : TpRec := ⟨true, 0, 5, 0, 0, a, v⟩

/-- State `s` with one record. -/
def queued (s : State) (r : TpRec) : State := s.setRow { s.row with tpq := [r] }

/-- The state of `exec`, for tests. -/
def stateOf (r : Answer) : State :=
  match r with
  | .next t => t
  | _ => State.reset

/-- Both banks of core 5 are ready and its program runs. -/
def swapState : State := ((nodeState.setCore 5 { coreReset with state := .row }).flag (fdCore Fld.CLU_CORE_BANKS_CREADY 5) true).flag
  (fdCore Fld.CLU_CORE_BANKS_PREADY 5) true

/-- Core 5 in a bind-off that started at row 35. -/
def bindoffState : State := nodeState.setCore 5 { coreReset with state := .row, fade := .bindOff 35 }

theorem witness_TimedParameters : (queued nodeState (dueRec 1 0 7 5 9)).front (dueRec 1 0 7 5 9) [] ∧
    (dueRec 1 0 7 5 9).core = 5 ∧ (nodeState.core 5).dbPending = false ∧ (dueRec 2 0 0 5 1).cls = 2 ∧
    (dueRec 3 2 0 5 0).prog = false ∧ (dueRec 3 2 0 5 0).coef = true ∧ (dueRec 3 1 0 5 0).prog = true ∧
    (dueRec 3 1 0 5 0).coef = false ∧ (queued swapState (dueRec 3 1 0 5 0)).front (dueRec 3 1 0 5 0) [] ∧
    swapState.on (fdCore Fld.CLU_CORE_BANKS_CREADY 5) = true ∧ swapState.twinReady 1 5 swapState.tickRow = true ∧
    swapState.on (fdCore Fld.CLU_CORE_BANKS_PREADY 5) = true ∧ swapState.twinReady 0 5 swapState.tickRow = true ∧
    (swapState.core 5).state ≠ .handler ∧ nodeState.on (fdCore Fld.CLU_CORE_BANKS_CREADY 5) = false ∧
    (swapState.core 5).state = .row ∧ ((nodeState.setCore 5 { coreReset with state := .idle }).core 5).state = .idle ∧
    nodeState.row.tpq = [] ∧ (bindoffState.core 5).fade = .bindOff 35 ∧ 64 ≤ (bindoffState.tickRow - 35).toNat ∧
    (bindoffState.tickRow - 36).toNat < 64 := by decide
theorem test_tp_doorbell : ((stateOf (exec .tpDoorbell (queued nodeState (dueRec 1 0 7 5 9)))).core 5).dbValue = 9 ∧
    ((stateOf (exec .tpDoorbell (queued nodeState (dueRec 1 0 7 5 9)))).core 5).dbPending = true := by decide
theorem test_tp_swap_counts : (stateOf (exec .tpSwap (queued swapState (dueRec 3 2 0 5 0)))).get (fdCore Fld.CLU_CORE_BANKS_CGEN 5) = 1 ∧
    (stateOf (exec .tpSwap (queued swapState (dueRec 3 2 0 5 0)))).on (fdCore Fld.CLU_CORE_BANKS_CREADY 5) = false := by decide
theorem test_tp_too_late_stays : (queued nodeState { dueRec 1 0 7 5 9 with row := 100 }).tpDue { dueRec 1 0 7 5 9 with row := 100 } = false := by
  decide

theorem witness_SwapEffect : swapState.paired = false ∧ 3 ≠ (5 : Fin 128).val := by decide

/-- The shadow map and the shadow table are ready; the selections name the first entry. -/
def mapState : State := (((nodeState.flag Fld.SST_MAP_STAT_SHREADY true).flag Fld.MTX_TBL_STAT_SHREADY true).put Fld.SST_MAP_SEL_CLASS 1).put
  Fld.MTX_ACT_LEN_COUNT 4

/-- Delay line 2047 of 16 samples with a delay of 3. -/
def lineState : State := (nodeState.put (Fld.DLY_LINE_LEN_LEN 2047) 16).put (Fld.DLY_LINE_DELAY_DELAY 2047) 3

/-- A source is mapped to slot 3, a second entry is selected, and the pool is the whole of banks 2 to 4. -/
def takenState : State := { mapState with fab := { mapState.fab with map0 := [(0x10001, 0x8003)] } }

/-- Line 2047 of 16 samples with a delay of 3 may take 32 samples: bank 2 belongs to the delay unit. -/
def poolState : State := (lineState.put (fdQown 2 0) 3).put (Fld.ENG_PROFILE_STAT_FS_ACT) 1

/-- A UNIT_FIELD record due at the coming tick. -/
def fieldRec (a : Nat) (v : Word) : TpRec := dueRec 5 0 0 a v

theorem witness_TimedRegisters_forms : (queued mapState (directRec Reg.SST_MAP_SEL 0x000107FF)).front (directRec Reg.SST_MAP_SEL 0x000107FF) [] ∧
    (directRec Reg.SST_MAP_SEL 0x000107FF).direct = true ∧ (queued mapState (fieldRec Reg.SST_MAP_CTL 3)).front (fieldRec Reg.SST_MAP_CTL 3) [] ∧
    (fieldRec Reg.SST_MAP_CTL 3).direct = false ∧ (fieldRec Reg.SST_MAP_CTL 3).cls = 5 ∧ selOk 0x000107FF = true ∧ selOk 0x00010800 = false := by
  decide
theorem witness_TimedRegisters_map : mapState.get Fld.SST_MAP_SEL_INDEX < classSize (mapState.get Fld.SST_MAP_SEL_CLASS) ∧
    classSize (nodeState.get Fld.SST_MAP_SEL_CLASS) ≤ nodeState.get Fld.SST_MAP_SEL_INDEX ∧
    (takenState.get Fld.SST_MAP_SEL_CLASS < 0x10 ∧ entrySlot ((0x8003 : Word).setWidth 16 &&& 0xBFFF#16) = some 3 ∧
      slotTaken takenState.activeMap (mapKey (takenState.get Fld.SST_MAP_SEL_CLASS) (takenState.get Fld.SST_MAP_SEL_INDEX)) 3 = true) ∧
    slotTaken mapState.activeMap (mapKey (mapState.get Fld.SST_MAP_SEL_CLASS) (mapState.get Fld.SST_MAP_SEL_INDEX)) 3 = false ∧
    (2#32).getLsbD 1 = true ∧ (1#32).getLsbD 1 = false ∧ mapState.on Fld.SST_MAP_STAT_SHREADY = true ∧ mapState.loadOpen 4 = false ∧
    mapState.twinReady 2 0 mapState.tickRow = true ∧ nodeState.on Fld.SST_MAP_STAT_SHREADY = false := by decide
theorem witness_TimedRegisters_matrix : mapState.on Fld.MTX_TBL_STAT_SHREADY = true ∧ mapState.loadOpen 5 = false ∧
    mapState.twinReady 3 0 mapState.tickRow = true ∧
    mapState.get Fld.MTX_SHD_LEN_COUNT ≤ mtxCapacity (fabricAt mapState.isFast mapState.checkStepNow mapState.row.selvage mapState.fs) ∧
    nodeState.on Fld.MTX_TBL_STAT_SHREADY = false ∧ mapState.get Fld.MTX_XP_SEL_INDEX < mapState.get Fld.MTX_ACT_LEN_COUNT ∧
    nodeState.get Fld.MTX_ACT_LEN_COUNT ≤ nodeState.get Fld.MTX_XP_SEL_INDEX ∧ mapState.glideOn 0 = none ∧
    (mapState.setGlides [⟨0, 0, 9, 2, 1, 4⟩]).glideOn 0 = some ⟨0, 0, 9, 2, 1, 4⟩ ∧
    ¬ (mapState.get Fld.MTX_XP_SEL_GLIDE ≠ 0 ∧ 16384 ≤ (mapState.fab.glides.filter Glide.runs).length) := by decide
theorem witness_TimedRegisters_full : (mapState.put Fld.MTX_XP_SEL_GLIDE 1).get Fld.MTX_XP_SEL_GLIDE ≠ 0 ∧
    16384 ≤ (((mapState.setGlides (List.replicate 16384 ⟨7, 0, 9, 2, 1, 4⟩)).fab.glides.filter
      (fun g => g.entry != mapState.get Fld.MTX_XP_SEL_INDEX)).filter Glide.runs).length := by
  have h : mapState.get Fld.MTX_XP_SEL_INDEX = 0 := by decide
  constructor
  · decide
  · rw [h]
    have e : (mapState.setGlides (List.replicate 16384 ⟨7, 0, 9, 2, 1, 4⟩)).fab.glides = List.replicate 16384 ⟨7, 0, 9, 2, 1, 4⟩ := rfl
    rw [e, List.filter_replicate_of_pos (by decide), List.filter_replicate_of_pos (by decide), List.length_replicate]
theorem witness_TimedRegisters_length : 2047 < 2048 ∧ (0 : Word).toNat % 2 ^ 21 = 0 ∧ (17 : Word).toNat % 2 ^ 21 % 16 ≠ 0 ∧
    poolState.enabledLines.filter (fun m => m != 2047) = [] ∧ poolState.lineLen 2047 ≠ 0 ∧ nodeState.lineLen 2047 = 0 ∧
    64 * poolState.lineBase 2047 + 4 * 32 ≤ poolState.poolQuarters.length * 0x80000 ∧ poolState.lineDelay 2047 < 32 ∧
    dlyBound poolState.poolWait 1 poolState.fadingLines.length ≤
      fabricAt poolState.isFast poolState.checkStepNow poolState.row.selvage poolState.fs := by decide
theorem witness_TimedRegisters_delay : lineState.lineLen 2047 ≤ (16 : Word).toNat % 2 ^ 20 ∧
    (15 : Word).toNat % 2 ^ 20 < lineState.lineLen 2047 ∧ (15 : Word).toNat % 2 ^ 20 ≠ lineState.lineDelay 2047 ∧
    (3 : Word).toNat % 2 ^ 20 = lineState.lineDelay 2047 ∧ (15 : Word).getLsbD 31 = false ∧ (0x8000000F : Word).getLsbD 31 = true ∧
    ¬ 256 ≤ (lineState.fadingLines.filter (fun m => m != 2047)).length := by decide
/-- Lines 0 to 255 crossfade. -/
def fadingState : State :=
  let ls : Table DlyLine := (List.range 256).map (fun n => (n, ⟨[], some (1, 2), 0⟩))
  { lineState with fab := { lineState.fab with lines := ls } }
set_option maxRecDepth 20000 in
theorem witness_TimedRegisters_fades : 256 ≤ (fadingState.fadingLines.filter (fun m => m != 2047)).length := by decide
theorem test_map_data_entry : (stateOf (exec .mapDataApply (queued mapState (directRec Reg.SST_MAP_DATA 0x8003)))).activeMap =
    [(65536, 0x8003)] := by decide
theorem test_line_delay_beyond_length : (stateOf (exec .lineDelayApply (queued lineState (directRec (Reg.DLY_LINE_DELAY 2047) 16)))).lineDelay 2047 = 3 ∧
    (stateOf (exec .lineDelayApply (queued lineState (directRec (Reg.DLY_LINE_DELAY 2047) 15)))).lineDelay 2047 = 15 := by decide

/-- Checks run, entry 5 of the active table glides, line 3 fades, slot 7 is due to decay. -/
def fabState : State :=
  ((((nodeState.flag Fld.SST_MAP_STAT_CHECKING true).flag Fld.MTX_TBL_STAT_CHECKING true).setGlides [⟨5, 0, 9, 2, 2, 0⟩]).setLine 3
    ⟨[], some (4, 64), 0⟩).setSlot 7 ⟨1, 0, false, 1, 9, false, true⟩

theorem witness_FabricCommands : mapState.get Fld.SST_SHD_SEL_INDEX < classSize 1 ∧
    classSize (nodeState.get Fld.SST_SHD_SEL_CLASS) ≤ nodeState.get Fld.SST_SHD_SEL_INDEX ∧
    classSize ((nodeState.put Fld.SST_SHD_SEL_CLASS 1).get Fld.SST_SHD_SEL_CLASS) = 2048 ∧ fabState.paired = false ∧
    fabState.on Fld.SST_MAP_STAT_CHECKING = true ∧ dupSlot fabState.shadowMap = none ∧ fabState.loadOpen 4 = false ∧ fabState.loadOpen 5 = false ∧
    dupSlot [(0x10000, 0x8003), (0x10001, 0x8003)] = some 3 ∧ fabState.on Fld.MTX_TBL_STAT_CHECKING = true ∧
    fabState.get Fld.MTX_SHD_LEN_COUNT = 0 ∧
    mtxLmax fabState.isFast fabState.fs < (fabState.put Fld.MTX_SHD_LEN_COUNT 262145).get Fld.MTX_SHD_LEN_COUNT ∧
    fabState.glideOn 5 = some ⟨5, 0, 9, 2, 2, 0⟩ ∧ Glide.reached ⟨5, 0, 9, 2, 2, 0⟩ = true ∧
    (fabState.line 3).xfade = some (4, 64) ∧ 64 ≤ 64 ∧
    (∀ q, q < 4 → nodeState.get (fdQown 39 q) = bitsOf (nodeState.reg (fdQown 39 0).addr) (8 * q + 7) (8 * q)) ∧
    (2 ≤ (39 : Fin 48).val ∧ (39 : Fin 48).val < 40 ∧ (0x1F ≤ 5 ∨ (0x10 ≤ 0x1F ∧ 0x1F ≤ 0x1F)) ∧ 0x1F ≠ 0 ∧ 0x1F ≠ 3) ∧
    bitsOf 0x1F 7 0 = 0x1F ∧ nodeState.get (fdQown 39 0) = 0 ∧
    (∀ q, 1 ≤ q → q < 4 → nodeState.get (fdQown 39 q) = bitsOf 0x1F (8 * q + 7) (8 * q)) ∧
    (fabState.slot 7).decayDue = true ∧ fabState.liveAt Reg.SST_DECAY_CNT + 1 < 2 ^ 32 - 1 ∧ (nodeState.slot 7).decayDue = false := by
  decide

theorem witness_CoreRegisters : nodeState.paired = false ∧ isDeclaration 0x00020001 = true ∧ (nodeState.core 5).settled = true ∧
    (0x00020001 : Word) ≠ nodeState.reg (Reg.CLU_CORE_BUDGET 0 5) ∧ isDeclaration 0x00010002 = false ∧ isDeclaration 0x00010000 = false ∧
    (swapState.core 5).settled = false ∧ (511 : Word).toNat ≤ 512 ∧ (511 : Word).toNat ≠ nodeState.get (fdCore Fld.CLU_CORE_OUTCFG_DIGN 5) ∧
    512 < (513 : Word).toNat % 1024 ∧ (513 : Word).msb = false := by decide

/-- Physical core 5 is marked as failed. -/
def failedState : State := nodeState.setReg (Reg.SWT_CORE_FAIL 0) 0x20

/-- A transfer of a LOAD_MAP is open on ring 1. -/
def loadState : State := nodeState.modRing 1 (fun x => { x with active := some ⟨⟨[], 0, 0, false, none⟩, 4, 0, 2, [], none⟩ })

theorem witness_FabricCommands_open : (loadState.flag Fld.SST_MAP_STAT_CHECKING true).on Fld.SST_MAP_STAT_CHECKING = true ∧
    loadState.loadOpen 4 = true := by decide

theorem witness_MigrationAndGauge : failedState.migrateRefusal 5 false true = 0 ∧ (failedState.core 5).state = .reset ∧
    swapState.migrateRefusal 5 false true = 0 ∧ (swapState.core 5).state ≠ .reset ∧ nodeState.migrateRefusal 5 true true ≠ 0 ∧
    (0x200 : Word).getLsbD 9 = true ∧ (0 : Word).getLsbD 9 = false ∧
    (nodeState.setRow { nodeState.row with migration := some ⟨5, false, 64⟩ }).row.migration = some ⟨5, false, 64⟩ ∧
    (nodeState.setCore 5 { coreReset with state := .halted }).migrateReady ⟨5, false, 64⟩ = true ∧
    nodeState.migrateReady ⟨5, false, 63⟩ = false ∧ 64 ≤ (Migration.mk 5 false 64).waited ∧ (Migration.mk 5 false 63).waited < 64 ∧
    (nodeState.setRow { nodeState.row with pendLatency := some true }).row.pendLatency = some true ∧
    (nodeState.setRow { nodeState.row with pendPolicy := true }).row.pendPolicy = true ∧ nodeState.row.inWindow = false ∧
    (nodeState.setRow { nodeState.row with recovering := true, gauge := 15 }).row.recovering = true ∧ nodeState.row.sag = false ∧
    (nodeState.setRow { nodeState.row with recovering := true, gauge := 15 }).lowStep < 15 ∧ nodeState.row.recovering = false := by decide

/-- The last row was the one before row 0, which the media time base has reached. -/
def dueState : State := nodeState.setRow { nodeState.row with rowIdx := 0xFFFFFFFF }

theorem witness_RowTickCounts : dueState.row.ticks = true ∧ dueState.inReset = false ∧ dueState.tickDue = true ∧
    dueState.row.fresh = false ∧ dueState.sup.move = .none ∧ nodeState.tickDue = false := by decide
set_option maxRecDepth 100000 in
theorem test_row_tick : (stateOf (exec .rowTick dueState)).row.rowIdx = 0 := by decide

theorem witness_EngineTickAndStopPoint : nodeState.row.ticks = true ∧ nodeState.inReset = false ∧ nodeState.row.fresh = false ∧
    nodeState.row.tpq = [] ∧ nodeState.twn.regHeld = [] ∧ nodeState.twn.joinDue = false ∧ nodeState.boot.seqTick = false ∧
    nodeState.row.ticked = false ∧ (nodeState.setRow { nodeState.row with inWindow := true }).row.inWindow = true ∧
    nodeState.row.inWindow = false := by decide
set_option maxRecDepth 100000 in
theorem test_engine_tick : (stateOf (exec .engineTick nodeState)).row.openRow = 99 := by decide
set_option maxRecDepth 100000 in
theorem test_stop_point_drops_stitch :
    (((stateOf (exec .stopPoint (swapState.setRow { swapState.row with inWindow := true }))).core 5).state = .wait) := by decide

theorem witness_RegisterWriteFields : FieldsOk (fieldsAt Reg.ENG_PROFILE) ∧ (fieldsAt Reg.ENG_PROFILE).any FieldDesc.sat = false ∧
    (fieldsAt Reg.ENG_PROFILE).any (fun f => f.acc == .rw && f.legal 0 && !f.legal 7) = true := by decide
set_option maxRecDepth 100000 in
theorem witness_RegisterTableOk : 0x47 < 0x48 ∧ (windowRegs 0x10).length ≠ 0 := by decide

theorem witness_RegisterCommands : (nodeState.put Fld.BOOT_STAT_PHASE 5).regServed = true ∧ 0x7FFFFC % 4 = 0 ∧ 0x7FFFFF % 4 ≠ 0 ∧
    nodeState.paired = false ∧ (swapState.put (Fld.PORT_STAT_STATE 3) 4).allBoundOff = false ∧
    (swapState.writeFields Reg.ENG_PROFILE 0x00020000).get Fld.ENG_PROFILE_FS ≠ swapState.get Fld.ENG_PROFILE_FS ∧
    badCodes Reg.ENG_PROFILE 0x00030100 = false ∧
    (nodeState.writeFields Reg.ENG_PROFILE 0x00030100).get Fld.ENG_PROFILE_FS = nodeState.get Fld.ENG_PROFILE_FS ∧
    (nodeState.writeFields Reg.ENG_PROFILE 0x00030100).get Fld.ENG_PROFILE_LATENCY = nodeState.get Fld.ENG_PROFILE_LATENCY ∧
    (nodeState.writeFields Reg.ENG_PROFILE 0x00030100).get Fld.ENG_PROFILE_POLICY ≠ nodeState.get Fld.ENG_PROFILE_POLICY ∧
    onSupply Reg.SST_CNT_SNAP = false ∧ Reg.SST_CNT_SNAP ≠ Reg.STR_CNT_SNAP ∧
    (snapshotOf Reg.SST_CNT_SNAP).any (fun p => p.1.isEmpty) = true := by decide
set_option maxRecDepth 100000 in
/-- A port in low-power idle and one that is not, under a policy written that is not ECO. -/
theorem witness_RegisterCommands_idle : (nodeState.flag (Fld.NET_STAT_LPITX 0) true).on (Fld.NET_STAT_LPITX 0) = true ∧
    nodeState.on (Fld.NET_STAT_LPITX 0) = false ∧
    (((nodeState.flag (Fld.NET_STAT_LPITX 0) true).writeFields Reg.ENG_PROFILE 0x00030100).setRow
      { nodeState.row with pendPolicy := true }).get Fld.ENG_PROFILE_POLICY ≠ 2 := by decide


/-! ### Die link and power stage -/

/-- A REG_WR flit with tag 1 to supply-die register `a`, as the first sequenced flit. -/
def regFlit (typ a : Nat) : BitVec 128 := mkFlit typ 0 0 15 (1 * 2 ^ 88 + a * 2 ^ 64 + 5 * 2 ^ 32)
/-- A tunnelled read waits with tag 1. -/
def tunnelState : State := nodeState.setAmp { nodeState.amp with
  tunnels := [⟨1, false, Reg.PWR_CTL⟩] }

set_option maxRecDepth 100000 in
theorem witness_FlitReception : nodeState.inReset = false ∧ flitGood 1 = false ∧
    ({ State.reset with boot := { State.reset.boot with causes := [1] } } : State).inReset = true ∧
    flitGood (mkFlit 0 0 0 15 0) = true ∧ flitType (mkFlit 0 0 0 15 0) = 0 ∧ flitPayload (mkFlit 0 0 0 15 0) = 0 ∧
    flitType (mkFlit 1 0 0 15 5) = 1 ∧ flitType (regFlit 5 Reg.PWR_CTL) = 5 ∧ flitSeq (regFlit 5 Reg.PWR_CTL) < 16 ∧
    flitSeq (regFlit 5 Reg.PWR_CTL) = (nodeState.linkEnd false).expSeq ∧
    onSupply (payBits (flitPayload (regFlit 5 Reg.PWR_CTL)) 87 64) = true ∧
    (regDesc (payBits (flitPayload (regFlit 5 Reg.PWR_CTL)) 87 64)).isSome = true ∧
    onSupply (payBits (flitPayload (regFlit 5 0)) 87 64) = false ∧
    tunnelState.amp.tunnels.find? (fun t => t.tag == 1) = some ⟨1, false, Reg.PWR_CTL⟩ ∧
    eventListed 194 = true ∧ eventLevel 194 = false ∧ eventListed 206 = true ∧ eventLevel 206 = false ∧
    (nodeState.mbx 56).full = false ∧ (nodeState.mbx 63).full = false := by decide
set_option maxRecDepth 100000 in
theorem witness_FlitRoundTrip : 15 < 16 ∧ 2 ^ 96 - 1 < 2 ^ 96 ∧ flitGood (mkFlit 15 15 15 15 (2 ^ 96 - 1)) = true := by decide
set_option maxRecDepth 100000 in
theorem test_bad_flit_naks : (stateOf (exec (.senseFlit 1) nodeState)).outbox.length = 1 := by decide

/-- A mailbox flit waits at the main die's end. -/
def flitState (credit : Nat) (sent : List SeqFlit) : State := nodeState.setLinkEnd true { nodeState.linkEnd true with
  queue := [(8, 0)], credit := credit, unacked := sent }

theorem witness_LinkSending : nodeState.row.ticks = true ∧ nodeState.inReset = false ∧ ((flitState 1 []).linkEnd true).queue = [(8, 0)] ∧
    0 < ((flitState 1 []).linkEnd true).credit ∧ ((flitState 1 []).linkEnd true).unacked.length < 8 ∧
    ((flitState 0 []).linkEnd true).credit = 0 ∧ 8 ≤ ((flitState 1 (List.replicate 8 ⟨0, 8, 0⟩)).linkEnd true).unacked.length ∧
    onSupply Reg.PWR_CTL = true ∧ onSupply Reg.ENG_PROFILE = false ∧
    tunnelState.amp.tunnels.find? (fun t => t.tag == (1 : BitVec 8).toNat) = some ⟨1, false, Reg.PWR_CTL⟩ := by decide

/-- The row of the die link is there, with its words. -/
def rowState : State := nodeState.setAmp { nodeState.amp with
  rowFlit := some (5, 0), lo := some [1, 2, 3, 4], hi := some [5, 6, 7, 8] }
/-- The boost is enabled and the bus is good. -/
def boostState : State := nodeState.flag Fld.PWR_CTL_BOOSTEN true
theorem witness_PowerStageRows_boost : rowState.amp.rowFlit = some (5, 0) ∧ rowState.amp.lo = some [1, 2, 3, 4] ∧
    rowState.amp.hi = some [5, 6, 7, 8] ∧ rowState.amp.expect = none ∧ boostState.on Fld.PWR_CTL_BOOSTEN = true ∧
    boostState.busOk = true ∧ 18000 ≤ (24000 : BitVec 20).toNat := by decide

/-- Channel `c` of the power stage in state `st`. -/
def chanState (c st : Nat) : State := nodeState.put (Fld.PWR_CH_STAT_STATE c) st

theorem witness_PowerStageRows : nodeState.on Fld.PWR_XF_STAT_LOCK = false ∧ nodeState.amp.xfGood = 0 ∧
    1 ≤ (nodeState.setAmp { nodeState.amp with xfGood := 1 }).amp.xfGood ∧ (xfSync [] && xfCrcGood []) = false ∧
    (nodeState.flag Fld.PWR_XF_STAT_LOCK true).on Fld.PWR_XF_STAT_LOCK = true ∧ nodeState.amp.xfBad < 3 ∧
    nodeState.amp.expect = none ∧ (chanState 7 3).chState 7 = 3 ∧
    (chanState 7 3).get (Fld.PWR_CH_CFG_VFS 7) ≤ (0xFFFFFFFF : Word).toNat ∧ 0 < (1 : Word).toNat ∧
    bitsOf 0x00400000 23 16 ≤ 0x40 ∧ bitsOf 0x00400000 23 16 ≠ nodeState.lookahead ∧
    channels.all (chanState 7 3).chIdle = false ∧ channels.all nodeState.chIdle = true := by decide

theorem witness_ChannelStates : nodeState.amp.busLow = false ∧ nodeState.amp.railOv = false ∧ nodeState.amp.otemp = false ∧
    (nodeState.setAmp { nodeState.amp with busLow := true }).amp.busLow = true ∧
    (nodeState.setAmp { nodeState.amp with busLow := false }).busOk = true ∧
    (nodeState.setAmp { nodeState.amp with otemp := false }).busOk = true ∧
    (nodeState.setAmp { nodeState.amp with railOv := false }).busOk = true ∧ (chanState 7 8).chState 7 = 8 ∧
    nodeState.calibrating 7 = false ∧ (chanState 7 1).chState 7 = 1 ∧ (chanState 7 3).switching 7 = true ∧
    (((chanState 7 3).modAmpCh 7 (fun x => { x with limRun := 7 })).ampCh 7).limRun = 7 ∧
    (((chanState 7 3).modAmpCh 7 (fun x => { x with limRun := 7 })).switching 7) = true ∧ (chanState 7 5).chState 7 = 5 ∧
    (chanState 7 5).busOk = true ∧ (chanState 7 6).chState 7 = 6 ∧
    (((chanState 7 6).modAmpCh 7 (fun x => { x with att := 1 })).ampCh 7).att = 1 ∧
    1 < (((chanState 7 6).modAmpCh 7 (fun x => { x with att := 20 })).ampCh 7).att ∧ (chanState 7 0).chState 7 = 0 ∧
    (chanState 7 7).chState 7 = 7 ∧ (chanState 7 4).chState 7 = 4 ∧ (chanState 7 2).chState 7 = 2 ∧
    64 ≤ (((chanState 7 2).modAmpCh 7 (fun x => { x with ramp := 64 })).ampCh 7).ramp ∧
    ((nodeState.setAmp { nodeState.amp with busLow := true }).busOk = false) := by decide
theorem test_bus_low : (stateOf (exec .busLow (chanState 7 3))).chState 7 = 8 ∧ (stateOf (exec .busLow (chanState 7 5))).chState 7 = 5 := by
  decide

/-! ### Network ports -/

/-- Network ports 0 and 1 are up with 10GBASE-R; both forward, port 1 takes unknown unicast. -/
def netState : State := (((((nodeState.flag (Fld.NET_STAT_LINK 0) true).flag (Fld.NET_STAT_LINK 1) true).put (Fld.NET_STAT_SPEED_ACT 0) 2).put
  (Fld.NET_STAT_SPEED_ACT 1) 2).flag (Fld.NET_CFG_FWD 0) true).flag (Fld.NET_CFG_FWDUC 1) true

/-- A frame of type 0x88B5 to `dst`, zeros after it, with its FCS. -/
def ethFrame (dst type : Nat) : List Byte :=
  let b := beBytes dst 6 ++ beBytes 0x020000000009 6 ++ beBytes type 2 ++ List.replicate 46 0#8
  let c := crc32 b
  b ++ [BitVec.ofNat 8 c, BitVec.ofNat 8 (c / 256), BitVec.ofNat 8 (c / 65536), BitVec.ofNat 8 (c / 16777216)]

/-- A frame of `n` zero bytes behind a priority-0 header, queued in queue `q` of port 0. -/
def netQueued (q : Nat) : State := netState.modPort 0 (fun x => { x with queue := [⟨List.replicate 60 0#8, q, 0, 4, none, none, 0⟩] })

set_option maxRecDepth 100000 in
theorem test_frame_fcs : fcsGood (ethFrame 0x020000000001 0x88B5) = true ∧ fcsGood (ethFrame 0x020000000001 0x88B5 ++ [0]) = false := by
  decide

set_option maxRecDepth 100000 in
theorem witness_FrameReception : netState.linkUp 2 = false ∧ netState.linkUp 0 = true ∧ netState.asleep = false ∧
    (netState.port 0).cut = none ∧ (List.replicate 63 0#8).length < 64 ∧ netState.maxFrm 0 < (List.replicate 2001 0#8).length ∧
    (ethFrame 0x020000000001 0x88B5).length = 64 ∧ 64 ≤ netState.maxFrm 0 ∧ fcsGood (List.replicate 64 0#8) = false ∧
    fcsGood (ethFrame 0x020000000001 0x8808) = true ∧ frameType (ethFrame 0x020000000001 0x8808) = 0x8808 ∧
    fcsGood (ethFrame 0x0180C200000E 0x88CC) = true ∧ frameType (ethFrame 0x0180C200000E 0x88CC) ≠ 0x8808 ∧
    terminated (ethFrame 0x0180C200000E 0x88CC) = true ∧ terminated (ethFrame 0x020000000001 0x88B5) = false := by decide
set_option maxRecDepth 100000 in
theorem witness_FrameReception_forward : netState.matched 0 (ethFrame 0x020000000001 0x88B5) = [] ∧
    netState.filtered 0 (ethFrame 0x020000000001 0x88B5) = false ∧ netState.isOwn 0 (ethFrame 0x020000000001 0x88B5) = false ∧
    frameDst (ethFrame 0x020000000001 0x88B5) ≠ 2 ^ 48 - 1 ∧
    (netState.put (Fld.NET_MAC_ADDR_LO_ADDR 0) 1).isOwn 0 (ethFrame 0x000000000001 0x88B5) = true ∧
    netState.lookup 1 ((ethFrame 0x020000000001 0x88B5).take 60) = ([], true) ∧
    ({ netState with net := { netState.net with fdb := [(3, ⟨true, 2, netState.frameVid 0 ((ethFrame 0x020000000001 0x88B5).take 60),
      0x020000000001⟩)] } } : State).lookup 0 ((ethFrame 0x020000000001 0x88B5).take 60) = ([1], false) := by decide

set_option maxRecDepth 100000 in
theorem witness_Transmission : netState.linkUp 0 = true ∧ netState.asleep = false ∧ terminated (List.replicate 128 0#8) = false ∧
    netState.ownOnly 0 (List.replicate 128 0#8) = false ∧ (netState.port 0).cut = none ∧
    (netState.put (Fld.NET_TXQ_THR_THR 1 0) 2).get (Fld.NET_TXQ_THR_THR 1 0) = 2 ∧
    1 ∈ (netState.lookup 0 (List.replicate 128 0#8)).1 ∧ 3 ∉ (netState.lookup 0 (List.replicate 128 0#8)).1 ∧
    (netState.put (Fld.NET_TXQ_THR_THR 1 0) 2).mayCut 0 1 0 0 = true ∧
    ((netState.modPort 0 (fun x => { x with tx := some ⟨⟨[], 3, 0, 1, none, none, 0⟩, some 1, false, 0, 0⟩ })).port 0).tx.isSome = true ∧
    (netState.port 0).tx = none ∧ (netQueued 2).portFree 0 = true ∧ ((netQueued 2).choice 0 0).isSome = true ∧
    netState.portFree 2 = false ∧ netState.choice 0 0 = none := by decide

/-- Port 0 sends a whole frame of the house cores. -/
def sendState : State := netState.modPort 0 (fun x => { x with tx := some ⟨⟨[], 3, 0, 4, none, none, 0⟩, none, false, 0, 0⟩ })
set_option maxRecDepth 100000 in
theorem witness_Transmission_whole : (sendState.port 0).tx = some ⟨⟨[], 3, 0, 4, none, none, 0⟩, none, false, 0, 0⟩ ∧
    (padFrame (netState.lldpBytes 0)).length + 4 ≤ netState.maxFrm 0 := by decide

/-- Stored bytes on port 1 from port 0 with XOFF 0; a gate list of one entry runs on port 0. -/
def pauseState (sent : Bool) : State := ((netState.flag (Fld.NET_FC_CFG_PAUSE_TX 0) true).put (Fld.NET_FC_THR_XOFF 0) 0).modPort 1
  (fun x => { x with queue := [⟨List.replicate 60 0#8, 0, 0, 0, none, none, 0⟩] }) |>.modPort 0 (fun x => { x with xoffAll := sent })
def gateState : State := ((netState.flag (Fld.NET_GCL_STAT_EN 0) true).put (Fld.NET_GCL_STAT_CYCLE 0) 2).modPort 0
  (fun x => { x with cycling := true, gates := [(255, 100), (1, 100)] })
/-- A list of one entry waits on port 0; the rows count to a cycle start for CYCLE 2, not for CYCLE 3. -/
def pendState (cycle : Nat) : State := netState.modPort 0 (fun x => { x with pend := some ⟨[(255, 100)], true, cycle, 0⟩ })
/-- A shadow list of one entry of `ns` ns. -/
def shadowState (ns : Nat) : State := ((netState.put (Fld.NET_GCL_LEN_LEN 0) 1).put (Fld.NET_GCL_SHD_INTERVAL 0 0) ns).put
  (Fld.NET_GCL_SHD_GATES 0 0) 255

theorem witness_HaltsAndGates : netState.linkUp 0 = true ∧ netState.asleep = false ∧
    ((((netState.flag (Fld.NET_FC_CFG_PAUSE_RX 0) true).countNet 0 0 1).countNet 0 1 64).count (ctrNet 0 4)).on (Fld.NET_FC_CFG_PAUSE_RX 0) = true ∧
    (((netState.countNet 1 0 1).countNet 1 1 64).count (ctrNet 1 4)).on (Fld.NET_FC_CFG_PAUSE_RX 1) = false ∧
    netState.on (Fld.NET_STAT_LPITX 0) = false ∧ (netState.port 0).tx = none ∧
    (pauseState false).on (Fld.NET_FC_CFG_PAUSE_TX 0) = true ∧ ((pauseState false).port 0).xoffAll = false ∧
    1024 * (pauseState false).get (Fld.NET_FC_THR_XOFF 0) < (pauseState false).stored 0 (fun _ => true) ∧
    ((pauseState true).port 0).xoffAll = true ∧
    ((pauseState true).put (Fld.NET_FC_THR_XON 0) 1).stored 0 (fun _ => true) < 1024 * ((pauseState true).put (Fld.NET_FC_THR_XON 0) 1).get (Fld.NET_FC_THR_XON 0) ∧
    netState.stored 0 (fun _ => true) ≤ 1024 * netState.get (Fld.NET_FC_THR_XOFF 0) ∧
    gateState.gated 0 = true ∧ gateState.get (Fld.NET_GCL_STAT_ENTRY 0) + 1 < (gateState.port 0).gates.length ∧
    entryStart (gateState.port 0).gates 1 * gateState.fs < 2 ^ gateState.get (Fld.NET_GCL_STAT_CYCLE 0) * 1000000000 ∧
    netState.gated 0 = false ∧ ((pendState 2).port 0).pend.isSome = true ∧ (pendState 2).on (Fld.NET_GCL_STAT_EN 0) = false ∧
    (pendState 2).row.ticks = true ∧ (pendState 2).row.rowIdx.toNat % 2 ^ 2 = 0 ∧ (pendState 3).row.rowIdx.toNat % 2 ^ 3 ≠ 0 ∧
    ((pendState 2).port 0).queue = [] ∧
    (queued (shadowState 100) (directRec (Reg.NET_GCL_CTL 0) 1)).front (directRec (Reg.NET_GCL_CTL 0) 1) [] ∧
    gclSwapIs 0 (directRec (Reg.NET_GCL_CTL 0) 1) = true ∧ (shadowState 100).shadowGates 0 = ⟨[(255, 100)], false, 0, 0⟩ ∧
    (∀ e ∈ ((shadowState 100).shadowGates 0).entries, e.2 ≠ 0) ∧ (∃ e ∈ ((shadowState 0).shadowGates 0).entries, e.2 = 0) ∧
    (netState.shadowGates 0).entries = [] := by decide
theorem test_gate_step : (stateOf (exec (.gateEntryStart 0) gateState)).get (Fld.NET_GCL_STAT_ENTRY 0) = 1 := by decide
theorem test_gate_swap : ((stateOf (exec (.gclSwap 0) (queued (shadowState 100) (directRec (Reg.NET_GCL_CTL 0) 1)))).port 0).pend =
    some ⟨[(255, 100)], false, 0, 0⟩ := by decide

/-- Low-power idle is allowed on port 0. -/
def idleState : State := ((netState.put Fld.ENG_PROFILE_POLICY 2).flag (Fld.NET_EEE_CFG_EN 0) true).flag (Fld.NET_EEE_STAT_NEGOK 0) true
/-- Port 0 has a timestamp of the host. -/
def stampState : State := netState.modPort 0 (fun x => { x with stamps := [⟨false, 1, 0, 5, 0⟩, ⟨true, 2, 1, 7, 9⟩] })

theorem witness_IdleStampsAndTable : idleState.maySleep 0 0 = true ∧ netState.get Fld.ENG_PROFILE_POLICY ≠ 2 ∧
    (netState.flag (Fld.NET_STAT_LPITX 0) true).on (Fld.NET_STAT_LPITX 0) = true ∧ netState.on (Fld.NET_STAT_LPITX 0) = false ∧
    ((netQueued 0).port 0).queue ≠ [] ∧ (netState.port 0).queue = [] ∧ netState.linkUp 0 = true ∧ netState.linkUp 2 = false ∧ netState.portType 0 = 2 ∧ (netState.put (Fld.NET_STAT_SPEED_ACT 0) 3).portType 0 = 3 ∧
    (netState.put (Fld.NET_STAT_SPEED_ACT 0) 4).portType 0 = 4 ∧ (netState.put (Fld.NET_STAT_SPEED_ACT 0) 1).portType 0 = 1 ∧
    (0 : Word).getLsbD 0 = false ∧ (1 : Word).getLsbD 0 = true ∧ (popStamp true (stampState.port 0).stamps).isSome = true ∧
    popStamp true (netState.port 0).stamps = none := by decide
theorem test_timestamp_pop : (stateOf (exec (.txtsPop 0 1) stampState)).reg (Reg.NET_TXTS_INFO 0) = 0x90010002 := by decide

/-! ### Stream unit -/

/-- Receive configuration of one channel in format `fmt` on ports 0 and 1: destination 0x91E0F0000001, stream 7. -/
def flowCfg (fmt : Nat) : List Word :=
  [BitVec.ofNat 32 (fmt * 2 ^ 28 + 0x10000), 0x30000001, 0xF0000001, 0x91E0, 0xEF010101, 7, 0x13880000, 0x00600000, 0, 0x00060000, 0, 0x40, 0]
/-- The node with receive slot 3 in state `st` and format `fmt`, and its latch at 9. -/
def flowState (st fmt : Nat) : State := (netState.setRow { netState.row with ticked := true }).setFlow 3 { flowReset with
  state := st, cfg := flowCfg fmt, latch := 9 }
/-- The shadow configuration of a slot is that of one Malraing channel on port 0. -/
def bindState (n : Nat) : State := ((netState.setReg (fcfgBase + 0x40 * n) 0x00010000).setReg (fcfgBase + 0x40 * n + 4) 0x10000000).setReg
  (fcfgBase + 0x40 * n + 0x24) 0x00010000
/-- FCMD of slot 3: operation, direction. -/
def flowRec (op tx : Nat) : TpRec := directRec Reg.STR_FCMD (BitVec.ofNat 32 (op * 2 ^ 30 + tx * 256 + 3))
/-- Slot 3 drains since time 0; the media time base is at 3 ms. -/
def drainState : State := (flowState 5 0).modBase 0 (fun b => { b with acc := 3000000 * 65536 * accUnit })

set_option maxRecDepth 100000 in
theorem witness_FlowBinding : (queued (bindState 3) (flowRec 1 0)).front (flowRec 1 0) [] ∧ fcmdIs 1 false 3 (flowRec 1 0) = true ∧
    fcmdIs 1 true 3 (flowRec 1 1) = true ∧ fcmdIs 2 false 3 (flowRec 2 0) = true ∧ fcmdIs 2 true 3 (flowRec 2 1) = true ∧
    (bindState 3).bindReason 3 ((bindState 3).shadowCfg 3) = 0 ∧ (bindState 259).bindReason 259 ((bindState 259).shadowCfg 259) = 0 ∧
    netState.bindReason 3 [0xF0000000] = 2 ∧ (flowState 1 0).bindReason 3 ((bindState 3).shadowCfg 3) = 1 ∧
    ((flowState 1 0).flow 3).state = 1 ∧ ((flowState 3 0).flow 3).state = 3 ∧ ((flowState 0 0).flow 3).state = 0 ∧ 3 < ((flowState 4 0).flow 3).state ∧
    ((netState.setFlow 3 { flowReset with state := 4, fade := 64 }).fadeDone 3) = true ∧
    ((flowState 5 0).flow 3).state = 5 ∧ (((flowState 5 0).flow 3).drain + 2000000 > (flowState 5 0).tbNs (flowState 5 0).media) ∧
    ((drainState.flow 3).state = 5 ∧ (drainState.flow 3).drain + 2000000 ≤ drainState.tbNs drainState.media) ∧
    ((flowState 2 0).put Fld.STR_CFG_TIMEOUT 0).get Fld.STR_CFG_TIMEOUT ≤ ((flowState 2 0).flow 3).quiet ∧
    ((flowState 2 0).flow 3).quiet < ((flowState 2 0).put Fld.STR_CFG_TIMEOUT 1).get Fld.STR_CFG_TIMEOUT := by decide
theorem test_bindoff : ((stateOf (exec (.rxBindoff 3) (queued (flowState 2 0) (flowRec 2 0)))).flow 3).state = 4 := by decide
theorem test_drain_end : ((stateOf (exec (.flowDrainEnd false 3) drainState)).flow 3).state = 0 ∧
    ((stateOf (exec (.flowDrainEnd false 3) drainState)).flow 3).incarn = 1 := by decide

/-- The format's EUI-48, as the registers have it after reset. -/
def vsfEui : List Byte := beBytes (State.reset.get Fld.STR_VSF_EUI_HI_EUI) 2 ++ beBytes (State.reset.get Fld.STR_VSF_EUI_LO_EUI) 4
/-- A Malraing frame of stream 7 for row `x`: version byte, claim word, incarnation. -/
def malFrame (ver x : Nat) (claim incarn : Nat) : List Byte :=
  beBytes 0x91E0F0000001 6 ++ beBytes 9 6 ++ beBytes 0x22F0 2 ++ [0x6F, BitVec.ofNat 8 ver, BitVec.ofNat 8 x, 0] ++
  beBytes (0xEF010101 * 2 ^ 32 + 7) 8 ++ beBytes 0 4 ++ beBytes 22 2 ++ vsfEui ++ beBytes x 4 ++ beBytes claim 4 ++
  beBytes incarn 2 ++ [1, 0x31, 0, 0, 0, 0, 0, 0, 0x12, 0x34, 0x56, 0x78] ++ [0, 0, 0, 0]
/-- Slot 3 in ACTIVE with a copy of row `x` recorded. -/
def copyState (x claim : Word) : State := (flowState 2 0).modFlow 3 (fun f => { f with hist := [(x, claim)] })

set_option maxRecDepth 100000 in
theorem witness_MalraingReception : ((netState.matched 0 (malFrame 0x80 99 0 9)).filter (fun n => cfgFmt (netState.flow n).cfg == 0)) = [] ∧
    (((flowState 2 0).matched 0 (malFrame 0x80 99 0 9)).filter (fun n => cfgFmt ((flowState 2 0).flow n).cfg == 0)) = [3] ∧
    (((flowState 5 0).matched 0 (malFrame 0x80 99 0 9)).filter (fun n => cfgFmt ((flowState 5 0).flow n).cfg == 0)) = [3] ∧
    (((flowState 1 0).matched 0 (malFrame 0x80 99 0 9)).filter (fun n => cfgFmt ((flowState 1 0).flow n).cfg == 0)) = [3] ∧
    ((flowState 5 0).flow 3).state = 5 ∧ ((flowState 2 0).flow 3).state = 2 ∧ ((flowState 1 0).flow 3).state = 1 := by decide
set_option maxRecDepth 100000 in
theorem witness_MalraingReception_checks :
    ((flowState 2 0).countFrame 3).malFormed ((flowState 2 0).flow 3) (malFrame 0x80 99 0 9) = true ∧
    ((flowState 2 0).countFrame 3).malFormed ((flowState 2 0).flow 3) (malFrame 0x90 99 0 9) = false ∧
    ((flowState 1 0).countFrame 3).malFormed ((flowState 1 0).flow 3) (malFrame 0x80 99 0 9) = true ∧
    beAt (malFrame 0x80 99 0 8) 46 2 ≠ ((flowState 2 0).flow 3).latch ∧ laterThan 16 8 9 = false ∧
    frameBody (malFrame 0x80 99 0 9) + 24 = 38 ∧ beAt (malFrame 0x80 99 0 9) 46 2 = 9 ∧ beAt (malFrame 0x80 99 0 9) 50 1 / 32 % 2 = 0 ∧
    beAt (malFrame 0x80 99 0 9) 38 4 = 99 := by decide
theorem witness_MalraingReception_rows : (flowState 2 0).recvRow = 99 ∧ (flowState 2 0).pastDeadline 0 = false ∧
    (flowState 2 0).pastDeadline 0xFFFFFF = true ∧ ((flowState 2 0).setRow { (flowState 2 0).row with ticked := false }).pastDeadline 0 = true ∧
    copyOf ((flowState 2 0).flow 3).hist 99 = none ∧ copyOf ((copyState 99 0x11).flow 3).hist 99 = some 0x11 ∧ claimHigher 0x21 0x11 = true ∧
    claimHigher 0x11 0x11 = false ∧ (flowState 2 0).on Fld.STR_CFG_EARLY = ((flowState 2 0).on Fld.STR_CFG_EARLY) ∧
    ((flowState 2 0).flag Fld.STR_CFG_EARLY true).on Fld.STR_CFG_EARLY = true ∧
    ((flowState 2 0).flag Fld.STR_CFG_EARLY false).on Fld.STR_CFG_EARLY = false ∧ ((flowState 2 0).flow 3).early = none := by decide
set_option maxRecDepth 100000 in
theorem test_malraing_written : ((stateOf (exec (.malraingFrameReceive 0 (malFrame 0x80 99 0x21 9) 0) (flowState 2 0))).flow 3).words = [0x12345678] ∧
    ((stateOf (exec (.malraingFrameReceive 0 (malFrame 0x80 99 0x21 9) 0) (copyState 99 0x21))).flow 3).dup = 1 := by decide

/-- An AAF packet of stream 7 with a given version byte, sequence number 1 and time 0. -/
def aafPacket (ver : Nat) : List Byte :=
  beBytes 0x91E0F0000001 6 ++ beBytes 9 6 ++ beBytes 0x22F0 2 ++ [0x02, BitVec.ofNat 8 ver, 1, 0] ++ beBytes (0xEF010101 * 2 ^ 32 + 7) 8 ++
  beBytes 0 4 ++ [2, 0x70, 1, 32] ++ beBytes 24 2 ++ [0, 0] ++ List.replicate 24 0x11#8 ++ [0, 0, 0, 0]
/-- An RTP packet to 239.1.1.1, port 5000, payload type 96, from a source `ssrc`, with a given RTP version byte. -/
def rtpPacket (ver ssrc : Nat) : List Byte :=
  let ip (ck : Nat) : List Byte := [0x45, 0] ++ beBytes 64 2 ++ [0, 0, 0, 0, 5, 17] ++ beBytes ck 2 ++ beBytes 7 4 ++ beBytes 0xEF010101 4
  beBytes 0x01005E010101 6 ++ beBytes 9 6 ++ beBytes 0x0800 2 ++ ip (0xFFFF - onesSum (ip 0)) ++ beBytes 6000 2 ++ beBytes 5000 2 ++
  beBytes 44 2 ++ [0, 0, BitVec.ofNat 8 ver, 0x60, 0, 1] ++ beBytes 0 4 ++ beBytes ssrc 4 ++ List.replicate 24 0x11#8 ++ [0, 0, 0, 0]

set_option maxRecDepth 100000 in
theorem witness_PacketReception : ((netState.matched 0 (aafPacket 0x81)).filter (fun n => cfgFmt (netState.flow n).cfg == 1)) = [] ∧
    ((netState.matched 0 (rtpPacket 0x80 9)).filter (fun n => decide (2 ≤ cfgFmt (netState.flow n).cfg))) = [] ∧
    (((flowState 2 1).matched 0 (aafPacket 0x81)).filter (fun n => cfgFmt ((flowState 2 1).flow n).cfg == 1)) = [3] ∧
    (((flowState 4 1).matched 0 (aafPacket 0x81)).filter (fun n => cfgFmt ((flowState 4 1).flow n).cfg == 1)) = [3] ∧
    ((flowState 2 1).countFrame 3).aafFormed ((flowState 2 1).flow 3).cfg (aafPacket 0x81) = true ∧
    ((flowState 2 1).countFrame 3).aafFormed ((flowState 2 1).flow 3).cfg (aafPacket 0x91) = false ∧
    ((flowState 4 1).flow 3).state = 4 ∧ ((flowState 2 1).flow 3).state = 2 := by decide
set_option maxRecDepth 100000 in
theorem witness_PacketReception_rtp :
    (((flowState 2 2).matched 0 (rtpPacket 0x80 9)).filter (fun n => decide (2 ≤ cfgFmt ((flowState 2 2).flow n).cfg))) = [3] ∧
    (((flowState 4 2).matched 0 (rtpPacket 0x80 9)).filter (fun n => decide (2 ≤ cfgFmt ((flowState 4 2).flow n).cfg))) = [3] ∧
    rtpPayload (flowCfg 2) (rtpPacket 0x80 9) = some 54 ∧ rtpPayload (flowCfg 2) (rtpPacket 0x40 9) = none ∧ cfgBits (flowCfg 2) 8 31 0 = 0 ∧
    beAt (rtpPacket 0x80 9) (34 + 16) 4 = ((flowState 2 2).flow 3).latch ∧ beAt (rtpPacket 0x80 8) (34 + 16) 4 ≠ ((flowState 2 2).flow 3).latch ∧
    frameBody (rtpPacket 0x80 9) = 14 ∧ beAt (rtpPacket 0x80 9) 14 1 % 16 * 4 = 20 := by decide
theorem witness_PacketReception_deadline : ({ netState with str := ⟨[], true⟩ } : State).str.dead = true ∧ netState.str.dead = false ∧ netState.rxKeys = [] ∧
    (flowState 2 2).rxKeys = [3] ∧ cfgFmt ((flowState 2 2).flow 3).cfg ≠ 0 ∧ (flowState 3 2).rxKeys = [3] ∧ ((flowState 3 2).flow 3).state = 3 ∧
    ((flowState 3 2).flow 3).jit.find? (fun p => p.1 == (flowState 3 2).recvRow) = none ∧
    ((flowState 2 2).flow 3).jit.find? (fun p => p.1 == (flowState 2 2).recvRow) = none ∧
    ((((flowState 2 2).modFlow 3 (fun f => { f with jit := [(99, [5])] })).flow 3).jit.find? (fun p => p.1 == (flowState 2 2).recvRow)).isSome = true := by
  decide
set_option maxRecDepth 100000 in
theorem test_rtp_stale : (((stateOf (exec (.rtpPacketReceive 0 (rtpPacket 0x80 8)) (flowState 2 2))).flow 3).events.get (fun _ => 0) 5) = 1 := by
  decide

/-- Transmit slot 256 is bound on port 0, whose transmitter sleeps. -/
def asleepState : State := (netState.setFlow 256 { flowReset with state := 2, cfg := flowCfg 0 }).flag (Fld.NET_STAT_LPITX 0) true
theorem witness_IdleStampsAndTable_due : asleepState.txBound 0 = true ∧ asleepState.row.ticks = true ∧
    1000000000 + 1200 * asleepState.fs ≤ ((20000000 : BitVec 24).toNat + 1000 * asleepState.get (Fld.NET_EEE_STAT_TWTX 0)) * asleepState.fs ∧
    ¬ (1000000000 + 1200 * asleepState.fs ≤ ((0 : BitVec 24).toNat + 1000 * asleepState.get (Fld.NET_EEE_STAT_TWTX 0)) * asleepState.fs) ∧
    asleepState.on (Fld.NET_STAT_LPITX 0) = true ∧ (asleepState.port 0).queue = [] := by decide

/-! ### Serial lanes -/

/-- Lane 0 in state `st` with 10GBASE-R; its snapshot and estimator are at 0. -/
def laneState (st : Nat) : State := (netState.put (Fld.LANE_STAT_STATE 0) st).put (Fld.LANE_STAT_MODE 0) 2
/-- Lane 0 is UP and frozen. -/
def frozenState : State := (laneState 3).flag (Fld.LANE_STAT_FROZEN 0) true
/-- Lane 0 is in electrical idle. -/
def eidleState : State := (laneState 4).modLane 0 (fun x => { x with rxIdle := true })

set_option maxRecDepth 100000 in
theorem witness_LaneStates : (laneState 1).laneState 0 = 1 ∧ (laneState 2).laneState 0 = 2 ∧ (laneState 3).laneState 0 = 3 ∧
    (laneState 5).laneState 0 = 5 ∧ (laneState 0).laneState 0 < 3 ∧ (laneState 3).adapt 0 = 0 ∧
    (laneState 3).on (Fld.LANE_STAT_FROZEN 0) = false ∧ ((laneState 3).put (Fld.LANE_RXEQ_CFG_ADAPT 0) 1).adapt 0 ≠ 0 ∧
    frozenState.laneState 0 = 3 ∧ frozenState.on (Fld.LANE_STAT_FROZEN 0) = true ∧
    frozenState.drifts 0 (eqOf 0 0 0) (frozenState.eqAt 0 1) = false ∧ frozenState.drifts 0 (eqOf 15 31 0) (frozenState.eqAt 0 1) = true ∧
    eidleState.laneState 0 = 4 ∧ (eidleState.laneS 0).rxIdle = true ∧
    (eidleState.flag (Fld.LANE_STAT_SIGDET 0) true).fastExit 0 = true ∧
    (eidleState.flag (Fld.LANE_STAT_SIGDET 0) true).on (Fld.LANE_STAT_EIDLE_TX 0) = false := by decide
set_option maxRecDepth 100000 in
theorem test_lane_eidle : (stateOf (exec (.laneEidleEnter 0 0 0 0) (laneState 3))).laneState 0 = 4 ∧
    (stateOf (exec (.laneSignalDetect 0) eidleState)).on (Fld.LANE_STAT_SIGDET 0) = true := by decide

set_option maxRecDepth 100000 in
theorem witness_LaneStates_receiving : (laneState 3).receives 0 = true ∧ (laneState 4).laneState 0 = 4 ∧
    ((laneState 4).laneS 0).rxIdle = false ∧ (laneState 4).receives 0 = true ∧ eidleState.receives 0 = false ∧
    1024 * (laneState 3).get (Fld.LANE_RXEQ_CFG_FRZRUN 0) ≤ (0xFFFFFFFF : Word).toNat ∧
    (1 : Word).toNat < 1024 * ((laneState 3).put (Fld.LANE_RXEQ_CFG_FRZRUN 0) 1).get (Fld.LANE_RXEQ_CFG_FRZRUN 0) ∧
    ((laneState 3).flag (Fld.LANE_STAT_EIDLE_TX 0) true).on (Fld.LANE_STAT_EIDLE_TX 0) = true ∧
    ((laneState 3).flag (Fld.LANE_STAT_EIDLE_TX 0) false).on (Fld.LANE_STAT_EIDLE_TX 0) = false ∧
    (laneState 3).asleep = false := by decide
/-- Twin lane 4 with `k` blocks in its elastic buffer. -/
def fillState (k : Nat) : State := (netState.put (Fld.LANE_STAT_MODE 4) 5).modLane 4 (fun x => { x with fill := k })
set_option maxRecDepth 100000 in
theorem witness_LaneSettings_fill : (fillState 32).laneMode 4 ≠ 0 ∧ ((fillState 32).laneS 4).fill = 32 ∧
    ((fillState 0).laneS 4).fill = 0 ∧ 20 < ((fillState 21).laneS 4).fill ∧ ((fillState 11).laneS 4).fill < 12 ∧
    12 ≤ ((fillState 12).laneS 4).fill ∧ ((fillState 20).laneS 4).fill ≤ 20 := by decide

/-- Twin lane 4 has its mode. -/
def twinLane : State := netState.put (Fld.LANE_STAT_MODE 4) 5
/-- A host eye-scan point runs on lane 0. -/
def eyeState : State := (laneState 3).modLane 0 (fun x => { x with eye := true })

set_option maxRecDepth 100000 in
theorem witness_LaneSettings :
    (netState.writeReg (Reg.NET_CTL 0) 1).get (Fld.NET_CTL_SPEED 0) ≠ netState.get (Fld.NET_CTL_SPEED 0) ∧
    (netState.writeReg (Reg.NET_CTL 0) 0).get (Fld.NET_CTL_SPEED 0) = netState.get (Fld.NET_CTL_SPEED 0) ∧
    (netState.writeReg (Reg.LANE_CFG 0) 16).on (Fld.LANE_CFG_TXREF 0) ≠ netState.on (Fld.LANE_CFG_TXREF 0) ∧
    (netState.writeReg (Reg.LANE_CFG 0) 0).on (Fld.LANE_CFG_TXREF 0) = netState.on (Fld.LANE_CFG_TXREF 0) ∧
    (netState.writeReg (Reg.LANE_CFG 4) 32).on (Fld.LANE_CFG_EN 4) ≠ netState.on (Fld.LANE_CFG_EN 4) ∧
    (netState.writeReg (Reg.LANE_CFG 4) 0).on (Fld.LANE_CFG_EN 4) = netState.on (Fld.LANE_CFG_EN 4) ∧
    twinLane.laneMode 4 ≠ 0 ∧ netState.laneMode 4 = 0 ∧ txfirOk 0x00300000 = true ∧ txfirOk 0x00170000 = false := by decide
set_option maxRecDepth 100000 in
theorem witness_LaneSettings_loops : (laneState 3).laneState 0 ≠ 6 ∧ (laneState 3).inReset = false ∧ (4 : Word).toNat % 4 = 0 ∧
    (3 : Word).toNat % 4 = 3 ∧ ((laneState 2).put (Fld.LANE_LOOP_CTL_MODE 0) 3).laneState 0 ≠ 3 ∧
    (((laneState 3).put (Fld.PWR_CH_STAT_STATE 0) 3).put (Fld.LANE_LOOP_CTL_MODE 0) 1).foregroundOk = false ∧
    ((laneState 3).put (Fld.LANE_LOOP_CTL_MODE 0) 1).foregroundOk = true ∧     (0x80000000 : Word).msb = true ∧ (eyeState.laneS 0).eye = true ∧ (0 : Word).msb = false ∧ ((laneState 3).laneS 0).eye = false ∧
    badCodes (Reg.LANE_EYE_SEL 0) 0x80000000 = false ∧ (laneState 1).laneState 0 < 3 := by decide
/-- Twin lane 4 in a far-end loopback. -/
def twinLoop : State := ((twinLane.put (Fld.LANE_STAT_STATE 4) 6).put (Fld.LANE_LOOP_STAT_MODE 4) 3).put (Fld.LANE_LOOP_STAT_RESULT 4) 1
theorem witness_LaneSettings_release : twinLoop.laneState 4 = 6 ∧ twinLoop.nearEnd 4 = false ∧
    twinLoop.get (Fld.LANE_LOOP_STAT_MODE 4) ≠ 0 ∧ (twinLoop.setMode 4 (twinLoop.laneMode 4)).inReset = false := by
  refine ⟨by decide, by decide, by decide, ?_⟩
  unfold State.inReset
  rw [State.setMode_twin_boot]
  decide
theorem test_eye_point : (stateOf (exec (.eyePointDone 0 0xFFFFFFFF) eyeState)).get (Fld.LANE_EYE_ERR_ERR 0) =
    2 ^ (16 + eyeState.get (Fld.LANE_EYE_SEL_DWELL 0)) := by decide

/-! ### Local ports -/

/-- Local port 0 in state `st`; the start pre-clock is 4 rows, the method that of R378 where `m`. -/
def localState (st : Nat) (m : Bool) : State := ((netState.put (Fld.PORT_STAT_STATE 0) st).put (Fld.PORT_START_CFG_PRECLK 0) 4).flag
  (Fld.PORT_START_CFG_METHOD 0) m
/-- A command to port 0 or to group 0. -/
def portRec (op : Nat) : TpRec := directRec (Reg.PORT_CMD 0) (BitVec.ofNat 32 (op * 2 ^ 30))
def groupRec (op : Nat) : TpRec := directRec (Reg.GRP_CMD 0) (BitVec.ofNat 32 (op * 2 ^ 30))
/-- Port 0 is an output without an external clock that waits for data row 104, or for its group. -/
def armedState (grp : Bool) : State := ((localState 1 true).flag (Fld.TDM_CFG_MASTER 0) true).flag (Fld.PORT_START_CFG_GRP_EN 0) grp |>.modLport 0
  (fun x => { x with startAt := some 104 })

set_option maxRecDepth 100000 in
theorem witness_LocalPortStates : (queued (localState 0 false) (portRec 1)).front (portRec 1) [] ∧ portCmdIs 1 0 (portRec 1) = true ∧
    portCmdIs 2 0 (portRec 2) = true ∧ portCmdIs 3 0 (portRec 3) = true ∧ (localState 0 false).lstate 0 = 0 ∧
    (localState 0 false).portConfigOk 0 = true ∧ ((localState 0 false).put (Fld.TDM_CFG_OFFSET 0) 255).portConfigOk 0 = false ∧
    (localState 1 false).lstate 0 = 1 ∧ (localState 2 false).lstate 0 = 2 ∧ (localState 7 false).lstate 0 = 7 ∧ (localState 4 true).lstate 0 = 4 ∧
    (localState 3 true).on (Fld.PORT_START_CFG_METHOD 0) = true ∧ (localState 3 false).on (Fld.PORT_START_CFG_METHOD 0) = false ∧
    (localState 5 false).lstate 0 = 5 ∧ (localState 6 false).lstate 0 = 6 := by decide
set_option maxRecDepth 100000 in
theorem witness_LocalPortStates_groups : netState.group 0 = ⟨none, false⟩ ∧ (groupRec 1).value.getLsbD 29 = false ∧
    groupCmdIs 1 0 (groupRec 1) = true ∧ groupCmdIs 2 0 (groupRec 2) = true ∧ groupCmdIs 3 0 (groupRec 3) = true ∧
    (netState.setReg (Reg.GRP_ROW 0) 200).maxPreclk 0 + 1 ≤ ((netState.setReg (Reg.GRP_ROW 0) 200).reg (Reg.GRP_ROW 0) - netState.tickRow).toNat ∧
    ((netState.setReg (Reg.GRP_ROW 0) 200).reg (Reg.GRP_ROW 0) - netState.tickRow).toNat ≤ 2 ^ 24 ∧
    ((netState.setReg (Reg.GRP_ROW 0) 99).reg (Reg.GRP_ROW 0) - netState.tickRow).toNat < netState.maxPreclk 0 + 1 ∧
    State.reset.row.ticks = false ∧ (∀ g : Fin 4, (netState.group g).pin = false) ∧
    ((netState.setGroup 0 ⟨none, true⟩).group 0).pin = true ∧ (∀ h : Fin 4, h ≠ 0 → ((netState.setGroup 0 ⟨none, true⟩).group h).pin = false) := by
  decide
theorem witness_LocalPortStates_rows : (armedState false).lstate 0 = 1 ∧ (armedState false).row.ticks = true ∧ (armedState false).grouped 0 = false ∧
    (armedState true).grouped 0 = true ∧ (armedState false).portLocked 0 = true ∧ ((localState 1 true).flag (Fld.TDM_CFG_MASTER 0) false).portLocked 0 = false ∧
    ((armedState true).lport 0).startAt = some 104 ∧ (armedState true).row.rowIdx = 104 - BitVec.ofNat 32 ((armedState true).preclk 0) ∧
    ((armedState true).flag (Fld.TDM_CFG_MASTER 0) false).portLocked 0 = false ∧
    (((localState 2 true).modLport 0 (fun x => { x with startAt := some 100 })).lport 0).startAt = some (localState 2 true).row.rowIdx ∧
    (((localState 6 true).modLport 0 (fun x => { x with stopAt := some 96 })).lport 0).stopAt = some 96 ∧
    (localState 6 true).get (Fld.PORT_START_CFG_PRECLK 0) ≤ ((localState 6 true).row.rowIdx - 96).toNat ∧
    ((localState 6 true).row.rowIdx - 97).toNat < (localState 6 true).get (Fld.PORT_START_CFG_PRECLK 0) ∧
    ((localState 3 true).lport 0).zlate = false ∧
    ((localState 3 true).put (Fld.PORT_START_CFG_ZCTO 0) 0).zcRows 0 ≤ ((localState 3 true).row.rowIdx - ((localState 3 true).lport 0).zfrom).toNat ∧
    ((localState 3 true).row.rowIdx - ((localState 3 true).lport 0).zfrom).toNat < ((localState 3 true).put (Fld.PORT_START_CFG_ZCTO 0) 100).zcRows 0 ∧
    ((localState 7 true).flag (Fld.PORT_START_CFG_AUTO 0) true).on (Fld.PORT_START_CFG_AUTO 0) = true ∧
    (localState 7 true).fs ≤ (((localState 7 true).modLport 0 (fun x => { x with lockRows := 96000 })).lport 0).lockRows := by decide
set_option maxRecDepth 100000 in
theorem test_caston_arms : (stateOf (exec (.portCaston 0) (queued (localState 0 false) (portRec 1)))).lstate 0 = 1 := by decide
theorem test_bindoff_off : (stateOf (exec (.portBindoff 0) (queued (localState 7 false) (portRec 2)))).lstate 0 = 0 := by decide

theorem witness_LocalFrames : isAesOut 24 = true ∧ isAesOut 0 = false ∧ ((localState 4 false).flag (Fld.TDM_CFG_MASTER 0) false).slavePort 0 = true ∧ (armedState false).slavePort 0 = false ∧
    isTdm 0 = true ∧ (0 : BitVec 12).toNat ≠ (localState 4 false).tdmLen 0 ∧ (64 : BitVec 12).toNat = (localState 4 false |>.put (Fld.TDM_CFG_FLEN 0) 1).tdmLen 0 ∧
    (3 ≤ (localState 4 false).lstate 0 ∧ (localState 4 false).lstate 0 ≤ 6) ∧ ¬ (3 ≤ (localState 2 false).lstate 0) ∧
    ((localState 4 false).lport 0).errs = 0 ∧ 1 ≤ (((localState 4 false).modLport 0 (fun x => { x with errs := 1 })).lport 0).errs ∧
    (localState 4 false).portTol 0 < phaseDist ((localState 4 false).phaseOf (5000 : BitVec 16).toNat) ((localState 4 false).phaseOf
      ((localState 4 false).get (Fld.PORT_STAT_PHASE 0))) ∧
    ¬ (localState 4 false).portTol 0 < phaseDist ((localState 4 false).phaseOf (0 : BitVec 16).toNat) ((localState 4 false).phaseOf
      ((localState 4 false).get (Fld.PORT_STAT_PHASE 0))) ∧
    (localState 4 false).on (Fld.TDM_CFG_CLAIMRX 0) = false ∧ ((localState 4 false).lport 0).rebind = none ∧
    ((localState 4 false).lport 0).commitDue = false ∧ isAesIn 16 = true ∧ (localState 7 false).lstate 0 = 7 := by decide

/-! ### Time bases and the clock unit -/

/-- A master, and another sender's data. -/
def master (n : Nat) : Announce := ⟨n, 0, 128, 6, 0x21, 0, 128, n, 0, [], []⟩
/-- Time base 1 in state `st` with holdover reason `r`, a master, and the data of a change. -/
def baseState (st r : Nat) (f : TimeBase → TimeBase) : State := ((netState.put (Fld.TB_STAT_STATE 1) st).put (Fld.TB_STAT_REASON 1) r).modBase 1
  (fun b => f { b with sel := some (master 7), masters := [master 7] })
/-- The state after the offset and the counts of a sample, where the meaning goes on. -/
def sampled (s : State) (o : Int) (far bad wide : Bool) : State :=
  ((s.modBase 1 (fun b => { b with seqIn := some 1, info := [] })).showOffset 1 o).countRuns 1 far bad wide

set_option maxRecDepth 100000 in
theorem witness_TimeBases : (0x80000000 : Word).toNat % 4 = netState.get (Fld.TB_CTL_SOURCE 1) ∧ (0x80000000 : Word).msb = true ∧ netState.tbState 1 = 0 ∧
    netState.domainTaken 1 (netState.get (Fld.TB_PTPCFG_PROFILE 1)) (netState.get (Fld.TB_PTPCFG_DOMAIN 1)) = false ∧ (0 : Word).msb = false ∧
    (baseState 3 0 id).tbState 1 ≠ 0 ∧ (1 : Fin 4).val ≠ netState.media ∧ ((flowState 2 0).put (Fld.TB_STAT_STATE 0) 3).tbState 0 ≠ 0 ∧
    (0 : Fin 4).val = (flowState 2 0).media ∧ ((flowState 2 0).put (Fld.TB_STAT_STATE 0) 3).allFree = false := by decide
set_option maxRecDepth 100000 in
theorem witness_TimeBases_samples : (∀ q, ((baseState 1 0 id).base 1).seqIn = some q → laterThan 16 (1 : BitVec 16).toNat q.toNat = true) ∧
    ((baseState 1 0 (fun b => { b with seqIn := some 5 })).base 1).seqIn = some 5 ∧ laterThan 16 5 5 = false ∧ laterThan 16 6 5 = true ∧
    (baseState 1 0 id).tbClock 1 = false ∧ ((baseState 1 0 id).base 1).sel.isSome = true ∧
    (baseState 1 0 id).clockRuns = true ∧ (baseState 1 0 id).tbState 1 = 1 ∧ (sampled (baseState 1 0 id) 5 false false false).tbClock 1 = false ∧
    ((sampled (baseState 1 0 id) 5 false false false).base 1).pathOk = false ∧
    ((sampled (baseState 1 0 (fun b => { b with pathOk := true })) 5 false false false).base 1).pathOk = true ∧
    ((sampled (baseState 1 0 (fun b => { b with pathOk := true })) 5 false false false).base 1).good < 2 ∧
    2 ≤ ((sampled (baseState 1 0 (fun b => { b with pathOk := true, good := 2 })) 5 false false false).base 1).good ∧
    decide (250 * 65536 < (5 : Int).natAbs) = false ∧ decide ((netState.get (Fld.TB_STEPTHR_THR 1) : Int) < (5 : Int).natAbs) = false ∧
    decide ((netState.get (Fld.TB_STEPTHR_THR 1) : Int) < (5000 : Int).natAbs) = true := by decide
set_option maxRecDepth 100000 in
theorem witness_TimeBases_locked : (baseState 3 0 id).tbState 1 = 3 ∧ ((sampled (baseState 3 0 id) 5 false false false).base 1).restep = .none ∧
    (sampled (baseState 3 0 id) 5 false false false).tbState 1 = 3 ∧
    ((sampled (baseState 3 0 id) 5 false false false).base 1).offRun < (sampled (baseState 3 0 id) 5 false false false).get (Fld.TB_LOCKWIN_CNT 1) ∧
    3 ≤ ((sampled (baseState 3 0 (fun b => { b with outRun := 2 })) 5000 true false true).base 1).outRun ∧
    ((sampled (baseState 3 0 id) 5000 true false true).base 1).outRun < 3 ∧
    ((sampled (baseState 3 0 id) 5000 true false true).base 1).offRun < (sampled (baseState 3 0 id) 5000 true false true).get (Fld.TB_LOCKWIN_CNT 1) ∧
    (baseState 4 5 id).tbState 1 = 4 ∧ (sampled (baseState 4 5 id) 5 false false false).get (Fld.TB_STAT_REASON 1) = 5 ∧
    (sampled (baseState 4 1 id) 5 false false false).get (Fld.TB_STAT_REASON 1) = 1 := by decide
set_option maxRecDepth 100000 in
theorem witness_TimeBases_round : ((baseState 3 0 id).put (Fld.TB_PTPCFG_PROFILE 1) 3).ptpAs 1 = true ∧
    BitVec.ofNat 64 (((baseState 3 0 id).put (Fld.TB_PTPCFG_PROFILE 1) 3).ownAnnounce 1).gm ∈
      [BitVec.ofNat 64 (((baseState 3 0 id).put (Fld.TB_PTPCFG_PROFILE 1) 3).ownAnnounce 1).gm] ∧ (baseState 3 0 id).ptpAs 1 = false :=
  ⟨by decide, List.mem_singleton.2 rfl, by decide⟩
set_option maxRecDepth 100000 in
theorem witness_TimeBases_masters : (netState.base 1).sel = none ∧ ((baseState 3 0 id).base 1).sel = some (master 7) ∧
    ((((baseState 3 0 id).modBase 1 (fun b => { b with masters := b.masters.filter (fun x => x.sender != 7 || x.port != 0) })).selectMaster 1).base 1).sel = none ∧
    ((((baseState 3 0 (fun b => { b with masters := [master 7, master 8] })).modBase 1 (fun b =>
      { b with masters := b.masters.filter (fun x => x.sender != 7 || x.port != 0) })).selectMaster 1).base 1).sel ≠ none ∧
    ((baseState 3 0 id).put (Fld.TB_PTPCFG_PROFILE 1) 1).get (Fld.TB_PTPCFG_PROFILE 1) ≠ 0 ∧
    (((baseState 3 0 id).put (Fld.TB_PTPCFG_PORTS 1) 1).get (Fld.TB_PTPCFG_PORTS 1)).testBit 0 = true := by decide

/-- A command `op` with a low bit for time base `n`. -/
def baseRec (n op low : Nat) : TpRec := directRec (Reg.TB_CMD n) (BitVec.ofNat 32 (op * 2 ^ 28 + low))
/-- The media time base in state `st` with a re-step `x`; slot 3 is ACTIVE where `busy`. -/
def mediaState (st : Nat) (x : Restep) (busy : Bool) : State :=
  (((if busy then flowState 2 0 else netState).put (Fld.TB_STAT_STATE 0) st).put (Fld.TB_STAT_STATE 1) 3).modBase 0 (fun b => { b with restep := x })

set_option maxRecDepth 100000 in
theorem witness_TimeBaseCommands : (queued (baseState 1 0 id) (baseRec 1 1 0)).front (baseRec 1 1 0) [] ∧ tbCmd 1 1 (baseRec 1 1 0) = true ∧
    tbCmd 1 2 (baseRec 1 2 0) = true ∧ tbCmd 1 3 (baseRec 1 3 0) = true ∧ tbCmd 1 4 (baseRec 1 4 0) = true ∧ (baseState 1 0 id).tbState 1 = 1 ∧
    (baseState 3 0 id).tbState 1 ≠ 1 ∧ (baseState 3 0 id).tbRuns 1 = true ∧ (baseState 1 0 id).tbRuns 1 = false ∧ (baseState 4 5 id).tbState 1 = 4 ∧
    (baseState 4 5 id).get (Fld.TB_STAT_REASON 1) = 5 ∧ (baseState 4 1 id).get (Fld.TB_STAT_REASON 1) ≠ 5 ∧
    (baseState 1 0 id).mayRestep 1 = false ∧ (baseState 3 0 id).mayRestep 1 = true ∧ (1 : Fin 4).val ≠ (baseState 3 0 id).media := by decide
set_option maxRecDepth 100000 in
theorem witness_TimeBaseCommands_media : (queued (mediaState 3 .none false) (baseRec 0 2 0)).front (baseRec 0 2 0) [] ∧
    tbCmd 0 2 (baseRec 0 2 0) = true ∧ tbCmd 0 2 (baseRec 0 2 1) = true ∧ (baseRec 0 2 0).value.getLsbD 0 = false ∧ (baseRec 0 2 1).value.getLsbD 0 = true ∧
    (mediaState 3 .none false).mayRestep 0 = true ∧ (0 : Fin 4).val = (mediaState 3 .none false).media ∧ (mediaState 3 .none false).allFree = true ∧
    (mediaState 3 .none true).mayRestep 0 = true ∧ (mediaState 3 .none true).allFree = false ∧
    (directRec Reg.TB0_MEDIASEL 0).names [Reg.TB0_MEDIASEL] = true ∧ (directRec Reg.TB0_MEDIASEL 0).value.toNat % 4 = (mediaState 3 .none false).media ∧
    (directRec Reg.TB0_MEDIASEL 1).value.toNat % 4 ≠ (mediaState 3 .none false).media ∧ (mediaState 3 .none false).mayRestep 1 = true ∧
    (queued (mediaState 3 .none false) (directRec Reg.TB0_MEDIASEL 1)).front (directRec Reg.TB0_MEDIASEL 1) [] ∧
    ((mediaState 3 .none false).base (mediaState 3 .none false).media).restep = .none := by decide
theorem witness_TimeBaseCommands_restep : ((mediaState 3 (.binding none) false).base (mediaState 3 (.binding none) false).media).restep = .binding none ∧
    ((mediaState 3 (.binding (some 35)) false).base (mediaState 3 (.binding (some 35)) false).media).restep = .binding (some 35) ∧
    64 ≤ ((mediaState 3 (.binding (some 35)) false).tickRow - 35).toNat ∧
    ((mediaState 3 .prepared false).base (mediaState 3 .prepared false).media).restep = .prepared ∧
    ({ mediaState 3 .none false with row := rowReset } : State).row.ticks = false ∧
    ({ mediaState 3 .none false with row := rowReset } : State).tbRuns (mediaState 3 .none false).media = true ∧
    ({ mediaState 3 .none false with row := rowReset } : State).boot.causes = [] ∧ ({ mediaState 3 .none false with row := rowReset } : State).clockRuns = true ∧
    (mediaState 3 .none false).row.ticks = true := by decide
theorem test_clock_lock : (stateOf (exec .mediaClockLock { mediaState 3 .none false with row := rowReset })).row.ticks = true := by decide
set_option maxRecDepth 100000 in
theorem test_tb_hold : (stateOf (exec (.tbHold 1) (queued (baseState 3 0 id) (baseRec 1 3 0)))).tbState 1 = 4 := by decide

/-- Reference input `i` in stage `st` with priority 1. -/
def refState (i st : Nat) : State := (netState.put (Fld.CLK_REF_STAT_STAGE i) st).put (fdRefPrio i) 1
/-- The DPLL in state `st`, locked for 16 s. -/
def dpllState (st : Nat) : State := (netState.put Fld.CLK_STAT_STATE st).setClk { netState.clk with lockedRun := 128000 }
/-- A PTP port of time base 1: profile `pr`, port 0, grandmaster where `gm`. -/
def ptpState (pr : Nat) (gm : Bool) : State := ((((baseState 3 0 id).put (Fld.TB_PTPCFG_PROFILE 1) pr).put (Fld.TB_PTPCFG_PORTS 1) 1).flag
  (Fld.TB_STAT_GM 1) gm)

theorem witness_ReferencesAndMessages : 2 ≤ (refState 0 2).stage 0 ∧ (refState 0 1).stage 0 < 2 ∧ (refState 0 1).clockRuns = true ∧ (refState 0 1).stage 0 = 1 ∧
    (refState 0 1).get (fdRefPrio 0) ≠ 0 ∧ (0 : Fin 10).val < 4 ∧ ((4 : Fin 10).val < 8 ∧ ((refState 4 1).put (Fld.LANE_STAT_STATE 0) 3).laneState ((4 : Fin 10).val - 4) = 3) ∧ (refState 0 2).stage 0 ≠ 1 ∧ 5 < (refState 0 6).stage 0 ∧ (refState 0 5).stage 0 ≤ 5 ∧
    (netState.flag (Fld.CLK_REF_STAT_WTRRUN 0) true).on (Fld.CLK_REF_STAT_WTRRUN 0) = true ∧ netState.on (Fld.CLK_REF_STAT_WTRRUN 0) = false ∧
    (refState 2 5).stage 2 ≠ 0 ∧ (refState 2 5).clockRuns = true ∧ (refState 2 5).stage 2 ≠ 6 ∧
    decide ((((10000 : BitVec 16).toNat : Int) * 1000 - 10000000).natAbs * 50 ≤ 10000000) = true ∧
    decide ((((9799 : BitVec 16).toNat : Int) * 1000 - 10000000).natAbs * 50 ≤ 10000000) = false ∧
    ((netState.setRefIn 0 { netState.refIn 0 with seen := true }).refIn 0).seen = true ∧ (netState.refIn 0).seen = false ∧
    8 * (0 : BitVec 48).toNat * (netState.refPeriod 0).2 < 7 * (netState.refPeriod 0).1 ∧
    9 * (netState.refPeriod 0).1 < 8 * (0xFFFFFFFFFFFF : BitVec 48).toNat * (netState.refPeriod 0).2 := by decide
theorem witness_ReferencesAndMessages_dpll : netState.clockRuns = true ∧ (netState.setClk { netState.clk with xo := false }).clockRuns = false ∧
    (dpllState 2).dpll = 2 ∧ 128000 ≤ (dpllState 2).clk.lockedRun ∧ (dpllState 1).dpll ≠ 2 ∧ (dpllState 1).dpll = 1 ∧ (dpllState 3).dpll = 3 ∧
    (netState.flag (Fld.LANE_CFG_TXREF 0) true).on (Fld.LANE_CFG_TXREF 0) = true ∧ netState.on (Fld.LANE_CFG_TXREF 0) = false ∧
    netState.tb.esmcOn.getLsbD 0 = true ∧ (queued (dpllState 2) (directRec Reg.CLK_PHSTEP 5)).front (directRec Reg.CLK_PHSTEP 5) [] ∧
    (directRec Reg.CLK_PHSTEP 5).names [Reg.CLK_PHSTEP] = true ∧ (directRec Reg.CLK_PHSTEP 5).value ≠ 0x80000000 := by decide
set_option maxRecDepth 100000 in
theorem witness_ReferencesAndMessages_ptp :
    ((ptpState 1 true).modBase 1 (fun b => { b with masters := [] })).masterPort 1 0 = true ∧
    ((ptpState 1 true).modBase 1 (fun b => { b with masters := [] })).get (Fld.TB_PTPCFG_PROFILE 1) ≠ 3 ∧ (ptpState 1 true).ptpOn 1 1 = false ∧ (ptpState 3 false).ptpOn 1 0 = true ∧
    ¬ (ptpState 3 false).get (Fld.TB_PTPCFG_PROFILE 1) ≠ 3 ∧ (ptpState 1 true).get (Fld.TB_PTPCFG_PROFILE 1) ≠ 3 ∧ (2 : Fin 5).val < 3 ∧
    netState.linkUp 0 = true ∧ (⟨padFrame [1], 5, 0, 4, none, none, 0⟩ : TxFrame).wire ≤ netState.maxFrm 0 ∧ netState.linkUp 2 = false ∧
    netState.maxFrm 0 < (⟨List.replicate 2001 0, 5, 0, 4, none, none, 0⟩ : TxFrame).wire := by decide

/-! ### Host interface -/

/-- `n` bytes of a number, least significant first. -/
def leList (v n : Nat) : List Byte := (List.range n).map (fun i => BitVec.ofNat 8 (v / 256 ^ i))
/-- A descriptor. -/
def mkDesc (op p0 addr len p2 p3 : Nat) : Desc :=
  ⟨leList op 1 ++ [0] ++ leList 9 2 ++ leList p0 4 ++ leList addr 8 ++ leList len 4 ++ leList p2 4 ++ leList p3 8, 0, 0, false, none⟩
/-- Ring 5 of type `t` in state `st` with these descriptors fetched. -/
def ringOf (t st : Nat) (l : List Desc) : State := ((netState.put (Fld.RING_CFG_TYPE 5) t).put (Fld.RING_STAT_STATE 5) st).modRing 5
  (fun x => { x with fetched := l })
/-- A COMMAND ring with one descriptor, in boot phase `ph`, with fault 3 open. -/
def headState (ph : Nat) (d : Desc) : State :=
  let s := (ringOf 1 1 [d]).put Fld.BOOT_STAT_PHASE ph
  s.setHost { s.host with faults := [⟨3, .fetch 5⟩] }
/-- The head, its turn and its fields. -/
def headGood (d : Desc) : Bool := decide ((headState 4 d).headIs 5 d) && (headState 4 d).badField 5 d == none

set_option maxRecDepth 100000 in
theorem witness_RingCommands : (netState.ring 5).fetched = [] ∧ (headState 4 (mkDesc 0 1 0 0 0 0)).badField 5 (mkDesc 0 1 0 0 0 0) = some 4 ∧
    (headState 4 (mkDesc 0 1 0 0 0 0)).headIs 5 (mkDesc 0 1 0 0 0 0) ∧ headGood (mkDesc 0 0 0 0 0 0) = true ∧ (mkDesc 0 0 0 0 0 0).op = 0 ∧
    headGood (mkDesc 1 0 0 0 0 0) = true ∧ (mkDesc 1 0 0 0 0 0).op = 1 ∧ headGood (mkDesc 2 127 0x1000 4 32764 0) = true ∧
    headGood (mkDesc 3 127 0x1000 4 65532 0) = true ∧ headGood (mkDesc 4 0x10000 0x1000 2 0 0) = true ∧ headGood (mkDesc 5 0 0x1000 8 1 0) = true ∧
    headGood (mkDesc 6 0 0x1000 64 100663232 0) = true ∧ headGood (mkDesc 7 0 0x1000 64 0 0) = true := by decide
set_option maxRecDepth 100000 in
theorem witness_RingCommands_config : headGood (mkDesc 8 3 0 0 3 10) = true ∧ (mkDesc 8 3 0 0 3 10).op = 8 ∧ (mkDesc 8 3 0 0 3 10).p0 = 3 ∧
    headGood (mkDesc 8 4 0x1000 64 3 0) = true ∧ headGood (mkDesc 8 0x10 0 0 3 3600) = true ∧ headGood (mkDesc 8 0x11 0 0 3 1) = true ∧
    headGood (mkDesc 9 3 0 0 0 0) = true ∧ headGood (mkDesc 9 3 0 0 1 0) = true ∧
    ((headState 4 (mkDesc 9 3 0 0 0 0)).faultOf (mkDesc 9 3 0 0 0 0).p0).isSome = true ∧ headGood (mkDesc 10 0 0x1000 64 0 0) = true ∧
    headGood (mkDesc 10 1 0x1000 64 0 0) = true ∧ headGood (mkDesc 10 2 0x1000 64 0 0) = true ∧
    (((headState 4 (mkDesc 8 1 0 0 3 0)).put (Fld.TB_PTPCFG_PROFILE 3) 1).badField 5 (mkDesc 8 1 0 0 3 0)) = none ∧
    (((headState 4 (mkDesc 8 2 0 0 3 4)).put (Fld.TB_PTPCFG_PROFILE 3) 1).badField 5 (mkDesc 8 2 0 0 3 4)) = none ∧
    (ringOf 7 1 [mkDesc 0x20 3 0x1000 9212 0 0]).headIs 5 (mkDesc 0x20 3 0x1000 9212 0 0) ∧
    (ringOf 7 1 [mkDesc 0x20 3 0x1000 9212 0 0]).badField 5 (mkDesc 0x20 3 0x1000 9212 0 0) = none := by decide

/-- Ring 5 is disabled, with a COMPLETION ring 5 of 2^6 entries. -/
def offRing : State := (netState.flag Fld.HIF_HCTL_EN true)
/-- A real-time block of ring 5, complete or with 64 recorded rows. -/
def blockState (t : Nat) (b : RtBlock) : State := (ringOf t 1 []).modRing 5 (fun x => { x with blocks := [b] })
/-- A transfer of ring 5: opcode, bytes moved and byte count. -/
def moveState (op off len : Nat) : State := (ringOf 1 1 []).modRing 5 (fun x => { x with active := some ⟨mkDesc op 5 0 len 0 0, op, off, len, [], none⟩ })

set_option maxRecDepth 100000 in
theorem witness_RingStates : (ringOf 1 1 []).ringState 5 ≠ 0 ∧ offRing.ringState 5 = 0 ∧ 1 ≤ (0x82060000 : Word).toNat / 2 ^ 24 % 16 ∧
    (0x82060000 : Word).toNat / 2 ^ 24 % 16 ≤ 8 ∧ (0x82060000 : Word).msb = true ∧ (0x02060000 : Word).msb = false ∧
    (offRing.writeReg (Reg.RING_CFG 5) ((0x82060000 : Word) &&& 0x7FFFFFFF)).enableReason 5 = 0 ∧
    (offRing.writeReg (Reg.RING_CFG 5) ((0x81060000 : Word) &&& 0x7FFFFFFF)).enableReason 5 ≠ 0 := by decide
set_option maxRecDepth 100000 in
theorem witness_RingStates_reset : (ringOf 2 1 []).ringType 5 = 2 ∧
    (((ringOf 2 1 []).put (Fld.RING_CFG_TYPE 6) 1).put (Fld.RING_STAT_STATE 6) 1 |>.put (Fld.RING_CFG_CQ 6) 5).cqInUse 5 = true ∧
    (ringOf 1 1 []).ringType 5 ≠ 2 ∧ (ringOf 1 4 []).ringState 5 = 4 ∧ (ringOf 1 2 []).ringState 5 = 2 ∧ (ringOf 1 2 []).drained 5 = true ∧
    (ringOf 1 2 [mkDesc 0 0 0 0 0 0]).drained 5 = false ∧
    0 < (((ringOf 2 1 []).modRing 5 (fun x => { x with unsig := 1, age := 3 })).ring 5).unsig ∧
    ((ringOf 2 1 []).put (Fld.RING_CFG2_IROWS 5) 3).get (Fld.RING_CFG2_IROWS 5) ≠ 0 ∧
    ((ringOf 2 1 []).put (Fld.RING_CFG2_IROWS 5) 3).get (Fld.RING_CFG2_IROWS 5) ≤ (((ringOf 2 1 []).modRing 5 (fun x => { x with unsig := 1, age := 3 })).ring 5).age ∧
    (((ringOf 2 1 []).modRing 5 (fun x => { x with unsig := 1, age := 3 })).ring 5).age < ((ringOf 2 1 []).put (Fld.RING_CFG2_IROWS 5) 4).get (Fld.RING_CFG2_IROWS 5) := by
  decide
set_option maxRecDepth 100000 in
theorem witness_RingStates_blocks : (ringOf 8 1 [mkDesc 0x21 0 0x1000 9216 0 0]).ringType 5 = 8 ∧
    (ringOf 8 1 [mkDesc 0x21 0 0x1000 9216 0 0]).badField 5 (mkDesc 0x21 0 0x1000 9216 0 0) = none ∧ (mkDesc 0x30 64 0x1000 256 0 0).op = 0x30 ∧
    (mkDesc 0x30 64 0x1000 256 0 0).lost = none ∧
    (ringOf 5 1 [mkDesc 0x30 64 0x1000 256 0 0]).badField 5 (mkDesc 0x30 64 0x1000 256 0 0) = none ∧
    (ringOf 6 1 [mkDesc 0x30 64 0x1000 256 0 0]).ringType 5 = 6 ∧
    earlierThan 32 (BitVec.ofNat 32 (mkDesc 0x30 64 0x1000 256 0 0).p0).toNat ((ringOf 5 1 []).row.rowIdx + 16).toNat = true ∧
    (BitVec.ofNat 32 (mkDesc 0x30 128 0x1000 256 0 0).p0) = ((ringOf 5 1 []).setRow { rowReset with rowIdx := 112, ticks := true }).row.rowIdx + 16 ∧
    (((ringOf 5 1 [mkDesc 0x30 128 0x1000 256 0 0]).modRing 5 (fun x => { x with due := some 128 })).ring 5).due = some 128 := by decide
set_option maxRecDepth 100000 in
theorem witness_RingStates_ends : (netState.ring 5).blocks = [] ∧
    ((blockState 5 ⟨64, mkDesc 0x30 64 0 256 0 0, [], false, true, false, none⟩).ring 5).blocks = [⟨64, mkDesc 0x30 64 0 256 0 0, [], false, true, false, none⟩] ∧
    (blockState 5 ⟨64, mkDesc 0x30 64 0 256 0 0, [], false, true, false, none⟩).ringType 5 = 5 ∧ (List.replicate 64 [(5 : Word)]).length = 64 ∧
    (blockState 6 ⟨64, mkDesc 0x30 64 0 256 0 0, [], false, true, false, none⟩).ringState 5 ≠ 3 ∧
    (blockState 6 ⟨64, mkDesc 0x30 64 0 256 0 0, List.replicate 64 [5], false, false, false, none⟩).accOn (.record 5) = false ∧ (netState.ring 5).active = none ∧
    ((moveState 7 4 4).ring 5).active.isSome = true ∧ ((moveState 7 0 4).ring 5).active.isSome = true ∧ (moveState 7 4 4).ringState 5 ≠ 4 ∧
    ((moveState 2 4 4).ring 5).active.isSome = true ∧ (5 : Fin 64).val ∉ netState.boot.programs ∧
    (5 : Fin 64).val ∈ ({ moveState 10 4 4 with boot := { bootReset with programs := [5] } } : State).boot.programs := by decide

/-- An access of the doorbell page waits for its data under identifier 4. -/
def doorbellAcc : HostAcc := ⟨4, .doorbell, false, 0, 0x1000, 256, [], .data 0x1000 256, true, false⟩
/-- The node with that access. -/
def accState : State := netState.setHost { netState.host with accs := [doorbellAcc] }

theorem witness_HostAccesses : (∀ a ∈ netState.host.accs, (a.id == (4 : BitVec 16).toNat && a.sent) = false) ∧
    takeFirst (fun (a : HostAcc) => a.id == (4 : BitVec 16).toNat && a.sent) accState.host.accs = some (doorbellAcc, []) ∧
    doorbellAcc.what = .doorbell ∧ doorbellAcc.pos = .data 0x1000 256 ∧ accState.host.accs = [doorbellAcc] ∧ netState.host.accs = [] ∧
    badCodes Reg.XLT_INV_CTL 0x80000000 = false ∧ (0x80000000 : Word).msb = true ∧ (0 : Word).msb = false ∧ badCodes Reg.XLT_INV_CTL 0 = false ∧
    (netState.flag Fld.XLT_INV_STAT_BUSY true).on Fld.XLT_INV_STAT_BUSY = true ∧ netState.on Fld.XLT_INV_STAT_BUSY = false ∧
    (netState.flag Fld.XLT_INV_STAT_BUSY true).invalidateMayEnd = true := by decide
theorem test_bad_access : (stateOf (exec (.badHostAccess false true 0x123456) netState)).reg Reg.HIF_ACCERR_ADDR = 0x123456 := by decide

theorem witness_EventsAndMailboxes : eventListed 2 = true ∧ eventLevel 2 = false ∧ eventListed 250 = false ∧ eventLevel 96 = true ∧
    netState.row.ticks = true ∧ State.reset.row.ticks = false ∧ State.reset.evt.src = [] ∧ (netState.mbx 7).full = false ∧
    ((netState.setMbx 7 ⟨5, true⟩).mbx 7).full = true ∧ netState.evt.twbusy.getLsbD 3 = false ∧ netState.on Fld.TWN_STAT_TLUP = false ∧
    (netState.flag Fld.TWN_STAT_TLUP true).on Fld.TWN_STAT_TLUP = true ∧
    ({ netState with evt := { netState.evt with twbusy := 8 } } : State).evt.twbusy.getLsbD 3 = true := by decide
theorem test_mailbox_read : ((stateOf (exec (.mailboxRead 7) (netState.setMbx 7 ⟨5, true⟩))).mbx 7) = ⟨0, false⟩ ∧
    ((stateOf (exec (.mailboxWrite 7 6) (netState.setMbx 7 ⟨5, true⟩))).mbx 7) = ⟨5, true⟩ := by decide

/-! ### Twin link and referee -/

/-- The twin unit in state `st` with lane 4 up. -/
def twinIn (st : Nat) : State := (netState.put Fld.TWN_STAT_STATE st).flag Fld.TWN_STAT_LANE4 true
/-- A frame of type `t` with SEQ 9. -/
def twinBytes (t : Nat) (p : List Byte) : List Byte := twinFrame t 9 p
/-- The frame is new in state 2. -/
def twinGood (t : Nat) (p : List Byte) : Bool := decide ((twinIn 2).twinNew t (twinBytes t p) 9 p)

set_option maxRecDepth 100000 in
theorem witness_TwinFrames : (netState.twinUsable = false) ∧ (twinIn 0).twinState = 0 ∧ (twinIn 2).twinUsable = true ∧ (twinIn 2).twinState ≠ 0 ∧
    twinParse [0x78] = none ∧ twinParse (twinBytes 5 (List.replicate 16 0)) = some (5, 9, List.replicate 16 0) ∧
    payloadFits 5 16 (List.replicate 16 0) = false ∧ twinGood 2 (List.replicate 16 1) = true ∧ twinGood 5 (List.replicate 8 1) = true ∧
    twinGood 6 (List.replicate 8 7) = true ∧ beAt (List.replicate 8 7) 0 1 < 8 ∧ twinGood 8 (List.replicate 8 7) = true ∧
    twinGood 7 [7, 0, 0, 0, 0, 0, 0, 0] = true ∧ twinGood 7 [7, 1, 0, 0, 0, 0, 0, 0] = true ∧
    ((({ twinIn 2 with evt := { netState.evt with twbusy := 128 } } : State).evt.twbusy.getLsbD 7)) = true ∧
    (netState.twn.mbxSeq.get (fun _ => 0) 7).toNat = beAt [7, 1, 0, 0, 0, 0, 0, 0] 4 4 := by decide
set_option maxRecDepth 100000 in
theorem witness_TwinFrames_long : twinGood 1 (List.replicate 32 1) = true ∧ twinGood 4 (1 :: List.replicate 31 0) = true ∧
    twinGood 9 (List.replicate 24 1) = true ∧ (twinIn 2).twn.measured = false ∧ (twinIn 2).twn.pongs.length < 8 := by decide
set_option maxRecDepth 100000 in
theorem witness_TwinFrames_digest : twinGood 3 (List.replicate 152 1) = true := by decide
/-- A MIRROR frame that has been sent again `n` times. -/
def retryState (n : Nat) : State := (twinIn 4).setTwn { (twinIn 4).twn with unacked := [⟨7, [List.replicate 24 0], n⟩] }
theorem witness_TwinFrames_retry : netState.twn.unacked.find? (fun m => m.seq == 7) = none ∧
    (retryState 3).twn.unacked.find? (fun m => m.seq == 7) = some ⟨7, [List.replicate 24 0], 3⟩ ∧
    (retryState 4).twn.unacked.find? (fun m => m.seq == 7) = some ⟨7, [List.replicate 24 0], 4⟩ ∧ (retryState 4).twn.pause = false := by decide
set_option maxRecDepth 100000 in
theorem test_twin_frame_bytes : (twinFrame 5 9 (List.replicate 8 0)).take 8 = [0x78, 5, 0, 1, 0, 0, 0, 9] := by decide

/-- The twin unit with changed data. -/
def twinWith (st : Nat) (f : TwnS → TwnS) : State := (twinIn st).setTwn (f (twinIn st).twn)
set_option maxRecDepth 100000 in
theorem witness_TwinUnit : netState.twinState = 0 ∧ (netState.writeReg Reg.TWN_CFG 0x80000000).twinState = 0 ∧
    (netState.writeReg Reg.TWN_CFG 0).twinState = 0 ∧ (1 : Word).getLsbD 0 = true ∧ (twinWith 2 (fun t => { t with checked := true })).waitsJoin = true ∧
    netState.waitsJoin = false ∧ (twinIn 1).twinState = 1 ∧ (twinIn 3).twinState = 3 ∧ (twinIn 4).twn.pause = false ∧ (twinIn 4).row.ticks = true ∧
    2 ≤ (twinWith 4 (fun t => { t with noHb := 3 })).twn.noHb ∧ (twinWith 4 (fun t => { t with noHb := 3 })).twn.noHb < 4 ∧
    4 ≤ (twinWith 4 (fun t => { t with noHb := 4, lost := false })).twn.noHb ∧ (twinWith 4 (fun t => { t with noHb := 4, lost := false })).twn.lost = false ∧
    ((twinWith 4 (fun t => { t with noHb := 4, lost := false })).flag Fld.TWN_STAT_PALIVE false).twinUsable = true ∧ (twinIn 4).paired = true ∧
    (twinIn 4).on Fld.TWN_STAT_TLUP = false ∧
    (twinWith 4 (fun t => { t with downRows := 100000 })).get Fld.TWN_CFG2_LINKTO ≤ (twinWith 4 (fun t => { t with downRows := 100000 })).twn.downRows ∧
    (twinIn 2).paired = false ∧ (twinIn 3).twn.settle = 0 := by decide
set_option maxRecDepth 100000 in
theorem witness_TwinUnit_timers : (twinIn 4).disturbed = false ∧ (twinWith 4 (fun t => { t with own := [⟨1, [], [], false⟩] })).twn.own = [⟨1, [], [], false⟩] ∧
    (twinIn 2).twn.pings < 8 ∧ (twinIn 2).twn.measured = false ∧ ((twinIn 4).put Fld.TWN_REFCTL_REFPORT 9).get Fld.TWN_REFCTL_REFPORT ≠ 0 ∧
    ((twinIn 4).put Fld.TWN_REFIP_ADDR 9).get Fld.TWN_REFIP_ADDR ≠ 0 ∧ netState.on Fld.REF_CFG_EN = false ∧
    (netState.flag Fld.REF_CFG_EN true).on Fld.REF_CFG_EN = true ∧ (List.replicate 19 (0 : BitVec 8)).length ≠ 20 ∧
    (beBytes 0xD72E0102 4 ++ beBytes (netState.get Fld.TWN_CFG_PAIRID) 2 ++ List.replicate 26 0).length = 32 ∧
    beAt (beBytes 0xD72E0102 4 ++ beBytes (netState.get Fld.TWN_CFG_PAIRID) 2 ++ List.replicate 26 0) 0 4 = 0xD72E0102 ∧
    beAt (beBytes 0xD72E0102 4 ++ beBytes (netState.get Fld.TWN_CFG_PAIRID) 2 ++ List.replicate 26 0) 4 2 = netState.get Fld.TWN_CFG_PAIRID ∧
    netState.twn.grants = [] ∧
    (twinWith 4 (fun t => { t with grants := [(7, true)] })).twn.grants = (7, true) :: [] ∧
    (twinWith 4 (fun t => { t with prst := true })).twn.prst = true ∧ netState.twn.prst = false := by decide
theorem test_settle_end : (stateOf (exec .settleEnd (twinIn 3))).twinState = 4 := by decide

/-! ### Supply, power states, boot and swatch -/

/-- The node in Standby, in Idle, or Active; with a transition under way. -/
def powerState (st : Nat) (m : PowerMove) : State := { netState.put Fld.SUP_PWR_STAT_STATE st with
  sup := { supReset with move := m } }
/-- The node is Off. -/
def offState : State := { netState with
  sup := { supReset with powered := false } }
/-- The node with other supply data. -/
def supWith (f : SupS → SupS) : State := { netState with
  sup := f supReset }

set_option maxRecDepth 100000 in
theorem witness_BusAndRails : netState.sup.powered = true ∧ offState.sup.powered = false ∧ netState.on Fld.SUP_RAIL_STAT_OV = false ∧
    (netState.flag Fld.SUP_RAIL_STAT_OV true).on Fld.SUP_RAIL_STAT_OV = true ∧ netState.on Fld.SUP_RAIL_STAT_PFW = false ∧
    (netState.inReset || netState.asleep) = false ∧ ((powerState 1 .none).inReset || (powerState 1 .none).asleep) = true ∧
    (powerState 1 .none).on Fld.SUP_RAIL_STAT_PFW = false ∧
    (netState.flag Fld.SUP_RAIL_STAT_PFW true).on Fld.SUP_RAIL_STAT_PFW = true ∧ (powerState 1 .none).nodeState = 1 ∧ netState.nodeState ≠ 1 ∧
    (netState.flag Fld.SUP_SAG_CFG_EN true).on Fld.SUP_SAG_CFG_EN = true ∧ netState.on Fld.SUP_RAIL_STAT_SAG = false ∧
    (netState.flag Fld.SUP_RAIL_STAT_SAG true).on Fld.SUP_RAIL_STAT_SAG = true ∧ netState.on Fld.SUP_RAIL_STAT_CLATCH = false ∧
    (supWith (fun x => { x with restart := some 1 })).sup.restart ≠ none ∧ (supWith (fun x => { x with restart := some 1 })).on Fld.SUP_RAIL_STAT_CLATCH = false ∧
    (netState.flag Fld.SUP_RAIL_STAT_CLATCH true).on Fld.SUP_RAIL_STAT_CLATCH = true ∧ (1 : Fin 7).val ≤ 4 ∧ 4 < (5 : Fin 7).val ∧ (3 : Fin 4).val ≠ 0 := by decide
set_option maxRecDepth 100000 in
theorem test_rail_fault : (stateOf (exec (.railFault 2 1 5) netState)).inReset = true := by decide
set_option maxRecDepth 100000 in
theorem test_power_off : (stateOf (exec .vbusUndervoltage netState)).sup.powered = false := by decide

set_option maxRecDepth 100000 in
theorem witness_PowerStates : (powerState 2 .none).nodeState = 2 ∧ (powerState 3 .none).nodeState ≠ 2 ∧ (powerState 3 .none).powerReason 1 ≠ 0 ∧
    (powerState 3 .none).powerReason 2 = 0 ∧ (powerState 2 .none).powerReason 1 = 0 ∧
    (((powerState 2 .none).put Fld.SUP_PWR_CTL_REQ 1).put Fld.SUP_PWR_STAT_REASON 0).marchAsked = false ∧
    ({ powerState 2 .none with swt := { swtReset with fg := some (2, 0) } } : State).marchAsked = true ∧
    (powerState 2 (.atTick 3)).sup.move ≠ .none ∧ (powerState 2 .none).sup.move = .none ∧ (powerState 2 .none).mayIdle = true ∧
    ((powerState 3 .none).setCore 5 { coreReset with state := .row }).mayIdle = false ∧ (powerState 1 .none).nodeState = 1 ∧
    (powerState 1 (.entering 0)).sup.move = .entering 0 ∧ (1 : Word).getLsbD 0 = true ∧
    (netState.flag Fld.SUP_STBY_CFG_PINEN true).on Fld.SUP_STBY_CFG_PINEN = true ∧ netState.on Fld.SUP_STBY_CFG_PINEN = false ∧
    netState.wakeFrame 0 [] = false ∧ netState.alarmDue = false ∧
    (((netState.flag Fld.SUP_STBY_CFG_ALMEN true).put (Fld.TB_STAT_STATE 0) 3).put Fld.SUP_ALARM_SEC_LO_SEC 0).alarmDue = true := by decide
set_option maxRecDepth 100000 in
theorem witness_PowerStates_resets : (powerState 1 (.entering 2)).sup.move = .entering 2 ∧ (powerState 1 .waking).sup.move = .waking ∧
    netState.inReset = false ∧ ({ netState with boot := { bootReset with causes := [1] } } : State).inReset = true ∧
    (0xA5000001 : Word).toNat / 2 ^ 24 = 0xA5 ∧ (0xA5000001 : Word).getLsbD 0 = true ∧ (1 : Word).toNat / 2 ^ 24 ≠ 0xA5 ∧ netState.clk.xo = true ∧
    (netState.setClk { netState.clk with xo := false }).clk.xo = false := by decide
set_option maxRecDepth 100000 in
theorem test_perst_holds : (stateOf (exec .perstAssert netState)).boot.causes = [4] := by decide
/-- Wake frames are enabled on port 0 with type 0x88B5. -/
def wakeState : State := ((powerState 1 .none).flag Fld.SUP_STBY_CFG_WOLEN true).put Fld.SUP_STBY_CFG_ETYPE 0x88B5
set_option maxRecDepth 100000 in
theorem witness_PowerStates_frame : wakeState.wakeFrame 0 (ethFrame 0 0x88B5) = true := by decide
set_option maxRecDepth 100000 in
theorem witness_PowerStates_frame_fields : wakeState.on Fld.SUP_STBY_CFG_WOLEN = true ∧ wakeState.get Fld.SUP_STBY_CFG_PORT = 0 ∧
    wakeState.linkUp 0 = true ∧ fcsGood (ethFrame 0 0x88B5) = true ∧ 64 ≤ (ethFrame 0 0x88B5).length ∧
    (ethFrame 0 0x88B5).length ≤ 1522 ∧ frameDst (ethFrame 0 0x88B5) = wakeState.macOf 0 ∧
    frameType (ethFrame 0 0x88B5) = wakeState.get Fld.SUP_STBY_CFG_ETYPE ∧
    beAt (ethFrame 0 0x88B5) (frameBody (ethFrame 0 0x88B5)) 4 = wakeState.get Fld.SUP_WOL_KEY_HI_KEY ∧
    beAt (ethFrame 0 0x88B5) (frameBody (ethFrame 0 0x88B5) + 4) 4 = wakeState.get Fld.SUP_WOL_KEY_LO_KEY := by decide
/-- In Idle, with nothing that keeps the node from Standby. -/
def restingState : State := powerState 2 .none
set_option maxRecDepth 100000 in
theorem witness_PowerStates_reasons : restingState.nodeState ≠ 3 ∧ restingState.mayIdle = true ∧ restingState.str.flow = [] ∧
    (restingState.setLstate 3 1).lstate 3 ≠ 0 ∧ (restingState.setLstate 3 1).mayIdle = true ∧
    (restingState.put (Fld.PWR_CH_STAT_STATE 2) 3).chState 2 ≠ 0 ∧ (restingState.put (Fld.PWR_CH_STAT_STATE 2) 3).chState 2 ≠ 7 ∧
    restingState.get Fld.TWN_STAT_STATE = 0 ∧ restingState.on Fld.REF_CFG_EN = false ∧
    (restingState.flag Fld.REF_CFG_EN true).on Fld.REF_CFG_EN = true ∧ restingState.on Fld.SUP_STBY_CFG_WOLEN = false ∧
    (∀ p < 34, restingState.lstate p = 0) ∧ (∀ c < 8, restingState.chState c = 0) ∧
    ((restingState.flag Fld.SUP_STBY_CFG_WOLEN true).flag (Fld.NET_STAT_LINK 0) false).on Fld.SUP_STBY_CFG_WOLEN = true ∧
    ((restingState.flag Fld.SUP_STBY_CFG_WOLEN true).flag (Fld.NET_STAT_LINK 0) false).linkUp 0 = false := by decide
/-- The alarm is due. -/
def alarmState (m : PowerMove) : State :=
  ((powerState 1 m).flag Fld.SUP_STBY_CFG_ALMEN true).put (Fld.TB_STAT_STATE 0) 3
set_option maxRecDepth 100000 in
theorem witness_PowerStates_alarm : (alarmState .none).on Fld.SUP_STBY_CFG_ALMEN = true ∧
    (alarmState .none).tbState (alarmState .none).media ≠ 0 ∧
    (alarmState .none).get Fld.SUP_ALARM_SEC_LO_SEC + 2 ^ 32 * (alarmState .none).get Fld.SUP_ALARM_SEC_HI_SEC ≤
      (alarmState .none).tbNs (alarmState .none).media / 1000000000 ∧
    (alarmState (.entering 0)).sup.move = .entering 0 ∧
    (((alarmState (.entering 0)).loseState.showState 1).put Fld.SUP_RAIL_STAT_OK 0x1E).alarmDue = true ∧
    (((powerState 1 (.entering 0)).loseState.showState 1).put Fld.SUP_RAIL_STAT_OK 0x1E).alarmDue = false := by decide
set_option maxRecDepth 100000 in
theorem witness_PowerStates_keys : (0xA5000000 : Word).toNat / 2 ^ 24 = 0xA5 ∧ (0xA5000000 : Word).getLsbD 0 = false ∧
    netState.sup.powered = true ∧ offState.sup.powered = false := by decide

/-- An image of one start-up section with one record of an operation. -/
def seqImage (op a v m : Nat) : List Byte :=
  List.replicate 6 0 ++ [1, 0] ++ List.replicate 56 0 ++ leList 8 4 ++ leList 128 4 ++ leList 24 4 ++ List.replicate 52 0 ++
  leList op 4 ++ leList a 4 ++ leList v 4 ++ leList m 4 ++ leList 0 8
/-- The boot in phase `ph` with an image of slot A. -/
def bootState (ph : Nat) (b : List Byte) (f : BootS → BootS) : State := { netState.put Fld.BOOT_STAT_PHASE ph with
  boot := f { bootReset with image := some ⟨b, 0⟩ } }
/-- The record that runs, for an operation. -/
def seqState (op a v m : Nat) (f : BootS → BootS) : State := bootState 5 (seqImage op a v m) f

set_option maxRecDepth 100000 in
theorem witness_Boot : netState.sup.powered = true ∧ offState.sup.powered = false ∧ offState.on Fld.SUP_RAIL_STAT_CLATCH = false ∧
    (bootState 2 [] id).mayRelease = false ∧ ({ netState with boot := { bootReset with causes := [9] } } : State).mayRelease = true ∧
    headerOk [] = false ∧ ({ netState with boot := { bootReset with order := [0, 1, 2] } } : State).boot.order = 0 :: [1, 2] ∧
    netState.inReset = false ∧ netState.bootPhase = 0 ∧ netState.slotReason 0 none ≠ 0 ∧ netState.slotReason 0 (some []) ≠ 0 ∧ netState.boot.order = [] ∧ netState.boot.image = none ∧
    (bootState 1 [] id).boot.image = some ⟨[], 0⟩ ∧ (bootState 1 [] id).bootPhase = 1 ∧
    (∀ e ∈ (bootState 1 [] (fun b => { b with events := [(235, 0)] })).boot.events ++ (bootState 1 [] id).sup.owed, e.1 < 256) ∧
    (bootState 2 [] id).bootPhase = 2 ∧ (((bootState 2 [] id).put Fld.BOOT_STAT_PHASE 3).loadSections [] (imgSections [])).2 = true ∧
    (((bootState 2 [] id).put Fld.BOOT_STAT_PHASE 3).loadSections [] (imgSections [])).1.boot.hostLoad = none := by decide
set_option maxRecDepth 100000 in
theorem witness_Boot_trial : (bootState 2 [] id).bootPhase < 4 ∧ (bootState 2 [] id).bootSource < 2 ∧ 4 ≤ (bootState 4 [] id).bootPhase ∧
    (bootState 4 [] (fun b => { b with trial := true })).boot.trial = true ∧ (bootState 4 [] id).boot.trial = false ∧
    (bootState 4 [] id).regServed = true ∧ (bootState 4 [] id).bootPhase ≠ 6 ∧ netState.regServed = false ∧ (bootState 6 [] id).bootPhase = 6 ∧
    ((bootState 6 [] id).flag Fld.HIF_HCTL_EN true).on Fld.HIF_HCTL_EN = true ∧ (bootState 6 [] id).ringKeys = [] := by decide
set_option maxRecDepth 100000 in
theorem witness_Boot_sequence : ((seqState 1 Reg.ENG_PROFILE 5 0 id).seqNow 1).isSome = true ∧ ((seqState 2 0 3 0 id).seqNow 2).isSome = true ∧
    (seqState 2 0 3 0 id).boot.seqRows = 0 ∧ (seqState 2 0 3 0 (fun b => { b with seqRows := 3 })).boot.seqRows ≠ 0 ∧
    ((seqState 3 Reg.ENG_PROFILE 0 0 id).seqNow 3).isSome = true ∧ ((seqState 4 0 0 0 id).seqNow 4).isSome = true ∧
    (seqState 1 Reg.ENG_PROFILE 5 0 (fun b => { b with seqTick := true })).boot.seqTick = true ∧ isTimed Reg.TB0_MEDIASEL = true ∧
    isTimed Reg.ENG_PROFILE = false ∧ onSupply Reg.ENG_PROFILE = false ∧ onSupply Reg.PWR_CTL = true := by decide

/-- Registers are served, and the image runs that an SVN of 3 and key `k` name. -/
def fuseState (k : Nat) (f : BootS → BootS) : State := bootState 4 (List.replicate 16 0 ++ [3, BitVec.ofNat 8 k]) f
/-- The swatch unit with other data. -/
def swatchState (f : SwtS → SwtS) : State := { netState with
  swt := f swtReset }

set_option maxRecDepth 100000 in
theorem witness_FusesAndSwatch : netState.regServed = false ∧ (fuseState 0 id).regServed = true ∧ (fuseState 0 id).boot.fuseOp = none ∧
    (fuseState 0 (fun b => { b with fuseOp := some (1, 5) })).boot.fuseOp = some (1, 5) ∧ (fuseState 0 id).fuseRefused 1 = false ∧
    (fuseState 0 id).fuseRefused 2 = false ∧ (fuseState 0 id).fuseRefused 3 = true ∧ (fuseState 0 id).fuseRefused 4 = false ∧
    (fuseState 1 (fun b => { b with fuses := ⟨some [], some [], false, 0⟩ })).fuseRefused 3 = false ∧
    (fuseState 0 (fun b => { b with fuses := ⟨some [], some [], false, 9⟩ })).fuseRefused 4 = true ∧
    (fuseState 0 id).runningSvn = some (0, 3, 0) ∧ offState.sup.powered = false ∧ netState.sup.powered = true ∧ 1 ≤ netState.jtagLevel ∧
    netState.boot.jtag ≠ .extest ∧ (0x80000001 : Word).msb = true ∧ badCodes Reg.SWT_FG_CTL 0x81000000 = false ∧
    (netState.writeReg Reg.SWT_FG_CTL 0x81000000).get Fld.SWT_FG_CTL_TEST ≠ 0 ∧ (0 : Word).msb = false := by decide
set_option maxRecDepth 100000 in
theorem witness_FusesAndSwatch_foreground : ((chanState 0 3).put Fld.SWT_FG_STAT_TEST 1).foregroundOk = false ∧
    (netState.put Fld.SWT_FG_STAT_TEST 1).foregroundOk = true ∧ ((chanState 0 7).put Fld.SWT_FG_STAT_TEST 1).foregroundOk = true ∧
    ((chanState 0 7).put Fld.SWT_FG_STAT_TEST 1).chState 0 ≠ 0 ∧ (swatchState (fun x => { x with fg := some (1, 3) })).swt.fg = some (1, 3) ∧
    (∀ c, netState.swt.fg ≠ some (1, c)) ∧ (500 : Int).natAbs ≤ 500 ∧ (-100 : Int).natAbs ≤ 100 ∧ ¬ (501 : Int).natAbs ≤ 500 ∧
    (swatchState (fun x => { x with fg := some (2, 0) })).marchAsked = true ∧ (swatchState (fun x => { x with fg := some (2, 0) })).swt.marching = false ∧
    netState.marchAsked = false ∧ (swatchState (fun x => { x with marching := true })).swt.marching = true := by
  refine ⟨by decide, by decide, by decide, by decide, by decide, ?_, by decide, by decide, by decide, by decide, by decide, by decide, by decide⟩
  intro c h
  cases h
set_option maxRecDepth 100000 in
theorem witness_FusesAndSwatch_swatches : (netState.flag Fld.SWT_CORE_CFG_EN false).on Fld.SWT_CORE_CFG_EN = false ∧ netState.on Fld.SWT_CORE_CFG_EN = true ∧
    netState.testsStopped 2 = false ∧ netState.gaugeLow = true ∧ netState.row.migration = none ∧ netState.tested 2 = none ∧
    (swatchState (fun x => { x with testing := [(2, some 130)] })).tested 2 = some (128 + 2) ∧
    (laneState 3).laneState 0 = 3 ∧ (laneState 2).laneState 0 ≠ 3 ∧ ((laneState 3).flag Fld.SWT_EYE_CFG_EN true).on Fld.SWT_EYE_CFG_EN = true ∧
    ((0 : BitVec 6).toNat < (netState.put Fld.SWT_EYE_CFG_WMIN 5).get Fld.SWT_EYE_CFG_WMIN) ∧
    ¬ ((63 : BitVec 6).toNat < netState.get Fld.SWT_EYE_CFG_WMIN ∨ (127 : BitVec 7).toNat < netState.get Fld.SWT_EYE_CFG_HMIN) ∧
    (netState.flag Fld.SWT_SENSE_CFG_EN true).on Fld.SWT_SENSE_CFG_EN = true ∧ netState.swt.trimming = none ∧
    (swatchState (fun x => { x with trimming := some 17 })).swt.trimming = some 17 ∧ ((200 : Int) - 0).natAbs ≤ 200 ∧ ¬ ((-201 : Int) - 0).natAbs ≤ 200 ∧
    (netState.inReset || netState.asleep) = false ∧ netState.inReset = false ∧ netState.nodeState ≠ 1 ∧ (powerState 1 .none).inReset = false ∧
    (powerState 1 .none).nodeState = 1 ∧ ({ netState with boot := { bootReset with causes := [1] } } : State).inReset = true := by decide
set_option maxRecDepth 100000 in
theorem test_march_start : (stateOf (exec .memoryMarchStart (swatchState (fun x => { x with fg := some (2, 0) })))).swt.marching = true := by decide

/-! ### The whole block -/

/-- The queue holds two commands. -/
def twoState : State := { netState with
  pending := [.sagDeassert, .xoLoss] }
set_option maxRecDepth 100000 in
theorem witness_StepRunsFront : twoState.pending = .sagDeassert :: [.xoLoss] ∧ State.reset.pending = [] := by decide
set_option maxRecDepth 100000 in
theorem test_step_takes_front : (stateOf (step twoState)).pending = [.xoLoss] := by decide
theorem witness_MemoryLaws : Memory.wf (memSetBytes [] 7 [1, 0, 3]) = true ∧ memSetBytes [] 7 [1, 0, 3] = [(7, 1), (9, 3)] ∧
    memByte (memSetBytes [] 7 [1, 0, 3]) 8 = 0 ∧ memWord (memSetWord [] 4 0x12345678) 4 = 0x12345678 := by decide
/-- A state with data in registers and shared memory that is canonical, and a step from it. -/
def invState : State := { netState.setShared (memSetBytes [] 7 [1, 0, 3]) with
  pending := [.sagDeassert] }
set_option maxRecDepth 100000 in
theorem witness_InvariantKept : invState.Inv ∧ step invState = .next (stateOf (step invState)) := by
  refine ⟨⟨by decide, by decide, by decide, by decide, fun c => ?_⟩, rfl⟩
  have h : invState.core c = coreReset := rfl
  rw [h]
  decide

end Sys2Proof.Tests
end

/-! ## Canonical tables

What a canonical table reads below its keys, what it reads after a map of its entries, and that it is determined by what it
reads. -/

namespace Sys2Proof.Machine

section
variable {α : Type} [DecidableEq α] {d : Nat → α}

theorem Table.wfFrom_cons {b : Option Nat} {a : Nat} {v : α} {m : Table α} :
    Table.wfFrom d b ((a, v) :: m) = true ↔
      (∀ x, b = some x → x < a) ∧ v ≠ d a ∧ Table.wfFrom d (some a) m = true := by
  cases b <;> simp [Table.wfFrom, and_assoc]

/-- The keys of a canonical table are above its lower bound, so at and below that the table reads as the default. -/
theorem Table.get_of_le {m : Table α} {x k : Nat} (h : Table.wfFrom d (some x) m = true) (hk : k ≤ x) :
    Table.get d m k = d k := by
  induction m generalizing x with
  | nil => rfl
  | cons p m ih =>
    obtain ⟨hx, -, hm⟩ := Table.wfFrom_cons.mp h
    have hxa := hx x rfl
    rw [Table.get, if_neg (by omega)]
    exact ih hm (by omega)

/-- A map that keeps the default acts on each entry of a canonical table. -/
theorem Table.get_remap {f : α → α} (hf : ∀ a, f (d a) = d a) {b : Option Nat} {m : Table α}
    (h : Table.wfFrom d b m = true) (k : Nat) : Table.get d (Table.remap d f m) k = f (Table.get d m k) := by
  induction m generalizing b with
  | nil => exact (hf k).symm
  | cons p m ih =>
    obtain ⟨a, v⟩ := p
    obtain ⟨-, -, hm⟩ := Table.wfFrom_cons.mp h
    by_cases hk : k = a
    · subst hk
      by_cases hv : f v = d k
      · simp [Table.remap, Table.get, hv, ih hm, Table.get_of_le hm, hf]
      · simp [Table.remap, Table.get, hv]
    · by_cases hv : f v = d a <;> simp [Table.remap, Table.get, hv, hk, ih hm]

/-- Below its first key a canonical table reads as the default. -/
theorem Table.get_of_lt_head {b : Option Nat} {a : Nat} {v : α} {m : Table α} (h : Table.wfFrom d b ((a, v) :: m) = true)
    {k : Nat} (hk : k < a) : Table.get d ((a, v) :: m) k = d k := by
  obtain ⟨-, -, hm⟩ := Table.wfFrom_cons.mp h
  rw [Table.get, if_neg hk.ne, Table.get_of_le hm hk.le]

/-- Two canonical tables that read alike are equal. -/
theorem Table.wfFrom_ext {b c : Option Nat} {m n : Table α} (hm : Table.wfFrom d b m = true) (hn : Table.wfFrom d c n = true)
    (h : ∀ k, Table.get d m k = Table.get d n k) : m = n := by
  induction m generalizing b c n with
  | nil =>
    cases n with
    | nil => rfl
    | cons q n =>
      obtain ⟨-, hv, -⟩ := Table.wfFrom_cons.mp hn
      exact absurd (by simpa [Table.get] using (h q.1).symm) hv
  | cons p m ih =>
    obtain ⟨a, v⟩ := p
    obtain ⟨-, hv, hm'⟩ := Table.wfFrom_cons.mp hm
    cases n with
    | nil => exact absurd (by simpa [Table.get] using h a) hv
    | cons q n =>
      obtain ⟨e, w⟩ := q
      obtain ⟨-, hw, hn'⟩ := Table.wfFrom_cons.mp hn
      have hae : a = e := by
        rcases lt_trichotomy a e with hlt | heq | hgt
        · exact absurd (by simpa [Table.get] using (h a).trans (Table.get_of_lt_head hn hlt)) hv
        · exact heq
        · exact absurd (by simpa [Table.get] using (h e).symm.trans (Table.get_of_lt_head hm hgt)) hw
      subst hae
      have hvw : v = w := by simpa [Table.get] using h a
      subst hvw
      refine congrArg _ (ih hm' hn' fun k => ?_)
      by_cases hk : k ≤ a
      · rw [Table.get_of_le hm' hk, Table.get_of_le hn' hk]
      · simpa [Table.get, show k ≠ a by omega] using h k

theorem Table.wfFrom_filterMap (g : Nat → α → α) {b : Option Nat} {m : Table α} (h : Table.wfFrom d b m = true) :
    Table.wfFrom d b (m.filterMap fun p => if g p.1 p.2 = d p.1 then none else some (p.1, g p.1 p.2)) = true := by
  induction m generalizing b with
  | nil => rfl
  | cons p m ih =>
    obtain ⟨a, v⟩ := p
    obtain ⟨hb, -, hm⟩ := Table.wfFrom_cons.mp h
    by_cases hg : g a v = d a
    · simp only [List.filterMap_cons, hg, if_true]
      exact Table.wfFrom_weaken d _ (some a) b (fun y hy => ⟨a, rfl, (hb y hy).le⟩) (ih hm)
    · simp only [List.filterMap_cons, hg, if_false]
      exact Table.wfFrom_cons.mpr ⟨hb, hg, ih hm⟩
end

end Sys2Proof.Machine

/-! ## Every command completes, leaves the queue alone and keeps the canonical form

`Kept o t` says that the state `t` has the queue of `o` and is canonical if `o` is. Each function of the model that answers
a state has one lemma, named after the function: from a state that is kept it answers a state that is kept. The proofs
follow the functions' bodies, and only the few functions that write a register, a live count, a core or the shared memory
need an argument about the canonical form. `Goes` says the same of a command, with the fact that it answers.

`Kept` also follows the row index, for the row tick: its parameter says whether a row may have been counted, or the block
reset, on the way. -/

namespace Sys2Proof.Machine

-- One theorem at a time: some thousand proofs in flight together want more threads than the check's memory holds.
set_option Elab.async false

/-- `t` comes from `s` by functions of the model: the commands that wait are those of `s`, the canonical form is kept, and so
is the row index, if `ρ` says that none of the functions counts a row or resets the block. -/
structure Kept (ρ : Prop) (s t : State) : Prop where
  pending : t.pending = s.pending
  inv : s.Inv → t.Inv
  row : ρ → t.row.rowIdx = s.row.rowIdx

variable {ρ : Prop} {o s t : State}

theorem Kept.refl (s : State) : Kept ρ s s := ⟨rfl, id, fun _ => rfl⟩

theorem Kept.ram (h : Kept ρ o s) (c : Nat) (i : o.Inv) : Memory.wf (s.core c).ram = true := (h.inv i).ram c

theorem State.Inv.setReg (i : s.Inv) (a : Nat) (w : Word) : (s.setReg a w).Inv :=
  { i with regs := Table.wf_set _ _ _ _ i.regs }

theorem State.Inv.setLive (i : s.Inv) (a n : Nat) : (s.setLive a n).Inv :=
  { i with live := Table.wf_set _ _ _ _ i.live }

theorem State.Inv.setCore (i : s.Inv) {k : Core} (hk : Memory.wf k.ram = true) (c : Nat) : (s.setCore c k).Inv :=
  { i with
    cores := Table.wf_set _ _ _ _ i.cores
    ram := fun d => by
      rw [State.core_setCore]
      split
      · exact hk
      · exact i.ram d }

theorem Kept.setReg (h : Kept ρ o s) (a w) : Kept ρ o (s.setReg a w) :=
  ⟨h.pending, fun i => (h.inv i).setReg a w, h.row⟩

theorem Kept.setLive (h : Kept ρ o s) (a n) : Kept ρ o (s.setLive a n) :=
  ⟨h.pending, fun i => (h.inv i).setLive a n, h.row⟩

theorem Kept.setCore_wf (h : Kept ρ o s) {c : Nat} {k : Core} (hk : o.Inv → Memory.wf k.ram = true) :
    Kept ρ o (s.setCore c k) :=
  ⟨h.pending, fun i => (h.inv i).setCore (hk i) c, h.row⟩

/-- A core that has the data memory of a core of the state may replace any core. -/
theorem Kept.setCore (h : Kept ρ o s) (h' : Kept ρ o t) {c d : Nat} {k : Core} (e : k.ram = (t.core d).ram := by rfl) :
    Kept ρ o (s.setCore c k) :=
  h.setCore_wf fun i => e ▸ h'.ram d i

theorem Kept.modCore_wf (h : Kept ρ o s) {c : Nat} {f : Core → Core}
    (hf : ∀ k, Memory.wf k.ram = true → Memory.wf (f k).ram = true) : Kept ρ o (s.modCore c f) :=
  h.setCore_wf fun i => hf _ (h.ram c i)

theorem Kept.modCore (h : Kept ρ o s) {c : Nat} {f : Core → Core} (hf : ∀ k, (f k).ram = k.ram := by intro _; rfl) :
    Kept ρ o (s.modCore c f) :=
  h.setCore h (hf _)

theorem Kept.setShared_wf (h : Kept ρ o s) {m : Table Byte} (hm : o.Inv → Memory.wf m = true) : Kept ρ o (s.setShared m) :=
  ⟨h.pending, fun i => { h.inv i with shared := hm i }, h.row⟩

/-- Bytes written into the shared memory of a state that is kept. -/
theorem Kept.setShared (h : Kept ρ o s) (h' : Kept ρ o t) {a : Nat} {b : List Byte} :
    Kept ρ o (s.setShared (memSetBytes t.fab.shared a b)) :=
  h.setShared_wf fun i => memSetBytes_wf b _ a (h'.inv i).shared

/-- The components that the canonical form does not speak of may change. -/
theorem Kept.frame (h : Kept ρ o s) {outbox free row fab link evt twn tb clk host net str lane loc amp sup boot swt}
    (e : fab.shared = s.fab.shared := by rfl) (er : row.rowIdx = s.row.rowIdx := by rfl) :
    Kept ρ o ⟨s.pending, s.regs, s.live, outbox, free, row, fab, s.cores, link, evt, twn, tb, clk, host, net, str, lane, loc,
      amp, sup, boot, swt⟩ :=
  ⟨h.pending, fun i => { regs := (h.inv i).regs, live := (h.inv i).live, cores := (h.inv i).cores,
                         shared := e ▸ (h.inv i).shared, ram := (h.inv i).ram }, fun hρ => er.trans (h.row hρ)⟩

theorem Kept.setRow (h : Kept ρ o s) {r : RowS} (e : r.rowIdx = s.row.rowIdx := by rfl) : Kept ρ o (s.setRow r) :=
  h.frame rfl e

theorem Kept.ite {c : Prop} {_ : Decidable c} {a b : State} (ha : Kept ρ o a) (hb : Kept ρ o b) :
    Kept ρ o (if c then a else b) := by
  split <;> assumption

theorem Kept.foldl {α : Type} {f : State → α → State} {l : List α} (h : Kept ρ o s)
    (hf : ∀ t x, Kept ρ o t → Kept ρ o (f t x)) : Kept ρ o (l.foldl f s) := by
  induction l generalizing s with
  | nil => exact h
  | cons x l ih => exact ih (hf s x h)

theorem Kept.ite_fst {β : Type} {c : Prop} {_ : Decidable c} {a b : State × β} (ha : Kept ρ o a.1) (hb : Kept ρ o b.1) :
    Kept ρ o (if c then a else b).1 := by
  split <;> assumption

/-- The state of a pair that a function answers. -/
theorem Kept.ofPair {β : Type} {r : State × β} {b : β} (h : Kept ρ o r.1) (e : r = (t, b)) : Kept ρ o t := by
  subst e
  exact h

theorem Kept.foldl_fst {α β : Type} {f : State × β → α → State × β} {l : List α} {p : State × β} (h : Kept ρ o p.1)
    (hf : ∀ p x, Kept ρ o p.1 → Kept ρ o (f p x).1) : Kept ρ o (l.foldl f p).1 := by
  induction l generalizing p with
  | nil => exact h
  | cons x l ih => exact ih (hf p x h)

/-! ### What the operations of a core leave of its data memory -/

@[simp] theorem Core.setBank_ram (c : Core) (b1 : Bool) (k : Bank) : (c.setBank b1 k).ram = c.ram := by
  unfold Core.setBank
  split <;> rfl

@[simp] theorem Core.apply_ram (c : Core) (b1 : Bool) (w : Write) : (c.apply b1 w).ram = c.ram := by
  unfold Core.apply
  split <;> simp

@[simp] theorem Core.applyAll_ram (p : Flight → Bool) (c : Core) (l : List Flight) : (Core.applyAll p c l).ram = c.ram := by
  induction l generalizing c with
  | nil => rfl
  | cons f l ih =>
    rw [Core.applyAll, ih]
    split <;> simp

@[simp] theorem Core.tickOnce_ram (c : Core) : c.tickOnce.ram = c.ram := by
  simp [Core.tickOnce]

@[simp] theorem Core.advance_ram (c : Core) (n : Nat) : (c.advance n).ram = c.ram := by
  induction n generalizing c with
  | zero => rfl
  | succ n ih => rw [Core.advance, ih, Core.tickOnce_ram]

@[simp] theorem Core.drain_ram (c : Core) : c.drain.ram = c.ram := Core.advance_ram c _

@[simp] theorem Core.endBindoff_ram (c : Core) : c.endBindoff.ram = c.ram := by
  unfold Core.endBindoff
  split <;> rfl

@[simp] theorem Core.startRow_ram (c : Core) : c.startRow.ram = c.ram := rfl

@[simp] theorem Core.enterHandler_ram (c : Core) (vec : Nat) : (c.enterHandler vec).ram = c.ram := by
  unfold Core.enterHandler
  split
  · rfl
  · split <;> rfl

@[simp] theorem Core.stop_ram (c : Core) : c.stop.1.ram = c.ram := by
  unfold Core.stop
  split
  · exact Core.drain_ram c
  · split <;> rfl
  · rfl

/-- A command answers a next state that comes from `s`. -/
def Goes (s : State) (a : Answer) : Prop := ∃ t, a = .next t ∧ Kept False s t

theorem Goes.next (h : Kept False o t) : Goes o (.next t) := ⟨t, rfl, h⟩

theorem Goes.ite {c : Prop} {_ : Decidable c} {a b : Answer} (ha : Goes o a) (hb : Goes o b) : Goes o (if c then a else b) := by
  split <;> assumption


@[simp] theorem Core.scalarResult_ram (k : Core) (sd : Nat) (f : Bool) (r : Word × BitVec 4) :
    (k.scalarResult sd f r).ram = k.ram := by
  unfold Core.scalarResult
  dsimp only
  split <;> rfl

@[simp] theorem Core.salu_ram (k : Core) (sd sa sb : Nat) (f : Bool) (g : Word → Word → Word × BitVec 4) :
    (k.salu sd sa sb f g).ram = k.ram :=
  k.scalarResult_ram ..

@[simp] theorem Core.moveReg_ram (k : Core) (dst1 src1 : Bool) (dcl dn scl sn : Nat) :
    (k.moveReg dst1 src1 dcl dn scl sn).ram = k.ram := by
  unfold Core.moveReg
  dsimp only
  split
  · rfl
  · split <;> rfl

@[simp] theorem Core.updatePtr_ram (k : Core) (pn : Nat) (mode : BitVec 2) (ofs : BitVec 15) :
    (k.updatePtr pn mode ofs).ram = k.ram := by
  unfold Core.updatePtr
  split <;> rfl

theorem regsAfterReset_wf {m : Table Word} (h : Table.wf resetWord m = true) : Table.wf resetWord (regsAfterReset m) = true :=
  Table.wfFrom_filterMap wordAfterReset h

theorem State.core_remap (i : s.Inv) {f : Core → Core} (hf : f coreReset = coreReset) (c : Nat) :
    Table.get (fun _ => coreReset) (s.cores.remap (fun _ => coreReset) f) c = f (s.core c) :=
  Table.get_remap (fun _ => hf) i.cores c

theorem State.Inv.reset : State.reset.Inv where
  regs := rfl
  live := rfl
  cores := rfl
  shared := rfl
  ram _ := rfl

/-- Every core mapped by a function that keeps the reset core and that leaves a canonical data memory canonical. -/
theorem State.Inv.remapCores (i : s.Inv) {f : Core → Core} (hd : f coreReset = coreReset)
    (hf : ∀ k, Memory.wf k.ram = true → Memory.wf (f k).ram = true) :
    State.Inv { s with cores := s.cores.remap (fun _ => coreReset) f } :=
  { i with
    cores := Table.wf_remap _ _ _ i.cores
    ram := fun c => by
      have hc := State.core_remap i hd c
      exact (congrArg (fun k => Memory.wf (Core.ram k)) hc).trans (hf _ (i.ram c)) }

theorem Kept.remapCores (h : Kept ρ o s) {f : Core → Core} (hd : f coreReset = coreReset)
    (hf : ∀ k, Memory.wf k.ram = true → Memory.wf (f k).ram = true) :
    Kept ρ o { s with cores := s.cores.remap (fun _ => coreReset) f } :=
  ⟨h.pending, fun i => (h.inv i).remapCores hd hf, h.row⟩

/-! ### The functions of Machine/Ops.lean -/

theorem Kept.put (h : Kept ρ o s) (f v) : Kept ρ o (s.put f v) :=
  h.setReg ..

theorem Kept.flag (h : Kept ρ o s) (f b) : Kept ρ o (s.flag f b) :=
  h.put ..

theorem Kept.putS (h : Kept ρ o s) (f x) : Kept ρ o (s.putS f x) :=
  h.put ..

theorem Kept.send (h : Kept ρ o s) (x1) : Kept ρ o (s.send x1) :=
  h.frame

theorem Kept.bumpFree (h : Kept ρ o s) : Kept ρ o s.bumpFree :=
  h.frame

theorem Kept.setEvtSrc (h : Kept ρ o s) (n e) : Kept ρ o (s.setEvtSrc n e) :=
  h.frame

theorem Kept.raise (h : Kept ρ o s) (n info) : Kept ρ o (s.raise n info) :=
  (((h.flag ..).setReg ..).setEvtSrc ..).send ..

theorem Kept.level (h : Kept ρ o s) (n b info) : Kept ρ o (s.level n b info) :=
  .ite (.ite h (h.raise ..)) (h.flag ..)

theorem Kept.invalid (h : Kept ρ o s) (a) : Kept ρ o (s.invalid a) :=
  h.raise ..

theorem Kept.setSat (h : Kept ρ o s) (f) : Kept ρ o (s.setSat f) :=
  (h.flag ..).level ..

theorem Kept.countBy (h : Kept ρ o s) (c k) : Kept ρ o (s.countBy c k) :=
  .ite h (.ite ((h.setLive ..).setSat ..) (h.setLive ..))

theorem Kept.count (h : Kept ρ o s) (c) : Kept ρ o (s.count c) :=
  h.countBy ..

theorem Kept.count64 (h : Kept ρ o s) (a k) : Kept ρ o (s.count64 a k) :=
  h.setLive ..

theorem Kept.countReg (h : Kept ρ o s) (f sat k) : Kept ρ o (s.countReg f sat k) :=
  .ite h (.ite ((h.put ..).setSat ..) (h.put ..))

theorem Kept.capture32 (h : Kept ρ o s) (l) : Kept ρ o (s.capture32 l) := by
  induction l generalizing s with
  | nil => exact h
  | cons a l ih => exact ih (h.setReg ..)

theorem Kept.capture64 (h : Kept ρ o s) (l) : Kept ρ o (s.capture64 l) := by
  induction l generalizing s with
  | nil => exact h
  | cons a l ih => exact ih ((h.setReg ..).setReg ..)

theorem Kept.failSwatch (h : Kept ρ o s) (test place) : Kept ρ o (s.failSwatch test place) :=
  (h.count ..).raise ..

theorem Kept.endForeground (h : Kept ρ o s) (result) : Kept ρ o (s.endForeground result) := by
  unfold State.endForeground
  split
  exacts [((Kept.ite ((h.put ..).failSwatch ..) (h.put ..)).frame).raise .., h]

/-! ### The functions of Machine/Link.lean -/

theorem Kept.setLinkEnd (h : Kept ρ o s) (onMain e) : Kept ρ o (s.setLinkEnd onMain e) :=
  .ite h.frame h.frame

theorem Kept.sendFlit (h : Kept ρ o s) (onMain typ payload) : Kept ρ o (s.sendFlit onMain typ payload) :=
  h.send ..

theorem Kept.wireSeq (h : Kept ρ o s) (onMain f) : Kept ρ o (s.wireSeq onMain f) :=
  h.send ..

theorem Kept.pumpLink (h : Kept ρ o s) (onMain) : Kept ρ o (s.pumpLink onMain) := by
  unfold State.pumpLink
  extract_lets e
  split
  · exact h
  · extract_lets f
    exact .ite ((h.setLinkEnd ..).wireSeq ..) h

theorem Kept.queueFlit (h : Kept ρ o s) (onMain typ payload) : Kept ρ o (s.queueFlit onMain typ payload) :=
  .ite ((h.setLinkEnd ..).pumpLink ..) (h.setLinkEnd ..)

theorem Kept.takeAck (h : Kept ρ o s) (onMain ack credit) : Kept ρ o (s.takeAck onMain ack credit) :=
  h.setLinkEnd ..

theorem Kept.replay (h : Kept ρ o s) (onMain seq) : Kept ρ o (s.replay onMain seq) :=
  h.foldl fun _ _ h1 => h1.wireSeq ..

theorem Kept.supplyEvent (h : Kept ρ o s) (n info) : Kept ρ o (s.supplyEvent n info) :=
  h.queueFlit ..

theorem Kept.countLinkErr (h : Kept ρ o s) (i) : Kept ρ o (s.countLinkErr i) :=
  (h.count ..).frame

theorem Kept.linkErr (h : Kept ρ o s) (onMain inReset i) : Kept ρ o (s.linkErr onMain inReset i) :=
  .ite (h.countLinkErr ..) (.ite h (h.supplyEvent ..))

theorem Kept.sendNak (h : Kept ρ o s) (onMain) : Kept ρ o (s.sendNak onMain) :=
  (h.setLinkEnd ..).sendFlit ..

/-! ### The functions of Machine/Mailbox.lean -/

theorem Kept.setMbx (h : Kept ρ o s) (n m) : Kept ρ o (s.setMbx n m) :=
  h.frame

theorem Kept.mbxEvent (h : Kept ρ o s) (n) : Kept ρ o (s.mbxEvent n) :=
  .ite (h.level ..) h

theorem Kept.mbxWrite (h : Kept ρ o s) (n w writer) : Kept ρ o (s.mbxWrite n w writer).1 :=
  .ite_fst h (((h.setMbx ..).put ..).mbxEvent ..)

theorem Kept.mbxRead (h : Kept ρ o s) (n) : Kept ρ o (s.mbxRead n).1 :=
  .ite_fst (.ite (((h.setMbx ..).mbxEvent ..).queueFlit ..) ((h.setMbx ..).mbxEvent ..)) h

theorem Kept.mbxWriteOnChip (h : Kept ρ o s) (n w writer) : Kept ρ o (s.mbxWriteOnChip n w writer).1 :=
  .ite_fst (h.mbxWrite ..) ((h.mbxWrite ..).count ..)

theorem Kept.rejectTwsend (h : Kept ρ o s) (i) : Kept ρ o (s.rejectTwsend i) :=
  (h.frame.count ..).raise ..

/-! ### The functions of Machine/Fabric.lean -/

theorem Kept.setActiveMap (h : Kept ρ o s) (m) : Kept ρ o (s.setActiveMap m) :=
  .ite h.frame h.frame

theorem Kept.setShadowMap (h : Kept ρ o s) (m) : Kept ρ o (s.setShadowMap m) :=
  .ite h.frame h.frame

theorem Kept.setSlot (h : Kept ρ o s) (n x) : Kept ρ o (s.setSlot n x) :=
  h.frame

theorem Kept.writeSlot (h : Kept ρ o s) (n w) : Kept ρ o (s.writeSlot n w) :=
  h.setSlot ..

theorem Kept.sourceWrite (h : Kept ρ o s) (cls idx w) : Kept ρ o (s.sourceWrite cls idx w) := by
  unfold State.sourceWrite
  split
  exacts [h.writeSlot .., h]

theorem Kept.swapPages (h : Kept ρ o s) : Kept ρ o s.swapPages :=
  h.frame

theorem Kept.refuseAccess (h : Kept ρ o s) (off master) : Kept ρ o (s.refuseAccess off master) :=
  ((h.count ..).setReg ..).put ..

theorem Kept.setMtxEntry (h : Kept ρ o s) (t i gain src dst) : Kept ρ o (s.setMtxEntry t i gain src dst) :=
  h.setShared_wf fun hi => memSetWord_wf _ _ _ (memSetWord_wf _ _ _ (h.inv hi).shared)

/-! ### The functions of Machine/Engine.lean -/

theorem Kept.coreStore (h : Kept ρ o s) (c a w) : Kept ρ o (s.coreStore c a w) := by
  unfold State.coreStore
  split
  · exact h.modCore_wf fun k hk => memSetWord_wf k.ram a w hk
  · exact h.modCore
  · exact h

theorem Kept.coreStoreV (h : Kept ρ o s) (c a v) : Kept ρ o (s.coreStoreV c a v) :=
  (h.foldl fun _ _ h1 => h1.coreStore ..).modCore fun _ => by split <;> rfl

theorem Kept.stickySet (h : Kept ρ o s) (c lat b1 f) : Kept ρ o (s.stickySet c lat b1 f) :=
  .ite h (.ite ((h.setCore h).countReg ..) (h.setCore h))

theorem Kept.coreFault (h : Kept ρ o s) (c cause addr pc b1) : Kept ρ o (s.coreFault c cause addr pc b1) :=
  (((((h.setCore h (by exact Core.drain_ram (s.core c))).put ..).flag ..).put ..).setReg ..).raise ..

theorem Kept.afterIssue (h : Kept ρ o s) (c b1 flow stall) : Kept ρ o (s.afterIssue c b1 flow stall) :=
  .ite h (h.modCore fun k => by cases flow <;> simp)

/-- What the operation of an instruction leaves comes from `o`. -/
def Issued.Kept (ρ : Prop) (o : State) : Issued → Prop
  | .fault s _ _ => Machine.Kept ρ o s
  | .done s _ _ => Machine.Kept ρ o s

theorem Kept.issue (h : Kept ρ o s) {c ctl inB0 inB1 legal body} (hb : (body s).Kept ρ o) :
    Kept ρ o (s.issue c ctl inB0 inB1 legal body) := by
  refine .ite h (.ite (h.coreFault ..) ?_)
  split
  next e => exact Kept.coreFault (by simpa only [Issued.Kept, e] using hb) ..
  next e => exact Kept.afterIssue (by simpa only [Issued.Kept, e] using hb) ..

theorem Kept.issueCore (h : Kept ρ o s) {c legal} {f : Core → Core} (hf : ∀ k, (f k).ram = k.ram := by intro _; rfl) :
    Kept ρ o (s.issueCore c legal f) :=
  h.issue (h.modCore hf)

theorem Kept.issuePlain (h : Kept ρ o s) {c legal} {f : State → State} (hf : Kept ρ o (f s)) :
    Kept ρ o (s.issuePlain c legal f) :=
  h.issue hf

theorem Kept.postPage (h : Kept ρ o s) (c) : Kept ρ o (s.postPage c) :=
  ((h.foldl fun _ _ h1 => h1.sourceWrite ..).setCore h (by exact Core.drain_ram (s.core c))).put ..

/-! ### The functions of Machine/EngineOps.lean -/

theorem Kept.accumulate (h : Kept ρ o s) (c ad z x) : Kept ρ o (s.accumulate c ad z x) :=
  (h.setCore h).stickySet ..

theorem Kept.macOp (h : Kept ρ o s) (c ad da db bc l z neg) : Kept ρ o (s.macOp c ad da db bc l z neg) :=
  h.accumulate ..

theorem Kept.vecResult (h : Kept ρ o s) (c dd lat r) : Kept ρ o (s.vecResult c dd lat r) :=
  (h.setCore h).stickySet ..

theorem Kept.valuQ (h : Kept ρ o s) (c dd da db f) : Kept ρ o (s.valuQ c dd da db f) :=
  h.vecResult ..

theorem Kept.vmulOp (h : Kept ρ o s) (c dd da b) : Kept ρ o (s.vmulOp c dd da b) :=
  h.vecResult ..

theorem landBeat_wf {m : Table Byte} (hm : Memory.wf m = true) (a : Nat) (own : Option (Nat × Nat)) (bs : List Byte) :
    Memory.wf (landBeat m a own bs) = true := by
  cases own with
  | none => exact memSetBytes_wf _ _ _ hm
  | some _ => exact memSetBytes_wf _ _ _ (memSetBytes_wf _ _ _ hm)

theorem Kept.moveBeat (h : Kept ρ o s) (c x i) : Kept ρ o (s.moveBeat c x i) :=
  .ite (h.setShared h) (h.setCore_wf fun hi => landBeat_wf (h.ram c hi) ..)

theorem Kept.moveBeats (h : Kept ρ o s) (c x n i) : Kept ρ o (s.moveBeats c x n i).1 := by
  induction n generalizing s i with
  | zero => exact h
  | succ n ih => exact .ite_fst (ih (h.moveBeat ..) _) (h.refuseAccess ..)

/-! ### The functions of Machine/Twin.lean -/

theorem Kept.twinSend (h : Kept ρ o s) (ftype payload) : Kept ρ o (s.twinSend ftype payload) :=
  h.frame.send ..

theorem Kept.sendMirror (h : Kept ρ o s) (records) : Kept ρ o (s.sendMirror records) :=
  (h.twinSend ..).frame

theorem Kept.mirror (h : Kept ρ o s) (rtype body) : Kept ρ o (s.mirror rtype body) :=
  .ite (h.sendMirror ..) h

theorem Kept.reportReady (h : Kept ρ o s) (kind core b) : Kept ρ o (s.reportReady kind core b) :=
  .ite (h.frame.mirror ..) h

theorem Kept.settleReady (h : Kept ρ o s) (row) : Kept ρ o (s.settleReady row) :=
  h.frame

/-! ### The functions of Machine/Sched.lean -/

theorem Kept.tpPush (h : Kept ρ o s) (r) : Kept ρ o (s.tpPush r) :=
  h.setRow

theorem Kept.tpSubmit (h : Kept ρ o s) (r) : Kept ρ o (s.tpSubmit r).1 :=
  .ite_fst ((h.tpPush ..).mirror ..) (h.count ..)

theorem Kept.tpFlush (h : Kept ρ o s) : Kept ρ o s.tpFlush :=
  (h.frame.countBy ..).raise ..

theorem Kept.setPready (h : Kept ρ o s) (c b) : Kept ρ o (s.setPready c b) :=
  .ite h ((h.flag ..).reportReady ..)

theorem Kept.setCready (h : Kept ρ o s) (c b) : Kept ρ o (s.setCready c b) :=
  .ite h ((h.flag ..).reportReady ..)

theorem Kept.swapCoef (h : Kept ρ o s) (c) : Kept ρ o (s.swapCoef c) :=
  ((h.flag ..).put ..).setCready ..

theorem Kept.swapProg (h : Kept ρ o s) (c keep value) : Kept ρ o (s.swapProg c keep value) :=
  .ite ((((h.flag ..).put ..).setPready ..).setReg ..) (((((h.flag ..).put ..).setPready ..).setReg ..).modCore)

theorem Kept.castOn (h : Kept ρ o s) (c keep fade value start) : Kept ρ o (s.castOn c keep fade value start) := by
  unfold State.castOn
  exact (h.swapProg ..).modCore

theorem Kept.applySwap (h : Kept ρ o s) (r) : Kept ρ o (s.applySwap r) := by
  unfold State.applySwap
  extract_lets c ready s1
  have h1 : Kept ρ o s1 := .ite (h.swapCoef ..) h
  exact .ite ((h.count ..).raise ..) (.ite h.modCore (.ite (h1.castOn ..) (h1.modCore Core.endBindoff_ram)))

theorem Kept.applyBindoff (h : Kept ρ o s) (r) : Kept ρ o (s.applyBindoff r) :=
  h.modCore fun k => by split <;> rfl

theorem Kept.applyCoefWord (h : Kept ρ o s) (r) : Kept ρ o (s.applyCoefWord r) := by
  unfold State.applyCoefWord
  exact h.modCore fun k => by split <;> rfl

theorem Kept.missDoorbell (h : Kept ρ o s) (c) : Kept ρ o (s.missDoorbell c) :=
  (h.modCore.count ..).raise ..

theorem Kept.applyDoorbell (h : Kept ρ o s) (r) : Kept ρ o (s.applyDoorbell r) := by
  unfold State.applyDoorbell
  exact (Kept.ite (h.missDoorbell ..) h).modCore

theorem Kept.markShed (h : Kept ρ o s) (c) : Kept ρ o (s.markShed c) :=
  .ite h.modCore (h.modCore.setRow.count ..)

theorem Kept.judge (h : Kept ρ o s) (c cycles) : Kept ρ o (s.judge c cycles) :=
  .ite (h.markShed ..) h

theorem Kept.setGauge (h : Kept ρ o s) (g ns) : Kept ρ o (s.setGauge g ns) :=
  .ite (h.setRow.foldl (fun _ _ h1 => h1.judge ..)) (.ite (h.setRow.foldl (fun _ _ h1 => h1.judge ..)) h.setRow)

theorem Kept.coreTick (h : Kept ρ o s) (c budget row) : Kept ρ o (s.coreTick c budget row) := by
  unfold State.coreTick
  extract_lets miss s0 _ k held go
  have h0 : Kept ρ o s0 := .ite (h.missDoorbell ..) h
  have hk {k' : Core} (e : k'.ram = (s0.core c).ram) : Kept ρ o (s0.setCore c k') := h0.setCore h0 e
  have hgo {k' : Core} (e : k'.ram = (s0.core c).ram) : Kept ρ o (go k' s0) := (h0.setCore h0 (by exact e)).judge ..
  split
  · exact hk rfl
  · exact hk rfl
  · exact hk rfl
  · exact .ite (hk rfl) (hgo rfl)
  · exact .ite (hk rfl) (.ite (hk rfl) (.ite (hgo (by exact Core.enterHandler_ram k _)) (hgo rfl)))

theorem Kept.retiReturn (h : Kept ρ o s) (c) : Kept ρ o (s.retiReturn c) := by
  unfold State.retiReturn
  extract_lets k s1 s2
  have h1 : Kept ρ o s1 := h.setCore h
  have h2 : Kept ρ o s2 := by
    unfold s2
    split
    · exact Kept.castOn (.ite (h1.swapCoef ..) h1) ..
    · exact h1
  exact h2.modCore fun k => by
    split
    · rfl
    · split
      · split <;> simp
      · rfl

theorem Kept.countStitch (h : Kept ρ o s) (c) : Kept ρ o (s.countStitch c) :=
  (h.countReg ..).count ..

theorem Kept.stopCores (h : Kept ρ o s) : Kept ρ o s.stopCores.1 :=
  Kept.foldl_fst h fun p c hp =>
    have h1 := hp.setCore hp (Core.stop_ram (p.1.core c))
    .ite_fst (h1.countStitch ..) h1

theorem Kept.finalDigests (h : Kept ρ o s) : Kept ρ o s.finalDigests :=
  h.setRow

theorem Kept.movePhys (h : Kept ρ o s) (c back) : Kept ρ o (s.movePhys c back) :=
  ((h.flag ..).put ..).put ..

theorem Kept.migrateRequest (h : Kept ρ o s) (c back firmware) : Kept ρ o (s.migrateRequest c back firmware) :=
  .ite (h.put ..) (.ite ((h.movePhys ..).put ..) (h.setRow.put ..))

/-! ### The functions of Machine/Passes.lean -/

theorem Kept.applyMapSel (h : Kept ρ o s) (w) : Kept ρ o (s.applyMapSel w) :=
  .ite (h.setReg ..) (h.invalid ..)

theorem Kept.applyMapData (h : Kept ρ o s) (w) : Kept ρ o (s.applyMapData w) :=
  .ite (h.invalid ..) (.ite ((h.count ..).invalid ..) (h.setActiveMap ..))

theorem Kept.setMapReady (h : Kept ρ o s) (b) : Kept ρ o (s.setMapReady b) :=
  .ite h ((h.flag ..).reportReady ..)

theorem Kept.writeShadowEntry (h : Kept ρ o s) (cls idx e) : Kept ρ o (s.writeShadowEntry cls idx e) :=
  ((h.setShadowMap ..).setMapReady ..).flag ..

theorem Kept.startMapCheck (h : Kept ρ o s) : Kept ρ o s.startMapCheck :=
  ((h.setMapReady ..).flag ..).flag ..

theorem Kept.endMapCheck (h : Kept ρ o s) : Kept ρ o s.endMapCheck :=
  .ite (h.flag ..) (by split; exacts [(h.flag ..).setMapReady .., ((h.flag ..).flag ..).put ..])

theorem Kept.swapMap (h : Kept ρ o s) : Kept ρ o s.swapMap :=
  .ite ((h.flag ..).setMapReady ..) ((h.count ..).raise ..)

theorem Kept.applyMapCtl (h : Kept ρ o s) (w direct) : Kept ρ o (s.applyMapCtl w direct) :=
  .ite ((Kept.ite h.swapMap h).startMapCheck) (.ite h.swapMap h)

theorem Kept.setMtxReady (h : Kept ρ o s) (b) : Kept ρ o (s.setMtxReady b) :=
  .ite h ((h.flag ..).reportReady ..)

theorem Kept.touchShadowTable (h : Kept ρ o s) : Kept ρ o s.touchShadowTable :=
  (h.setMtxReady ..).flag ..

theorem Kept.startMtxCheck (h : Kept ρ o s) : Kept ρ o s.startMtxCheck :=
  h.touchShadowTable.flag ..

theorem Kept.endMtxCheck (h : Kept ρ o s) : Kept ρ o s.endMtxCheck :=
  .ite (h.flag ..) (.ite ((h.flag ..).setMtxReady ..) ((h.flag ..).flag ..))

theorem Kept.setGlides (h : Kept ρ o s) (g) : Kept ρ o (s.setGlides g) :=
  h.frame

theorem Kept.swapMtx (h : Kept ρ o s) : Kept ρ o s.swapMtx :=
  .ite (((((h.put ..).put ..).flag ..).setMtxReady ..).setGlides ..) ((h.count ..).raise ..)

theorem Kept.applyTblCtl (h : Kept ρ o s) (w direct) : Kept ρ o (s.applyTblCtl w direct) :=
  .ite ((Kept.ite h.swapMtx h).startMtxCheck) (.ite h.swapMtx h)

theorem Kept.setActGain (h : Kept ρ o s) (i g) : Kept ρ o (s.setActGain i g) :=
  h.setShared h

theorem Kept.applyXpGain (h : Kept ρ o s) (t) : Kept ρ o (s.applyXpGain t) :=
  .ite (h.invalid ..) (.ite (((((h.setReg ..).setGlides ..).setActGain ..).count ..).raise ..) ((h.setReg ..).setGlides ..))

theorem Kept.endGlide (h : Kept ρ o s) (i) : Kept ρ o (s.endGlide i) := by
  unfold State.endGlide
  split
  exacts [.ite ((h.setGlides ..).setActGain ..) h, h]

theorem Kept.setLine (h : Kept ρ o s) (n l) : Kept ρ o (s.setLine n l) :=
  h.frame

theorem Kept.applyLineLen (h : Kept ρ o s) (n w) : Kept ρ o (s.applyLineLen n w) :=
  .ite ((h.setReg ..).setLine ..) (.ite (h.invalid ..) ((h.put ..).setLine ..))

theorem Kept.applyLineDelay (h : Kept ρ o s) (n w) : Kept ρ o (s.applyLineDelay n w) := by
  unfold State.applyLineDelay
  extract_lets d old set full src
  have hset : Kept ρ o set := (h.put ..).flag ..
  split
  · exact h.invalid ..
  · exact .ite hset (.ite (hset.setLine ..) (.ite (((hset.setLine ..).count ..).raise ..) (hset.setLine ..)))

theorem Kept.writeBeat (h : Kept ρ o s) (qs n) : Kept ρ o (s.writeBeat qs n) := by
  unfold State.writeBeat
  extract_lets l len first
  split
  · split
    · exact h.setShared h
    · exact h
  · exact h

theorem Kept.writeBeats (h : Kept ρ o s) : Kept ρ o s.writeBeats :=
  h.foldl fun _ _ h1 => h1.writeBeat ..

theorem Kept.startPasses (h : Kept ρ o s) : Kept ρ o s.startPasses :=
  .ite (((Kept.ite ((h.setReg ..).frame) h.frame).frame).writeBeats) ((Kept.ite ((h.setReg ..).frame) h.frame).frame)

theorem Kept.endPasses (h : Kept ρ o s) : Kept ρ o s.endPasses := by
  unfold State.endPasses
  extract_lets f prog len ok s1 mst s2 s3 s4 src
  have h1 : Kept ρ o s1 := h.foldl fun _ _ h1 => .ite ((h1.sourceWrite ..).count ..) (h1.sourceWrite ..)
  have h2 : Kept ρ o s2 := .ite ((h1.count ..).raise ..) h1
  have h3 : Kept ρ o s3 := h2.foldl fun _ _ h1 => h1.sourceWrite ..
  have h4 : Kept ρ o s4 := .ite ((h3.count ..).raise ..) h3
  exact h4.frame

theorem Kept.writeQown (h : Kept ρ o s) (b w) : Kept ρ o (s.writeQown b w) := by
  unfold State.writeQown
  extract_lets one r
  have hr : Kept ρ o r.1 := Kept.foldl_fst h fun p q hp => .ite_fst hp (.ite_fst (hp.put ..) hp)
  exact .ite (hr.invalid ..) hr

/-! ### The functions of Machine/Ports.lean -/

theorem Kept.setLport (h : Kept ρ o s) (p x) : Kept ρ o (s.setLport p x) :=
  h.frame

theorem Kept.modLport (h : Kept ρ o s) (p f) : Kept ρ o (s.modLport p f) :=
  h.setLport ..

theorem Kept.setLstate (h : Kept ρ o s) (p st) : Kept ρ o (s.setLstate p st) :=
  .ite h (.ite ((h.put ..).raise ..) (h.put ..))

theorem Kept.showIdle (h : Kept ρ o s) (p) : Kept ρ o (s.showIdle p) :=
  .ite (h.send ..) h

theorem Kept.portOff (h : Kept ρ o s) (p) : Kept ρ o (s.portOff p) :=
  ((h.modLport ..).setLstate ..).showIdle ..

theorem Kept.portFault (h : Kept ρ o s) (p reason) : Kept ρ o (s.portFault p reason) :=
  ((((h.modLport ..).put ..).setLstate ..).count ..).raise ..

theorem Kept.noTick (h : Kept ρ o s) : Kept ρ o s.noTick :=
  h.foldl fun _ _ h1 => .ite h1 (h1.portFault ..)

/-! ### The functions of Machine/Prbs.lean -/

theorem Kept.setLane (h : Kept ρ o s) (n x) : Kept ρ o (s.setLane n x) :=
  h.frame

theorem Kept.modLane (h : Kept ρ o s) (n f) : Kept ρ o (s.modLane n f) :=
  h.setLane ..

theorem Kept.countLane (h : Kept ρ o s) (n j k) : Kept ρ o (s.countLane n j k) :=
  h.count64 ..

theorem Kept.laneEdge (h : Kept ρ o s) (n) : Kept ρ o (s.laneEdge n) :=
  .ite (((h.setLane ..).countLane ..).countBy ..) h

theorem Kept.lanesEdge (h : Kept ρ o s) : Kept ρ o s.lanesEdge :=
  h.foldl fun _ _ h1 => h1.laneEdge ..

theorem Kept.restartPrbs (h : Kept ρ o s) (n gen chk) : Kept ρ o (s.restartPrbs n gen chk) :=
  h.modLane ..

/-! ### The functions of Machine/TimeOps.lean -/

theorem Kept.setBase (h : Kept ρ o s) (n b) : Kept ρ o (s.setBase n b) :=
  h.frame

theorem Kept.modBase (h : Kept ρ o s) (n f) : Kept ρ o (s.modBase n f) :=
  h.setBase ..

theorem Kept.putFreq (h : Kept ρ o s) (n f) : Kept ρ o (s.putFreq n f) :=
  (h.modBase ..).putS ..

theorem Kept.askFreq (h : Kept ρ o s) (n f) : Kept ρ o (s.askFreq n f) :=
  h.putFreq ..

theorem Kept.moveHeld (h : Kept ρ o s) (n) : Kept ρ o (s.moveHeld n) := by
  unfold State.moveHeld
  split
  exacts [.ite h (.ite h ((h.askFreq ..).modBase ..)), h]

theorem Kept.edgeBase (h : Kept ρ o s) (n) : Kept ρ o (s.edgeBase n) :=
  .ite h ((h.moveHeld ..).setBase ..)

theorem Kept.countDpll (h : Kept ρ o s) (k) : Kept ρ o (s.countDpll k) :=
  h.frame

theorem Kept.ppsEdge (h : Kept ρ o s) (before) : Kept ρ o (s.ppsEdge before) :=
  .ite (h.send ..) h

theorem Kept.edge (h : Kept ρ o s) : Kept ρ o s.edge :=
  ((((((h.frame.edgeBase ..).edgeBase ..).edgeBase ..).edgeBase ..).countDpll ..).lanesEdge).ppsEdge ..

theorem Kept.slowEdgeBase (h : Kept ρ o s) (n) : Kept ρ o (s.slowEdgeBase n) :=
  .ite h ((h.moveHeld ..).setBase ..)

theorem Kept.slowEdge (h : Kept ρ o s) : Kept ρ o s.slowEdge :=
  ((((h.frame.slowEdgeBase ..).slowEdgeBase ..).slowEdgeBase ..).slowEdgeBase ..).countDpll ..

theorem Kept.countOnce (h : Kept ρ o s) : Kept ρ o s.countOnce :=
  .ite h.edge (.ite h.slowEdge h)

theorem Kept.setMlock (h : Kept ρ o s) (b) : Kept ρ o (s.setMlock b) :=
  .ite h (.ite (((h.flag ..).raise ..).send ..) ((h.flag ..).raise ..))

theorem Kept.clocksOff (h : Kept ρ o s) : Kept ρ o s.clocksOff :=
  (((h.send ..).send ..).send ..).send ..

theorem Kept.clocksOn (h : Kept ρ o s) : Kept ρ o s.clocksOn :=
  h.send ..

theorem Kept.stopTicks (h : Kept ρ o s) : Kept ρ o s.stopTicks :=
  h.frame.noTick.setMlock ..

theorem Kept.checkTicks (h : Kept ρ o s) : Kept ρ o s.checkTicks :=
  .ite h.stopTicks h

theorem Kept.setTbState (h : Kept ρ o s) (n st) : Kept ρ o (s.setTbState n st) :=
  .ite h (((h.put ..).raise ..).checkTicks)

theorem Kept.showMaster (h : Kept ρ o s) (n) : Kept ρ o (s.showMaster n) := by
  unfold State.showMaster
  extract_lets own gm s1 show1
  have h1 : Kept ρ o s1 := h.flag ..
  split
  · exact ((((h1.put ..).put ..).put ..).put ..).put ..
  · exact .ite (((((h1.put ..).put ..).put ..).put ..).put ..) (h1.put ..)

theorem Kept.selectMaster (h : Kept ρ o s) (n) : Kept ρ o (s.selectMaster n) :=
  .ite ((((h.setBase ..).showMaster ..).count ..).raise ..) ((h.setBase ..).showMaster ..)

theorem Kept.enterHoldover (h : Kept ρ o s) (n reason) : Kept ρ o (s.enterHoldover n reason) :=
  .ite (h.put ..) ((((((h.modBase ..).askFreq ..).put ..).count ..).setTbState ..).raise ..)

theorem Kept.holdIfRuns (h : Kept ρ o s) (n reason) : Kept ρ o (s.holdIfRuns n reason) :=
  .ite (h.enterHoldover ..) h

theorem Kept.enterLocking (h : Kept ρ o s) (n) : Kept ρ o (s.enterLocking n) :=
  (((h.modBase ..).put ..).setTbState ..).showMaster ..

theorem Kept.applySample (h : Kept ρ o s) (n offset freq) : Kept ρ o (s.applySample n offset freq) :=
  (h.modBase ..).askFreq ..

theorem Kept.stepBase (h : Kept ρ o s) (n offset) : Kept ρ o (s.stepBase n offset) :=
  h.modBase ..

theorem Kept.doRestep (h : Kept ρ o s) (n offset freq) : Kept ρ o (s.doRestep n offset freq) := by
  unfold State.doRestep
  extract_lets s1 s2 src
  have h1 : Kept ρ o s1 := (((h.stepBase ..).modBase ..).askFreq ..).enterLocking ..
  have h2 : Kept ρ o s2 := (h1.count ..).put ..
  exact .ite h2.frame h2

theorem Kept.refuseJump (h : Kept ρ o s) (n) : Kept ρ o (s.refuseJump n) :=
  (((h.enterHoldover ..).flag ..).count ..).raise ..

theorem Kept.showOffset (h : Kept ρ o s) (n x2) : Kept ρ o (s.showOffset n x2) :=
  h.putS ..

theorem Kept.countRuns (h : Kept ρ o s) (n far bad wide) : Kept ρ o (s.countRuns n far bad wide) :=
  h.modBase ..

theorem Kept.sampleLocked (h : Kept ρ o s) (n offset freq far bad) : Kept ρ o (s.sampleLocked n offset freq far bad) := by
  unfold State.sampleLocked
  extract_lets b cnt s1
  have h1 : Kept ρ o s1 := .ite (h.count ..) (.ite h (h.applySample ..))
  split
  · exact h.refuseJump ..
  · split
    · exact (h.enterHoldover ..).raise ..
    · exact .ite ((h1.modBase ..).setTbState ..) (.ite ((h1.enterLocking ..).modBase ..) h1)

theorem Kept.sampleHold (h : Kept ρ o s) (n offset freq far bad) : Kept ρ o (s.sampleHold n offset freq far bad) := by
  unfold State.sampleHold
  extract_lets b r s0
  have h0 : Kept ρ o s0 := .ite (h.count ..) h
  split
  · exact h
  · split
    · exact .ite ((h.enterLocking ..).applySample ..) h0
    · exact .ite (h.refuseJump ..) (.ite ((h.enterHoldover ..).raise ..) (.ite h0 ((h.enterLocking ..).applySample ..)))

theorem Kept.sampleUnset (h : Kept ρ o s) (n offset freq bad) : Kept ρ o (s.sampleUnset n offset freq bad) :=
  .ite h (.ite (h.setBase ..) (.ite (h.setBase ..) (((h.stepBase ..).askFreq ..).enterLocking ..)))

theorem Kept.sample (h : Kept ρ o s) (n offset freq) : Kept ρ o (s.sample n offset freq) := by
  unfold State.sample
  extract_lets far bad wide s1
  have h1 : Kept ρ o s1 := (h.showOffset ..).countRuns ..
  exact .ite h (.ite (h1.sampleUnset ..) (.ite (h1.doRestep ..) (.ite (h1.sampleHold ..) (h1.sampleLocked ..))))

/-! ### The functions of Machine/Xlt.lean -/

theorem Kept.setHost (h : Kept ρ o s) (x1) : Kept ρ o (s.setHost x1) :=
  h.frame

theorem Kept.askRead (h : Kept ρ o s) (a) : Kept ρ o (s.askRead a) :=
  .ite ((h.setHost ..).send ..) (h.setHost ..)

theorem Kept.nextRead (h : Kept ρ o s) (cls) : Kept ρ o (s.nextRead cls) := by
  unfold State.nextRead
  extract_lets r src
  split
  · exact (h.setHost ..).send ..
  · exact h

theorem Kept.showTlb (h : Kept ρ o s) : Kept ρ o s.showTlb :=
  .ite ((h.put ..).flag ..) (h.put ..)

theorem Kept.touchTlb (h : Kept ρ o s) (t) : Kept ρ o (s.touchTlb t) :=
  h.setHost ..

theorem Kept.insertTlb (h : Kept ρ o s) (t) : Kept ρ o (s.insertTlb t) :=
  .ite (((h.setHost ..).put ..).flag ..) ((h.setHost ..).put ..)

theorem Kept.issueAcc (h : Kept ρ o s) (a pa room) : Kept ρ o (s.issueAcc a pa room).1 :=
  .ite_fst (h.send ..) (h.askRead ..)

theorem Kept.newAcc (h : Kept ρ o s) (what wr cls iova len bytes) : Kept ρ o (s.newAcc what wr cls iova len bytes).1 :=
  h.setHost ..

/-- Whatever an access came to, it left a state that comes from `o`. -/
def AccResult.Kept (ρ : Prop) (o : State) : AccResult → Prop
  | .waits s => Machine.Kept ρ o s
  | .done s _ => Machine.Kept ρ o s
  | .fault s _ _ _ => Machine.Kept ρ o s

theorem AccResult.Kept.ite {c : Prop} {_ : Decidable c} {a b : AccResult} (ha : a.Kept ρ o) (hb : b.Kept ρ o) :
    (if c then a else b).Kept ρ o := by
  split <;> assumption

theorem Kept.ofWaits {r : AccResult} (h : r.Kept ρ o) (e : r = .waits t) : Kept ρ o t := by
  subst e
  exact h

theorem Kept.ofDone {r : AccResult} {a : HostAcc} (h : r.Kept ρ o) (e : r = .done t a) : Kept ρ o t := by
  subst e
  exact h

theorem Kept.ofFault {r : AccResult} {a : HostAcc} {c l : Nat} (h : r.Kept ρ o) (e : r = .fault t a c l) : Kept ρ o t := by
  subst e
  exact h

theorem Kept.goOn (h : Kept ρ o s) (n a) : (State.goOn n s a).Kept ρ o := by
  induction n generalizing s a with
  | zero => exact h
  | succ n ih =>
    unfold State.goOn
    refine .ite h (.ite h (.ite ?_ ?_))
    · split
      next e => exact ih (.ofPair (h.issueAcc ..) e) _
      next e => exact .ofPair (h.issueAcc ..) e
    · have h1 := h.count64 Reg.XLT_LOOKUP_LO 1
      dsimp only
      split
      · refine .ite ?_ ((h1.setHost ..).showTlb)
        split
        next e => exact ih (.ofPair ((h1.touchTlb ..).issueAcc ..) e) _
        next e => exact .ofPair ((h1.touchTlb ..).issueAcc ..) e
      · exact (h1.count64 ..).askRead ..

theorem Kept.walkEntry (h : Kept ρ o s) (a level r w e) : (s.walkEntry a level r w e).Kept ρ o := by
  unfold State.walkEntry
  dsimp only
  refine .ite h (.ite h (.ite h (.ite ?_ (h.askRead ..))))
  split
  next e => exact Kept.goOn (.ofPair ((h.insertTlb ..).issueAcc ..) e) ..
  next e => exact .ofPair ((h.insertTlb ..).issueAcc ..) e

theorem Kept.accRead (h : Kept ρ o s) (a ok data) : (s.accRead a ok data).Kept ρ o := by
  unfold State.accRead
  split
  · exact .ite (h.setHost ..) (.ite (h.walkEntry ..) h)
  · exact .ite (h.goOn ..) h

theorem Kept.invalidateGo (h : Kept ρ o s) : Kept ρ o s.invalidateGo :=
  ((h.setHost ..).showTlb).flag ..

theorem Kept.invalidateEnd (h : Kept ρ o s) : Kept ρ o s.invalidateEnd :=
  ((h.setHost ..).flag ..).foldl fun _ _ h1 => h1.askRead ..

/-! ### The functions of Machine/Ring.lean -/

theorem Kept.setRing (h : Kept ρ o s) (r x) : Kept ρ o (s.setRing r x) :=
  h.setHost ..

theorem Kept.modRing (h : Kept ρ o s) (r f) : Kept ρ o (s.modRing r f) :=
  h.setRing ..

theorem Kept.setIdx (h : Kept ρ o s) (r i) : Kept ρ o (s.setIdx r i) :=
  (h.modRing ..).put ..

theorem Kept.pushEntry (h : Kept ρ o s) (r e) : Kept ρ o (s.pushEntry r e) :=
  h.modRing ..

theorem Kept.queueComp (h : Kept ρ o s) (c) : Kept ρ o (s.queueComp c) :=
  (Kept.ite ((Kept.ite h (h.count ..)).count ..) (.ite h (h.count ..))).pushEntry ..

theorem Kept.payFrames (h : Kept ρ o s) (r) : Kept ρ o (s.payFrames r) :=
  (h.modRing ..).foldl fun _ _ h1 => h1.queueComp ..

theorem Kept.completeDesc (h : Kept ρ o s) (r d c) : Kept ρ o (s.completeDesc r d c) :=
  .ite ((h.modRing ..).payFrames ..) (h.queueComp ..)

theorem Kept.completeFrame (h : Kept ρ o s) (r q c) : Kept ρ o (s.completeFrame r q c) :=
  ((h.queueComp ..).modRing ..).payFrames ..

theorem Kept.payBlocks (h : Kept ρ o s) (r n) : Kept ρ o (State.payBlocks r n s) := by
  induction n generalizing s with
  | zero => exact h
  | succ n ih =>
    unfold State.payBlocks
    split
    · split
      · exact ih ((h.modRing ..).queueComp ..)
      · exact h
    · exact h

theorem Kept.settleBlocks (h : Kept ρ o s) (r) : Kept ρ o (s.settleBlocks r) :=
  h.payBlocks ..

theorem Kept.endBlock (h : Kept ρ o s) (r d status info0) : Kept ρ o (s.endBlock r d status info0) :=
  (h.modRing ..).settleBlocks ..

theorem Kept.sendVec (h : Kept ρ o s) (v) : Kept ρ o (s.sendVec v) :=
  .ite (h.setHost ..) (h.send ..)

theorem Kept.signalRing (h : Kept ρ o s) (r) : Kept ρ o (s.signalRing r) :=
  (h.modRing ..).sendVec ..

theorem Kept.eventWritten (h : Kept ρ o s) (b late) : Kept ρ o (s.eventWritten b late) :=
  .ite ((h.setEvtSrc ..).sendVec ..) (h.setEvtSrc ..)

theorem Kept.recordDone (h : Kept ρ o s) (b) : Kept ρ o (s.recordDone b) :=
  h.raise ..

theorem Kept.recordLost (h : Kept ρ o s) (b) : Kept ρ o (s.recordLost b) :=
  ((h.recordDone ..).count ..).raise ..

theorem Kept.entryWritten (h : Kept ρ o s) (r) : Kept ρ o (s.entryWritten r) := by
  unfold State.entryWritten
  extract_lets x
  split
  · exact h
  · extract_lets s1 s2
    have h1 : Kept ρ o s1 := ((h.modRing ..).setIdx ..).count64 ..
    have h2 : Kept ρ o s2 := h1.modRing ..
    split
    · extract_lets s3
      have h3 : Kept ρ o s3 := .ite h2 (h2.modRing ..)
      exact .ite (h3.signalRing ..) h3
    · exact h1.eventWritten ..
    · extract_lets s2'
      have hs2' : Kept ρ o s2' := h1.recordDone ..
      exact .ite (hs2'.sendVec ..) hs2'

theorem Kept.dropEntry (h : Kept ρ o s) (r) : Kept ρ o (s.dropEntry r) := by
  unfold State.dropEntry
  split
  exacts [h, (h.modRing ..).modRing .., h.modRing ..]

theorem Kept.setFaults (h : Kept ρ o s) (l) : Kept ρ o (s.setFaults l) :=
  (h.setHost ..).put ..

theorem Kept.takeFid (h : Kept ρ o s) : Kept ρ o (s.takeFid).1 :=
  h.setHost ..

theorem Kept.putLastFault (h : Kept ρ o s) (b) : Kept ρ o (s.putLastFault b) :=
  h.foldl fun _ _ h1 => h1.setReg ..

theorem Kept.handleRecord (h : Kept ρ o s) (b hard) : Kept ρ o (s.handleRecord b hard).1 := by
  unfold State.handleRecord
  extract_lets cnt
  split
  · extract_lets i
    exact ((h.putLastFault ..).count ..).pushEntry ..
  · exact ((h.putLastFault ..).count ..).recordLost ..

theorem Kept.setRingState (h : Kept ρ o s) (r st) : Kept ρ o (s.setRingState r st) :=
  h.put ..

theorem Kept.unblock (h : Kept ρ o s) (r) : Kept ρ o (s.unblock r) :=
  .ite (h.setRingState ..) h

theorem Kept.settleHead (h : Kept ρ o s) (r n) : Kept ρ o (State.settleHead r n s) := by
  induction n generalizing s with
  | zero => exact h
  | succ n ih =>
    unfold State.settleHead
    refine .ite h ?_
    split
    · exact h
    · refine .ite (ih (.ite ((h.modRing ..).endBlock ..) ((h.modRing ..).completeDesc ..))) h

theorem Kept.settle (h : Kept ρ o s) (r) : Kept ρ o (s.settle r) :=
  h.settleHead ..

theorem Kept.abortFetched (h : Kept ρ o s) (r) : Kept ρ o (s.abortFetched r) :=
  .ite ((h.modRing ..).foldl (fun _ _ h1 => h1.completeDesc ..)) h

theorem Kept.endTransfer (h : Kept ρ o s) (r d c) : Kept ρ o (s.endTransfer r d c) :=
  (((h.modRing ..).completeDesc ..).settle ..).abortFetched ..

theorem Kept.abortActive (h : Kept ρ o s) (r) : Kept ρ o (s.abortActive r) := by
  unfold State.abortActive
  split
  exacts [h.endTransfer .., h.abortFetched ..]

theorem Kept.abortFault (h : Kept ρ o s) (fid w) : Kept ρ o (s.abortFault fid w) := by
  unfold State.abortFault
  split
  · split
    · exact (h.unblock ..).endTransfer ..
    · exact h.unblock ..
  · extract_lets i d
    exact (((h.modRing ..).setIdx ..).unblock ..).settle ..
  · exact h.dropEntry ..
  · exact h

theorem Kept.hardBlock (h : Kept ρ o s) (r fid a) : Kept ρ o (s.hardBlock r fid a) := by
  unfold State.hardBlock
  split
  exacts [(((h.modRing ..).setRingState ..).queueComp ..).settleBlocks .., .ite h (h.setRingState ..)]

theorem Kept.missDue (h : Kept ρ o s) : Kept ρ o s.missDue :=
  h.foldl fun _ _ h1 => .ite ((Kept.ite ((h1.count ..).raise ..) h1).modRing ..) h1

theorem Kept.faultRingDown (h : Kept ρ o s) (r) : Kept ρ o (s.faultRingDown r) :=
  (((((h.modRing ..).setHost ..).flag ..).raise ..).setReg ..).foldl fun _ _ h1 => h1.recordLost ..

theorem Kept.handleFault (h : Kept ρ o s) (a cause level) : Kept ρ o (s.handleFault a cause level) := by
  unfold State.handleFault
  extract_lets f q q'
  have hf : Kept ρ o f.1 := h.takeFid ..
  have hq : Kept ρ o q.1 := hf.handleRecord ..
  have hq' : Kept ρ o q'.1 := hf.handleRecord ..
  split
  · exact .ite (h.faultRingDown ..) (.ite (hq.setFaults ..) (hq.abortFault ..))
  · exact .ite (hq.modRing ..) (.ite ((hq.setFaults ..).setRingState ..) (hq.abortFault ..))
  · extract_lets s1
    have h1 : Kept ρ o s1 := hq.modRing ..
    exact .ite (h1.abortActive ..) (.ite ((h1.setFaults ..).setRingState ..) (h1.abortFault ..))
  · exact ((hq'.flag ..).raise ..).missDue
  · exact (hq'.flag ..).raise ..
  · exact hq'.hardBlock ..
  · exact hq'.hardBlock ..

theorem Kept.pumpRing (h : Kept ρ o s) (r n) : Kept ρ o (State.pumpRing r n s) := by
  induction n generalizing s with
  | zero => exact h
  | succ n ih =>
    unfold State.pumpRing
    split
    · exact h
    · refine .ite h ?_
      dsimp only
      split
      next e => exact .ofWaits ((h.newAcc ..).goOn ..) e
      next e => exact ih (Kept.entryWritten (.ofDone ((h.newAcc ..).goOn ..) e) _)
      next e => exact ih (Kept.handleFault (.ofFault ((h.newAcc ..).goOn ..) e) ..)

theorem Kept.pumpAll (h : Kept ρ o s) : Kept ρ o s.pumpAll :=
  ((h.foldl (fun _ _ h1 => h1.pumpRing ..)).foldl (fun _ _ h1 => h1.pumpRing ..)).foldl fun _ _ h1 => h1.pumpRing ..

theorem Kept.readDesc (h : Kept ρ o s) (r) : Kept ρ o (s.readDesc r) := by
  unfold State.readDesc
  dsimp only
  split
  next e => exact .ofWaits ((h.newAcc ..).goOn ..) e
  next e => exact .ofDone ((h.newAcc ..).goOn ..) e
  next e => exact Kept.handleFault (.ofFault ((h.newAcc ..).goOn ..) e) ..

theorem Kept.tryFetch (h : Kept ρ o s) (r) : Kept ρ o (s.tryFetch r) :=
  .ite ((((h.modRing ..).modRing ..).setHost ..).readDesc ..) h

theorem Kept.fetched (h : Kept ρ o s) (r b) : Kept ρ o (s.fetched r b) :=
  ((((h.modRing ..).setIdx ..).count64 ..).settle ..).tryFetch ..

theorem Kept.deliver (h : Kept ρ o s) (t b) : Kept ρ o (s.deliver t b).1 := by
  unfold State.deliver
  dsimp only
  refine .ite_fst ?prog (.ite_fst ?coef (.ite_fst ?map (.ite_fst ?mtx (.ite_fst ?shared h))))
  case prog =>
    dsimp only
    exact h.modCore fun k => by split <;> rfl
  case coef =>
    dsimp only
    exact h.modCore fun k => by split <;> rfl
  case map => exact ((h.setShadowMap ..).setMapReady ..).flag ..
  case mtx => exact h.touchShadowTable.foldl fun _ _ h1 => h1.setMtxEntry ..
  case shared =>
    split
    · exact (h.setShared h).refuseAccess ..
    · exact h.setShared h

theorem Kept.advance (h : Kept ρ o s) (r n b) : Kept ρ o (s.advance r n b) :=
  h.modRing ..

theorem Kept.writeSegments (h : Kept ρ o s) (r n) : Kept ρ o (State.writeSegments r n s) := by
  induction n generalizing s with
  | zero => exact h
  | succ n ih =>
    unfold State.writeSegments
    split
    · exact h
    · refine .ite h ?_
      dsimp only
      split
      · exact ((h.newAcc ..).refuseAccess ..).handleFault ..
      · split
        next e => exact .ofWaits ((h.newAcc ..).goOn ..) e
        next e => exact ih (Kept.advance (.ofDone ((h.newAcc ..).goOn ..) e) ..)
        next e => exact Kept.handleFault (.ofFault ((h.newAcc ..).goOn ..) e) ..

theorem Kept.nextSegment (h : Kept ρ o s) (r) : Kept ρ o (s.nextSegment r) := by
  unfold State.nextSegment
  split
  · exact h
  · refine .ite h (.ite (h.writeSegments ..) ?_)
    dsimp only
    split
    next e => exact .ofWaits ((h.newAcc ..).goOn ..) e
    next e => exact .ofDone ((h.newAcc ..).goOn ..) e
    next e => exact Kept.handleFault (.ofFault ((h.newAcc ..).goOn ..) e) ..

theorem Kept.startTransfer (h : Kept ρ o s) (r t) : Kept ρ o (s.startTransfer r t) :=
  (h.modRing ..).nextSegment ..

theorem Kept.drainTransfer (h : Kept ρ o s) (r) : Kept ρ o (s.drainTransfer r) := by
  unfold State.drainTransfer
  split
  exacts [.ite (h.abortActive ..) (h.nextSegment ..), h]

theorem Kept.segmentRead (h : Kept ρ o s) (a r) : Kept ρ o (s.segmentRead a r) := by
  unfold State.segmentRead
  split
  · exact h
  · extract_lets q
    have hq : Kept ρ o q.1 := h.deliver ..
    split
    · exact (hq.advance ..).handleFault ..
    · exact (hq.advance ..).drainTransfer ..

theorem Kept.freeTags (h : Kept ρ o s) (cq idx) : Kept ρ o (s.freeTags cq idx) :=
  h.foldl fun _ _ h1 => .ite (h1.modRing ..) h1

theorem Kept.doorbellWord (h : Kept ρ o s) (r w) : Kept ρ o (s.doorbellWord r w) :=
  .ite h (.ite (.ite (h.count ..) (((h.count ..).setHost ..).raise ..)) (.ite ((h.modRing ..).freeTags ..) (h.modRing ..)))

theorem Kept.doorbellPage (h : Kept ρ o s) (b) : Kept ρ o (s.doorbellPage b) :=
  (h.foldl (fun _ _ h1 => h1.doorbellWord ..)).foldl fun _ _ h1 => h1.tryFetch ..

theorem Kept.playRead (h : Kept ρ o s) (a r) : Kept ρ o (s.playRead a r) := by
  unfold State.playRead
  extract_lets nch rows
  split
  · exact h.modRing ..
  · exact h

theorem Kept.recordWritten (h : Kept ρ o s) (r) : Kept ρ o (s.recordWritten r) := by
  unfold State.recordWritten
  split
  exacts [(((h.modRing ..).queueComp ..).settleBlocks ..).settle .., h]

theorem Kept.accEnded (h : Kept ρ o s) (a) : Kept ρ o (s.accEnded a) := by
  unfold State.accEnded
  split
  · exact h.doorbellPage ..
  · exact h
  · exact (h.fetched ..).abortFetched ..
  · exact .ite (by split; exacts [(h.advance ..).drainTransfer .., h]) (h.segmentRead ..)
  · exact h.entryWritten ..
  · exact h.playRead ..
  · exact h.recordWritten ..

theorem Kept.startRx (h : Kept ρ o s) (r) : Kept ρ o (s.startRx r) := by
  unfold State.startRx
  extract_lets x
  split
  · exact (h.modRing ..).nextSegment ..
  · exact h

theorem Kept.startAllRx (h : Kept ρ o s) : Kept ρ o s.startAllRx :=
  h.foldl fun _ _ h1 => h1.startRx ..

theorem Kept.settleAcc {r : AccResult} (h : r.Kept ρ o) : Kept ρ o r.settle := by
  cases r with
  | waits s => exact h
  | done s a => exact Kept.accEnded h a
  | fault s a c l => exact Kept.handleFault h a c l

theorem Kept.readBack (h : Kept ρ o s) (id ok data) : Kept ρ o (s.readBack id ok data) := by
  unfold State.readBack
  split
  · exact (Kept.settleAcc (((h.setHost ..).nextRead ..).accRead ..)).startAllRx.pumpAll
  · exact h

/-! ### The functions of Machine/Net.lean -/

theorem Kept.setPort (h : Kept ρ o s) (n p) : Kept ρ o (s.setPort n p) :=
  h.frame

theorem Kept.modPort (h : Kept ρ o s) (n f) : Kept ρ o (s.modPort n f) :=
  h.setPort ..

theorem Kept.countNet (h : Kept ρ o s) (n j k) : Kept ρ o (s.countNet n j k) :=
  h.count64 ..

theorem Kept.completeTx (h : Kept ρ o s) (f status flags) : Kept ρ o (s.completeTx f status flags) := by
  unfold State.completeTx
  split
  exacts [h.completeFrame .., h]

theorem Kept.linkDrop (h : Kept ρ o s) (n f) : Kept ρ o (s.linkDrop n f) :=
  (h.count ..).completeTx ..

theorem Kept.houseFrame (h : Kept ρ o s) (n q stamp b) : Kept ρ o (s.houseFrame n q stamp b) :=
  .ite (h.modPort ..) (h.linkDrop ..)

theorem Kept.queueFrame (h : Kept ρ o s) (n f) : Kept ρ o (s.queueFrame n f) :=
  .ite (h.modPort ..) (h.linkDrop ..)

theorem Kept.showHalts (h : Kept ρ o s) (n) : Kept ρ o (s.showHalts n) :=
  h.flag ..

theorem Kept.checkBasePorts (h : Kept ρ o s) (t) : Kept ρ o (State.checkBasePorts t s) :=
  .ite (h.holdIfRuns ..) h

theorem Kept.checkPorts (h : Kept ρ o s) (n) : Kept ρ o (s.checkPorts n) :=
  h.foldl fun _ _ h1 => .ite (h1.checkBasePorts ..) h1

theorem Kept.countLpi (h : Kept ρ o s) (n) : Kept ρ o (s.countLpi n) :=
  .ite ((h.modPort ..).countNet ..) h

theorem Kept.dropLink (h : Kept ρ o s) (n) : Kept ρ o (s.dropLink n) := by
  unfold State.dropLink
  extract_lets s' p s1 s2 s3 s4
  have h' : Kept ρ o s' := h.countLpi ..
  have h1 : Kept ρ o s1 := h'.setPort ..
  have h2 : Kept ρ o s2 := ((h1.flag ..).flag ..).showHalts ..
  have h3 : Kept ρ o s3 := by
    unfold s3
    split
    exacts [h2.linkDrop .., h2]
  have h4 : Kept ρ o s4 := h3.foldl fun _ _ h1 => h1.linkDrop ..
  exact .ite ((Kept.ite (h4.raise ..) h4).checkPorts ..) h

theorem Kept.showLink (h : Kept ρ o s) (n) : Kept ρ o (s.showLink n) :=
  .ite h ((h.flag ..).raise ..)

theorem Kept.closeGates (h : Kept ρ o s) (n before) : Kept ρ o (s.closeGates n before) := by
  unfold State.closeGates
  extract_lets p shut goes lost s1 s2
  have h1 : Kept ρ o s1 := h.setPort ..
  have h2 : Kept ρ o s2 := h1.foldl fun _ _ h1 => (h1.count ..).completeTx ..
  exact .ite (h2.raise ..) h2

theorem Kept.applyGclSwap (h : Kept ρ o s) (n) : Kept ρ o (s.applyGclSwap n) :=
  .ite (h.invalid ..) (h.modPort ..)

theorem Kept.startCycle (h : Kept ρ o s) (n) : Kept ρ o (s.startCycle n) := by
  unfold State.startCycle
  extract_lets before s1 s2
  have h1 : Kept ρ o s1 := by
    unfold s1
    split
    · exact (((h.modPort ..).flag ..).put ..).put ..
    · exact h
  exact (Kept.closeGates ((h1.modPort ..).put ..) ..).modPort ..

theorem Kept.startEntry (h : Kept ρ o s) (n) : Kept ρ o (s.startEntry n) :=
  .ite ((h.put ..).closeGates ..) h

theorem Kept.startTx (h : Kept ρ o s) (n since) : Kept ρ o (s.startTx n since) := by
  unfold State.startTx
  split
  exacts [h.modPort .., h]

theorem Kept.pushStamp (h : Kept ρ o s) (n t) : Kept ρ o (s.pushStamp n t).1 := by
  unfold State.pushStamp
  split
  · split
    · simp only
      exact h.modPort ..
    · exact (h.count ..).raise ..
  · exact h

theorem Kept.endTx (h : Kept ρ o s) (n) : Kept ρ o (s.endTx n) := by
  unfold State.endTx
  split
  exacts [.ite h ((((((h.modPort ..).countNet ..).countNet ..).send ..).pushStamp ..).completeTx ..), h]

theorem Kept.takePause (h : Kept ρ o s) (n quanta) : Kept ρ o (s.takePause n quanta) :=
  .ite ((h.modPort ..).showHalts ..) h

theorem Kept.takePfc (h : Kept ρ o s) (n vec quanta) : Kept ρ o (s.takePfc n vec quanta) :=
  (h.modPort ..).showHalts ..

theorem Kept.takeControl (h : Kept ρ o s) (n b) : Kept ρ o (s.takeControl n b) :=
  .ite ((h.count ..).takePause ..) (.ite ((h.count ..).takePfc ..) (h.count ..))

theorem Kept.sendPause (h : Kept ρ o s) (n) : Kept ρ o (s.sendPause n) := by
  unfold State.sendPause
  extract_lets hi lo p put turn ts vec q new
  split
  · exact h
  · split
    · split
      · exact ((((h.setPort ..).count ..).countNet ..).countNet ..).send ..
      · exact h
    · exact .ite h (((((h.setPort ..).count ..).countNet ..).countNet ..).send ..)

theorem Kept.forwardTo (h : Kept ρ o s) (n es b) : Kept ρ o (s.forwardTo n es b).1 := by
  unfold State.forwardTo
  extract_lets f s1 go src s2
  have h1 : Kept ρ o s1 := h.foldl fun _ _ h1 => h1.linkDrop ..
  have h2 : Kept ρ o s2 := h1.frame
  exact .ite_fst h1 (.ite_fst (h1.count ..) (h2.foldl (fun _ _ h1 => h1.queueFrame ..)))

theorem Kept.finishCut (h : Kept ρ o s) (n e b bad stomp) : Kept ρ o (s.finishCut n e b bad stomp) := by
  unfold State.finishCut
  split
  exacts [.ite (.ite ((h.modPort ..).count ..) (h.modPort ..)) h, h]

theorem Kept.forward (h : Kept ρ o s) (n b c) : Kept ρ o (s.forward n b c) := by
  unfold State.forward
  extract_lets l d s0 s1 r
  have h0 : Kept ρ o s0 := .ite (h.count ..) h
  have h1 : Kept ρ o s1 := h0.foldl fun _ _ h1 => h1.finishCut ..
  have hr : Kept ρ o r.1 := h1.forwardTo ..
  exact .ite (hr.countNet ..) hr

/-! ### The functions of Machine/Str.lean -/

theorem Kept.setFlow (h : Kept ρ o s) (n f) : Kept ρ o (s.setFlow n f) :=
  h.frame

theorem Kept.modFlow (h : Kept ρ o s) (n g) : Kept ρ o (s.modFlow n g) :=
  h.setFlow ..

theorem Kept.followFlowSat (h : Kept ρ o s) : Kept ρ o s.followFlowSat :=
  .ite h (h.level ..)

theorem Kept.countFlow (h : Kept ρ o s) (n j k) : Kept ρ o (s.countFlow n j k) :=
  .ite h (.ite (h.setFlow ..) ((h.setFlow ..).level ..))

theorem Kept.countFrame (h : Kept ρ o s) (n) : Kept ρ o (s.countFrame n) :=
  h.modFlow ..

theorem Kept.countDup (h : Kept ρ o s) (n) : Kept ρ o (s.countDup n) :=
  h.modFlow ..

theorem Kept.countLate (h : Kept ρ o s) (n old) : Kept ρ o (s.countLate n old) :=
  (h.countFlow ..).modFlow ..

theorem Kept.countMissing (h : Kept ρ o s) (n) : Kept ρ o (s.countMissing n) :=
  (h.countFlow ..).modFlow ..

theorem Kept.refuseFlow (h : Kept ρ o s) (n reason) : Kept ρ o (s.refuseFlow n reason) :=
  (h.modFlow ..).raise ..

theorem Kept.bindFlow (h : Kept ρ o s) (n k) : Kept ρ o (s.bindFlow n k) :=
  .ite (h.refuseFlow ..) ((h.setFlow ..).followFlowSat)

theorem Kept.bindoffFlow (h : Kept ρ o s) (n k) : Kept ρ o (s.bindoffFlow n k) :=
  .ite (h.modFlow ..) (h.refuseFlow ..)

theorem Kept.drainFlow (h : Kept ρ o s) (n) : Kept ρ o (s.drainFlow n) :=
  h.modFlow ..

theorem Kept.freeFlow (h : Kept ρ o s) (n) : Kept ρ o (s.freeFlow n) :=
  h.modFlow ..

theorem Kept.applyFcmd (h : Kept ρ o s) (w k) : Kept ρ o (s.applyFcmd w k) := by
  unfold State.applyFcmd
  extract_lets n
  exact (by split; exacts [h, h.bindFlow .., h.bindoffFlow .., h.invalid ..])

theorem Kept.writeFlow (h : Kept ρ o s) (n ws) : Kept ρ o (s.writeFlow n ws) :=
  (h.modFlow ..).foldl fun _ _ h1 => h1.sourceWrite ..

theorem Kept.activate (h : Kept ρ o s) (n latch) : Kept ρ o (s.activate n latch) :=
  (h.modFlow ..).raise ..

theorem Kept.malWindow (h : Kept ρ o s) (n x claim ws late last) : Kept ρ o (s.malWindow n x claim ws late last) := by
  unfold State.malWindow
  extract_lets e f d mark known past held
  have hmark {t : State} (ht : Kept ρ o t) : Kept ρ o (mark t) := .ite (ht.modFlow ..) ht
  have hpast : Kept ρ o (past s) := by
    unfold past
    clear_value known
    split
    · exact .ite ((h.countFlow ..).countFlow ..) (h.countFlow ..)
    · exact h.countLate ..
  clear_value past known held
  split
  · split
    · exact .ite (hmark ((h.modFlow ..).writeFlow ..)) (h.countDup ..)
    · exact hmark ((h.modFlow ..).writeFlow ..)
  · refine .ite hpast ?_
    split
    · split
      · exact .ite (hmark (h.modFlow ..)) (h.countDup ..)
      · exact hmark (h.modFlow ..)
    · exact .ite (h.countFlow ..) (.ite hpast (h.countLate ..))

theorem Kept.malFrame (h : Kept ρ o s) (n b late) : Kept ρ o (s.malFrame n b late) := by
  unfold State.malFrame
  extract_lets s1 f q x claim inc exact last go
  have h1 : Kept ρ o s1 := h.countFrame ..
  split
  · exact h1
  · split
    · exact h1.countFlow ..
    · split
      · exact .ite (h1.countFlow ..) ((h1.activate ..).malWindow ..)
      · exact .ite (h1.malWindow ..) (.ite ((((h1.modFlow ..).countFlow ..).raise ..).malWindow ..) (h1.countFlow ..))

theorem Kept.takeSeq (h : Kept ρ o s) (n q bits) : Kept ρ o (s.takeSeq n q bits) := by
  unfold State.takeSeq
  extract_lets next
  split
  · exact h.modFlow ..
  · extract_lets gap
    exact .ite ((h.countFlow ..).modFlow ..) h

theorem Kept.placeRows (h : Kept ρ o s) (n r rows) : Kept ρ o (s.placeRows n r rows) := by
  unfold State.placeRows
  extract_lets e f j all dist isLate inWin fresh s1 s2 s3
  have h1 : Kept ρ o s1 := h.modFlow ..
  have h2 : Kept ρ o s2 := .ite (h1.countLate ..) h1
  have h3 : Kept ρ o s3 := .ite (h2.countFlow ..) h2
  exact .ite (h3.countDup ..) h3

theorem Kept.aafPacket (h : Kept ρ o s) (n b) : Kept ρ o (s.aafPacket n b) := by
  unfold State.aafPacket
  extract_lets s1 f a s2 p r
  have h1 : Kept ρ o s1 := h.countFrame ..
  have h2 : Kept ρ o s2 := .ite h1 (h1.activate ..)
  exact .ite h1 (.ite (h1.countFlow ..) ((h2.takeSeq ..).placeRows ..))

theorem Kept.rtpPacket (h : Kept ρ o s) (n b) : Kept ρ o (s.rtpPacket n b) := by
  unfold State.rtpPacket
  extract_lets s1 f c a u src want r place
  have h1 : Kept ρ o s1 := h.countFrame ..
  split
  · exact h1
  · split
    · exact h1.countFlow ..
    · split
      · exact h1.countFlow ..
      · split
        · exact ((h1.activate ..).takeSeq ..).placeRows ..
        · split
          · exact ((Kept.ite (h1.activate ..) h1).takeSeq ..).placeRows ..
          · exact .ite (((((h1.activate ..).modFlow ..).countFlow ..).takeSeq ..).placeRows ..) (h1.countFlow ..)

theorem Kept.recvDeadline (h : Kept ρ o s) : Kept ρ o s.recvDeadline := by
  unfold State.recvDeadline
  extract_lets e one s1 src
  have hone (t n) (h : Kept ρ o t) : Kept ρ o (one t n) := by
    refine .ite ?_ h
    dsimp only
    split
    · exact (h.modFlow ..).writeFlow ..
    · exact .ite ((h.modFlow ..).countMissing ..) (h.modFlow ..)
  have h1 : Kept ρ o s1 := h.foldl hone
  exact .ite h h1.frame

theorem Kept.closeFlows (h : Kept ρ o s) : Kept ρ o s.closeFlows := by
  unfold State.closeFlows
  extract_lets e s0 one s1 nl nm s2 s3
  have h0 : Kept ρ o s0 := h.recvDeadline
  have h1 : Kept ρ o s1 := h0.foldl fun _ _ h1 => .ite (h1.drainFlow ..) (.ite (h1.countMissing ..) h1)
  have h2 : Kept ρ o s2 := .ite h1 (h1.raise ..)
  have h3 : Kept ρ o s3 := .ite h2 (h2.raise ..)
  exact h3.foldl fun _ _ h1 => h1.modFlow ..

theorem Kept.openFlows (h : Kept ρ o s) : Kept ρ o s.openFlows := by
  unfold State.openFlows
  extract_lets e one s1 src
  have hone (t n) (h : Kept ρ o t) : Kept ρ o (one t n) := by
    unfold one
    extract_lets f keep z u
    have hu : Kept ρ o u := by
      unfold u
      split
      · exact .ite ((h.modFlow ..).writeFlow ..) (h.modFlow ..)
      · exact h.modFlow ..
    exact .ite ((h.modFlow ..).foldl fun _ _ h1 => h1.sourceWrite ..) (.ite (hu.drainFlow ..) hu)
  have h1 : Kept ρ o s1 := h.foldl hone
  exact h1.frame

theorem Kept.queueFlow (h : Kept ρ o s) (n b) : Kept ρ o (s.queueFlow n b) :=
  h.queueFrame ..

theorem Kept.gatherRow (h : Kept ρ o s) (n j) : Kept ρ o (s.gatherRow n j) := by
  unfold State.gatherRow
  dsimp only
  split
  · exact h.modFlow ..
  · exact .ite (h.modFlow ..) (.ite ((h.modFlow ..).queueFlow ..) (h.modFlow ..))

theorem Kept.sendFlows (h : Kept ρ o s) (j) : Kept ρ o (s.sendFlows j) :=
  h.foldl fun _ _ h1 => .ite (.ite (by split; exacts [.ite h1 (h1.queueFlow ..), h1.queueFlow ..]) (h1.gatherRow ..)) h1

theorem Kept.answerArp (h : Kept ρ o s) (n b) : Kept ρ o (s.answerArp n b) :=
  .ite (h.houseFrame ..) h

/-! ### The functions of Machine/RegWrite.lean -/

theorem Kept.writeField (h : Kept ρ o s) (a w f) : Kept ρ o (s.writeField a w f) := by
  unfold State.writeField
  split
  exacts [.ite (h.put ..) h, h.put .., h]

theorem Kept.followSat (h : Kept ρ o s) (g) : Kept ρ o (s.followSat g) :=
  .ite h (h.level ..)

theorem Kept.riseSats (h : Kept ρ o s) : Kept ρ o s.riseSats :=
  h.foldl fun _ _ h1 => by split; exacts [h1.level .., h1]

theorem Kept.writeFields (h : Kept ρ o s) (a w) : Kept ρ o (s.writeFields a w) :=
  .ite ((h.foldl (fun _ _ h1 => h1.writeField ..)).followSat ..) (h.foldl (fun _ _ h1 => h1.writeField ..))

theorem Kept.writeReg (h : Kept ρ o s) (a w) : Kept ρ o (s.writeReg a w) :=
  .ite ((h.writeFields ..).invalid ..) (h.writeFields ..)

/-! ### The functions of Machine/TwinOps.lean -/

theorem Kept.setTwn (h : Kept ρ o s) (t) : Kept ρ o (s.setTwn t) :=
  h.frame

theorem Kept.setGen (h : Kept ρ o s) (g) : Kept ρ o (s.setGen g) :=
  .ite h ((h.put ..).raise ..)

theorem Kept.raiseTwin (h : Kept ρ o s) : Kept ρ o s.raiseTwin :=
  h.raise ..

theorem Kept.setTwin (h : Kept ρ o s) (st) : Kept ρ o (s.setTwin st) :=
  .ite h ((Kept.ite (((h.setTwn ..).put ..).flag ..) ((h.setTwn ..).put ..)).raiseTwin)

theorem Kept.rejectBusy (h : Kept ρ o s) : Kept ρ o s.rejectBusy :=
  h.foldl fun _ _ h1 => .ite (h1.rejectTwsend ..) h1

theorem Kept.twinDown (h : Kept ρ o s) : Kept ρ o s.twinDown :=
  .ite (((h.setTwn ..).rejectBusy).setTwin ..) ((h.setTwn ..).rejectBusy)

theorem Kept.showTwinLink (h : Kept ρ o s) : Kept ρ o s.showTwinLink :=
  .ite h (.ite ((h.flag ..).setTwn ..) ((h.flag ..).twinDown))

theorem Kept.takeTwin (h : Kept ρ o s) {want b again f} (hagain : ∀ t q p, Kept ρ o t → Kept ρ o (again t q p))
    (hf : ∀ t q p, Kept ρ o t → Kept ρ o (f t q p)) : Kept ρ o (s.takeTwin want b again f) := by
  unfold State.takeTwin
  refine .ite h ?_
  split
  · exact h.count ..
  · exact .ite (h.count ..) (.ite h (.ite (hf _ _ _ (h.setTwn ..)) (hagain _ _ _ h)))

theorem Kept.refusePairing (h : Kept ρ o s) (r) : Kept ρ o (s.refusePairing r) :=
  (((h.setTwn ..).put ..).raise ..).setTwin ..

theorem Kept.sendRecords (h : Kept ρ o s) (n l) : Kept ρ o (s.sendRecords n l) := by
  induction n generalizing s l with
  | zero => exact h
  | succ n ih =>
    cases l with
    | nil => exact h
    | cons => exact ih (h.sendMirror ..) _

theorem Kept.passChecks (h : Kept ρ o s) (x1) : Kept ρ o (s.passChecks x1) :=
  .ite ((h.setTwn ..).sendRecords ..) (h.setTwn ..)

theorem Kept.judgeHello (h : Kept ρ o s) : Kept ρ o s.judgeHello := by
  unfold State.judgeHello
  split
  exacts [.ite (.ite (h.refusePairing ..) ((h.put ..).passChecks ..)) h, h]

theorem Kept.pairingHello (h : Kept ρ o s) (x1) : Kept ρ o (s.pairingHello x1) :=
  .ite ((h.setTwn ..).refusePairing ..) ((h.setTwn ..).judgeHello)

theorem Kept.takeHello (h : Kept ρ o s) (p) : Kept ρ o (s.takeHello p) :=
  .ite (h.pairingHello ..) (.ite (.ite ((h.setTwin ..).pairingHello ..) h) h)

theorem Kept.doJoin (h : Kept ρ o s) : Kept ρ o s.doJoin :=
  h.frame.setTwn ..

theorem Kept.takeDelta (h : Kept ρ o s) (d) : Kept ρ o (s.takeDelta d) := by
  unfold State.takeDelta
  extract_lets ds m tol src s1
  have h1 : Kept ρ o s1 := (h.setTwn ..).putS ..
  exact .ite (.ite (h1.flag ..) h1) (.ite ((h1.flag ..).raiseTwin) h1)

theorem Kept.takeHeartbeat (h : Kept ρ o s) (p ns) : Kept ρ o (s.takeHeartbeat p ns) :=
  ((((h.setReg ..).flag ..).setTwn ..).takeDelta ..).showTwinLink

theorem Kept.countHeartbeats (h : Kept ρ o s) : Kept ρ o s.countHeartbeats :=
  h.setTwn ..

theorem Kept.takeRecord (h : Kept ρ o s) (r) : Kept ρ o (s.takeRecord r) := by
  unfold State.takeRecord
  extract_lets b joining src k a w v
  split
  · exact .ite (h.tpPush ..) (.ite (h.setTwn ..) h)
  · exact .ite h (.ite (.ite (h.setTwn ..) (h.count ..)) (.ite (h.setTwn ..) h))
  · exact .ite (h.setTwn ..) h
  · exact .ite ((h.modFlow ..).setTwn ..) h
  · exact h.count ..

theorem Kept.sendAck (h : Kept ρ o s) (q) : Kept ρ o (s.sendAck q) :=
  h.twinSend ..

theorem Kept.takeMirror (h : Kept ρ o s) (q p) : Kept ρ o (s.takeMirror q p) :=
  (h.foldl (fun _ _ h1 => h1.takeRecord ..)).sendAck ..

theorem Kept.compareSets (h : Kept ρ o s) (a b) : Kept ρ o (s.compareSets a b) := by
  unfold State.compareSets
  extract_lets t diffM maskDiff ages t1 differ excused bad s1 s2 s3 s4
  have h1 : Kept ρ o s1 := h.setTwn ..
  have h2 : Kept ρ o s2 := .ite (h1.count ..) h1
  have h3 : Kept ρ o s3 := .ite h2 (h2.count ..)
  have h4 : Kept ρ o s4 := .ite (h3.raise ..) h3
  exact h4.flag ..

theorem Kept.compareRow (h : Kept ρ o s) : Kept ρ o s.compareRow :=
  (Kept.ite (by split; exacts [h.compareSets .., h.count ..]) h).setTwn ..

/-! ### The functions of Machine/Amp.lean -/

theorem Kept.setAmp (h : Kept ρ o s) (a) : Kept ρ o (s.setAmp a) :=
  h.frame

theorem Kept.setAmpCh (h : Kept ρ o s) (c x) : Kept ρ o (s.setAmpCh c x) :=
  h.frame

theorem Kept.modAmpCh (h : Kept ρ o s) (c f) : Kept ρ o (s.modAmpCh c f) :=
  h.setAmpCh ..

theorem Kept.setChState (h : Kept ρ o s) (c st) : Kept ρ o (s.setChState c st) :=
  h.put ..

theorem Kept.supplyInvalid (h : Kept ρ o s) (a) : Kept ρ o (s.supplyInvalid a) :=
  h.supplyEvent ..

theorem Kept.latchAmp (h : Kept ρ o s) : Kept ρ o s.latchAmp :=
  .ite ((h.setAmp ..).send ..) (h.setAmp ..)

theorem Kept.takeXf (h : Kept ρ o s) (b) : Kept ρ o (s.takeXf b) :=
  .ite h (((h.setAmp ..).put ..).setReg ..)

theorem Kept.xfUnlock (h : Kept ρ o s) : Kept ρ o s.xfUnlock :=
  .ite (((h.setAmp ..).flag ..).supplyEvent ..) (h.setAmp ..)

theorem Kept.receiveXf (h : Kept ρ o s) (b) : Kept ρ o (s.receiveXf b) := by
  unfold State.receiveXf
  dsimp only
  split
  · split
    · exact .ite ((h.setAmp ..).count ..).xfUnlock ((h.setAmp ..).count ..)
    · exact (h.setAmp ..).takeXf ..
  · exact .ite (.ite (((h.setAmp ..).flag ..).takeXf ..) (h.setAmp ..)) (h.setAmp ..)

theorem Kept.showBoost (h : Kept ρ o s) : Kept ρ o s.showBoost :=
  h.put ..

theorem Kept.stopChannels (h : Kept ρ o s) (states) : Kept ρ o (s.stopChannels states) :=
  (h.foldl (fun _ _ h1 => .ite (h1.setChState ..) h1)).showBoost

theorem Kept.startCh (h : Kept ρ o s) (c att) : Kept ρ o (s.startCh c att) :=
  (h.modAmpCh ..).setChState ..

theorem Kept.restartChannels (h : Kept ρ o s) : Kept ρ o s.restartChannels :=
  .ite ((h.foldl (fun _ _ h1 => .ite (h1.startCh ..) (.ite (h1.startCh ..) h1))).showBoost) h.showBoost

theorem Kept.chCommand (h : Kept ρ o s) (c op) : Kept ρ o (s.chCommand c op) := by
  unfold State.chCommand
  extract_lets st
  split
  · exact h
  · split
    · exact h.setChState ..
    · split
      · exact h.setChState ..
      · exact .ite h (.ite ((h.modAmpCh ..).setChState ..) (.ite ((h.modAmpCh ..).setChState ..) (h.supplyInvalid ..)))

theorem Kept.tripCh (h : Kept ρ o s) (c us) : Kept ρ o (s.tripCh c us) := by
  unfold State.tripCh
  extract_lets x ts s1 s2 s3
  have h1 : Kept ρ o s1 := ((h.setAmpCh ..).count ..).supplyEvent ..
  have h2 : Kept ρ o s2 := h1.put ..
  have h3 : Kept ρ o s3 := .ite (h2.endForeground ..) h2
  exact .ite (((h3.setChState ..).count ..).supplyEvent ..) (h3.setChState ..)

theorem Kept.playCh (h : Kept ρ o s) (c vrail) : Kept ρ o (s.playCh c vrail) :=
  .ite ((h.send ..).modAmpCh ..) (h.modAmpCh ..)

theorem Kept.pushCh (h : Kept ρ o s) (c w) : Kept ρ o (s.pushCh c w) :=
  h.modAmpCh ..

theorem Kept.showCh (h : Kept ρ o s) (c) : Kept ρ o (s.showCh c) :=
  ((((h.put ..).flag ..).flag ..).put ..).setReg ..

theorem Kept.selectCh (h : Kept ρ o s) (c a b) : Kept ρ o (s.selectCh c a b) := by
  unfold State.selectCh
  extract_lets r s1 s2 s3 s4
  have h1 : Kept ρ o s1 := (h.modAmpCh ..).showCh ..
  have h2 : Kept ρ o s2 := .ite ((h1.count ..).supplyEvent ..) h1
  have h3 : Kept ρ o s3 := .ite (h2.count ..) h2
  have h4 : Kept ρ o s4 := .ite ((h3.count ..).supplyEvent ..) h3
  exact h4.pushCh ..

theorem Kept.stopCounting (h : Kept ρ o s) : Kept ρ o s.stopCounting :=
  (h.setAmp ..).foldl fun _ _ h1 => .ite ((((h1.modAmpCh ..).showCh ..).count ..).supplyEvent ..) ((h1.modAmpCh ..).showCh ..)

theorem Kept.boostRow (h : Kept ρ o s) (vbus vrail) : Kept ρ o (s.boostRow vbus vrail) :=
  .ite ((h.setAmp ..).send ..) (h.setAmp ..)

theorem Kept.correctCh (h : Kept ρ o s) (c mv) : Kept ρ o (s.correctCh c mv) :=
  .ite h (.ite (((((h.setAmpCh ..).putS ..).putS ..).flag ..).supplyEvent ..) ((((h.setAmpCh ..).putS ..).putS ..).flag ..))

theorem Kept.showLimit (h : Kept ρ o s) : Kept ρ o s.showLimit :=
  .ite ((((h.put ..).flag ..).count ..).supplyEvent ..) ((h.put ..).flag ..)

theorem Kept.limitRow (h : Kept ρ o s) (vrail) : Kept ρ o (s.limitRow vrail) :=
  (h.setAmp ..).showLimit

theorem Kept.selectRow (h : Kept ρ o s) (a xf x) : Kept ρ o (s.selectRow a xf x) :=
  .ite (((h.foldl (fun _ _ h1 => h1.selectCh ..)).setAmp ..).stopCounting) ((h.foldl (fun _ _ h1 => h1.selectCh ..)).setAmp ..)

theorem Kept.sendSense (h : Kept ρ o s) (row k ch value) : Kept ρ o (s.sendSense row k ch value) :=
  h.sendFlit ..

theorem Kept.senseRow (h : Kept ρ o s) (row m) : Kept ρ o (s.senseRow row m) := by
  unfold State.senseRow
  extract_lets s1 odd s2
  have h1 : Kept ρ o s1 := h.sendSense ..
  have h2 : Kept ρ o s2 := h1.foldl fun _ _ h1 => h1.sendSense ..
  exact .ite ((h2.sendSense ..).sendSense ..) h2

theorem Kept.ampRow (h : Kept ρ o s) (m) : Kept ρ o (s.ampRow m) := by
  unfold State.ampRow
  extract_lets a sensed s0 s1 src s2 s3
  have hsensed : Kept ρ o sensed := by
    unfold sensed
    split
    exacts [h.senseRow .., h]
  have h0 : Kept ρ o s0 := .ite (hsensed.linkErr ..) hsensed
  have h1 : Kept ρ o s1 := by
    unfold s1
    split
    exacts [h0.foldl (fun _ _ h1 => h1.pushCh ..), h0.selectRow ..]
  have h2 : Kept ρ o s2 := h1.setAmp ..
  have h3 : Kept ρ o s3 := (h2.foldl (fun _ _ h1 => h1.correctCh ..)).limitRow ..
  exact (h3.foldl (fun _ _ h1 => h1.playCh ..)).boostRow ..

/-! ### The functions of Machine/Supply.lean -/

theorem Kept.assertSag (h : Kept ρ o s) (ns) : Kept ρ o (s.assertSag ns) :=
  .ite (h.setRow.setGauge ..) h.setRow

theorem Kept.deassertSag (h : Kept ρ o s) : Kept ρ o s.deassertSag :=
  (h.flag ..).setRow

theorem Kept.supplyFields (h : Kept ρ o s) (a w) : Kept ρ o (s.supplyFields a w) :=
  .ite ((h.writeFields ..).supplyInvalid ..) (h.writeFields ..)

theorem Kept.supplyWrite (h : Kept ρ o s) (a w) : Kept ρ o (s.supplyWrite a w) := by
  unfold State.supplyWrite
  extract_lets l change s1 s1'
  have h1 : Kept ρ o s1 := (h.supplyFields ..).showBoost
  have hs1' : Kept ρ o s1' := h.supplyFields ..
  split
  · exact .ite (((h.writeFields ..).supplyInvalid ..).showBoost) (.ite (h1.foldl (fun _ _ h1 => h1.modAmpCh ..)) h1)
  · split
    · exact .ite (h.supplyFields ..) ((h.writeFields ..).supplyInvalid ..)
    · split
      · exact h.capture32 ..
      · split
        · exact h.capture32 ..
        · split
          · exact .ite hs1' hs1'.deassertSag
          · split
            · exact .ite (h.supplyFields ..) (h.supplyInvalid ..)
            · exact .ite (h.supplyFields ..) (h.supplyInvalid ..)
            · exact h.chCommand ..
            · exact (h.capture64 ..).capture32 ..
            · exact h.supplyFields ..

theorem Kept.badPayload (h : Kept ρ o s) (onMain) : Kept ρ o (s.badPayload onMain) :=
  h.linkErr ..

theorem Kept.takeSense (h : Kept ρ o s) (p) : Kept ρ o (s.takeSense p) := by
  unfold State.takeSense
  extract_lets w ch
  split
  · exact h.setReg ..
  · exact h.setReg ..
  · exact (h.setReg ..).setReg ..
  · exact h.setReg ..
  · exact h.setReg ..
  · exact h.badPayload ..

theorem Kept.takeRegWr (h : Kept ρ o s) (p) : Kept ρ o (s.takeRegWr p) :=
  .ite ((h.supplyWrite ..).queueFlit ..) (h.queueFlit ..)

theorem Kept.takeRegRd (h : Kept ρ o s) (p) : Kept ρ o (s.takeRegRd p) :=
  .ite (h.bumpFree.queueFlit ..) (h.queueFlit ..)

theorem Kept.takeRegRsp (h : Kept ρ o s) (p) : Kept ρ o (s.takeRegRsp p) :=
  .ite (h.badPayload ..) (by split; exacts [.ite (.ite ((h.setAmp ..).invalid ..) (h.setAmp ..)) ((h.setAmp ..).send ..), h])

theorem Kept.takeMbxFlit (h : Kept ρ o s) (onMain p) : Kept ρ o (s.takeMbxFlit onMain p) :=
  .ite (.ite (h.badPayload ..) (h.mbxWrite ..)) (.ite (h.badPayload ..) h.frame)

theorem Kept.takeEvtFlit (h : Kept ρ o s) (p) : Kept ρ o (s.takeEvtFlit p) :=
  .ite (h.foldl (fun _ _ h1 => .ite (h1.countLinkErr ..) h1)) (.ite (h.raise ..) (h.badPayload ..))

theorem Kept.takeSeqFlit (h : Kept ρ o s) (onMain typ p) : Kept ρ o (s.takeSeqFlit onMain typ p) := by
  unfold State.takeSeqFlit
  split
  · exact .ite (h.badPayload ..) (h.takeRegWr ..)
  · exact .ite (h.badPayload ..) (h.takeRegRd ..)
  · exact .ite (h.takeRegRsp ..) (h.badPayload ..)
  · exact h.takeMbxFlit ..
  · exact .ite (h.takeEvtFlit ..) (h.badPayload ..)

theorem Kept.acceptSeq (h : Kept ρ o s) (onMain typ seq p) : Kept ρ o (s.acceptSeq onMain typ seq p) :=
  .ite ((h.setLinkEnd ..).takeSeqFlit ..) (.ite (h.sendFlit ..) (.ite h (h.sendNak ..)))

theorem Kept.takePlain (h : Kept ρ o s) (onMain typ p) : Kept ρ o (s.takePlain onMain typ p) := by
  unfold State.takePlain
  extract_lets words src
  split
  · exact .ite h (h.badPayload ..)
  · exact .ite (h.badPayload ..) (h.setAmp ..)
  · exact .ite (h.badPayload ..) (h.setAmp ..)
  · exact .ite (h.badPayload ..) (h.setAmp ..)
  · exact .ite (h.takeSense ..) (h.badPayload ..)
  · exact h.replay ..
  · exact h.badPayload ..

theorem Kept.receiveFlit (h : Kept ρ o s) (onMain f) : Kept ρ o (s.receiveFlit onMain f) :=
  .ite h (.ite ((h.linkErr ..).sendNak ..) (.ite ((h.takeAck ..).acceptSeq ..) ((h.takeAck ..).takePlain ..)))

/-! ### The functions of Machine/AmpExec.lean -/

theorem execModulationFlitSend_goes (h : Kept False o s) : Goes o (execModulationFlitSend s) :=
  .next (.ite (((h.sendFlit ..).sendFlit ..).sendFlit ..) h)

theorem execIdleFlit_goes (h : Kept False o s) (toMain flit) : Goes o (execIdleFlit toMain flit s) :=
  .next (h.receiveFlit ..)

theorem execRowFlit_goes (h : Kept False o s) (flit) : Goes o (execRowFlit flit s) :=
  .next (h.receiveFlit ..)

theorem execModLoFlit_goes (h : Kept False o s) (flit) : Goes o (execModLoFlit flit s) :=
  .next (h.receiveFlit ..)

theorem execModHiFlit_goes (h : Kept False o s) (flit) : Goes o (execModHiFlit flit s) :=
  .next (h.receiveFlit ..)

theorem execSenseFlit_goes (h : Kept False o s) (flit) : Goes o (execSenseFlit flit s) :=
  .next (h.receiveFlit ..)

theorem execRegWrFlit_goes (h : Kept False o s) (flit) : Goes o (execRegWrFlit flit s) :=
  .next (h.receiveFlit ..)

theorem execRegRdFlit_goes (h : Kept False o s) (flit) : Goes o (execRegRdFlit flit s) :=
  .next (h.receiveFlit ..)

theorem execRegRspFlit_goes (h : Kept False o s) (flit) : Goes o (execRegRspFlit flit s) :=
  .next (h.receiveFlit ..)

theorem execMbxFlit_goes (h : Kept False o s) (toMain flit) : Goes o (execMbxFlit toMain flit s) :=
  .next (h.receiveFlit ..)

theorem execEvtFlit_goes (h : Kept False o s) (flit) : Goes o (execEvtFlit flit s) :=
  .next (h.receiveFlit ..)

theorem execNakFlit_goes (h : Kept False o s) (toMain flit) : Goes o (execNakFlit toMain flit s) :=
  .next (h.receiveFlit ..)

theorem Kept.linkTurn (h : Kept ρ o s) (onMain) : Kept ρ o (s.linkTurn onMain) :=
  .ite h (.ite (h.sendFlit ..) (h.pumpLink ..))

theorem execFlitCreditSend_goes (h : Kept False o s) (onMain) : Goes o (execFlitCreditSend onMain s) :=
  .next (h.linkTurn ..)

theorem Kept.tunnel (h : Kept ρ o s) (write a w) : Kept ρ o (s.tunnel write a w) :=
  .ite ((h.setAmp ..).queueFlit ..) ((h.setAmp ..).queueFlit ..)

theorem execTunnelAccess_goes (h : Kept False o s) (write addr value) : Goes o (execTunnelAccess write addr value s) :=
  .next (.ite (h.tunnel ..) h)

theorem execTunnelTimeout_goes (h : Kept False o s) (tag) : Goes o (execTunnelTimeout tag s) := by
  unfold execTunnelTimeout
  split
  exacts [.next (.ite ((h.setAmp ..).raise ..) (((h.setAmp ..).raise ..).send ..)), .next h]

theorem execXfeedFrameReceive_goes (h : Kept False o s) (bytes) : Goes o (execXfeedFrameReceive bytes s) :=
  .next (h.receiveXf ..)

theorem execXfeedClockLoss_goes (h : Kept False o s) : Goes o (execXfeedClockLoss s) :=
  .next h.xfUnlock

theorem execAmpRowSelect_goes (h : Kept False o s) (rails sense) : Goes o (execAmpRowSelect rails sense s) :=
  .next (h.ampRow ..)

theorem execBoostShortfall_goes (h : Kept False o s) (rail draw) : Goes o (execBoostShortfall rail draw s) :=
  .next (((h.setAmp ..).showBoost).showLimit)

theorem execBusLow_goes (h : Kept False o s) : Goes o (execBusLow s) :=
  .next (.ite h ((((h.setAmp ..).stopChannels ..).count ..).supplyEvent ..))

theorem execBusLowRecover_goes (h : Kept False o s) : Goes o (execBusLowRecover s) :=
  .next ((h.setAmp ..).restartChannels)

theorem execRailOvervoltage_goes (h : Kept False o s) : Goes o (execRailOvervoltage s) :=
  .next (.ite h (((h.setAmp ..).stopChannels ..).supplyEvent ..))

theorem execOverTemperature_goes (h : Kept False o s) : Goes o (execOverTemperature s) :=
  .next (.ite h (((h.setAmp ..).stopChannels ..).supplyEvent ..))

theorem execProtectionRecover_goes (h : Kept False o s) (temperature) : Goes o (execProtectionRecover temperature s) :=
  .next (.ite ((h.setAmp ..).restartChannels) ((h.setAmp ..).restartChannels))

theorem execBootstrapUndervoltage_goes (h : Kept False o s) (channel us) : Goes o (execBootstrapUndervoltage channel us s) :=
  .next (.ite (h.tripCh ..) h)

theorem execCurrentLimit_goes (h : Kept False o s) (channel fresh us) : Goes o (execCurrentLimit channel fresh us s) :=
  .ite (.next (.ite (((h.modAmpCh ..).count64 ..).tripCh ..) ((h.modAmpCh ..).count64 ..))) (.next h)

theorem execTripRetry_goes (h : Kept False o s) (channel) : Goes o (execTripRetry channel s) :=
  .next (.ite h (.ite ((h.modAmpCh ..).setChState ..) (h.modAmpCh ..)))

theorem execRetryGainStep_goes (h : Kept False o s) (channel) : Goes o (execRetryGainStep channel s) :=
  .ite (.next (.ite ((h.modAmpCh ..).setChState ..) (h.modAmpCh ..))) (.next h)

theorem execChEnable_goes (h : Kept False o s) (channel) : Goes o (execChEnable channel s) :=
  .next (h.chCommand ..)

theorem execChDisable_goes (h : Kept False o s) (channel) : Goes o (execChDisable channel s) :=
  .next (h.chCommand ..)

theorem execChClear_goes (h : Kept False o s) (channel) : Goes o (execChClear channel s) :=
  .next (h.chCommand ..)

theorem execPrechgEnd_goes (h : Kept False o s) (channel) : Goes o (execPrechgEnd channel s) :=
  .next (.ite (.ite (h.startCh ..) (h.setChState ..)) h)

theorem execChannelRampEnd_goes (h : Kept False o s) (channel) : Goes o (execChannelRampEnd channel s) :=
  .next (.ite h (.ite (h.setChState ..) (.ite (h.setChState ..) h)))

theorem execImpedanceWindow_goes (h : Kept False o s) (channel mv ma) : Goes o (execImpedanceWindow channel mv ma s) := by
  unfold execImpedanceWindow
  extract_lets c x n s1 z out n' s1'
  have h1 : Kept False o s1 := h.setAmpCh ..
  have hs1' : Kept False o s1' := ((h.setAmpCh ..).put ..).flag ..
  exact .ite (.next h) (.ite (.next (.ite (h1.flag ..) h1)) (.next (.ite (hs1'.supplyEvent ..) hs1')))

theorem execLookaheadWrite_goes (h : Kept False o s) (value) : Goes o (execLookaheadWrite value s) :=
  .next (h.supplyWrite ..)

/-! ### The functions of Machine/EngineExec.lean -/

theorem execNop_goes (h : Kept False o s) (core) : Goes o (execNop core s) :=
  .next h.issueCore

theorem execWaitrow_goes (h : Kept False o s) (core) : Goes o (execWaitrow core s) :=
  .next (h.issue (h.postPage ..))

theorem execGie_goes (h : Kept False o s) (core e) : Goes o (execGie core e s) :=
  .next h.issueCore

theorem execReti_goes (h : Kept False o s) (core) : Goes o (execReti core s) :=
  .next (h.issue ((h.afterIssue ..).retiReturn ..))

theorem execMac_goes (h : Kept False o s) (core ad da db bc k z) : Goes o (execMac core ad da db bc k z s) :=
  .next (h.issuePlain (h.macOp ..))

theorem execMsu_goes (h : Kept False o s) (core ad da db bc k z) : Goes o (execMsu core ad da db bc k z s) :=
  .next (h.issuePlain (h.macOp ..))

theorem Issued.Kept.ite {c : Prop} {_ : Decidable c} {a b : Issued} (ha : a.Kept False o) (hb : b.Kept False o) :
    (if c then a else b).Kept False o := by
  split <;> assumption

theorem Kept.tapOp (h : Kept False o s) (c ad pn pc ddir cv cdir neg z) : (s.tapOp c ad pn pc ddir cv cdir neg z).Kept False o :=
  .ite h (.ite h (.ite h (.ite h (h.accumulate ..).modCore)))

theorem Kept.ldsOp (h : Kept False o s) (c rg pn mode ofs) : (s.ldsOp c rg pn mode ofs).Kept False o := by
  unfold State.ldsOp
  extract_lets k b1 a s0
  have h0 : Kept False o s0 := h.setCore h (by exact Core.updatePtr_ram k ..)
  split
  · exact h
  · split
    · exact ((h0.bumpFree.mbxRead _).modCore).stickySet ..
    · exact h0.bumpFree.modCore
    · exact h0.modCore

theorem Kept.ldvOp (h : Kept False o s) (c rg pn mode ofs) : (s.ldvOp c rg pn mode ofs).Kept False o := by
  unfold State.ldvOp
  extract_lets k a
  split
  · exact h
  · exact h.setCore h (by exact Core.updatePtr_ram k ..)

theorem Kept.stsOp (h : Kept False o s) (c rg pn mode ofs) : (s.stsOp c rg pn mode ofs).Kept False o := by
  unfold State.stsOp
  extract_lets k b1 a w s0
  have h0 : Kept False o s0 := h.setCore h (by exact Core.updatePtr_ram k ..)
  split
  · exact h
  · split
    · exact (h0.bumpFree.mbxWriteOnChip ..).stickySet ..
    · exact h0.coreStore ..

theorem Kept.stvOp (h : Kept False o s) (c rg pn mode ofs) : (s.stvOp c rg pn mode ofs).Kept False o := by
  unfold State.stvOp
  extract_lets k a
  split
  · exact h
  · exact Kept.coreStoreV (h.setCore h (by exact Core.updatePtr_ram k ..)) ..

theorem Kept.xferOp (h : Kept False o s) (c ch dir pw px sn) : (s.xferOp c ch dir pw px sn).Kept False o :=
  .ite (h.setCore h) (.ite (h.setCore h) (h.setCore h))

theorem Kept.branchOp (h : Kept False o s) (c cond t link) : (s.branchOp c cond t link).Kept False o :=
  .ite (Kept.ite (h.setCore h) h) h

theorem Kept.loopOp (h : Kept False o s) (c inner len count) : (s.loopOp c inner len count).Kept False o :=
  .ite (h.setCore h) (h.setCore h)

theorem execTap_goes (h : Kept False o s) (core ad pn pc ddir cv cdir neg z) :
    Goes o (execTap core ad pn pc ddir cv cdir neg z s) :=
  .next (h.issue (h.tapOp ..))

theorem execAadd_goes (h : Kept False o s) (core ad da) : Goes o (execAadd core ad da s) :=
  .next (h.issuePlain (h.accumulate ..))

theorem execAsub_goes (h : Kept False o s) (core ad da) : Goes o (execAsub core ad da s) :=
  .next (h.issuePlain (h.accumulate ..))

theorem execAmov_goes (h : Kept False o s) (core ad src) : Goes o (execAmov core ad src s) :=
  .next h.issueCore

theorem execAhsum_goes (h : Kept False o s) (core ad src) : Goes o (execAhsum core ad src s) :=
  .next (h.issuePlain ((h.setCore h).stickySet ..))

theorem execExt_goes (h : Kept False o s) (core dd src sc c) : Goes o (execExt core dd src sc c s) :=
  .next (h.issuePlain (.ite ((h.vecResult ..).modCore) (h.vecResult ..)))

theorem execVadd_goes (h : Kept False o s) (core dd da db) : Goes o (execVadd core dd da db s) :=
  .next (h.issuePlain (h.valuQ ..))

theorem execVsub_goes (h : Kept False o s) (core dd da db) : Goes o (execVsub core dd da db s) :=
  .next (h.issuePlain (h.valuQ ..))

theorem execVaddw_goes (h : Kept False o s) (core dd da db) : Goes o (execVaddw core dd da db s) :=
  .next h.issueCore

theorem execVsubw_goes (h : Kept False o s) (core dd da db) : Goes o (execVsubw core dd da db s) :=
  .next h.issueCore

theorem execVand_goes (h : Kept False o s) (core dd da db) : Goes o (execVand core dd da db s) :=
  .next h.issueCore

theorem execVor_goes (h : Kept False o s) (core dd da db) : Goes o (execVor core dd da db s) :=
  .next h.issueCore

theorem execVxor_goes (h : Kept False o s) (core dd da db) : Goes o (execVxor core dd da db s) :=
  .next h.issueCore

theorem execVandn_goes (h : Kept False o s) (core dd da db) : Goes o (execVandn core dd da db s) :=
  .next h.issueCore

theorem execVshl_goes (h : Kept False o s) (core dd da n) : Goes o (execVshl core dd da n s) :=
  .next h.issueCore

theorem execVshls_goes (h : Kept False o s) (core dd da n) : Goes o (execVshls core dd da n s) :=
  .next (h.issuePlain (h.valuQ ..))

theorem execVshra_goes (h : Kept False o s) (core dd da n) : Goes o (execVshra core dd da n s) :=
  .next h.issueCore

theorem execVshrl_goes (h : Kept False o s) (core dd da n) : Goes o (execVshrl core dd da n s) :=
  .next h.issueCore

theorem execVmax_goes (h : Kept False o s) (core dd da db) : Goes o (execVmax core dd da db s) :=
  .next h.issueCore

theorem execVmin_goes (h : Kept False o s) (core dd da db) : Goes o (execVmin core dd da db s) :=
  .next h.issueCore

theorem execVabs_goes (h : Kept False o s) (core dd da) : Goes o (execVabs core dd da s) :=
  .next (h.issuePlain (h.valuQ ..))

theorem execVneg_goes (h : Kept False o s) (core dd da) : Goes o (execVneg core dd da s) :=
  .next (h.issuePlain (h.valuQ ..))

theorem execVcmpeq_goes (h : Kept False o s) (core dd da db) : Goes o (execVcmpeq core dd da db s) :=
  .next h.issueCore

theorem execVcmplt_goes (h : Kept False o s) (core dd da db) : Goes o (execVcmplt core dd da db s) :=
  .next h.issueCore

theorem execVcmple_goes (h : Kept False o s) (core dd da db) : Goes o (execVcmple core dd da db s) :=
  .next h.issueCore

theorem execVcmpltu_goes (h : Kept False o s) (core dd da db) : Goes o (execVcmpltu core dd da db s) :=
  .next h.issueCore

theorem execVsel_goes (h : Kept False o s) (core dd da db) : Goes o (execVsel core dd da db s) :=
  .next h.issueCore

theorem execVperm_goes (h : Kept False o s) (core dd da db) : Goes o (execVperm core dd da db s) :=
  .next h.issueCore

theorem execVbc_goes (h : Kept False o s) (core dd da lane) : Goes o (execVbc core dd da lane s) :=
  .next h.issueCore

theorem execVmul_goes (h : Kept False o s) (core dd da db) : Goes o (execVmul core dd da db s) :=
  .next (h.issuePlain (h.vmulOp ..))

theorem execVmulB_goes (h : Kept False o s) (core dd da db lane) : Goes o (execVmulB core dd da db lane s) :=
  .next (h.issuePlain (h.vmulOp ..))

theorem execVsplat_goes (h : Kept False o s) (core dv sn) : Goes o (execVsplat core dv sn s) :=
  .next h.issueCore

theorem execVput_goes (h : Kept False o s) (core dv k sn) : Goes o (execVput core dv k sn s) :=
  .next h.issueCore

theorem execVget_goes (h : Kept False o s) (core sn dv k) : Goes o (execVget core sn dv k s) :=
  .next h.issueCore

theorem execAdd_goes (h : Kept False o s) (core sd sa sb f) : Goes o (execAdd core sd sa sb f s) :=
  .next (h.issueCore (fun _ => Core.salu_ram ..))

theorem execSub_goes (h : Kept False o s) (core sd sa sb f) : Goes o (execSub core sd sa sb f s) :=
  .next (h.issueCore (fun _ => Core.salu_ram ..))

theorem execAnd_goes (h : Kept False o s) (core sd sa sb f) : Goes o (execAnd core sd sa sb f s) :=
  .next (h.issueCore (fun _ => Core.salu_ram ..))

theorem execOr_goes (h : Kept False o s) (core sd sa sb f) : Goes o (execOr core sd sa sb f s) :=
  .next (h.issueCore (fun _ => Core.salu_ram ..))

theorem execXor_goes (h : Kept False o s) (core sd sa sb f) : Goes o (execXor core sd sa sb f s) :=
  .next (h.issueCore (fun _ => Core.salu_ram ..))

theorem execShl_goes (h : Kept False o s) (core sd sa sb f) : Goes o (execShl core sd sa sb f s) :=
  .next (h.issueCore (fun _ => Core.salu_ram ..))

theorem execShra_goes (h : Kept False o s) (core sd sa sb f) : Goes o (execShra core sd sa sb f s) :=
  .next (h.issueCore (fun _ => Core.salu_ram ..))

theorem execShrl_goes (h : Kept False o s) (core sd sa sb f) : Goes o (execShrl core sd sa sb f s) :=
  .next (h.issueCore (fun _ => Core.salu_ram ..))

theorem execMul_goes (h : Kept False o s) (core sd sa sb f) : Goes o (execMul core sd sa sb f s) :=
  .next (h.issueCore (fun _ => Core.salu_ram ..))

theorem execCmp_goes (h : Kept False o s) (core sa sb) : Goes o (execCmp core sa sb s) :=
  .next h.issueCore

theorem execMin_goes (h : Kept False o s) (core sd sa sb f) : Goes o (execMin core sd sa sb f s) :=
  .next (h.issueCore (fun _ => Core.salu_ram ..))

theorem execMax_goes (h : Kept False o s) (core sd sa sb f) : Goes o (execMax core sd sa sb f s) :=
  .next (h.issueCore (fun _ => Core.salu_ram ..))

theorem execAddi_goes (h : Kept False o s) (core sd sa f imm) : Goes o (execAddi core sd sa f imm s) :=
  .next (h.issueCore (fun _ => Core.scalarResult_ram ..))

theorem execAndi_goes (h : Kept False o s) (core sd sa f imm) : Goes o (execAndi core sd sa f imm s) :=
  .next (h.issueCore (fun _ => Core.scalarResult_ram ..))

theorem execOri_goes (h : Kept False o s) (core sd sa f imm) : Goes o (execOri core sd sa f imm s) :=
  .next (h.issueCore (fun _ => Core.scalarResult_ram ..))

theorem execXori_goes (h : Kept False o s) (core sd sa f imm) : Goes o (execXori core sd sa f imm s) :=
  .next (h.issueCore (fun _ => Core.scalarResult_ram ..))

theorem execSetr_goes (h : Kept False o s) (core cl n hi sx imm) : Goes o (execSetr core cl n hi sx imm s) :=
  .next h.issueCore

theorem execMovr_goes (h : Kept False o s) (core dcl dn scl sn) : Goes o (execMovr core dcl dn scl sn s) :=
  .next (h.issueCore (fun _ => Core.moveReg_ram ..))

theorem execXmov_goes (h : Kept False o s) (core toBank1 dcl dn scl sn) : Goes o (execXmov core toBank1 dcl dn scl sn s) :=
  .next (h.issue (by exact h.modCore fun _ => Core.moveReg_ram ..))

theorem execPadd_goes (h : Kept False o s) (core pn imm) : Goes o (execPadd core pn imm s) :=
  .next h.issueCore

theorem execLds_goes (h : Kept False o s) (core rg pn mode ofs) : Goes o (execLds core rg pn mode ofs s) :=
  .next (h.issue (h.ldsOp ..))

theorem execLdv_goes (h : Kept False o s) (core rg pn mode ofs) : Goes o (execLdv core rg pn mode ofs s) :=
  .next (h.issue (h.ldvOp ..))

theorem execSts_goes (h : Kept False o s) (core rg pn mode ofs) : Goes o (execSts core rg pn mode ofs s) :=
  .next (h.issue (h.stsOp ..))

theorem execStv_goes (h : Kept False o s) (core rg pn mode ofs) : Goes o (execStv core rg pn mode ofs s) :=
  .next (h.issue (h.stvOp ..))

theorem execXfer_goes (h : Kept False o s) (core ch dir pw px sn) : Goes o (execXfer core ch dir pw px sn s) :=
  .next (h.issue (h.xferOp ..))

/-- A core without a transfer on a channel. -/
def Core.endTransfer (k : Core) (ch : Nat) : Core := { k with xfers := k.xfers.set (fun _ => none) ch none }

theorem execTransferDone_goes (h : Kept False o s) (core ch run) : Goes o (execTransferDone core ch run s) := by
  unfold execTransferDone
  extract_lets c
  split
  · exact .next h
  · dsimp only
    have h1 {x n} := h.moveBeats c x n x.moved
    have h2 {x n} := (h1 (x := x) (n := n)).modCore (c := c) (f := fun k => k.endTransfer ch.toNat)
    split
    · exact .next (h2.modCore.coreFault ..)
    · refine .ite (.next h1.modCore) (.next (h2.modCore fun k => ?_))
      split <;> simp [Core.endChannels]

theorem execXwait_goes (h : Kept False o s) (core mask) : Goes o (execXwait core mask s) :=
  .next h.issueCore

theorem execB_goes (h : Kept False o s) (core cond target) : Goes o (execB core cond target s) :=
  .next (h.issue (h.branchOp ..))

theorem execCall_goes (h : Kept False o s) (core cond target) : Goes o (execCall core cond target s) :=
  .next (h.issue (h.branchOp ..))

theorem execJr_goes (h : Kept False o s) (core cond sn) : Goes o (execJr core cond sn s) :=
  .next (h.issue (h.branchOp ..))

theorem execCallr_goes (h : Kept False o s) (core cond sn) : Goes o (execCallr core cond sn s) :=
  .next (h.issue (h.branchOp ..))

theorem execRet_goes (h : Kept False o s) (core cond) : Goes o (execRet core cond s) :=
  .next (h.issue (h.branchOp ..))

theorem execLoop_goes (h : Kept False o s) (core inner creg len count) : Goes o (execLoop core inner creg len count s) :=
  .next (h.issue (h.loopOp ..))

theorem execRdc_goes (h : Kept False o s) (core sn idx) : Goes o (execRdc core sn idx s) :=
  .next h.issueCore

theorem execWrc_goes (h : Kept False o s) (core sn idx) : Goes o (execWrc core sn idx s) :=
  .next (h.issuePlain (.ite ((h.setCore h).raise ..) (h.setCore h)))

theorem execInterruptAccept_goes (h : Kept False o s) (core idle) : Goes o (execInterruptAccept core idle s) := by
  unfold execInterruptAccept
  extract_lets k0 k
  split
  · exact .ite (.next (h.setCore h (by rw [Core.tickOnce_ram, Core.enterHandler_ram, Core.advance_ram]))) (.next h)
  · exact .next h

theorem Kept.clearFault (h : Kept ρ o s) (c) : Kept ρ o (s.clearFault c) :=
  h.modCore fun _ => by split <;> rfl

theorem execClrfault_goes (h : Kept False o s) (core) : Goes o (execClrfault core s) :=
  .next (h.clearFault ..)

theorem execIllegalInstruction_goes (h : Kept False o s) (core word) : Goes o (execIllegalInstruction core word s) :=
  .next (.ite (h.issuePlain h) h)

/-! ### The functions of Machine/Loc.lean -/

theorem Kept.writeIn (h : Kept ρ o s) (p ws) : Kept ρ o (s.writeIn p ws) :=
  h.foldl fun _ _ h1 => by split; exacts [h1.sourceWrite .., h1]

theorem Kept.lockFrame (h : Kept ρ o s) (p ns) : Kept ρ o (s.lockFrame p ns) :=
  .ite (((h.setLport ..).flag ..).put ..) ((h.setLport ..).flag ..)

theorem Kept.unlock (h : Kept ρ o s) (p) : Kept ρ o (s.unlock p) :=
  (h.modLport ..).flag ..

theorem Kept.zSettle (h : Kept ρ o s) (p) : Kept ρ o (s.zSettle p) :=
  .ite (.ite (h.setLstate ..) (h.portOff ..)) h

theorem Kept.refusePort (h : Kept ρ o s) (p) : Kept ρ o (s.refusePort p) :=
  (h.put ..).invalid ..

theorem Kept.copyMasks (h : Kept ρ o s) (p) : Kept ρ o (s.copyMasks p) :=
  .ite ((h.setReg ..).setReg ..) (.ite (h.foldl (fun _ _ h1 => (h1.setReg ..).setReg ..)) h)

theorem Kept.armPort (h : Kept ρ o s) (p solo) : Kept ρ o (s.armPort p solo) := by
  unfold State.armPort
  extract_lets s1 s2
  have h1 : Kept ρ o s1 := ((h.modLport ..).put ..).copyMasks ..
  have h2 : Kept ρ o s2 := h1.setLstate ..
  exact .ite (h.put ..) (.ite (h2.put ..) h2)

theorem Kept.castOnPort (h : Kept ρ o s) (p) : Kept ρ o (s.castOnPort p) :=
  .ite (h.armPort ..) (h.refusePort ..)

theorem Kept.unbindPort (h : Kept ρ o s) (p) : Kept ρ o (s.unbindPort p) :=
  .ite (h.portOff ..) (.ite (.ite ((h.modLport ..).setLstate ..) ((h.modLport ..).setLstate ..)) h)

theorem Kept.bindOffPort (h : Kept ρ o s) (p) : Kept ρ o (s.bindOffPort p) :=
  .ite (h.refusePort ..) (h.unbindPort ..)

theorem Kept.commitPort (h : Kept ρ o s) (p) : Kept ρ o (s.commitPort p) :=
  .ite (h.invalid ..) (.ite (h.copyMasks ..) (h.modLport ..))

theorem Kept.applyPortCmd (h : Kept ρ o s) (p w) : Kept ρ o (s.applyPortCmd p w) := by
  unfold State.applyPortCmd
  split
  exacts [h, h.castOnPort .., h.bindOffPort .., h.commitPort ..]

theorem Kept.beginPort (h : Kept ρ o s) (p dataRow) : Kept ρ o (s.beginPort p dataRow) :=
  .ite ((h.modLport ..).setLstate ..) ((h.modLport ..).setLstate ..)

theorem Kept.setGroup (h : Kept ρ o s) (g x) : Kept ρ o (s.setGroup g x) :=
  h.frame

theorem Kept.scheduleStart (h : Kept ρ o s) (g k) : Kept ρ o (s.scheduleStart g k) :=
  (h.setGroup ..).foldl fun _ _ h1 => .ite (h1.modLport ..) (h1.put ..)

theorem Kept.groupCommand (h : Kept ρ o s) (g op pin c) : Kept ρ o (s.groupCommand g op pin c) := by
  unfold State.groupCommand
  extract_lets x k lead low s1
  have h1 : Kept ρ o s1 := h.put ..
  split
  · exact h
  · split
    · exact h.invalid ..
    · split
      · exact h.put ..
      · split
        · exact h.put ..
        · exact .ite ((h.setGroup ..).put ..) (.ite (h.put ..) (.ite (h1.scheduleStart ..) (h1.setGroup ..)))

theorem Kept.groupRow (h : Kept ρ o s) (g) : Kept ρ o (s.groupRow g) := by
  unfold State.groupRow
  extract_lets s1
  have h1 : Kept ρ o s1 := (h.setGroup ..).put ..
  split
  · split
    · split
      · exact h1.foldl (fun _ _ h1 => .ite (h1.unbindPort ..) (h1.put ..))
      · exact .ite (h1.foldl (fun _ _ h1 => .ite (h1.commitPort ..) h1)) h1
    · exact h
  · exact h

theorem Kept.portRow (h : Kept ρ o s) (p) : Kept ρ o (s.portRow p) := by
  unfold State.portRow
  extract_lets x
  split
  · exact .ite (h.portOff ..) h
  · exact .ite (h.modLport ..) h

theorem Kept.portsRow (h : Kept ρ o s) : Kept ρ o s.portsRow :=
  (h.foldl (fun _ _ h1 => h1.groupRow ..)).foldl fun _ _ h1 => h1.portRow ..

theorem Kept.latchPort (h : Kept ρ o s) (p) : Kept ρ o (s.latchPort p) :=
  .ite h (h.modLport ..)

theorem Kept.latchPorts (h : Kept ρ o s) : Kept ρ o s.latchPorts :=
  h.foldl fun _ _ h1 => h1.latchPort ..

theorem Kept.rebindPorts (h : Kept ρ o s) (k) : Kept ρ o (s.rebindPorts k) :=
  h.foldl fun _ _ h1 => .ite h1 (h1.modLport ..)

theorem Kept.takeStatus (h : Kept ρ o s) (i bits) : Kept ρ o (s.takeStatus i bits) := by
  unfold State.takeStatus
  extract_lets b p new old s1 s2
  have h1 : Kept ρ o s1 := h.foldl fun _ _ h1 => h1.setReg ..
  have h2 : Kept ρ o s2 := h1.flag ..
  exact .ite (h.count ..) (.ite h2 (h2.raise ..))

theorem Kept.captureStatus (h : Kept ρ o s) (i sf) : Kept ρ o (s.captureStatus i sf) := by
  unfold State.captureStatus
  dsimp only
  split
  · exact .ite ((h.modLport ..).takeStatus ..) (h.modLport ..)
  · exact h

theorem Kept.measure (h : Kept ρ o s) (p hz) : Kept ρ o (s.measure p hz) :=
  .ite (h.put ..) h

theorem Kept.takeAes (h : Kept ρ o s) (p sf) : Kept ρ o (s.takeAes p sf).1 :=
  (((h.flag ..).captureStatus ..).flag ..).countBy ..

theorem Kept.takeMadi (h : Kept ρ o s) (p sf) : Kept ρ o (s.takeMadi p sf).1 :=
  ((h.setReg ..).setReg ..).countBy ..

theorem Kept.showClaim (h : Kept ρ o s) (p a b) : Kept ρ o (s.showClaim p a b) :=
  ((((((h.flag ..).flag ..).put ..).flag ..).flag ..).put ..).setReg ..

theorem Kept.takeClaim (h : Kept ρ o s) (p a b) : Kept ρ o (s.takeClaim p a b).1 := by
  unfold State.takeClaim
  extract_lets sa sb r s1 s2 s3 s4
  have h1 : Kept ρ o s1 := (h.modLport ..).showClaim ..
  have h2 : Kept ρ o s2 := .ite ((h1.count ..).raise ..) h1
  have h3 : Kept ρ o s3 := .ite (h2.count ..) h2
  have h4 : Kept ρ o s4 := .ite ((h3.count ..).raise ..) h3
  exact h4

theorem Kept.takeWords (h : Kept ρ o s) (p a b) : Kept ρ o (s.takeWords p a b).1 :=
  .ite_fst (.ite_fst (h.takeClaim ..) h) (.ite_fst (h.takeAes ..) (h.takeMadi ..))

theorem Kept.takeFrame (h : Kept ρ o s) (p a b) : Kept ρ o (s.takeFrame p a b) := by
  unfold State.takeFrame
  extract_lets st t x r s1 claim ws s2
  have ht : Kept ρ o t.1 := h.takeWords ..
  have h1 : Kept ρ o s1 := ht.modLport ..
  have h2 : Kept ρ o s2 := h1.writeIn ..
  exact .ite h (.ite h1 ((Kept.ite (h2.count64 ..) h2).zSettle ..))

theorem Kept.sendFrame (h : Kept ρ o s) (p) : Kept ρ o (s.sendFrame p) := by
  unfold State.sendFrame
  extract_lets st s0 x0 t s1 x ws r f s2
  have h0 : Kept ρ o s0 := .ite ((h.copyMasks ..).modLport ..) h
  have h1 : Kept ρ o s1 := .ite (h0.modLport ..) h0
  have h2 : Kept ρ o s2 := (h1.modLport ..).send ..
  exact (Kept.ite (h2.count64 ..) h2).zSettle ..

/-! ### The functions of Machine/SchedExec.lean -/

theorem Kept.writeBudget (h : Kept ρ o s) (c w) : Kept ρ o (s.writeBudget c w) :=
  .ite (h.invalid ..) (.ite h (.ite (h.setReg ..) (h.invalid ..)))

theorem Kept.writeOutcfg (h : Kept ρ o s) (c w) : Kept ρ o (s.writeOutcfg c w) :=
  .ite ((Kept.ite (h.flag ..) h).invalid ..) (.ite (.ite (h.flag ..) h) (.ite ((Kept.ite (h.flag ..) h).put ..) (h.invalid ..)))

theorem Kept.holdReg (h : Kept ρ o s) (a w) : Kept ρ o (s.holdReg a w) :=
  .ite (h.frame.mirror ..) (h.invalid ..)

theorem execCoreBudgetWrite_goes (h : Kept False o s) (core value) : Goes o (execCoreBudgetWrite core value s) :=
  .next (.ite (h.holdReg ..) (h.writeBudget ..))

theorem execCoreOutcfgWrite_goes (h : Kept False o s) (core value) : Goes o (execCoreOutcfgWrite core value s) :=
  .next (.ite (h.holdReg ..) (h.writeOutcfg ..))

theorem Kept.readClear (h : Kept ρ o s) (f) : Kept ρ o (s.readClear f) :=
  (h.send ..).put ..

theorem execCoreSatrowsRead_goes (h : Kept False o s) (core) : Goes o (execCoreSatrowsRead core s) :=
  .next (h.readClear ..)

theorem execCorePeakRead_goes (h : Kept False o s) (core) : Goes o (execCorePeakRead core s) :=
  .next (h.readClear ..)

theorem execCoreStitchRead_goes (h : Kept False o s) (core) : Goes o (execCoreStitchRead core s) :=
  .next (h.readClear ..)

theorem execWmaxRtRead_goes (h : Kept False o s) : Goes o (execWmaxRtRead s) :=
  .next (h.readClear ..)

theorem Kept.snapDigest (h : Kept ρ o s) (n) : Kept ρ o (s.snapDigest n) :=
  (((h.setReg ..).setReg ..).setReg ..).setReg ..

theorem execDigestSnap_goes (h : Kept False o s) (cluster) (value : BitVec 32) : Goes o (execDigestSnap cluster value s) :=
  .next (h.snapDigest ..)

theorem Kept.applyBy (h : Kept ρ o s) {f : State → TpRec → State} (r) (hf : ∀ t r, Kept ρ o t → Kept ρ o (f t r)) :
    Kept ρ o (s.applyBy r f) :=
  .ite (hf _ _ h).frame (hf _ _ h)

theorem Kept.tpTake (h : Kept ρ o s) {p r} (e : s.tpTake p = some (r, t)) : Kept ρ o t := by
  obtain ⟨x, _, hx⟩ := Option.map_eq_some_iff.mp e
  obtain ⟨_, rfl⟩ := Prod.mk.inj hx
  exact h.setRow

theorem Kept.applyFirst (h : Kept ρ o s) {p} {f : State → TpRec → State} (hf : ∀ t r, Kept ρ o t → Kept ρ o (f t r)) :
    Kept ρ o (s.applyFirst p f) := by
  unfold State.applyFirst
  split
  next e => exact (h.tpTake e).applyBy _ hf
  next => exact h

theorem execTpDoorbell_goes (h : Kept False o s) : Goes o (execTpDoorbell s) :=
  .next (h.applyFirst (fun _ _ h1 => h1.applyDoorbell ..))

theorem execTpCoefWord_goes (h : Kept False o s) : Goes o (execTpCoefWord s) :=
  .next (h.applyFirst (fun _ _ h1 => h1.applyCoefWord ..))

theorem execTpSwap_goes (h : Kept False o s) : Goes o (execTpSwap s) :=
  .next (h.applyFirst (fun _ _ h1 => h1.applySwap ..))

theorem execTpBindoff_goes (h : Kept False o s) : Goes o (execTpBindoff s) :=
  .next (h.applyFirst (fun _ _ h1 => h1.applyBindoff ..))

theorem execCoreBindoffReset_goes (h : Kept False o s) (core) : Goes o (execCoreBindoffReset core s) :=
  .next (h.modCore fun _ => by
    split
    · split <;> rfl
    · rfl)

theorem execMapDataApply_goes (h : Kept False o s) : Goes o (execMapDataApply s) :=
  .next (h.applyFirst (fun _ _ h1 => .ite (h1.applyMapSel ..) (h1.applyMapData ..)))

theorem execMapSwap_goes (h : Kept False o s) : Goes o (execMapSwap s) :=
  .next (h.applyFirst (fun _ _ h1 => h1.applyMapCtl ..))

theorem execMtxTableSwap_goes (h : Kept False o s) : Goes o (execMtxTableSwap s) :=
  .next (h.applyFirst (fun _ _ h1 => h1.applyTblCtl ..))

theorem Kept.applyEnable (h : Kept ρ o s) (f w) : Kept ρ o (s.applyEnable f w) :=
  h.flag ..

theorem execMtxCtlApply_goes (h : Kept False o s) : Goes o (execMtxCtlApply s) :=
  .next (h.applyFirst (fun _ _ h1 => h1.applyEnable ..))

theorem execXpSelApply_goes (h : Kept False o s) : Goes o (execXpSelApply s) :=
  .next (h.applyFirst (fun _ _ h1 => h1.setReg ..))

theorem execXpGainApply_goes (h : Kept False o s) : Goes o (execXpGainApply s) :=
  .next (h.applyFirst (fun _ _ h1 => h1.applyXpGain ..))

theorem execDlyCtlApply_goes (h : Kept False o s) : Goes o (execDlyCtlApply s) :=
  .next (h.applyFirst (fun _ _ h1 => h1.applyEnable ..))

theorem execLineLenApply_goes (h : Kept False o s) : Goes o (execLineLenApply s) :=
  .next (h.applyFirst (fun _ _ h1 => h1.applyLineLen ..))

theorem execLineDelayApply_goes (h : Kept False o s) : Goes o (execLineDelayApply s) :=
  .next (h.applyFirst (fun _ _ h1 => h1.applyLineDelay ..))

theorem Kept.writeShdData (h : Kept ρ o s) (w) : Kept ρ o (s.writeShdData w) :=
  .ite (h.invalid ..) (((h.writeShadowEntry ..).setReg ..).put ..)

theorem execShdDataWrite_goes (h : Kept False o s) (value) : Goes o (execShdDataWrite value s) :=
  .next (h.writeShdData ..)

theorem execMapCheck_goes (h : Kept False o s) : Goes o (execMapCheck s) :=
  .next h.startMapCheck

theorem execMapCheckDone_goes (h : Kept False o s) : Goes o (execMapCheckDone s) :=
  .next (.ite h.endMapCheck h)

theorem Kept.writeShdRoute (h : Kept ρ o s) (w) : Kept ρ o (s.writeShdRoute w) :=
  (((h.setMtxEntry ..).touchShadowTable).setReg ..).put ..

theorem execShdRouteWrite_goes (h : Kept False o s) (value) : Goes o (execShdRouteWrite value s) :=
  .next (h.writeShdRoute ..)

theorem execMtxCheck_goes (h : Kept False o s) : Goes o (execMtxCheck s) :=
  .next h.startMtxCheck

theorem execMtxCheckDone_goes (h : Kept False o s) : Goes o (execMtxCheckDone s) :=
  .next (.ite h.endMtxCheck h)

theorem execGlideEnd_goes (h : Kept False o s) (entry) : Goes o (execGlideEnd entry s) :=
  .next (h.endGlide ..)

theorem execCrossfadeEnd_goes (h : Kept False o s) (line) : Goes o (execCrossfadeEnd line s) := by
  unfold execCrossfadeEnd
  split
  exacts [.next (.ite (h.setLine ..) h), .next h]

theorem execQownWrite_goes (h : Kept False o s) (bank value) : Goes o (execQownWrite bank value s) :=
  .next (h.writeQown ..)

theorem execSlotDecayStart_goes (h : Kept False o s) (slot) : Goes o (execSlotDecayStart slot s) :=
  .ite (.next (((h.setSlot ..).count ..).setRow)) (.next h)

theorem Kept.writeMigrate (h : Kept ρ o s) (w) : Kept ρ o (s.writeMigrate w) :=
  .ite ((h.setReg ..).migrateRequest ..) (h.setReg ..)

theorem execMigrateGo_goes (h : Kept False o s) (value) : Goes o (execMigrateGo value s) :=
  .next (h.writeMigrate ..)

theorem execFirmwareMigrationRequest_goes (h : Kept False o s) (core back) : Goes o (execFirmwareMigrationRequest core back s) :=
  .next (h.migrateRequest ..)

theorem execMigrationAbandon_goes (h : Kept False o s) : Goes o (execMigrationAbandon s) := by
  unfold execMigrationAbandon
  split
  exacts [.ite (.next ((h.setRow.put ..).raise ..)) (.next h), .next h]

theorem Kept.latencyEffect (h : Kept ρ o s) : Kept ρ o s.latencyEffect := by
  unfold State.latencyEffect
  split
  exacts [h.setRow.flag .., h]

theorem Kept.policyEffect (h : Kept ρ o s) : Kept ρ o s.policyEffect :=
  .ite (.ite (((h.put ..).setRow).setGauge ..) (((h.put ..).setRow).setRow)) h

theorem execLatencyChangeEffect_goes (h : Kept False o s) : Goes o (execLatencyChangeEffect s) :=
  .next h.latencyEffect

theorem execPolicyChangeEffect_goes (h : Kept False o s) : Goes o (execPolicyChangeEffect s) :=
  .next h.policyEffect

theorem execGaugeRecoveryStep_goes (h : Kept False o s) (ns) : Goes o (execGaugeRecoveryStep ns s) :=
  .ite (.next ((h.setGauge ..).setRow)) (.next h)

/-! ### The functions of Machine/StrExec.lean -/

theorem Kept.fcmdDue (h : Kept ρ o s) (op tx slot) : Kept ρ o (s.fcmdDue op tx slot) :=
  h.applyFirst fun _ _ h1 => h1.applyFcmd ..

theorem execRxBind_goes (h : Kept False o s) (slot) : Goes o (execRxBind slot s) :=
  .next (h.fcmdDue ..)

theorem execTxBind_goes (h : Kept False o s) (slot) : Goes o (execTxBind slot s) :=
  .next (h.fcmdDue ..)

theorem execRxBindoff_goes (h : Kept False o s) (slot) : Goes o (execRxBindoff slot s) :=
  .next (h.fcmdDue ..)

theorem execTxBindoff_goes (h : Kept False o s) (slot) : Goes o (execTxBindoff slot s) :=
  .next (h.fcmdDue ..)

theorem execFlowBindoffEnd_goes (h : Kept False o s) (tx slot) : Goes o (execFlowBindoffEnd tx slot s) :=
  .next (.ite (h.drainFlow ..) h)

theorem execFlowDrainEnd_goes (h : Kept False o s) (tx slot) : Goes o (execFlowDrainEnd tx slot s) :=
  .next (.ite (h.freeFlow ..) h)

theorem execMalraingFrameReceive_goes (h : Kept False o s) (port bytes ns) : Goes o (execMalraingFrameReceive port bytes ns s) :=
  .next (h.foldl (fun _ _ h1 => h1.malFrame ..))

theorem execFlowLost_goes (h : Kept False o s) (slot) : Goes o (execFlowLost slot s) :=
  .next (.ite ((h.modFlow ..).raise ..) h)

theorem execAafPacketReceive_goes (h : Kept False o s) (port bytes) : Goes o (execAafPacketReceive port bytes s) :=
  .next (h.foldl (fun _ _ h1 => h1.aafPacket ..))

theorem execRtpPacketReceive_goes (h : Kept False o s) (port bytes) : Goes o (execRtpPacketReceive port bytes s) :=
  .next (h.foldl (fun _ _ h1 => h1.rtpPacket ..))

theorem execReceiveDeadline_goes (h : Kept False o s) : Goes o (execReceiveDeadline s) :=
  .next h.recvDeadline

/-! ### The functions of Machine/ClockOps.lean -/

theorem Kept.setRefIn (h : Kept ρ o s) (r x) : Kept ρ o (s.setRefIn r x) :=
  h.frame

theorem Kept.setClk (h : Kept ρ o s) (c) : Kept ρ o (s.setClk c) :=
  h.frame

theorem Kept.stopWtr (h : Kept ρ o s) (r) : Kept ρ o (s.stopWtr r) :=
  ((h.setRefIn ..).flag ..).put ..

theorem Kept.startWtr (h : Kept ρ o s) (r) : Kept ρ o (s.startWtr r) :=
  .ite (h.stopWtr ..) (((h.setRefIn ..).flag ..).put ..)

theorem Kept.setStage (h : Kept ρ o s) (r st) : Kept ρ o (s.setStage r st) := by
  unfold State.setStage
  extract_lets old s1 src s2
  have h1 : Kept ρ o s1 := (h.put ..).raise ..
  have h2 : Kept ρ o s2 := .ite ((h1.setRefIn ..).count ..) (.ite (h1.count ..) h1)
  exact .ite h (.ite (.ite h2 (h2.startWtr ..)) (h2.stopWtr ..))

theorem Kept.offsetUpdate (h : Kept ρ o s) (r offset) : Kept ρ o (s.offsetUpdate r offset) := by
  unfold State.offsetUpdate
  extract_lets m x q thr low w n d y s1 held up down st
  have h1 : Kept ρ o s1 := h.setRefIn ..
  split
  · exact h1.setStage ..
  · split
    · exact h1.setStage ..
    · exact .ite (h1.setStage ..) (.ite (h1.setStage ..) (.ite (h1.setStage ..) (.ite (h1.setStage ..) h1)))

theorem Kept.latchRef (h : Kept ρ o s) (r) : Kept ρ o (s.latchRef r) :=
  .ite (((Kept.ite ((h.put ..).setStage ..) (h.put ..)).setRefIn ..).put ..) (.ite ((h.put ..).setStage ..) (h.put ..))

theorem Kept.setDpll (h : Kept ρ o s) (st) : Kept ρ o (s.setDpll st) :=
  .ite h (.ite ((((h.put ..).raise ..).setClk ..).count ..) (((h.put ..).raise ..).setClk ..))

theorem Kept.setSel (h : Kept ρ o s) (r) : Kept ρ o (s.setSel r) :=
  .ite h (((h.put ..).count ..).raise ..)

theorem Kept.switchTo (h : Kept ρ o s) (c dphi) : Kept ρ o (s.switchTo c dphi) := by
  unfold State.switchTo
  split
  exacts [(h.setSel ..).setDpll .., .ite h (.ite (((h.setSel ..).setClk ..).setDpll ..) ((h.setSel ..).setClk ..))]

theorem Kept.loopUpdate (h : Kept ρ o s) (err freq) : Kept ρ o (s.loopUpdate err freq) := by
  unfold State.loopUpdate
  extract_lets c q held run s1
  have h1 : Kept ρ o s1 := h.setClk ..
  split
  · exact h.setClk ..
  · exact .ite (h1.setDpll ..) h1
  · exact h.setClk ..
  · exact h.setClk ..

theorem Kept.clockSample (h : Kept ρ o s) (n freq) : Kept ρ o (s.clockSample n freq) := by
  unfold State.clockSample
  extract_lets st p o' bad far wide follow s2 b cnt s3
  have h2 : Kept ρ o s2 := (h.showOffset ..).countRuns ..
  have h3 : Kept ρ o s3 := (h2.modBase ..).askFreq ..
  split
  · exact h
  · split
    · exact .ite h ((h.modBase ..).askFreq ..)
    · split
      · exact h2.doRestep ..
      · split
        · exact h2.sampleHold ..
        · split
          · exact .ite ((h2.enterHoldover ..).raise ..) h2
          · exact .ite ((h3.modBase ..).setTbState ..) (.ite (h3.enterLocking ..) h3)

theorem Kept.passClock (h : Kept ρ o s) (six n) : Kept ρ o (s.passClock six n) :=
  .ite h (.ite (h.clockSample ..) (.ite ((h.enterHoldover ..).modBase ..) h))

theorem Kept.dpllUpdate (h : Kept ρ o s) (err dphi freq) : Kept ρ o (s.dpllUpdate err dphi freq) :=
  ((((h.foldl (fun _ _ h1 => h1.latchRef ..)).switchTo ..).loopUpdate ..).setClk ..).foldl fun _ _ h1 => h1.passClock ..

theorem Kept.stopMonitoring (h : Kept ρ o s) : Kept ρ o s.stopMonitoring :=
  (h.setDpll ..).foldl fun _ _ h1 => .ite h1 (h1.setStage ..)

/-! ### The functions of Machine/House.lean -/

theorem Kept.sendDatagram (h : Kept ρ o s) (n q dmac dip port data) : Kept ρ o (s.sendDatagram n q dmac dip port data) :=
  h.houseFrame ..

theorem Kept.ptpQueue (h : Kept ρ o s) (n port event seq dst msg) : Kept ρ o (s.ptpQueue n port event seq dst msg) :=
  h.houseFrame ..

theorem Kept.nextSeq (h : Kept ρ o s) (n port kind) : Kept ρ o (s.nextSeq n port kind) :=
  h.frame

theorem Kept.ptpSend (h : Kept ρ o s) (n port kind) : Kept ρ o (s.ptpSend n port kind) := by
  unfold State.ptpSend
  extract_lets q src s1
  have h1 : Kept ρ o s1 := h.frame
  split
  · exact (h.nextSeq ..).ptpQueue ..
  · split
    · exact h1.ptpQueue ..
    · exact h
  · exact (h.nextSeq ..).ptpQueue ..
  · exact (h.nextSeq ..).ptpQueue ..
  · exact (h.nextSeq ..).ptpQueue ..

theorem Kept.delayResp (h : Kept ρ o s) (n port req seq dst) : Kept ρ o (s.delayResp n port req seq dst) :=
  h.ptpQueue ..

theorem Kept.pdelayResp (h : Kept ρ o s) (n port req seq) : Kept ρ o (s.pdelayResp n port req seq) :=
  h.ptpQueue ..

theorem Kept.firmwarePop (h : Kept ρ o s) (port b) : Kept ρ o (s.firmwarePop port b) := by
  unfold State.firmwarePop
  split
  exacts [.ite ((h.modPort ..).frame) (.ite ((h.modPort ..).ptpQueue ..) (h.modPort ..)), h]

/-! ### The functions of Machine/TimeExec.lean -/

theorem Kept.disableBase (h : Kept ρ o s) (n) : Kept ρ o (s.disableBase n) :=
  ((((((h.setBase ..).flag ..).put ..).putS ..).putS ..).setTbState ..).showMaster ..

theorem Kept.enableBase (h : Kept ρ o s) (n) : Kept ρ o (s.enableBase n) :=
  (((h.modBase ..).flag ..).setTbState ..).showMaster ..

theorem Kept.writeTbCtl (h : Kept ρ o s) (n w free) : Kept ρ o (s.writeTbCtl n w free) := by
  unfold State.writeTbCtl
  extract_lets src en off srcBad s1
  have h1 : Kept ρ o s1 := .ite (h.invalid ..) (h.put ..)
  refine Kept.checkBasePorts ?_ ..
  exact .ite (.ite (h1.invalid ..) (h1.enableBase ..)) (.ite (.ite (h1.invalid ..) (h1.disableBase ..)) h1)

theorem execPtpSyncReceive_goes (h : Kept False o s) (tb msg servo) : Goes o (execPtpSyncReceive tb msg servo s) :=
  .next (.ite ((h.modBase ..).sample ..) h)

theorem execPtpDelayRespReceive_goes (h : Kept False o s) (tb) : Goes o (execPtpDelayRespReceive tb s) :=
  .next (.ite h (h.modBase ..))

theorem execPtpAnnounceReceive_goes (h : Kept False o s) (tb port sender gm prio1 cls accuracy prio2 variance trail) :
    Goes o (execPtpAnnounceReceive tb port sender gm prio1 cls accuracy prio2 variance trail s) :=
  .next (.ite ((h.modBase ..).selectMaster ..) h)

theorem execPtpReceiptTimeout_goes (h : Kept False o s) (tb) : Goes o (execPtpReceiptTimeout tb s) := by
  unfold execPtpReceiptTimeout
  split
  exacts [.next h, .next (.ite (((h.modBase ..).selectMaster ..).holdIfRuns ..) ((h.modBase ..).selectMaster ..))]

theorem execPtpMessageSend_goes (h : Kept False o s) (tb port kind) : Goes o (execPtpMessageSend tb port kind s) :=
  .next (.ite (h.ptpSend ..) h)

theorem execPtpDelayReqReceive_goes (h : Kept False o s) (tb port msg) : Goes o (execPtpDelayReqReceive tb port msg s) :=
  .next (.ite (.ite (h.pdelayResp ..) h) (.ite (h.delayResp ..) h))

theorem Kept.applyTbSet (h : Kept ρ o s) (n) : Kept ρ o (s.applyTbSet n) :=
  .ite ((((h.modBase ..).put ..).setTbState ..).selectMaster ..) (h.put ..)

theorem execTbSet_goes (h : Kept False o s) (tb) : Goes o (execTbSet tb s) :=
  .next (h.applyFirst (fun _ _ h1 => h1.applyTbSet ..))

theorem Kept.applyTbHold (h : Kept ρ o s) (n) : Kept ρ o (s.applyTbHold n) :=
  .ite ((h.enterHoldover ..).put ..) (h.put ..)

theorem execTbHold_goes (h : Kept False o s) (tb) : Goes o (execTbHold tb s) :=
  .next (h.applyFirst (fun _ _ h1 => h1.applyTbHold ..))

theorem Kept.applyTbRelease (h : Kept ρ o s) (n) : Kept ρ o (s.applyTbRelease n) :=
  .ite (((h.modBase ..).put ..).put ..) (h.put ..)

theorem execTbRelease_goes (h : Kept False o s) (tb) : Goes o (execTbRelease tb s) :=
  .next (h.applyFirst (fun _ _ h1 => h1.applyTbRelease ..))

theorem Kept.refuseRestep (h : Kept ρ o s) (n) : Kept ρ o (s.refuseRestep n) :=
  (h.put ..).raise ..

theorem execDpllUpdate_goes (h : Kept False o s) (err dphi freq) : Goes o (execDpllUpdate err dphi freq s) :=
  .next (.ite (h.dpllUpdate ..) h)

theorem execRefLoss_goes (h : Kept False o s) (input) : Goes o (execRefLoss input s) :=
  .next (.ite (h.setStage ..) h)

theorem execRefLossClear_goes (h : Kept False o s) (input offset) : Goes o (execRefLossClear input offset s) :=
  .next (.ite ((h.setRefIn ..).setStage ..) h)

theorem execRateWindow_goes (h : Kept False o s) (input count) : Goes o (execRateWindow input count s) := by
  unfold execRateWindow
  extract_lets nominal ok s1 src s2
  have h1 : Kept False o s1 := .ite (h.put ..) h
  have h2 : Kept False o s2 := h1.setRefIn ..
  exact .next (.ite h (.ite (h2.setStage ..) (.ite (h2.setStage ..) h2)))

theorem execRefOffsetUpdate_goes (h : Kept False o s) (input offset) : Goes o (execRefOffsetUpdate input offset s) :=
  .next (.ite (h.offsetUpdate ..) h)

theorem execWtrExpire_goes (h : Kept False o s) (input) : Goes o (execWtrExpire input s) :=
  .next (.ite (h.stopWtr ..) h)

theorem execHistokSet_goes (h : Kept False o s) : Goes o (execHistokSet s) :=
  .next (.ite ((h.flag ..).setClk ..) h)

theorem execEsmcReceive_goes (h : Kept False o s) (port ssm) : Goes o (execEsmcReceive port ssm s) :=
  .next (h.setRefIn ..)

theorem execEsmcTimeout_goes (h : Kept False o s) (port) : Goes o (execEsmcTimeout port s) :=
  .next (h.setRefIn ..)

theorem Kept.esmcSend (h : Kept ρ o s) (port event) : Kept ρ o (s.esmcSend port event) :=
  .ite (h.houseFrame ..) h

theorem execEsmcInfoSend_goes (h : Kept False o s) (port) : Goes o (execEsmcInfoSend port s) :=
  .next (h.esmcSend ..)

theorem execEsmcEventSend_goes (h : Kept False o s) (port) : Goes o (execEsmcEventSend port s) :=
  .next (h.esmcSend ..)

theorem Kept.applyPhstep (h : Kept ρ o s) (w) : Kept ρ o (s.applyPhstep w) :=
  .ite (h.invalid ..) (h.setClk ..)

theorem execPhstepApply_goes (h : Kept False o s) : Goes o (execPhstepApply s) :=
  .next (h.applyFirst (fun _ _ h1 => h1.applyPhstep ..))

theorem execReferenceEdge_goes (h : Kept False o s) (input ps) : Goes o (execReferenceEdge input ps s) :=
  .next (.ite h (.ite (h.setRefIn ..) (h.count ..)))

theorem Kept.snapBase (h : Kept ρ o s) (n) : Kept ρ o (s.snapBase n) :=
  ((((h.put ..).put ..).put ..).put ..).put ..

theorem Kept.snapClk (h : Kept ρ o s) : Kept ρ o s.snapClk :=
  ((((h.putS ..).putS ..).putS ..).put ..).foldl fun _ _ h1 => h1.putS ..

/-! ### The functions of Machine/MediaExec.lean -/

theorem execTbEnWrite_goes (h : Kept False o s) (tb value) : Goes o (execTbEnWrite tb value s) :=
  .next (h.writeTbCtl ..)

theorem Kept.setRestep (h : Kept ρ o s) (n r) : Kept ρ o (s.setRestep n r) :=
  h.modBase ..

theorem Kept.bindOffOutputs (h : Kept ρ o s) (k) : Kept ρ o (s.bindOffOutputs k) :=
  (h.foldl (fun _ _ h1 => h1.bindoffFlow ..)).rebindPorts ..

theorem Kept.applyTbRestep (h : Kept ρ o s) (n boff) : Kept ρ o (s.applyTbRestep n boff) := by
  unfold State.applyTbRestep
  extract_lets go
  split
  · exact h.refuseRestep ..
  · split
    · exact (h.setRestep ..).put ..
    · exact .ite (((h.bindOffOutputs ..).setRestep ..).put ..) (.ite ((h.setRestep ..).put ..) (h.refuseRestep ..))

theorem execTbRestep_goes (h : Kept False o s) (tb) : Goes o (execTbRestep tb s) :=
  .next (h.applyFirst (fun _ _ h1 => h1.applyTbRestep ..))

theorem Kept.applyMediasel (h : Kept ρ o s) (w) : Kept ρ o (s.applyMediasel w) :=
  .ite h (.ite (((h.put ..).setRestep ..).put ..) (h.refuseRestep ..))

theorem execMediaselApply_goes (h : Kept False o s) : Goes o (execMediaselApply s) :=
  .next (h.applyFirst (fun _ _ h1 => h1.applyMediasel ..))

theorem Kept.prepareRestep (h : Kept ρ o s) : Kept ρ o s.prepareRestep :=
  (h.stopTicks.tpFlush.foldl (fun _ _ h1 => h1.modFlow ..)).setRestep ..

theorem execMediaRestepPrepared_goes (h : Kept False o s) : Goes o (execMediaRestepPrepared s) :=
  .next (by split; exacts [h.prepareRestep, .ite h.prepareRestep h, h])

theorem execRestepNostepTimeout_goes (h : Kept False o s) : Goes o (execRestepNostepTimeout s) :=
  .next (.ite (((h.setRestep ..).put ..).frame) h)

theorem execMediaClockLock_goes (h : Kept False o s) : Goes o (execMediaClockLock s) :=
  .next (.ite (h.setRow.setMlock ..) h)

/-! ### The functions of Machine/RingExec.lean -/

theorem Kept.finishHead (h : Kept ρ o s) (r c) : Kept ρ o (s.finishHead r c) := by
  unfold State.finishHead
  split
  exacts [((h.modRing ..).completeDesc ..).settle .., h]

theorem Kept.execHead (h : Kept ρ o s) {r p} {f : State → Desc → State} (hf : ∀ t d, Kept ρ o t → Kept ρ o (f t d)) :
    Kept ρ o (s.execHead r p f) := by
  unfold State.execHead
  extract_lets x
  split
  · exact h
  · refine .ite (Kept.pumpAll (Kept.startAllRx ?_)) h
    split
    · exact h.finishHead ..
    · exact hf _ _ h

theorem Kept.okHead (h : Kept ρ o s) (r d) : Kept ρ o (s.okHead r d) :=
  h.finishHead ..

theorem Kept.startHead (h : Kept ρ o s) (r d) : Kept ρ o (s.startHead r d) :=
  h.startTransfer ..

theorem execCmdNop_goes (h : Kept False o s) (ring) : Goes o (execCmdNop ring s) :=
  .next (h.execHead (fun _ _ h1 => h1.okHead ..))

theorem execTimedParam_goes (h : Kept False o s) (ring) : Goes o (execTimedParam ring s) :=
  .next (h.execHead (fun _ _ h1 => (h1.tpSubmit ..).finishHead ..))

theorem execLoadProg_goes (h : Kept False o s) (ring) : Goes o (execLoadProg ring s) :=
  .next (h.execHead (fun _ _ h1 => (h1.setPready ..).startHead ..))

theorem execLoadCoef_goes (h : Kept False o s) (ring) : Goes o (execLoadCoef ring s) :=
  .next (h.execHead (fun _ _ h1 => (h1.setCready ..).startHead ..))

theorem execLoadMap_goes (h : Kept False o s) (ring) : Goes o (execLoadMap ring s) :=
  .next (h.execHead (fun _ _ h1 => ((h1.setMapReady ..).flag ..).startHead ..))

theorem execLoadMtx_goes (h : Kept False o s) (ring) : Goes o (execLoadMtx ring s) :=
  .next (h.execHead (fun _ _ h1 => h1.touchShadowTable.startHead ..))

theorem execShmemWrite_goes (h : Kept False o s) (ring) : Goes o (execShmemWrite ring s) :=
  .next (h.execHead (fun _ _ h1 => h1.startHead ..))

theorem execShmemRead_goes (h : Kept False o s) (ring) : Goes o (execShmemRead ring s) :=
  .next (h.execHead (fun _ _ h1 => h1.startHead ..))

theorem Kept.modFw (h : Kept ρ o s) (n f) : Kept ρ o (s.modFw n f) :=
  h.frame

theorem execFwConfigSyncInterval_goes (h : Kept False o s) (ring) : Goes o (execFwConfigSyncInterval ring s) :=
  .next (h.execHead (fun _ _ h1 => (h1.modFw ..).okHead ..))

theorem execFwConfigAnnounceInterval_goes (h : Kept False o s) (ring) : Goes o (execFwConfigAnnounceInterval ring s) :=
  .next (h.execHead (fun _ _ h1 => (h1.modFw ..).okHead ..))

theorem execFwConfigAnnounceTimeout_goes (h : Kept False o s) (ring) : Goes o (execFwConfigAnnounceTimeout ring s) :=
  .next (h.execHead (fun _ _ h1 => (h1.modFw ..).okHead ..))

theorem execFwConfigMetadataTlv_goes (h : Kept False o s) (ring) : Goes o (execFwConfigMetadataTlv ring s) :=
  .next (h.execHead (fun _ _ h1 => h1.startHead ..))

theorem execFwConfigLldpInterval_goes (h : Kept False o s) (ring) : Goes o (execFwConfigLldpInterval ring s) :=
  .next (h.execHead (fun _ _ h1 => h1.frame.okHead ..))

theorem execFwConfigEsmc_goes (h : Kept False o s) (ring) : Goes o (execFwConfigEsmc ring s) :=
  .next (h.execHead (fun _ _ h1 => h1.frame.okHead ..))

theorem Kept.closeFault (h : Kept ρ o s) (fid) : Kept ρ o (s.closeFault fid) :=
  h.setFaults ..

theorem Kept.restart (h : Kept ρ o s) (w) : Kept ρ o (s.restart w) := by
  unfold State.restart
  split
  exacts [(h.unblock ..).nextSegment .., (h.unblock ..).readDesc .., h.pumpRing .., h]

theorem Kept.okAfter (h : Kept ρ o s) (r d g) : Kept ρ o (s.okAfter r d g) :=
  h.finishHead ..

theorem execResume_goes (h : Kept False o s) (ring) : Goes o (execResume ring s) :=
  .next (h.execHead (fun _ _ h1 => (by split; exacts [((h1.closeFault ..).restart ..).okAfter .., h1])))

theorem execResumeAbort_goes (h : Kept False o s) (ring) : Goes o (execResumeAbort ring s) :=
  .next (h.execHead (fun _ _ h1 => (by split; exacts [((h1.closeFault ..).abortFault ..).okAfter .., h1])))

theorem execTxFrame_goes (h : Kept False o s) (ring) : Goes o (execTxFrame ring s) :=
  .next (h.execHead (fun _ _ h1 => h1.startHead ..))

theorem execRxBuf_goes (h : Kept False o s) (ring) : Goes o (execRxBuf ring s) := by
  unfold execRxBuf
  extract_lets x
  split
  · exact .next h
  · refine .ite (.next (Kept.pumpAll ?_)) (.next h)
    split
    · exact .ite (h.finishHead ..) h
    · exact h.modRing ..

theorem Kept.deliverRx (h : Kept ρ o s) (port bytes i) : Kept ρ o (s.deliverRx port bytes i) := by
  unfold State.deliverRx
  split
  exacts [.ite (((h.modRing ..).startRx ..).pumpAll) (h.count ..), h.count ..]

theorem Kept.takeBlock (h : Kept ρ o s) {r ty start} (hf : ∀ t b, Kept ρ o t → Kept ρ o (start t b)) :
    Kept ρ o (s.takeBlock r ty start) := by
  unfold State.takeBlock
  extract_lets x
  split
  · exact h
  · extract_lets k s0
    have h0 : Kept ρ o s0 := h.modRing ..
    refine .ite h (Kept.pumpAll ?_)
    split
    · exact (h0.endBlock ..).settle ..
    · exact .ite (Kept.settle (Kept.endBlock (.ite ((h0.count ..).raise ..) h0) ..) _) (.ite (hf _ _ (h.modRing ..)) h)

theorem execRtPlayBlock_goes (h : Kept False o s) (ring) : Goes o (execRtPlayBlock ring s) :=
  .next (h.takeBlock (fun _ _ h1 => Kept.settleAcc ((h1.newAcc ..).goOn ..)))

theorem execRtRecBlock_goes (h : Kept False o s) (ring) : Goes o (execRtRecBlock ring s) :=
  .next (h.takeBlock (fun _ _ h1 => h1))

theorem execRtPlayBlockDone_goes (h : Kept False o s) (ring) : Goes o (execRtPlayBlockDone ring s) := by
  unfold execRtPlayBlockDone
  split
  exacts [.ite (.next (((((h.modRing ..).queueComp ..).settleBlocks ..).settle ..).pumpAll)) (.next h), .next h]

theorem execRtRecBlockWrite_goes (h : Kept False o s) (ring) : Goes o (execRtRecBlockWrite ring s) := by
  unfold execRtRecBlockWrite
  split
  exacts [.ite (.next ((Kept.settleAcc ((h.newAcc ..).goOn ..)).pumpAll)) (.next h), .next h]

theorem Kept.playRow (h : Kept ρ o s) (w) : Kept ρ o (s.playRow w) :=
  h.foldl fun _ _ h1 => .ite ((h1.foldl (fun _ _ h2 => .ite (h2.foldl (fun _ _ h3 => h3.sourceWrite ..)) h2)).modRing ..) h1

theorem Kept.recordRow (h : Kept ρ o s) (c) : Kept ρ o (s.recordRow c) :=
  h.foldl fun _ _ h1 => .ite (h1.modRing ..) h1

theorem Kept.writeStatus (h : Kept ρ o s) : Kept ρ o s.writeStatus :=
  Kept.settleAcc (((h.setHost ..).newAcc ..).goOn ..)

theorem Kept.readDoorbells (h : Kept ρ o s) : Kept ρ o s.readDoorbells :=
  Kept.settleAcc ((h.newAcc ..).goOn ..)

theorem Kept.judgeDue (h : Kept ρ o s) : Kept ρ o s.judgeDue :=
  h.missDue.foldl fun _ _ h1 => .ite (h1.modRing ..) h1

theorem Kept.drainBlocks (h : Kept ρ o s) (r) : Kept ρ o (s.drainBlocks r) :=
  .ite ((h.modRing ..).foldl (fun _ _ h1 => h1.queueComp ..)) h

theorem Kept.noteGap (h : Kept ρ o s) : Kept ρ o s.noteGap :=
  h.setHost ..

theorem Kept.hostRow (h : Kept ρ o s) : Kept ρ o s.hostRow := by
  unfold State.hostRow
  extract_lets s' src s1 s2 eco s3 s4
  have h' : Kept ρ o s' := h.noteGap
  have h1 : Kept ρ o s1 := h'.setHost ..
  have h2 : Kept ρ o s2 := h1.foldl fun _ _ h1 => (h1.drainBlocks ..).modRing ..
  have h3 : Kept ρ o s3 := h2.judgeDue.writeStatus
  have h4 : Kept ρ o s4 := .ite h3.readDoorbells h3
  exact .ite ((h4.foldl (fun _ _ h1 => h1.tryFetch ..)).pumpAll) h2

theorem execDoorbellReadComplete_goes (h : Kept False o s) (data) : Goes o (execDoorbellReadComplete data s) := by
  unfold execDoorbellReadComplete
  split
  exacts [.next (h.readBack ..), .next h]

theorem execHostReadCompletion_goes (h : Kept False o s) (id ok data) : Goes o (execHostReadCompletion id ok data s) :=
  .next (h.readBack ..)

theorem execReadCompletionTimeout_goes (h : Kept False o s) (id) : Goes o (execReadCompletionTimeout id s) :=
  .next (h.readBack ..)

theorem Kept.writeRingCfg (h : Kept ρ o s) (ring value) : Kept ρ o (s.writeRingCfg ring value) := by
  unfold State.writeRingCfg
  extract_lets a t w s1 s2 r
  have h1 : Kept ρ o s1 := h.writeReg ..
  have h2 : Kept ρ o s2 := .ite (h1.invalid ..) h1
  split
  · exact h.invalid ..
  · exact .ite h2 (.ite ((((h2.setRing ..).flag ..).setRingState ..).put ..) ((h2.put ..).raise ..))

theorem execRingEnable_goes (h : Kept False o s) (ring value) : Goes o (execRingEnable ring value s) :=
  .next (h.writeRingCfg ..)

theorem execRingResetDone_goes (h : Kept False o s) (ring) : Goes o (execRingResetDone ring s) := by
  unfold execRingResetDone
  extract_lets g s1 src s2
  have h1 : Kept False o s1 := ((((h.setRing ..).put ..).put ..).flag ..).setRingState ..
  have h2 : Kept False o s2 := .ite (h1.setHost ..) h1
  exact .ite (.next (h2.raise ..)) (.next h)

theorem execCoalesceTimeout_goes (h : Kept False o s) (ring) : Goes o (execCoalesceTimeout ring s) :=
  .next (.ite (h.signalRing ..) h)

theorem Kept.badAccess (h : Kept ρ o s) (w2 write offset) : Kept ρ o (s.badAccess w2 write offset) :=
  .ite (((h.setReg ..).count ..).raise ..) ((((h.setReg ..).count ..).raise ..).send ..)

theorem execBadHostAccess_goes (h : Kept False o s) (w2 write offset) : Goes o (execBadHostAccess w2 write offset s) :=
  .next (h.badAccess ..)

theorem Kept.writeInvCtl (h : Kept ρ o s) (w) : Kept ρ o (s.writeInvCtl w) :=
  .ite (h.writeReg ..) (.ite ((h.writeReg ..).invalid ..) ((h.writeReg ..).invalidateGo))

theorem execTlbInvalidate_goes (h : Kept False o s) (value) : Goes o (execTlbInvalidate value s) :=
  .next (h.writeInvCtl ..)

theorem execInvalidateDone_goes (h : Kept False o s) : Goes o (execInvalidateDone s) :=
  .next (.ite h.invalidateEnd h)

theorem Kept.passSource {x : State × List Nat × Bool} (h : Kept ρ o x.1) (n) : Kept ρ o (State.passSource x n).1 := by
  obtain ⟨s, vs, left⟩ := x
  unfold State.passSource
  dsimp only
  exact .ite_fst (h.setEvtSrc ..) <| .ite_fst (h.setEvtSrc ..) <| .ite_fst (h.setEvtSrc ..) <| .ite_fst (h.setEvtSrc ..) <|
    .ite_fst (.ite_fst (((h.pushEntry ..).pumpRing ..).modRing ..) ((h.pushEntry ..).pumpRing ..)) (h.setEvtSrc ..)

theorem Kept.deliveryPass (h : Kept ρ o s) : Kept ρ o s.deliveryPass := by
  unfold State.deliveryPass
  extract_lets ns r s1 s2
  have hr : Kept ρ o r.1 := Kept.foldl_fst h fun _ _ hp => hp.passSource ..
  have h2 : Kept ρ o s2 := hr.pumpAll.foldl fun _ _ h1 => h1.sendVec ..
  exact .ite (h2.count ..) h2

theorem execEventDeliveryPass_goes (h : Kept False o s) : Goes o (execEventDeliveryPass s) :=
  .next (.ite h h.deliveryPass)

theorem Kept.writeRaise (h : Kept ρ o s) (w) : Kept ρ o (s.writeRaise w) :=
  .ite (h.raise ..) (h.invalid ..)

theorem execEventRaise_goes (h : Kept False o s) (value) : Goes o (execEventRaise value s) :=
  .next (h.writeRaise ..)

theorem Kept.hostMailbox (h : Kept ρ o s) (box value) : Kept ρ o (s.hostMailbox box value) :=
  .ite (h.mbxWrite ..) ((h.frame.count ..).raise ..)

theorem execMailboxWrite_goes (h : Kept False o s) (box value) : Goes o (execMailboxWrite box value s) :=
  .next (h.hostMailbox ..)

theorem execMailboxRead_goes (h : Kept False o s) (box) : Goes o (execMailboxRead box s) :=
  .next ((h.mbxRead ..).send ..)

theorem execFirmwareMailboxAccess_goes (h : Kept False o s) (box write) : Goes o (execFirmwareMailboxAccess box write s) := by
  unfold execFirmwareMailboxAccess
  split
  exacts [.next (.ite (h.mbxWriteOnChip ..) ((h.mbxWriteOnChip ..).send ..)), .next ((h.mbxRead ..).send ..)]

theorem Kept.writeTwsend (h : Kept ρ o s) (i value) : Kept ρ o (s.writeTwsend i value) :=
  .ite ((h.frame.count ..).raise ..) (.ite (h.rejectTwsend ..) (h.frame.twinSend ..))

theorem execTwsendWrite_goes (h : Kept False o s) (index value) : Goes o (execTwsendWrite index value s) :=
  .next (h.writeTwsend ..)

theorem execTwsendTimeout_goes (h : Kept False o s) (index) : Goes o (execTwsendTimeout index s) :=
  .next (.ite (h.rejectTwsend ..) h)

/-! ### The functions of Machine/Lane.lean -/

theorem Kept.putEq (h : Kept ρ o s) (n k e) : Kept ρ o (s.putEq n k e) :=
  ((h.put ..).put ..).foldl fun _ _ h1 => h1.putS ..

theorem Kept.applyEq (h : Kept ρ o s) (n e) : Kept ρ o (s.applyEq n e) :=
  h.putEq ..

theorem Kept.laneDown (h : Kept ρ o s) (n) : Kept ρ o (s.laneDown n) :=
  .ite (h.dropLink ..) ((h.flag ..).showTwinLink)

theorem Kept.laneUp (h : Kept ρ o s) (n) : Kept ρ o (s.laneUp n) :=
  .ite (h.showLink ..) ((h.flag ..).showTwinLink)

theorem Kept.showTwinLane (h : Kept ρ o s) (n) : Kept ρ o (s.showTwinLane n) :=
  .ite h (.ite h (.ite (h.laneUp ..) (h.laneDown ..)))

theorem Kept.abortEye (h : Kept ρ o s) (n) : Kept ρ o (s.abortEye n) :=
  .ite (((h.modLane ..).flag ..).flag ..) h

theorem Kept.setLaneState (h : Kept ρ o s) (n st) : Kept ρ o (s.setLaneState n st) :=
  .ite ((Kept.ite ((h.put ..).setStage ..) (h.put ..)).showLink ..) (.ite ((h.put ..).setStage ..) (h.put ..))

theorem Kept.acquire (h : Kept ρ o s) (n) : Kept ρ o (s.acquire n) :=
  ((((((h.abortEye ..).laneDown ..).setLaneState ..).flag ..).flag ..).modLane ..).applyEq ..

theorem Kept.clearLoop (h : Kept ρ o s) (n) : Kept ρ o (s.clearLoop n) :=
  ((h.put ..).put ..).modLane ..

theorem Kept.freeze (h : Kept ρ o s) (n e) : Kept ρ o (s.freeze n e) :=
  .ite h (((Kept.ite ((h.putEq ..).flag ..) h).putEq ..).modLane ..)

theorem Kept.twinIdle (h : Kept ρ o s) (n) : Kept ρ o (s.twinIdle n) :=
  .ite h (((h.freeze ..).modLane ..).flag ..)

theorem Kept.setMode (h : Kept ρ o s) (n mode) : Kept ρ o (s.setMode n mode) := by
  unfold State.setMode
  extract_lets s1 s2 s2'
  have h1 : Kept ρ o s1 := .ite (h.clearLoop ..) h
  have h2 : Kept ρ o s2 := (((h1.abortEye ..).laneDown ..).twinIdle ..).put ..
  have hs2' : Kept ρ o s2' := (h1.put ..).modLane ..
  exact .ite ((h2.flag ..).setLaneState ..) ((hs2'.acquire ..).putEq ..)

theorem Kept.driftGuard (h : Kept ρ o s) (n e) : Kept ρ o (s.driftGuard n e) := by
  unfold State.driftGuard
  extract_lets s1 snap s2
  have h1 : Kept ρ o s1 := (h.flag ..).modLane ..
  have h2 : Kept ρ o s2 := ((h1.count ..).raise ..).putEq ..
  exact .ite (.ite (h2.setLaneState ..) h2) (h1.putEq ..)

theorem Kept.laneTxIdle (h : Kept ρ o s) (n b) : Kept ρ o (s.laneTxIdle n b) :=
  .ite (.ite ((h.flag ..).setLaneState ..) (h.flag ..)) (.ite ((h.flag ..).setLaneState ..) (h.flag ..))

theorem Kept.adaptChanged (h : Kept ρ o s) (n) : Kept ρ o (s.adaptChanged n) :=
  .ite h (.ite ((Kept.ite ((h.flag ..).setLaneState ..) (h.flag ..)).putEq ..) (.ite ((h.flag ..).setLaneState ..) (h.flag ..)))

theorem Kept.refuseSwatch (h : Kept ρ o s) (test reason) : Kept ρ o (s.refuseSwatch test reason) :=
  (h.count ..).raise ..

/-! ### The functions of Machine/NetExec.lean -/

theorem Kept.toHouse (h : Kept ρ o s) (n b) : Kept ρ o (s.toHouse n b) :=
  h.send ..

theorem Kept.toHost (h : Kept ρ o s) (n b) : Kept ρ o (s.toHost n b) :=
  h.deliverRx ..

theorem Kept.classify (h : Kept ρ o s) (n b c) : Kept ρ o (s.classify n b c) := by
  unfold State.classify
  extract_lets body
  split
  · exact h.takeControl ..
  · split
    · exact h.toHouse ..
    · split
      · exact h.forward ..
      · split
        · exact ((h.toHouse ..).answerArp ..).forward ..
        · exact .ite (h.toHost ..) (.ite ((h.toHost ..).forward ..) (h.forward ..))

theorem execFrameReceive_goes (h : Kept False o s) (port bytes) : Goes o (execFrameReceive port bytes s) := by
  unfold execFrameReceive
  refine .ite (.next h) (.next ?_)
  dsimp only
  split
  · refine Kept.count ?_ ..
    split
    · exact (h.modPort ..).foldl fun _ _ h1 => h1.finishCut ..
    · exact h.modPort ..
  · exact (((h.modPort ..).countNet ..).countNet ..).classify ..

theorem execCutThroughDecision_goes (h : Kept False o s) (port egress head ns) :
    Goes o (execCutThroughDecision port egress head ns s) :=
  .ite (.next h) (.next (.ite (((Kept.ite (h.count ..) h).modPort ..).modPort ..) ((Kept.ite (h.count ..) h).modPort ..)))

theorem execUnderrun_goes (h : Kept False o s) (port bytes) : Goes o (execUnderrun port bytes s) := by
  unfold execUnderrun
  split
  exacts [.ite (.next ((((((h.modPort ..).send ..).count ..).raise ..).put ..).flag ..)) (.next h), .next h]

theorem Kept.controlFrame (h : Kept ρ o s) (n) : Kept ρ o (s.controlFrame n) :=
  ((h.countNet ..).countNet ..).count ..

theorem execPauseFrameReceive_goes (h : Kept False o s) (port quanta) : Goes o (execPauseFrameReceive port quanta s) :=
  .next (.ite ((h.controlFrame ..).takePause ..) h)

theorem execPfcFrameReceive_goes (h : Kept False o s) (port vector quanta) : Goes o (execPfcFrameReceive port vector quanta s) :=
  .next (.ite ((h.controlFrame ..).takePfc ..) h)

theorem execPauseHaltExpire_goes (h : Kept False o s) (port prio) : Goes o (execPauseHaltExpire port prio s) :=
  .next (Kept.showHalts (by split; exacts [h.modPort .., h.modPort ..]) ..)

theorem execPauseFrameSend_goes (h : Kept False o s) (port) : Goes o (execPauseFrameSend port s) :=
  .next (h.sendPause ..)

theorem execFrameTransmitStart_goes (h : Kept False o s) (port ns) : Goes o (execFrameTransmitStart port ns s) :=
  .next (h.startTx ..)

theorem Kept.countSent (h : Kept ρ o s) (n) : Kept ρ o (s.countSent n) := by
  unfold State.countSent
  split
  exacts [.ite (h.countFrame ..) h, h]

theorem Kept.takeStamp (h : Kept ρ o t) (s : State) (n) : Kept ρ o (s.takeStamp t n) := by
  unfold State.takeStamp
  split
  · exact .ite (h.firmwarePop ..) h
  · exact h

theorem execFrameTransmitDone_goes (h : Kept False o s) (port) : Goes o (execFrameTransmitDone port s) :=
  .next (((h.countSent _).endTx _).takeStamp ..).pumpAll

theorem execGateCycleStart_goes (h : Kept False o s) (port) : Goes o (execGateCycleStart port s) :=
  .next (by split; exacts [.ite (h.startCycle ..) h, h])

theorem execGateEntryStart_goes (h : Kept False o s) (port) : Goes o (execGateEntryStart port s) :=
  .next (h.startEntry ..)

theorem execGclSwap_goes (h : Kept False o s) (port) : Goes o (execGclSwap port s) :=
  .next (h.applyFirst (fun _ _ h1 => h1.applyGclSwap ..))

theorem execLpiEnter_goes (h : Kept False o s) (port ns) : Goes o (execLpiEnter port ns s) :=
  .next (.ite (((h.modPort ..).flag ..).laneTxIdle ..) h)

theorem Kept.leaveLpi (h : Kept ρ o s) (n) : Kept ρ o (s.leaveLpi n) :=
  .ite (((h.countLpi ..).flag ..).laneTxIdle ..) h

theorem Kept.checkLpi (h : Kept ρ o s) (n) : Kept ρ o (s.checkLpi n) :=
  .ite h (h.leaveLpi ..)

theorem execLpiExit_goes (h : Kept False o s) (port ns) : Goes o (execLpiExit port ns s) :=
  .next (.ite (h.leaveLpi ..) h)

theorem execLldpReceive_goes (h : Kept False o s) (port twrx) : Goes o (execLldpReceive port twrx s) :=
  .next (by split; exacts [.ite ((h.put ..).flag ..) h, h])

theorem execEeeTlvTimeout_goes (h : Kept False o s) (port) : Goes o (execEeeTlvTimeout port s) :=
  .next ((h.flag ..).checkLpi ..)

theorem execLldpSend_goes (h : Kept False o s) (port) : Goes o (execLldpSend port s) :=
  .next (h.houseFrame ..)

theorem Kept.writeTxtsCtl (h : Kept ρ o s) (port value) : Kept ρ o (s.writeTxtsCtl port value) := by
  unfold State.writeTxtsCtl
  extract_lets i load
  split
  · exact h
  · split
    · exact ((((h.modPort ..).setReg ..).setReg ..).setReg ..).setReg ..
    · exact (((h.setReg ..).setReg ..).setReg ..).setReg ..

theorem execTxtsPop_goes (h : Kept False o s) (port value) : Goes o (execTxtsPop port value s) :=
  .next (h.writeTxtsCtl ..)

theorem Kept.writeFdbHi (h : Kept ρ o s) (value) : Kept ρ o (s.writeFdbHi value) :=
  ((h.writeReg ..).frame).put ..

theorem execFdbHiWrite_goes (h : Kept False o s) (value) : Goes o (execFdbHiWrite value s) :=
  .next (h.writeFdbHi ..)

/-! ### The functions of Machine/Reset.lean -/

theorem Kept.resetBase (h : Kept ρ o s) (n) : Kept ρ o (s.resetBase n) :=
  .ite (((h.modBase ..).put ..).put ..) (h.modBase ..)

theorem Kept.cutMarch (h : Kept ρ o s) : Kept ρ o s.cutMarch := by
  unfold State.cutMarch
  split
  exacts [(h.put ..).frame, h]

theorem Kept.fullReset (h : Kept False o s) : Kept False o s.fullReset := by
  unfold State.fullReset
  extract_lets s0 _ _ _ _ _ _ _ t t1
  have h0 : Kept False o s0 := (((h.cutMarch.resetBase _).resetBase _).resetBase _).resetBase _
  have ht : Kept False o t := ⟨h0.pending, fun i =>
    { regs := regsAfterReset_wf (h0.inv i).regs, live := Table.wf_filter _ _ _ (h0.inv i).live, cores := rfl, shared := rfl,
      ram := fun _ => rfl }, False.elim⟩
  have h1 : Kept False o t1 := .ite (ht.put ..) ht
  exact Kept.riseSats (.ite (h1.assertSag ..) h1)

theorem Kept.addCause (h : Kept ρ o s) (c) : Kept ρ o (s.addCause c) :=
  h.frame

theorem Kept.beginReset (h : Kept False o s) (c) : Kept False o (s.beginReset c) :=
  .ite ((h.put ..).addCause ..) (((h.fullReset.put ..).addCause ..).send ..)

theorem Kept.endCause (h : Kept ρ o s) (c) : Kept ρ o (s.endCause c) :=
  .ite h.frame h

/-! ### The functions of Machine/LaneExec.lean -/

theorem Kept.writeSpeed (h : Kept ρ o s) (n w) : Kept ρ o (s.writeSpeed n w) :=
  .ite (h.writeReg ..) ((((h.writeReg ..).dropLink ..).put ..).setMode ..)

theorem execSpeedWrite_goes (h : Kept False o s) (port value) : Goes o (execSpeedWrite port value s) :=
  .next (h.writeSpeed ..)

theorem Kept.writeLaneCfg (h : Kept ρ o s) (n w) : Kept ρ o (s.writeLaneCfg n w) :=
  .ite (.ite (h.writeReg ..) (((h.writeReg ..).dropLink ..).setMode ..)) (.ite (h.writeReg ..) ((h.writeReg ..).setMode ..))

theorem execTxrefWrite_goes (h : Kept False o s) (lane value) : Goes o (execTxrefWrite lane value s) :=
  .next (h.writeLaneCfg ..)

theorem execLaneEnWrite_goes (h : Kept False o s) (lane value) : Goes o (execLaneEnWrite lane value s) :=
  .next (h.writeLaneCfg ..)

theorem execLaneLock_goes (h : Kept False o s) (lane gain peak taps) : Goes o (execLaneLock lane gain peak taps s) :=
  .next (.ite ((h.applyEq ..).setLaneState ..) h)

theorem execLaneUp_goes (h : Kept False o s) (lane) : Goes o (execLaneUp lane s) :=
  .next (.ite (((h.setLaneState ..).flag ..).laneUp ..) h)

theorem execAdaptFreeze_goes (h : Kept False o s) (lane ctle taps units) : Goes o (execAdaptFreeze lane ctle taps units s) :=
  .next (.ite (h.freeze ..) h)

theorem execRunEnd_goes (h : Kept False o s) (lane gain peak taps) : Goes o (execRunEnd lane gain peak taps s) :=
  .next (.ite (h.driftGuard ..) h)

theorem execLaneLockLoss_goes (h : Kept False o s) (lane) : Goes o (execLaneLockLoss lane s) :=
  .next (.ite (((h.count ..).raise ..).acquire ..) h)

theorem execRetrainEnd_goes (h : Kept False o s) (lane gain peak taps) : Goes o (execRetrainEnd lane gain peak taps s) :=
  .next (.ite (((h.putEq ..).setLaneState ..).count ..) h)

theorem execLaneEidleEnter_goes (h : Kept False o s) (lane gain peak taps) : Goes o (execLaneEidleEnter lane gain peak taps s) :=
  .next (.ite (((((h.freeze ..).modLane ..).flag ..).setLaneState ..).showTwinLane ..) h)

theorem execLaneSignalDetect_goes (h : Kept False o s) (lane) : Goes o (execLaneSignalDetect lane s) :=
  .next (.ite ((h.flag ..).applyEq ..) h)

theorem execFastExitLock_goes (h : Kept False o s) (lane gain peak taps) : Goes o (execFastExitLock lane gain peak taps s) :=
  .next (.ite ((Kept.ite (((h.modLane ..).setLaneState ..).driftGuard ..) ((h.modLane ..).setLaneState ..)).showTwinLane ..) h)

theorem execFastExitFail_goes (h : Kept False o s) (lane) : Goes o (execFastExitFail lane s) :=
  .next (.ite (((h.count ..).raise ..).acquire ..) h)

theorem Kept.recentre (h : Kept ρ o s) (n) : Kept ρ o (s.recentre n) :=
  ((h.modLane ..).count ..).raise ..

theorem Kept.elasticMove (h : Kept ρ o s) (n m) : Kept ρ o (s.elasticMove n m) := by
  unfold State.elasticMove
  extract_lets fill setFill
  split
  · exact .ite (h.recentre ..) (h.modLane ..)
  · exact .ite (h.recentre ..) (h.modLane ..)
  · exact .ite ((h.modLane ..).countLane ..) (.ite ((h.modLane ..).countLane ..) h)

theorem execElasticError_goes (h : Kept False o s) (run) : Goes o (execElasticError run s) :=
  .next (.ite h (h.foldl (fun _ _ h1 => h1.elasticMove ..)))

theorem Kept.writeTxfir (h : Kept ρ o s) (n w) : Kept ρ o (s.writeTxfir n w) :=
  .ite (h.writeFields ..) (h.invalid ..)

theorem execTxfirWrite_goes (h : Kept False o s) (lane value) : Goes o (execTxfirWrite lane value s) :=
  .next (h.writeTxfir ..)

theorem Kept.endLoop (h : Kept False o s) (n) : Kept False o (s.endLoop n) :=
  .ite h (.ite ((h.setMode ..).beginReset ..) (h.setMode ..))

theorem Kept.startLoop (h : Kept ρ o s) (n mode) : Kept ρ o (s.startLoop n mode) := by
  unfold State.startLoop
  extract_lets near go refuse
  have hgo : Kept ρ o (go s) := by
    have h1 := (((h.abortEye n).laneDown n).setLaneState n 6).restartPrbs n true true
    have h2 := ((h1.flag (Fld.LANE_STAT_FROZEN n) false).put (Fld.LANE_LOOP_STAT_RESULT n) 1).put (Fld.LANE_LOOP_STAT_MODE n) mode
    exact (Kept.ite (h2.flag ..) h2).modLane ..
  have hrefuse (r) : Kept ρ o (refuse s r) := (h.put ..).put ..
  exact .ite (.ite hgo ((hrefuse 2).refuseSwatch ..)) (.ite hgo (hrefuse 3))

theorem Kept.writeLoopCtl (h : Kept False o s) (n w) : Kept False o (s.writeLoopCtl n w) :=
  .ite (h.put ..) (.ite (h.endLoop ..) (.ite ((h.endLoop ..).put ..) (((h.endLoop ..).put ..).startLoop ..)))

theorem execLoopbackStart_goes (h : Kept False o s) (lane value) : Goes o (execLoopbackStart lane value s) :=
  .next (h.writeLoopCtl ..)

theorem execLoopbackEnd_goes (h : Kept False o s) (lane) : Goes o (execLoopbackEnd lane s) :=
  .next (h.writeLoopCtl ..)

theorem Kept.writeEyeSel (h : Kept ρ o s) (n w) : Kept ρ o (s.writeEyeSel n w) := by
  unfold State.writeEyeSel
  extract_lets a s1 s2 st
  have h1 : Kept ρ o s1 := h.writeReg ..
  have h2 : Kept ρ o s2 := (h1.flag ..).flag ..
  exact .ite (h.invalid ..) (.ite (.ite ((h2.modLane ..).flag ..) (h2.flag ..)) h1)

theorem execEyeScanGo_goes (h : Kept False o s) (lane value) : Goes o (execEyeScanGo lane value s) :=
  .next (h.writeEyeSel ..)

theorem execEyePointDone_goes (h : Kept False o s) (lane errors) : Goes o (execEyePointDone lane errors s) :=
  .next (.ite ((((h.modLane ..).flag ..).flag ..).put ..) h)

/-! ### The functions of Machine/Swatch.lean -/

theorem Kept.requestSwatch (h : Kept ρ o s) (test ch) : Kept ρ o (s.requestSwatch test ch) := by
  unfold State.requestSwatch
  extract_lets s1 s2 src s3
  have h1 : Kept ρ o s1 := h.put ..
  have h2 : Kept ρ o s2 := h1.put ..
  have h3 : Kept ρ o s3 := h2.frame
  exact .ite ((h1.put ..).refuseSwatch ..) (.ite ((h1.put ..).refuseSwatch ..) (.ite (h3.setChState ..) h3))

theorem Kept.writeFgCtl (h : Kept ρ o s) (w) : Kept ρ o (s.writeFgCtl w) :=
  .ite ((h.writeReg ..).requestSwatch ..) (h.writeReg ..)

theorem Kept.setTested (h : Kept ρ o s) (g p) : Kept ρ o (s.setTested g p) :=
  h.frame

theorem Kept.setPlace (h : Kept ρ o s) (g i) : Kept ρ o (s.setPlace g i) :=
  h.frame

theorem Kept.beginTest (h : Kept ρ o s) (g) : Kept ρ o (s.beginTest g) := by
  unfold State.beginTest
  extract_lets i why s1
  have h1 : Kept ρ o s1 := h.migrateRequest ..
  exact .ite h (.ite (h.setTested ..) (.ite (h1.setTested ..) (.ite (h1.setPlace ..) h1)))

theorem Kept.testPeriod (h : Kept ρ o s) (g) : Kept ρ o (s.testPeriod g) := by
  unfold State.testPeriod
  split
  · exact h
  · split
    · exact h.beginTest ..
    · exact .ite h (.ite (.ite h (h.beginTest ..)) (.ite (h.migrateRequest ..) ((h.setTested ..).beginTest ..)))

theorem Kept.endTest (h : Kept ρ o s) (g pass) : Kept ρ o (s.endTest g pass) := by
  unfold State.endTest
  extract_lets s1
  have h1 : Kept ρ o s1 := h.count ..
  split
  · exact h
  · extract_lets s2
    have h2 : Kept ρ o s2 := h1.setPlace ..
    split
    · exact h
    · split
      · exact ((h1.setReg ..).failSwatch ..).setTested ..
      · exact .ite ((h1.setPlace ..).setTested ..) (.ite (h2.migrateRequest ..) h2)

theorem Kept.measureAging (h : Kept ρ o s) (degr) : Kept ρ o (s.measureAging degr) := by
  unfold State.measureAging
  extract_lets s1 m who want s2 s3 v
  have h1 : Kept ρ o s1 := h.foldl fun _ _ h1 => h1.put ..
  have h2 : Kept ρ o s2 := h1.put ..
  have h3 : Kept ρ o s3 := .ite ((h2.flag ..).raise ..) h2
  exact .ite (h3.put ..) h3

theorem Kept.followLife (h : Kept ρ o s) : Kept ρ o s.followLife :=
  .ite ((Kept.ite ((h.setReg ..).raise ..) (h.setReg ..)).raise ..) (.ite ((h.setReg ..).raise ..) (h.setReg ..))

theorem Kept.lifeSecond (h : Kept ρ o s) (bin) : Kept ρ o (s.lifeSecond bin) :=
  .ite h.frame (.ite (h.frame.setReg ..) ((Kept.ite (((h.frame.setReg ..).setSat ..).raise ..) (h.frame.setReg ..)).followLife))

theorem Kept.saveLife (h : Kept ρ o s) : Kept ρ o s.saveLife :=
  h.frame

theorem Kept.loadLife (h : Kept ρ o s) : Kept ρ o s.loadLife := by
  unfold State.loadLife
  split
  exacts [(h.foldl (fun _ _ h1 => h1.setReg ..)).frame, h]

/-! ### The functions of Machine/Power.lean -/

theorem Kept.showState (h : Kept ρ o s) (st) : Kept ρ o (s.showState st) :=
  h.put ..

theorem Kept.changeState (h : Kept ρ o s) (st wsrc) : Kept ρ o (s.changeState st wsrc) :=
  (h.showState ..).raise ..

theorem Kept.sleepLane (h : Kept ρ o s) (n) : Kept ρ o (s.sleepLane n) := by
  unfold State.sleepLane
  extract_lets s1
  have h1 : Kept ρ o s1 := .ite (h.clearLoop ..) (h.abortEye ..)
  exact .ite (h.laneTxIdle ..) (.ite h ((((h1.laneDown ..).twinIdle ..).flag ..).setLaneState ..))

theorem Kept.endSwatch (h : Kept ρ o s) : Kept ρ o s.endSwatch := by
  unfold State.endSwatch
  split
  exacts [(h.endForeground ..).setChState .., h]

theorem Kept.enterStandby (h : Kept ρ o s) : Kept ρ o s.enterStandby := by
  unfold State.enterStandby
  extract_lets s1 src s2 s3
  have h1 : Kept ρ o s1 := (h.endSwatch.saveLife.tpFlush.raise ..).deliveryPass
  have h2 : Kept ρ o s2 := h1.frame
  have h3 : Kept ρ o s3 := h2.stopTicks.foldl fun _ _ h1 => h1.sleepLane ..
  exact ((h3.foldl (fun _ _ h1 => .ite h1 (h1.enterHoldover ..))).stopMonitoring).clocksOff

theorem Kept.endMarch (h : Kept False o s) : Kept False o s.endMarch :=
  h.beginReset ..

theorem Kept.writePwrCtl (h : Kept False o s) (w) : Kept False o (s.writePwrCtl w) := by
  unfold State.writePwrCtl
  extract_lets req r s1 src
  have h1 : Kept False o s1 := (h.put ..).put ..
  split
  · exact h.invalid ..
  · exact .ite ((h.put ..).put ..) (.ite ((h.put ..).invalid ..) (.ite (.ite h1.endMarch h1.enterStandby) h1.frame))

theorem Kept.powerTick (h : Kept ρ o s) : Kept ρ o s.powerTick :=
  .ite (Kept.frame (by split; exacts [h.frame.changeState .., h])) (by split; exacts [h.frame.changeState .., h])

/-- What a core loses with the supply of its memories. -/
def Core.loseMemory (k : Core) : Core := { k with ram := [], coef0 := [], coef1 := [], prog0 := [], prog1 := [] }

theorem Kept.loseState (h : Kept ρ o s) : Kept ρ o s.loseState := by
  unfold State.loseState
  extract_lets s1 _ _ s2 s3
  have h1 : Kept ρ o s1 := h.foldl fun _ _ h1 => (h1.setPready ..).setCready ..
  have h2 : Kept ρ o s2 := ⟨h1.pending, fun i =>
    { (h1.inv i).remapCores (f := Core.loseMemory) rfl (fun _ _ => rfl) with
      shared := Table.wf_filter _ _ _ (h1.inv i).shared }, h1.row⟩
  have h3 : Kept ρ o s3 := ((h2.put ..).put ..).flag ..
  exact (h3.setHost ..).showTlb

theorem Kept.beginWake (h : Kept ρ o s) (src) : Kept ρ o (s.beginWake src) :=
  (h.put ..).frame

theorem Kept.wake (h : Kept ρ o s) (src) : Kept ρ o (s.wake src) := by
  unfold State.wake
  split
  exacts [.ite h.frame h, .ite (h.beginWake ..) h, h]

theorem Kept.startCoreRail (h : Kept ρ o s) : Kept ρ o s.startCoreRail :=
  (((h.put ..).put ..).put ..).put ..

theorem Kept.payOwed (h : Kept ρ o s) : Kept ρ o s.payOwed :=
  (h.foldl (fun _ _ h1 => (Kept.ite (h1.count ..) h1).raise ..)).frame

theorem Kept.wakeLane (h : Kept ρ o s) (n) : Kept ρ o (s.wakeLane n) :=
  .ite h ((h.flag ..).acquire ..)

theorem Kept.endWake (h : Kept ρ o s) : Kept ρ o s.endWake := by
  unfold State.endWake
  extract_lets src src' s1 s2 s3
  have hsrc : Kept ρ o src := h.startCoreRail.clocksOn
  have h1 : Kept ρ o s1 := hsrc.frame
  have h2 : Kept ρ o s2 := h1.foldl fun _ _ h1 => h1.wakeLane ..
  have h3 : Kept ρ o s3 := (h2.changeState ..).payOwed
  exact .ite (h3.assertSag ..) h3

theorem Kept.raiseSupply (h : Kept ρ o s) (n info) : Kept ρ o (s.raiseSupply n info) :=
  .ite h.frame (h.supplyEvent ..)

theorem Kept.powerDown (h : Kept False o s) : Kept False o s.powerDown :=
  ⟨h.pending, fun _ => { State.Inv.reset with }, False.elim⟩

theorem Kept.railFault (h : Kept False o s) (rail cause ms) : Kept False o (s.railFault rail cause ms) :=
  .ite (((((((h.put ..).put ..).put ..).flag ..).frame).frame).beginReset ..) ((((h.powerDown.put ..).put ..).flag ..).frame)

/-! ### The functions of Machine/SupExec.lean -/

theorem execSagAssert_goes (h : Kept False o s) (level slope vbus ns) : Goes o (execSagAssert level slope vbus ns s) :=
  .next (.ite h (.ite ((h.flag ..).count ..) ((((h.flag ..).count ..).supplyEvent ..).assertSag ..)))

theorem execSagDeassert_goes (h : Kept False o s) : Goes o (execSagDeassert s) :=
  .next (.ite h.deassertSag h)

theorem execPowerFailWarning_goes (h : Kept False o s) : Goes o (execPowerFailWarning s) := by
  unfold execPowerFailWarning
  extract_lets s1
  have h1 : Kept False o s1 := (((h.flag ..).stopChannels ..).count ..).raiseSupply ..
  exact .next (.ite h (.ite h1 h1.saveLife))

theorem execPowerFailWarningClear_goes (h : Kept False o s) : Goes o (execPowerFailWarningClear s) :=
  .next (.ite (((h.flag ..).restartChannels).raiseSupply ..) h)

theorem execVbusOvervoltage_goes (h : Kept False o s) : Goes o (execVbusOvervoltage s) :=
  .next (.ite h ((((h.flag ..).stopChannels ..).count ..).raiseSupply ..))

theorem execVbusOvervoltageClear_goes (h : Kept False o s) : Goes o (execVbusOvervoltageClear s) :=
  .next (.ite (((h.flag ..).restartChannels).raiseSupply ..) h)

theorem execVbusUndervoltage_goes (h : Kept False o s) : Goes o (execVbusUndervoltage s) :=
  .next h.powerDown

theorem execRailFault_goes (h : Kept False o s) (rail cause ms) : Goes o (execRailFault rail cause ms s) :=
  .next (.ite h (h.railFault ..))

theorem execRailRestartDone_goes (h : Kept False o s) : Goes o (execRailRestartDone s) :=
  .next (.ite (h.startCoreRail.frame.endCause ..) h)

theorem execReqActive_goes (h : Kept False o s) : Goes o (execReqActive s) :=
  .next (h.writePwrCtl ..)

theorem execReqIdle_goes (h : Kept False o s) : Goes o (execReqIdle s) :=
  .next (h.writePwrCtl ..)

theorem execReqStandby_goes (h : Kept False o s) : Goes o (execReqStandby s) :=
  .next (h.writePwrCtl ..)

theorem execStandbyEntryDone_goes (h : Kept False o s) : Goes o (execStandbyEntryDone s) := by
  unfold execStandbyEntryDone
  extract_lets s1 src s2
  have h1 : Kept False o s1 := (h.loseState.showState ..).put ..
  have h2 : Kept False o s2 := h1.frame
  exact .next (by split; exacts [.ite (h2.beginWake ..) (.ite (h2.beginWake ..) h2), h])

theorem execWakeGo_goes (h : Kept False o s) (value) : Goes o (execWakeGo value s) :=
  .next (.ite (h.wake ..) h)

theorem execWakein_goes (h : Kept False o s) : Goes o (execWakein s) :=
  .next (.ite (h.wake ..) h)

theorem execWakeFrame_goes (h : Kept False o s) (port bytes) : Goes o (execWakeFrame port bytes s) :=
  .next (.ite (h.wake ..) h)

theorem execAlarm_goes (h : Kept False o s) : Goes o (execAlarm s) :=
  .next (.ite (h.wake ..) h)

theorem execWakeDone_goes (h : Kept False o s) (ok) : Goes o (execWakeDone ok s) :=
  .next (by split; exacts [.ite h.endWake (h.startCoreRail.beginReset ..), h])

theorem execXoLoss_goes (h : Kept False o s) : Goes o (execXoLoss s) := by
  unfold execXoLoss
  extract_lets s1 s2 src
  have h1 : Kept False o s1 := h.foldl fun _ _ h1 => .ite h1 (h1.enterHoldover ..)
  have h2 : Kept False o s2 := h1.stopTicks.stopMonitoring
  exact .ite (.next (((h2.setClk ..).clocksOff).beginReset ..)) (.next h)

theorem execXoRestore_goes (h : Kept False o s) : Goes o (execXoRestore s) :=
  .next (.ite h (((h.setClk ..).endCause ..).clocksOn))

theorem Kept.cause (h : Kept False o s) (c) : Kept False o (s.cause c) :=
  .ite (h.beginReset ..) h

theorem execPrstInAssert_goes (h : Kept False o s) : Goes o (execPrstInAssert s) :=
  .next (h.cause ..)

theorem execPrstInRelease_goes (h : Kept False o s) : Goes o (execPrstInRelease s) :=
  .next (h.endCause ..)

theorem execPerstAssert_goes (h : Kept False o s) : Goes o (execPerstAssert s) :=
  .next (h.cause ..)

theorem execPerstDeassert_goes (h : Kept False o s) : Goes o (execPerstDeassert s) :=
  .next (h.endCause ..)

theorem execFunctionLevelReset_goes (h : Kept False o s) : Goes o (execFunctionLevelReset s) :=
  .next (h.cause ..)

theorem Kept.writeRstCtl (h : Kept False o s) (w) : Kept False o (s.writeRstCtl w) :=
  .ite (h.invalid ..) (.ite (h.cause ..) h)

theorem execRstCtlGo_goes (h : Kept False o s) (value) : Goes o (execRstCtlGo value s) :=
  .next (.ite h (h.writeRstCtl ..))

/-! ### The functions of Machine/Fuse.lean -/

theorem Kept.showFuses (h : Kept ρ o s) : Kept ρ o s.showFuses :=
  (((h.put ..).flag ..).flag ..).flag ..

theorem Kept.showLevel (h : Kept ρ o s) (level) : Kept ρ o (s.showLevel level) :=
  h.put ..

theorem Kept.writeFuseCtl (h : Kept ρ o s) (w) : Kept ρ o (s.writeFuseCtl w) :=
  .ite (h.invalid ..) (.ite (.ite h (h.put ..)) (h.frame.put ..))

theorem Kept.fuseCommand (h : Kept ρ o s) (op) : Kept ρ o (s.fuseCommand op) :=
  .ite (h.writeFuseCtl ..) h

theorem execFuseProgramKey0_goes (h : Kept False o s) : Goes o (execFuseProgramKey0 s) :=
  .next (h.fuseCommand ..)

theorem execFuseProgramKey1_goes (h : Kept False o s) : Goes o (execFuseProgramKey1 s) :=
  .next (h.fuseCommand ..)

theorem execFuseRevokeKey0_goes (h : Kept False o s) : Goes o (execFuseRevokeKey0 s) :=
  .next (h.fuseCommand ..)

theorem execFuseRaiseCount_goes (h : Kept False o s) : Goes o (execFuseRaiseCount s) :=
  .next (h.fuseCommand ..)

theorem execFuseOpDone_goes (h : Kept False o s) : Goes o (execFuseOpDone s) := by
  unfold execFuseOpDone
  split
  exacts [.next ((h.frame.showFuses.showLevel ..).put ..), .next h]

theorem execJtagInstruction_goes (h : Kept False o s) (instr) : Goes o (execJtagInstruction instr s) :=
  .ite (.next (.ite h.frame h)) (.ite (.next (h.frame.beginReset ..)) (.next (h.frame.endCause ..)))

/-! ### The functions of Machine/LocExec.lean -/

theorem Kept.applyGroupCmd (h : Kept ρ o s) (g w) : Kept ρ o (s.applyGroupCmd g w) :=
  (Kept.ite (h.foldl (fun _ _ h1 => h1.applyFirst (fun _ _ h2 => h2.bindOffPort ..))) h).groupCommand ..

theorem execPortCaston_goes (h : Kept False o s) (port) : Goes o (execPortCaston port s) :=
  .next (h.applyFirst (fun _ _ h1 => h1.castOnPort ..))

theorem execPortBindoff_goes (h : Kept False o s) (port) : Goes o (execPortBindoff port s) :=
  .next (h.applyFirst (fun _ _ h1 => h1.bindOffPort ..))

theorem execPortCommit_goes (h : Kept False o s) (port) : Goes o (execPortCommit port s) :=
  .next (h.applyFirst (fun _ _ h1 => h1.commitPort ..))

theorem execGroupStart_goes (h : Kept False o s) (group) : Goes o (execGroupStart group s) :=
  .next (h.applyFirst (fun _ _ h1 => h1.applyGroupCmd ..))

theorem execGroupStop_goes (h : Kept False o s) (group) : Goes o (execGroupStop group s) :=
  .next (h.applyFirst (fun _ _ h1 => h1.applyGroupCmd ..))

theorem execGroupCommit_goes (h : Kept False o s) (group) : Goes o (execGroupCommit group s) :=
  .next (h.applyFirst (fun _ _ h1 => h1.applyGroupCmd ..))

theorem execStartPinEdge_goes (h : Kept False o s) : Goes o (execStartPinEdge s) :=
  .next (.ite (h.foldl (fun _ _ h1 => .ite ((h1.setReg ..).scheduleStart ..) h1)) h)

theorem execPortStart_goes (h : Kept False o s) (port) : Goes o (execPortStart port s) := by
  unfold execPortStart
  extract_lets n
  split
  · exact .next h
  · split
    · split
      · exact .ite (.next (.ite (h.beginPort ..) (h.portFault ..))) (.next h)
      · exact .next h
    · exact .next (.ite (h.beginPort ..) h)

theorem execPreclkEnd_goes (h : Kept False o s) (port) : Goes o (execPreclkEnd port s) :=
  .next (.ite ((h.modLport ..).setLstate ..) h)

theorem execPostclkEnd_goes (h : Kept False o s) (port) : Goes o (execPostclkEnd port s) := by
  unfold execPostclkEnd
  split
  exacts [.next (.ite (h.portOff ..) h), .next h]

theorem execZcTimeout_goes (h : Kept False o s) (port) : Goes o (execZcTimeout port s) :=
  .next (.ite (((h.setLport ..).count ..).raise ..) h)

theorem execLocalFrameReceive_goes (h : Kept False o s) (port ns clocks good hz a b) :
    Goes o (execLocalFrameReceive port ns clocks good hz a b s) := by
  unfold execLocalFrameReceive
  extract_lets p s' x runs s1 s2
  have h' : Kept False o s' := h.measure ..
  have h1 : Kept False o s1 := (h'.setLport ..).unlock ..
  have h2 : Kept False o s2 := .ite (h1.count ..) h1
  split
  · exact .next h'
  · split
    · exact .next (h'.takeFrame ..)
    · split
      · exact .next (.ite (h2.portFault ..) h2)
      · exact .ite (.next ((h'.lockFrame ..).portFault ..)) (.next ((h'.lockFrame ..).takeFrame ..))

theorem execPortNoclkTimeout_goes (h : Kept False o s) (port) : Goes o (execPortNoclkTimeout port s) :=
  .next (.ite (.ite (((h.measure ..).unlock ..).portFault ..) ((h.measure ..).unlock ..)) (h.measure ..))

theorem execPortAutoRearm_goes (h : Kept False o s) (port) : Goes o (execPortAutoRearm port s) :=
  .next (.ite (h.armPort ..) h)

theorem execLocalFrameSend_goes (h : Kept False o s) (port) : Goes o (execLocalFrameSend port s) :=
  .next (.ite h (h.sendFrame ..))

/-! ### The functions of Machine/RingDone.lean -/

theorem Kept.abortFrames (h : Kept ρ o s) (r) : Kept ρ o (s.abortFrames r) :=
  h.foldl fun _ _ h1 => (h1.setPort ..).foldl (fun _ _ h2 => h2.completeTx ..)

theorem Kept.endFaults (h : Kept ρ o s) (r) : Kept ρ o (s.endFaults r) :=
  .ite (h.foldl (fun _ _ h1 => (h1.closeFault ..).abortFault ..)) h

theorem Kept.drainRing (h : Kept ρ o s) (r) : Kept ρ o (s.drainRing r) := by
  unfold State.drainRing
  extract_lets waits s0 s1 s2 s3
  have h0 : Kept ρ o s0 := .ite (h.modRing ..) h
  have h1 : Kept ρ o s1 := h0.setFaults ..
  have h2 : Kept ρ o s2 := .ite h1 (((h1.modRing ..).foldl (fun _ _ h1 => h1.recordLost ..)).endFaults ..)
  have h3 : Kept ρ o s3 := h2.abortFrames ..
  exact .ite (h3.abortActive ..) (h3.abortFetched ..)

theorem Kept.resetRing (h : Kept ρ o s) (r) : Kept ρ o (s.resetRing r) :=
  .ite (h.invalid ..) (.ite ((((h.setRingState ..).drainRing ..).startAllRx).pumpAll) h)

theorem execRingReset_goes (h : Kept False o s) (ring) : Goes o (execRingReset ring s) :=
  .next (h.resetRing ..)

theorem Kept.endTxFrame (h : Kept ρ o s) (r t) : Kept ρ o (s.endTxFrame r t) :=
  .ite (h.endTransfer ..) (.ite (h.endTransfer ..) (((h.modRing ..).queueFrame ..).settle ..))

theorem Kept.endRx (h : Kept ρ o s) (r t) : Kept ρ o (s.endRx r t) :=
  (h.endTransfer ..).startRx ..

theorem Kept.transferDone (h : Kept ρ o s) (r t) : Kept ρ o (s.transferDone r t) := by
  unfold State.transferDone
  extract_lets d ok
  split
  · exact (Kept.ite h (h.setPready ..)).endTransfer ..
  · exact (Kept.ite h (h.setCready ..)).endTransfer ..
  · exact (Kept.ite (h.put ..) h).endTransfer ..
  · exact (h.modFw ..).endTransfer ..
  · exact h
  · exact h.endTxFrame ..
  · exact h.endRx ..
  · exact h.endTransfer ..

/-! ### The functions of Machine/SwtExec.lean -/

theorem execLoopCalibrationRequest_goes (h : Kept False o s) (value) : Goes o (execLoopCalibrationRequest value s) :=
  .next (h.writeFgCtl ..)

theorem execLoopCalibrationDone_goes (h : Kept False o s) (gain offset) : Goes o (execLoopCalibrationDone gain offset s) :=
  .next (by split; exacts [.ite (((h.endForeground ..).setChState ..).frame) ((h.endForeground ..).setChState ..), h])

theorem execMemoryMarchRequest_goes (h : Kept False o s) (value) : Goes o (execMemoryMarchRequest value s) :=
  .next (h.writeFgCtl ..)

theorem execMemoryMarchStart_goes (h : Kept False o s) : Goes o (execMemoryMarchStart s) :=
  .next (.ite (h.remapCores (f := Core.toReset) rfl fun _ hk => hk).frame h)

theorem execMemoryMarchDone_goes (h : Kept False o s) (fail) : Goes o (execMemoryMarchDone fail s) :=
  .next (.ite ((Kept.frame (by split; exacts [(h.put ..).setReg .., (h.put ..)])).beginReset ..) h)

theorem execCoreTestPeriod_goes (h : Kept False o s) (group) : Goes o (execCoreTestPeriod group s) :=
  .next (h.testPeriod ..)

theorem execCoreTestDone_goes (h : Kept False o s) (group pass) : Goes o (execCoreTestDone group pass s) :=
  .next (h.endTest ..)

theorem execEyeScanPeriod_goes (h : Kept False o s) (lane width height aborted) :
    Goes o (execEyeScanPeriod lane width height aborted s) :=
  .next (.ite (.ite ((((h.flag ..).put ..).put ..).failSwatch ..) (((h.flag ..).put ..).put ..)) h)

theorem execSenseTrim_goes (h : Kept False o s) : Goes o (execSenseTrim s) :=
  .next (.ite h.frame h)

theorem execSenseTrimDone_goes (h : Kept False o s) (gain offset) : Goes o (execSenseTrimDone gain offset s) :=
  .next (by split; exacts [.ite h.frame.frame (h.frame.failSwatch ..), h])

theorem execAgingMeasure_goes (h : Kept False o s) (degr) : Goes o (execAgingMeasure degr s) :=
  .next (.ite h (h.measureAging ..))

theorem execLifeSample_goes (h : Kept False o s) (temp) : Goes o (execLifeSample temp s) :=
  .next (.ite h (h.lifeSecond ..))

theorem execLifeSave_goes (h : Kept False o s) : Goes o (execLifeSave s) :=
  .next (.ite h h.saveLife)

/-! ### The functions of Machine/Referee.lean -/

theorem Kept.takeGrant (h : Kept ρ o s) (p) : Kept ρ o (s.takeGrant p) :=
  .ite (h.count ..) (.ite h ((Kept.ite (((h.put ..).setReg ..).setTwn ..) ((h.put ..).count ..)).raise ..))

theorem Kept.applyGrant (h : Kept ρ o s) : Kept ρ o s.applyGrant := by
  unfold State.applyGrant
  extract_lets src
  split
  · exact h
  · extract_lets s1 src'
    have h1 : Kept ρ o s1 := (h.setTwn ..).setGen ..
    exact .ite (h.setTwn ..) (.ite (((h1.setTwn ..).send ..).raise ..) h1)

theorem Kept.setPair (h : Kept ρ o s) (p x) : Kept ρ o (s.setPair p x) :=
  h.setTwn ..

theorem Kept.restartPair (h : Kept ρ o s) (p) : Kept ρ o (s.restartPair p) :=
  ((h.setPair ..).setReg ..).setReg ..

theorem Kept.takeRefHeartbeat (h : Kept ρ o s) (d) : Kept ρ o (s.takeRefHeartbeat d) :=
  .ite h (.ite (h.count ..) (h.foldl (fun _ _ h1 => .ite ((h1.setPair ..).put ..) (h1.setPair ..))))

theorem Kept.evalUnit (h : Kept ρ o s) (p u r) : Kept ρ o (s.evalUnit p u r).1 := by
  unfold State.evalUnit
  extract_lets x y present y1 s1 set miss
  have h1 : Kept ρ o s1 := h.setPair ..
  split
  · exact .ite ((h1.put ..).put ..) h1
  · exact .ite h1 ((h1.put ..).put ..)
  · exact .ite_fst ((h1.put ..).put ..) (.ite_fst (((h1.put ..).put ..).raise ..) ((h1.put ..).put ..))
  · exact .ite ((h1.put ..).put ..) h1

theorem Kept.decideRef (h : Kept ρ o s) (p u code) : Kept ρ o (s.decideRef p u code) :=
  ((h.put ..).count ..).raise ..

theorem Kept.sendGrant (h : Kept ρ o s) (p g) : Kept ρ o (s.sendGrant p g) :=
  ((h.setPair ..).count ..).sendDatagram ..

theorem Kept.grantTo (h : Kept ρ o s) (p u code reset) : Kept ρ o (s.grantTo p u code reset) :=
  (h.setPair ..).sendGrant ..

theorem Kept.repeatGrant (h : Kept ρ o s) (p) : Kept ρ o (s.repeatGrant p) := by
  unfold State.repeatGrant
  split
  exacts [.ite (h.sendGrant ..) ((h.setPair ..).decideRef ..), h]

theorem Kept.grantDecision (h : Kept ρ o s) (p u t code reset) : Kept ρ o (s.grantDecision p u t code reset) :=
  .ite (h.decideRef ..) ((h.decideRef ..).grantTo ..)

theorem Kept.evalPair (h : Kept ρ o s) (p) : Kept ρ o (s.evalPair p) := by
  unfold State.evalPair
  extract_lets r s0 a b src s1 alive bit div run src' s2 one t
  have h0 : Kept ρ o s0 := h.repeatGrant ..
  have ha : Kept ρ o a.1 := h0.evalUnit ..
  have hb : Kept ρ o b.1 := ha.evalUnit ..
  have h1 : Kept ρ o s1 := hb.setPair ..
  have h2 : Kept ρ o s2 := h1.setPair ..
  split
  · exact h2.decideRef ..
  · split
    · exact .ite (h2.decideRef ..) (.ite (h2.decideRef ..) (h2.grantDecision ..))
    · split
      · exact .ite (h2.decideRef ..) (.ite (h2.decideRef ..) (h2.grantDecision ..))
      · exact .ite (.ite (h2.grantDecision ..) (h2.decideRef ..)) h2

theorem Kept.refereeRow (h : Kept ρ o s) : Kept ρ o s.refereeRow :=
  h.foldl fun _ _ h1 => .ite (h1.evalPair ..) h1

/-! ### The functions of Machine/TwinExec.lean -/

theorem Kept.writeTwnCfg (h : Kept ρ o s) (value) : Kept ρ o (s.writeTwnCfg value) := by
  unfold State.writeTwnCfg
  extract_lets a free old same kept s1 s2 s3
  have h1 : Kept ρ o s1 := h.writeReg ..
  have h2 : Kept ρ o s2 := .ite h1 (h1.invalid ..)
  have h3 : Kept ρ o s3 := h2.put ..
  exact .ite (.ite (h3.setTwin ..) h3) (.ite h3 ((h3.setTwin ..).showTwinLink))

theorem execTwinEnWrite_goes (h : Kept False o s) (value) : Goes o (execTwinEnWrite value s) :=
  .next (h.writeTwnCfg ..)

theorem Kept.writeTwnCtl (h : Kept ρ o s) (w) : Kept ρ o (s.writeTwnCtl w) :=
  .ite h.doJoin h

theorem execJoin_goes (h : Kept False o s) (value) : Goes o (execJoin value s) :=
  .next (h.writeTwnCtl ..)

theorem Kept.passOver (h : Kept ρ o s) (x1 x2) : Kept ρ o (passOver s x1 x2) :=
  h

theorem execHelloSend_goes (h : Kept False o s) : Goes o (execHelloSend s) :=
  .next (.ite ((h.twinSend ..).setTwn ..) h)

theorem execHello_goes (h : Kept False o s) (bytes) : Goes o (execHello bytes s) :=
  .next (h.takeTwin (fun _ _ _ h1 => h1.passOver ..) (fun _ _ _ h1 => h1.takeHello ..))

theorem execTwinHeartbeatSend_goes (h : Kept False o s) (ns) : Goes o (execTwinHeartbeatSend ns s) :=
  .next (.ite (h.twinSend ..) h)

theorem execHeartbeat_goes (h : Kept False o s) (bytes ns) : Goes o (execHeartbeat bytes ns s) :=
  .next (h.takeTwin (fun _ _ _ h1 => h1.passOver ..) (fun _ _ _ h1 => h1.takeHeartbeat ..))

theorem execHeartbeatLoss_goes (h : Kept False o s) : Goes o (execHeartbeatLoss s) :=
  .next ((Kept.ite ((((Kept.ite (h.flag ..) h).setTwn ..).count ..).raise ..) (.ite (h.flag ..) h)).showTwinLink)

theorem execLinkDownTimeout_goes (h : Kept False o s) : Goes o (execLinkDownTimeout s) :=
  .next (.ite ((h.setTwin ..).showTwinLink) h)

theorem execSettleEnd_goes (h : Kept False o s) : Goes o (execSettleEnd s) :=
  .next (.ite (h.setTwin ..) h)

theorem execDigestSend_goes (h : Kept False o s) : Goes o (execDigestSend s) :=
  .next (.ite (by split; exacts [h.twinSend .., h]) h)

theorem execDigest_goes (h : Kept False o s) (bytes) : Goes o (execDigest bytes s) :=
  .next (h.takeTwin (fun _ _ _ h1 => h1.passOver ..) (fun _ _ _ h1 => h1.setTwn ..))

theorem execMirror_goes (h : Kept False o s) (bytes) : Goes o (execMirror bytes s) :=
  .next (h.takeTwin (fun _ _ _ h1 => h1.sendAck ..) (fun _ _ _ h1 => h1.takeMirror ..))

theorem execMirrorRetry_goes (h : Kept False o s) (seq) : Goes o (execMirrorRetry seq s) :=
  .next (by split; exacts [h, .ite (((h.setTwn ..).send ..).count ..) (.ite h ((h.setTwn ..).showTwinLink))])

theorem execAck_goes (h : Kept False o s) (bytes) : Goes o (execAck bytes s) :=
  .next (h.takeTwin (fun _ _ _ h1 => h1.passOver ..) (fun _ _ _ h1 => h1.setTwn ..))

theorem execMbx_goes (h : Kept False o s) (bytes) : Goes o (execMbx bytes s) :=
  .next (h.takeTwin (fun _ _ _ h1 => h1.passOver ..) (fun _ _ _ h1 => (Kept.ite_fst (h1.mbxWrite ..) h1).twinSend ..))

theorem execMbxAck_goes (h : Kept False o s) (bytes) : Goes o (execMbxAck bytes s) :=
  .next (h.takeTwin (fun _ _ _ h1 => h1.passOver ..) (fun _ _ _ h1 => .ite h1 (.ite h1.frame (h1.rejectTwsend ..))))

theorem execPingSend_goes (h : Kept False o s) : Goes o (execPingSend s) :=
  .next (.ite ((h.setTwn ..).twinSend ..) h)

theorem execPing_goes (h : Kept False o s) (bytes) : Goes o (execPing bytes s) :=
  .next (h.takeTwin (fun _ _ _ h1 => h1.passOver ..) (fun _ _ _ h1 => h1.twinSend ..))

theorem execPong_goes (h : Kept False o s) (bytes) : Goes o (execPong bytes s) :=
  .next (h.takeTwin (fun _ _ _ h1 => h1.passOver ..) (fun _ _ _ h1 => .ite (h1.setTwn ..) h1))

theorem execPingMeasureEnd_goes (h : Kept False o s) : Goes o (execPingMeasureEnd s) :=
  .next (.ite (((Kept.ite h (h.putS ..)).setTwn ..).judgeHello) h)

theorem execRefereeHeartbeatSend_goes (h : Kept False o s) : Goes o (execRefereeHeartbeatSend s) :=
  .next (.ite (h.sendDatagram ..) h)

theorem execRefereeHeartbeatReceive_goes (h : Kept False o s) (payload) : Goes o (execRefereeHeartbeatReceive payload s) :=
  .next (h.takeRefHeartbeat ..)

theorem Kept.abortSwatches (h : Kept False o s) : Kept False o s.abortSwatches := by
  unfold State.abortSwatches
  extract_lets s1
  have h1 : Kept False o s1 := h.foldl fun _ _ h1 => .ite (h1.endLoop ..) h1
  split
  · exact (h1.endForeground ..).setChState ..
  · exact h1.beginReset ..
  · exact h1

theorem execGrant_goes (h : Kept False o s) (payload) : Goes o (execGrant payload s) :=
  .next (.ite ((h.takeGrant ..).abortSwatches) (h.takeGrant ..))

theorem execGrantApply_goes (h : Kept False o s) : Goes o (execGrantApply s) :=
  .next h.applyGrant

theorem execPrstOutEnd_goes (h : Kept False o s) : Goes o (execPrstOutEnd s) :=
  .next (.ite ((h.setTwn ..).send ..) h)

/-! ### The functions of Machine/RegAccess.lean -/

theorem Kept.writeJudged (h : Kept ρ o s) (a w) : Kept ρ o (s.writeJudged a w) :=
  .ite ((h.writeFields ..).invalid ..) (.ite ((h.writeFields ..).invalid ..) (h.writeFields ..))

theorem Kept.writeIf (h : Kept ρ o s) (ok a w) : Kept ρ o (s.writeIf ok a w) :=
  .ite (h.writeReg ..) (h.invalid ..)

theorem Kept.changeRate (h : Kept ρ o s) : Kept ρ o s.changeRate :=
  (h.tpFlush.stopTicks.put ..).setRow

theorem Kept.writeProfile (h : Kept ρ o s) (w) : Kept ρ o (s.writeProfile w) := by
  unfold State.writeProfile
  extract_lets a t rate mode policy t1 src t2 src' t3
  have ht : Kept ρ o t := h.writeFields ..
  have ht1 : Kept ρ o t1 := .ite (ht.invalid ..) ht
  have ht2 : Kept ρ o t2 := .ite ht1.setRow ht1
  have ht3 : Kept ρ o t3 := .ite ht2.setRow ht2
  exact .ite ((h.flag ..).raise ..) ((Kept.ite ht3.changeRate ht3).foldl (fun _ _ h1 => h1.checkLpi ..))

theorem Kept.writeGuard (h : Kept ρ o s) (w) : Kept ρ o (s.writeGuard w) :=
  (h.writeReg ..).setRow

theorem Kept.writeMirrored (h : Kept ρ o s) (a w) : Kept ρ o (s.writeMirrored a w) :=
  .ite (h.writeProfile ..) (.ite (h.writeGuard ..) (.ite (h.writeBudget ..) (h.writeOutcfg ..)))

theorem Kept.writeTimed (h : Kept ρ o s) (a w) : Kept ρ o (s.writeTimed a w) := by
  unfold State.writeTimed
  extract_lets table push s1
  have h1 : Kept ρ o s1 := .ite (.ite h.startMapCheck h.startMtxCheck) h
  exact .ite (.ite (h.raise ..) (.ite (h1.tpPush ..) h1)) (.ite (h.raise ..) (h.tpPush ..))

theorem Kept.writeHif (h : Kept ρ o s) (a w) : Kept ρ o (s.writeHif a w) :=
  .ite (.ite (h.wake ..) h) (.ite (h.writeIf ..) (.ite (h.writeIf ..) (h.writeReg ..)))

theorem Kept.writeCfg2 (h : Kept ρ o s) (r w) : Kept ρ o (s.writeCfg2 r w) :=
  .ite ((h.writeReg ..).invalid ..) (h.writeReg ..)

theorem Kept.writeRing (h : Kept ρ o s) (r x2 w) : Kept ρ o (s.writeRing r x2 w) := by
  unfold State.writeRing
  extract_lets a
  split
  · exact h.writeRingCfg ..
  · exact .ite (h.resetRing ..) h
  · exact h.writeIf ..
  · exact h.writeIf ..
  · exact .ite (h.writeCfg2 ..) (h.invalid ..)
  · exact h.writeReg ..

theorem Kept.writeXlt (h : Kept ρ o s) (a w) : Kept ρ o (s.writeXlt a w) :=
  .ite (h.writeInvCtl ..) (.ite (h.writeIf ..) (h.writeReg ..))

theorem Kept.writeEvt (h : Kept ρ o s) (a w) : Kept ρ o (s.writeEvt a w) :=
  .ite (h.writeRaise ..) (.ite (h.writeReg ..) (h.writeReg ..))

theorem Kept.writeBoot (h : Kept False o s) (a w) : Kept False o (s.writeBoot a w) :=
  .ite (h.writeRstCtl ..) (.ite (h.writeFuseCtl ..) (h.writeReg ..))

theorem Kept.writeCoreCtl (h : Kept ρ o s) (c w) : Kept ρ o (s.writeCoreCtl c w) :=
  .ite ((h.writeReg ..).clearFault ..) (h.writeReg ..)

theorem Kept.writeClu (h : Kept ρ o s) (n x2 w) : Kept ρ o (s.writeClu n x2 w) := by
  unfold State.writeClu
  extract_lets a c
  split
  · exact h.snapDigest ..
  · split
    · exact h.writeReg ..
    · split
      · exact h.writeCoreCtl ..
      · exact .ite (h.holdReg ..) (h.writeBudget ..)
      · exact .ite (h.holdReg ..) (h.writeOutcfg ..)
      · exact h.writeReg ..

theorem Kept.writeEng (h : Kept ρ o s) (a w) : Kept ρ o (s.writeEng a w) :=
  .ite (.ite (h.holdReg ..) (h.writeMirrored ..)) (.ite (h.writeMigrate ..) (h.writeReg ..))

theorem Kept.writeMtx (h : Kept ρ o s) (a w) : Kept ρ o (s.writeMtx a w) :=
  .ite (h.writeShdRoute ..) (.ite (h.touchShadowTable.writeReg ..) (h.writeReg ..))

theorem Kept.writeNetCfg (h : Kept ρ o s) (n w) : Kept ρ o (s.writeNetCfg n w) :=
  .ite ((h.writeFields ..).invalid ..) (h.writeReg ..)

theorem Kept.writeNet (h : Kept ρ o s) (n x2 w) : Kept ρ o (s.writeNet n x2 w) := by
  unfold State.writeNet
  extract_lets a
  split
  · exact h.writeNetCfg ..
  · exact h.writeSpeed ..
  · exact (h.writeReg ..).showHalts ..
  · exact h.writeJudged ..
  · exact h.writeJudged ..
  · exact (h.writeJudged ..).checkLpi ..
  · exact h.writeTxtsCtl ..
  · exact .ite (h.writeFdbHi ..) h
  · exact h.writeReg ..

theorem Kept.writeLane (h : Kept False o s) (n x2 w) : Kept False o (s.writeLane n x2 w) := by
  unfold State.writeLane
  extract_lets a t p
  have ht : Kept False o t := h.writeJudged ..
  split
  · exact h.writeLaneCfg ..
  · exact h.writeTxfir ..
  · exact h.writeLoopCtl ..
  · exact ht.restartPrbs ..
  · exact h.writeEyeSel ..
  · exact .ite ((h.writeReg ..).adaptChanged ..) (h.writeReg ..)

theorem Kept.writeStr (h : Kept ρ o s) (a w) : Kept ρ o (s.writeStr a w) :=
  .ite (h.setReg ..) (.ite ((h.modFlow ..).followFlowSat) (h.writeReg ..))

theorem Kept.writeTb (h : Kept ρ o s) (n x2 w) : Kept ρ o (s.writeTb n x2 w) := by
  unfold State.writeTb
  extract_lets a
  split
  · exact h.writeTbCtl ..
  · exact ((h.writeJudged ..).selectMaster ..).checkBasePorts ..
  · exact (h.writeReg ..).selectMaster ..
  · exact h.snapBase ..
  · exact h.writeReg ..

theorem Kept.writeRefIn (h : Kept ρ o s) (r a w) : Kept ρ o (s.writeRefIn r a w) :=
  .ite (h.writeJudged ..) (.ite ((h.writeJudged ..).setStage ..) (.ite ((h.writeJudged ..).setStage ..) (h.writeJudged ..)))

theorem Kept.writeClk (h : Kept ρ o s) (a w) : Kept ρ o (s.writeClk a w) :=
  .ite h.snapClk (.ite (h.writeRefIn ..) (h.writeReg ..))

theorem Kept.writePort (h : Kept ρ o s) (p x2 a w) : Kept ρ o (s.writePort p x2 a w) :=
  .ite (.ite ((Kept.ite (h.writeIf ..) ((h.writeIf ..).unlock ..)).showIdle ..) (h.writeIf ..)) (h.writeReg ..)

theorem Kept.writeTwn (h : Kept ρ o s) (a w) : Kept ρ o (s.writeTwn a w) :=
  .ite (h.writeTwnCfg ..) (.ite (h.writeTwnCtl ..) (.ite (h.setReg ..) (h.writeReg ..)))

theorem Kept.writeRef (h : Kept ρ o s) (a w) : Kept ρ o (s.writeRef a w) :=
  .ite (h.writeReg ..) (.ite ((Kept.ite (h.setReg ..) (h.writeJudged ..)).restartPair ..) (.ite (h.setReg ..) (h.writeJudged ..)))

theorem Kept.writeBlock (h : Kept False o s) (a w) : Kept False o (s.writeBlock a w) := by
  unfold State.writeBlock
  extract_lets blk off
  refine .ite (h.writeHif ..) <| .ite (h.writeRing ..) <| .ite (h.writeXlt ..) <| .ite (h.writeEvt ..) <|
    .ite (h.writeBoot ..) <| .ite (.ite (h.writePwrCtl ..) (h.writeReg ..)) <|
    .ite (.ite (h.writeFgCtl ..) (h.writeReg ..)) <| .ite (h.writeEng ..) <| .ite (h.writeClu ..) <|
    .ite (h.writeMtx ..) <| .ite (.ite (h.writeShdData ..) (.ite (h.writeJudged ..) (h.writeReg ..))) <|
    .ite (.ite (h.writeQown ..) (h.writeReg ..)) <| .ite (h.writeNet ..) <| .ite (h.writeLane ..) <|
    .ite (h.writeStr ..) <| .ite (h.writeTb ..) <| .ite (h.writeClk ..) <| .ite (h.writeTwn ..) <|
    .ite (h.writeRef ..) ?_
  split
  · exact h.writePort ..
  · exact h.writeReg ..

theorem Kept.snapFlow (h : Kept ρ o s) : Kept ρ o s.snapFlow :=
  ((((h.setReg ..).setReg ..).setReg ..).setReg ..).foldl fun _ _ h1 => h1.setReg ..

theorem Kept.snapCounters (h : Kept ρ o s) (a) : Kept ρ o (s.snapCounters a) :=
  .ite h.snapFlow (by split; exacts [((Kept.ite (h.countLpi ..) h).capture64 ..).capture32 .., h])

theorem Kept.writeW0 (h : Kept False o s) (a w) : Kept False o (s.writeW0 a w) :=
  .ite (h.tunnel ..) (.ite h (.ite (h.writeTimed ..) (.ite (h.snapCounters ..) (h.writeBlock ..))))

theorem Kept.unmaskVec (h : Kept ρ o s) (v) : Kept ρ o (s.unmaskVec v) :=
  .ite ((h.setHost ..).send ..) h

theorem Kept.writeW2 (h : Kept ρ o s) (x1 w) : Kept ρ o (s.writeW2 x1 w) := by
  unfold State.writeW2
  extract_lets src i src'
  split
  · exact h.hostMailbox ..
  · exact .ite (h.writeTwsend ..) (.ite h.frame (.ite h.frame (.ite h.frame (.ite ((h.setHost ..).unmaskVec ..) h))))

theorem Kept.hostWrite (h : Kept False o s) (a w) : Kept False o (s.hostWrite a w) :=
  .ite (h.badAccess ..) (.ite (h.writeW0 ..) (.ite (h.writeHif ..) (.ite h (.ite (h.badAccess ..) h))))

theorem Kept.houseWrite (h : Kept False o s) (a w) : Kept False o (s.houseWrite a w) :=
  .ite (h.writeW0 ..) h

theorem execRegisterWrite_goes (h : Kept False o s) (house w2 addr value) : Goes o (execRegisterWrite house w2 addr value s) :=
  .next (.ite (.ite h (h.houseWrite ..)) (.ite (h.hostWrite ..) (.ite (h.writeW2 ..) (.ite (h.badAccess ..) h))))

theorem execProfileWrite_goes (h : Kept False o s) (value) : Goes o (execProfileWrite value s) :=
  .next (.ite (h.writeEng ..) h)

theorem Kept.lineCounts (h : Kept ρ o s) (n fecCorr fecUncorr blockErr ins del) :
    Kept ρ o (s.lineCounts n fecCorr fecUncorr blockErr ins del) :=
  .ite h (.ite (((((h.countLane ..).countBy ..).countBy ..).countLane ..).countLane ..)
    (((h.countLane ..).countBy ..).countBy ..))

theorem execCntSnap_goes (h : Kept False o s) (req) : Goes o (execCntSnap req s) := by
  unfold execCntSnap
  extract_lets a n s'
  have h' : Kept False o s' := .ite (h.lineCounts ..) h
  exact .next (.ite h' (.ite (.ite (h'.tunnel ..) h') (h'.snapCounters ..)))

theorem execTimeSnap_goes (h : Kept False o s) (unit) : Goes o (execTimeSnap unit s) :=
  .next (.ite (.ite (h.snapBase ..) h.snapClk) h)

/-! ### The functions of Machine/Timed.lean -/

theorem Kept.applyTbCmd (h : Kept ρ o s) (n w) : Kept ρ o (s.applyTbCmd n w) := by
  unfold State.applyTbCmd
  split
  exacts [h, h.applyTbSet .., h.applyTbRestep .., h.applyTbHold .., h.applyTbRelease .., h.invalid ..]

theorem Kept.applyFabricReg (h : Kept ρ o s) (r) : Kept ρ o (s.applyFabricReg r) := by
  unfold State.applyFabricReg
  extract_lets a w
  split
  · exact h.applyEnable ..
  · split
    · exact h.applyTblCtl ..
    · split
      · exact h.setReg ..
      · split
        · exact h.applyXpGain ..
        · split
          · exact h.applyEnable ..
          · split
            · exact h.applyMapSel ..
            · exact .ite (h.applyMapData ..) (.ite (h.applyMapCtl ..) (.ite (h.applyLineLen ..) (.ite (h.applyLineDelay ..) h)))

theorem Kept.applyTimed (h : Kept ρ o s) (r) : Kept ρ o (s.applyTimed r) := by
  unfold State.applyTimed
  extract_lets a w blk
  split
  · exact h.applyFcmd ..
  · split
    · exact h.applyMediasel ..
    · split
      · exact h.applyPhstep ..
      · split
        · exact .ite (h.applyGclSwap ..) h
        · split
          · exact h.applyTbCmd ..
          · exact .ite (h.applyFabricReg ..) (by split; exacts [h.applyGroupCmd .., (by split; exacts [h.applyPortCmd .., h])])

theorem Kept.applyRecord (h : Kept ρ o s) (r) : Kept ρ o (s.applyRecord r) := by
  unfold State.applyRecord
  split
  · exact h.applyBy _ (fun _ _ h1 => h1.applyTimed ..)
  · split
    · exact h.applyDoorbell ..
    · exact h.applyCoefWord ..
    · exact h.applySwap ..
    · exact h.applyBindoff ..
    · exact h.applyTimed ..

/-! ### The functions of Machine/Image.lean -/

theorem Kept.lay (h : Kept ρ o s) (r : DefaultRec) (cold) : Kept ρ o (r.lay cold s) :=
  h.setReg ..

theorem Kept.showSettings (h : Kept ρ o s) : Kept ρ o s.showSettings :=
  (((((h.put ..).flag ..).put ..).foldl (fun _ _ h1 => h1.put ..)).setRow).put ..

/-! ### The functions of Machine/BootExec.lean -/

theorem Kept.bootEvent (h : Kept ρ o s) (n info) : Kept ρ o (s.bootEvent n info) :=
  .ite (h.raise ..) h.frame

theorem Kept.countTry (h : Kept ρ o s) (src) : Kept ρ o (s.countTry src) :=
  .ite (h.put ..) h

theorem Kept.failBoot (h : Kept False o s) (src) : Kept False o (s.failBoot src) :=
  (h.countTry ..).beginReset ..

theorem Kept.enterRecovery (h : Kept ρ o s) : Kept ρ o s.enterRecovery :=
  (h.put ..).put ..

theorem execPowerOn_goes (h : Kept False o s) : Goes o (execPowerOn s) :=
  .next (.ite h (((h.frame.put ..).loadLife).riseSats))

theorem execResetRelease_goes (h : Kept False o s) (strap gen width hdrA hdrB) :
    Goes o (execResetRelease strap gen width hdrA hdrB s) := by
  unfold execResetRelease
  extract_lets order src s1 s2 s3 s3'
  have h1 : Kept False o s1 := h.frame
  have h2 : Kept False o s2 := ((h1.put ..).put ..).put ..
  have h3 : Kept False o s3 := (((h2.put ..).put ..).showFuses).showLevel ..
  have hs3' : Kept False o s3' := (Kept.ite h3.clocksOn h3).foldl fun _ _ h1 => h1.showIdle ..
  exact .ite (.next (.ite hs3'.enterRecovery hs3')) (.next h)

theorem Kept.applyDefaults (h : Kept ρ o s) (b) : Kept ρ o (s.applyDefaults b) := by
  unfold State.applyDefaults
  extract_lets cold rs s1 src s1' s2 s3 s4 s5 s6 s7
  have h1 : Kept ρ o s1 := (h.foldl fun _ _ h1 => h1.lay ..).showSettings
  have h1' : Kept ρ o s1' := h1.frame
  have h2 : Kept ρ o s2 := h1'.foldl fun _ _ h1 => .ite h1 (h1.setMode ..)
  have h3 : Kept ρ o s3 := h2.foldl fun _ _ h1 => .ite (h1.setMode ..) h1
  have h4 : Kept ρ o s4 := h3.put ..
  have h5 : Kept ρ o s5 := .ite (h4.setTwin ..) h4
  have h6 : Kept ρ o s6 := .ite ((h5.setActiveMap ..).setReg ..) h5
  have h7 : Kept ρ o s7 :=
    .ite ((h6.foldl fun _ _ h1 => .ite (h1.enableBase ..) h1).foldl fun _ _ h1 => .ite h1 (h1.setStage ..)) h6
  exact .ite (h7.assertSag ..) h7

theorem Kept.supplyDefaults (h : Kept ρ o s) (b) : Kept ρ o (s.supplyDefaults b) :=
  h.foldl fun _ _ h1 => h1.tunnel ..

theorem Kept.acceptImage (h : Kept ρ o s) (src b) : Kept ρ o (s.acceptImage src b) :=
  ((((((((h.applyDefaults ..).frame).put ..).setReg ..).put ..).put ..).put ..).put ..).put ..

theorem execBootEarly_goes (h : Kept False o s) (image) : Goes o (execBootEarly image s) := by
  unfold execBootEarly
  split
  · refine .ite (.next h) ?_
    dsimp only
    split
    · exact .next ((h.put ..).acceptImage ..)
    · exact .next (.ite (Kept.enterRecovery (Kept.bootEvent (h.put ..).frame ..)) (Kept.bootEvent (h.put ..).frame ..))
  · exact .next h

theorem execBootRunning_goes (h : Kept False o s) : Goes o (execBootRunning s) := by
  unfold execBootRunning
  split
  · extract_lets s1 s2 s3 s4 src
    have h1 : Kept False o s1 := (h.put ..).showLevel ..
    have h2 : Kept False o s2 := h1.foldl fun _ _ h1 => (Kept.ite (h1.count ..) h1).raise ..
    have h3 : Kept False o s3 := by
      unfold s3
      split
      exacts [h2.raise .., h2]
    have h4 : Kept False o s4 := .ite (h3.supplyDefaults ..) h3
    exact .ite (.next h) (.next h4.frame.payOwed)
  · exact .next h

theorem Kept.loadSection (h : Kept ρ o s) (b x) : Kept ρ o (s.loadSection b x) := by
  unfold State.loadSection
  extract_lets d p
  split
  · exact ((h.setPready ..).deliver ..).setPready ..
  · exact ((h.setCready ..).deliver ..).setCready ..
  · exact (h.setMapReady ..).deliver ..
  · exact (h.touchShadowTable.deliver ..).put ..
  · exact h.setShared h
  · exact h

theorem Kept.loadSections (h : Kept ρ o s) (b l) : Kept ρ o (s.loadSections b l).1 := by
  induction l generalizing s with
  | nil => exact h
  | cons x l ih => exact .ite_fst (ih h) (.ite_fst (ih (h.loadSection ..)) h)

theorem Kept.avoidFailed (h : Kept ρ o s) : Kept ρ o s.avoidFailed :=
  h.foldl fun _ _ h1 => .ite (h1.movePhys ..) h1

theorem Kept.loadDone (h : Kept ρ o s) (target reason index) : Kept ρ o (s.loadDone target reason index) :=
  h.bootEvent ..

theorem Kept.endImageLoad (h : Kept ρ o s) (r target reason) : Kept ρ o (s.endImageLoad r target reason) :=
  (Kept.loadDone (by split; exacts [.ite (h.endTransfer ..) h, h]) ..).pumpAll

theorem Kept.seqEnd (h : Kept ρ o s) (failed) : Kept ρ o (s.seqEnd failed) :=
  (((h.put ..).frame).put ..).loadDone ..

theorem Kept.seqEnter (h : Kept ρ o s) (i) : Kept ρ o (s.seqEnter i) := by
  unfold State.seqEnter
  split
  exacts [h.frame.put .., h.seqEnd ..]

theorem Kept.seqNext (h : Kept ρ o s) : Kept ρ o s.seqNext :=
  h.seqEnter ..

theorem Kept.startSequence (h : Kept ρ o s) : Kept ρ o s.startSequence := by
  unfold State.startSequence
  split
  exacts [.ite (((h.put ..).put ..).seqEnter ..) h, h]

theorem execSeqWrite_goes (h : Kept False o s) : Goes o (execSeqWrite s) := by
  unfold execSeqWrite
  split
  · extract_lets a t src
    have ht : Kept False o t := h.writeW0 ..
    exact .ite (.next h) (.next (.ite ht (.ite (ht.seqEnd ..) (.ite ht.frame ht.seqNext))))
  · exact .next h

theorem execSeqWaitrows_goes (h : Kept False o s) : Goes o (execSeqWaitrows s) :=
  .next (by split; exacts [.ite h.seqNext h, h])

theorem execSeqWaitfield_goes (h : Kept False o s) (timeout) : Goes o (execSeqWaitfield timeout s) :=
  .next (by split; exacts [.ite h.bumpFree.seqNext (.ite (h.bumpFree.seqEnd ..) h.bumpFree), h])

theorem execSeqTparam_goes (h : Kept False o s) : Goes o (execSeqTparam s) :=
  .next (by split; exacts [.ite ((h.tpSubmit ..).seqNext) ((h.tpSubmit ..).seqEnd ..), h])

theorem execBootDone_goes (h : Kept False o s) : Goes o (execBootDone s) := by
  unfold execBootDone
  split
  · extract_lets l s1 src s2
    have hl : Kept False o l.1 := (h.put ..).loadSections ..
    have h1 : Kept False o s1 := (hl.avoidFailed.put ..).changeState ..
    have h2 : Kept False o s2 := by
      unfold s2
      split
      exacts [h1.frame.endImageLoad .., h1]
    exact .ite (.next h) (.ite (.next (hl.failBoot ..)) (.next h2.startSequence))
  · exact .next h

theorem execBootTrialTimeout_goes (h : Kept False o s) : Goes o (execBootTrialTimeout s) :=
  .next (.ite (h.failBoot ..) h)

theorem execWdog_goes (h : Kept False o s) : Goes o (execWdog s) :=
  .next (.ite ((Kept.ite (h.countTry ..) h).beginReset ..) h)

theorem execTrialConfirm_goes (h : Kept False o s) : Goes o (execTrialConfirm s) :=
  .next (.ite (h.frame.put ..) h)

theorem Kept.imageLoad (h : Kept ρ o s) (r p) : Kept ρ o (s.imageLoad r p) :=
  h.execHead fun _ _ h1 => .ite (h1.startHead ..) ((h1.finishHead ..).loadDone ..)

theorem execImageLoadRun_goes (h : Kept False o s) (ring) : Goes o (execImageLoadRun ring s) :=
  .next (h.imageLoad ..)

theorem execImageLoadSlot_goes (h : Kept False o s) (ring) : Goes o (execImageLoadSlot ring s) :=
  .next (h.imageLoad ..)

theorem Kept.imageRead (h : Kept ρ o s) (r t) : Kept ρ o (s.imageRead r t) := by
  unfold State.imageRead
  extract_lets target why src
  split
  · exact h
  · split
    · exact h.endImageLoad ..
    · exact .ite ((Kept.ite (h.bootEvent ..) h).endImageLoad ..) (.ite (h.frame.acceptImage ..) (h.frame.send ..))

theorem execDmaTransferDone_goes (h : Kept False o s) (ring) : Goes o (execDmaTransferDone ring s) := by
  unfold execDmaTransferDone
  split
  exacts [.ite (.next (.ite (h.imageRead ..) ((h.transferDone ..).pumpAll))) (.next h), .next h]

theorem execSlotProgramDone_goes (h : Kept False o s) (ring ok) : Goes o (execSlotProgramDone ring ok s) :=
  .ite (by split; exacts [.next ((Kept.ite (h.frame.put ..) h.frame).endImageLoad ..), .next h.frame]) (.next h)

theorem execRecoveryPoll_goes (h : Kept False o s) : Goes o (execRecoveryPoll s) :=
  .next (.ite (((((h.setHost ..).foldl (fun _ _ h1 => h1.modRing ..)).writeStatus).readDoorbells).pumpAll) h)

/-! ### The functions of Machine/RowExec.lean -/

theorem Kept.stopPoint (h : Kept ρ o s) : Kept ρ o s.stopPoint :=
  .ite (.ite (((h.stopCores ..).endPasses).setRow) ((((h.stopCores ..).endPasses).setRow).raise ..)) h

theorem execStopPoint_goes (h : Kept False o s) : Goes o (execStopPoint s) :=
  .next h.stopPoint

theorem Kept.tickRegs (h : Kept ρ o s) : Kept ρ o s.tickRegs :=
  (((h.setTwn ..).foldl (fun _ _ h1 => h1.writeMirrored ..)).setRow).put ..

theorem execMigrationPerform_goes (h : Kept False o s) : Goes o (execMigrationPerform s) := by
  unfold execMigrationPerform
  split
  exacts [.ite (.next ((((h.movePhys ..).modCore).setRow).put ..)) (.next h), .next h]

theorem Kept.testFit (h : Kept ρ o s) : Kept ρ o s.testFit := by
  unfold State.testFit
  extract_lets e m src s1 s2 s3
  have h1 : Kept ρ o s1 := h.setRow
  have h2 : Kept ρ o s2 := .ite (h1.flag ..) h1
  have h3 : Kept ρ o s3 := .ite (h2.flag ..) h2
  exact .ite h (.ite (h3.raise ..) h3)

theorem Kept.applyClass (h : Kept ρ o s) (cls n) : Kept ρ o (State.applyClass cls n s) := by
  induction n generalizing s with
  | zero => exact h
  | succ n ih =>
    unfold State.applyClass
    split
    next e => exact ih ((h.tpTake e).applyRecord _)
    next => exact h

theorem Kept.applyDue (h : Kept ρ o s) : Kept ρ o s.applyDue :=
  ((((h.applyClass ..).applyClass ..).applyClass ..).applyClass ..).applyClass ..

theorem Kept.joinRegs (h : Kept ρ o s) : Kept ρ o s.joinRegs :=
  .ite ((h.foldl (fun _ _ h1 => .ite (h1.setReg ..) (h1.put ..))).setTwn ..) h

theorem Kept.countMigration (h : Kept ρ o s) : Kept ρ o s.countMigration := by
  unfold State.countMigration
  split
  exacts [h.setRow, h]

theorem Kept.seqTicked (h : Kept ρ o s) : Kept ρ o s.seqTicked :=
  .ite (.ite (h.seqEnd ..) h.seqNext) h

theorem Kept.outputRow (h : Kept ρ o s) : Kept ρ o s.outputRow :=
  ((h.sendFlows ..).latchPorts).latchAmp

theorem Kept.openPage (h : Kept ρ o s) : Kept ρ o s.openPage :=
  h.swapPages.setRow.openFlows

theorem Kept.startRow (h : Kept ρ o s) : Kept ρ o s.startRow :=
  ((h.put ..).foldl (fun _ _ h1 => h1.coreTick ..)).startPasses

theorem Kept.engineTick (h : Kept ρ o s) : Kept ρ o s.engineTick := by
  unfold State.engineTick
  extract_lets s1 s2 s3 s4
  have h1 : Kept ρ o s1 := (h.stopPoint.closeFlows.settleReady ..).tickRegs
  have h2 : Kept ρ o s2 := h1.testFit.applyDue.joinRegs.countMigration
  have h3 : Kept ρ o s3 := h2.openPage.startRow
  have h4 : Kept ρ o s4 := (h3.recordRow ..).playRow ..
  exact .ite h1 (.ite h2 ((Kept.ite h4 h4.outputRow).seqTicked))

theorem execEngineTick_goes (h : Kept False o s) : Goes o (execEngineTick s) :=
  .next (.ite h.engineTick h)

theorem Kept.endRow (h : Kept ρ o s) : Kept ρ o s.endRow := by
  unfold State.endRow
  extract_lets s1 s2 src s3 src'
  have h1 : Kept ρ o s1 := h.stopPoint
  have h2 : Kept ρ o s2 := .ite h1.finalDigests.compareRow h1
  have h3 : Kept ρ o s3 := .ite h2 ((h2.raise ..).setRow)
  exact .ite h3 (h3.frame.raise ..)

theorem Kept.countRow (h : Kept False o s) : Kept False o s.countRow :=
  ⟨h.pending, fun i => { h.inv i with }, False.elim⟩

theorem Kept.twinRow (h : Kept ρ o s) : Kept ρ o s.twinRow := by
  unfold State.twinRow
  extract_lets src s1 src' s2
  have h1 : Kept ρ o s1 := by
    unfold s1
    split
    exacts [h.frame.setGen .., h]
  have h2 : Kept ρ o s2 := .ite (h1.setTwin ..) (.ite (h1.setTwn ..) h1)
  exact h2.countHeartbeats.refereeRow

theorem Kept.reportRestep (h : Kept ρ o s) : Kept ρ o s.reportRestep := by
  unfold State.reportRestep
  split
  exacts [h.frame.raise .., h]

theorem Kept.rowTick (h : Kept False o s) : Kept False o s.rowTick := by
  unfold State.rowTick
  extract_lets s1 s2 s3 src s4
  have h1 : Kept False o s1 := h.endRow.countRow.latencyEffect.policyEffect.powerTick
  have h2 : Kept False o s2 := (((h1.put ..).twinRow).reportRestep).portsRow
  have h3 : Kept False o s3 := .ite h2.outputRow h2
  have h4 : Kept False o s4 := h3.frame
  exact ((h4.send ..).hostRow).deliveryPass

theorem execRowTick_goes (h : Kept False o s) : Goes o (execRowTick s) :=
  .next (.ite h.rowTick h)

/-! ### The functions of Machine/Dispatch.lean -/

/-- Every command answers a next state that comes from the state before. -/
theorem exec_goes (h : Kept False o s) (i : Instr) : Goes o (exec i s) :=
  match i with
  | .rowTick => execRowTick_goes h
  | .engineTick => execEngineTick_goes h
  | .slotDecayStart _ => execSlotDecayStart_goes h ..
  | .stopPoint => execStopPoint_goes h
  | .profileWrite _ => execProfileWrite_goes h ..
  | .latencyChangeEffect => execLatencyChangeEffect_goes h
  | .policyChangeEffect => execPolicyChangeEffect_goes h
  | .gaugeRecoveryStep _ => execGaugeRecoveryStep_goes h ..
  | .mediaClockLock => execMediaClockLock_goes h
  | .modulationFlitSend => execModulationFlitSend_goes h
  | .idleFlit _ _ => execIdleFlit_goes h ..
  | .rowFlit _ => execRowFlit_goes h ..
  | .modLoFlit _ => execModLoFlit_goes h ..
  | .modHiFlit _ => execModHiFlit_goes h ..
  | .senseFlit _ => execSenseFlit_goes h ..
  | .regWrFlit _ => execRegWrFlit_goes h ..
  | .regRdFlit _ => execRegRdFlit_goes h ..
  | .regRspFlit _ => execRegRspFlit_goes h ..
  | .mbxFlit _ _ => execMbxFlit_goes h ..
  | .evtFlit _ => execEvtFlit_goes h ..
  | .nakFlit _ _ => execNakFlit_goes h ..
  | .flitCreditSend _ => execFlitCreditSend_goes h ..
  | .nop _ => execNop_goes h ..
  | .waitrow _ => execWaitrow_goes h ..
  | .gie _ _ => execGie_goes h ..
  | .reti _ => execReti_goes h ..
  | .mac _ _ _ _ _ _ _ => execMac_goes h ..
  | .msu _ _ _ _ _ _ _ => execMsu_goes h ..
  | .tap _ _ _ _ _ _ _ _ _ => execTap_goes h ..
  | .aadd _ _ _ => execAadd_goes h ..
  | .asub _ _ _ => execAsub_goes h ..
  | .amov _ _ _ => execAmov_goes h ..
  | .ahsum _ _ _ => execAhsum_goes h ..
  | .ext _ _ _ _ _ => execExt_goes h ..
  | .vadd _ _ _ _ => execVadd_goes h ..
  | .vsub _ _ _ _ => execVsub_goes h ..
  | .vaddw _ _ _ _ => execVaddw_goes h ..
  | .vsubw _ _ _ _ => execVsubw_goes h ..
  | .vand _ _ _ _ => execVand_goes h ..
  | .vor _ _ _ _ => execVor_goes h ..
  | .vxor _ _ _ _ => execVxor_goes h ..
  | .vandn _ _ _ _ => execVandn_goes h ..
  | .vshl _ _ _ _ => execVshl_goes h ..
  | .vshls _ _ _ _ => execVshls_goes h ..
  | .vshra _ _ _ _ => execVshra_goes h ..
  | .vshrl _ _ _ _ => execVshrl_goes h ..
  | .vmax _ _ _ _ => execVmax_goes h ..
  | .vmin _ _ _ _ => execVmin_goes h ..
  | .vabs _ _ _ => execVabs_goes h ..
  | .vneg _ _ _ => execVneg_goes h ..
  | .vcmpeq _ _ _ _ => execVcmpeq_goes h ..
  | .vcmplt _ _ _ _ => execVcmplt_goes h ..
  | .vcmple _ _ _ _ => execVcmple_goes h ..
  | .vcmpltu _ _ _ _ => execVcmpltu_goes h ..
  | .vsel _ _ _ _ => execVsel_goes h ..
  | .vperm _ _ _ _ => execVperm_goes h ..
  | .vbc _ _ _ _ => execVbc_goes h ..
  | .vmul _ _ _ _ => execVmul_goes h ..
  | .vmulB _ _ _ _ _ => execVmulB_goes h ..
  | .vsplat _ _ _ => execVsplat_goes h ..
  | .vput _ _ _ _ => execVput_goes h ..
  | .vget _ _ _ _ => execVget_goes h ..
  | .add _ _ _ _ _ => execAdd_goes h ..
  | .sub _ _ _ _ _ => execSub_goes h ..
  | .and _ _ _ _ _ => execAnd_goes h ..
  | .or _ _ _ _ _ => execOr_goes h ..
  | .xor _ _ _ _ _ => execXor_goes h ..
  | .shl _ _ _ _ _ => execShl_goes h ..
  | .shra _ _ _ _ _ => execShra_goes h ..
  | .shrl _ _ _ _ _ => execShrl_goes h ..
  | .mul _ _ _ _ _ => execMul_goes h ..
  | .cmp _ _ _ => execCmp_goes h ..
  | .min _ _ _ _ _ => execMin_goes h ..
  | .max _ _ _ _ _ => execMax_goes h ..
  | .addi _ _ _ _ _ => execAddi_goes h ..
  | .andi _ _ _ _ _ => execAndi_goes h ..
  | .ori _ _ _ _ _ => execOri_goes h ..
  | .xori _ _ _ _ _ => execXori_goes h ..
  | .setr _ _ _ _ _ _ => execSetr_goes h ..
  | .movr _ _ _ _ _ => execMovr_goes h ..
  | .xmov _ _ _ _ _ _ => execXmov_goes h ..
  | .padd _ _ _ => execPadd_goes h ..
  | .lds _ _ _ _ _ => execLds_goes h ..
  | .ldv _ _ _ _ _ => execLdv_goes h ..
  | .sts _ _ _ _ _ => execSts_goes h ..
  | .stv _ _ _ _ _ => execStv_goes h ..
  | .xfer _ _ _ _ _ _ => execXfer_goes h ..
  | .transferDone _ _ _ => execTransferDone_goes h ..
  | .xwait _ _ => execXwait_goes h ..
  | .b _ _ _ => execB_goes h ..
  | .call _ _ _ => execCall_goes h ..
  | .jr _ _ _ => execJr_goes h ..
  | .callr _ _ _ => execCallr_goes h ..
  | .ret _ _ => execRet_goes h ..
  | .loop _ _ _ _ _ => execLoop_goes h ..
  | .rdc _ _ _ => execRdc_goes h ..
  | .wrc _ _ _ => execWrc_goes h ..
  | .interruptAccept _ _ => execInterruptAccept_goes h ..
  | .clrfault _ => execClrfault_goes h ..
  | .coreBudgetWrite _ _ => execCoreBudgetWrite_goes h ..
  | .coreOutcfgWrite _ _ => execCoreOutcfgWrite_goes h ..
  | .coreSatrowsRead _ => execCoreSatrowsRead_goes h ..
  | .corePeakRead _ => execCorePeakRead_goes h ..
  | .coreStitchRead _ => execCoreStitchRead_goes h ..
  | .wmaxRtRead => execWmaxRtRead_goes h
  | .cntSnap _ => execCntSnap_goes h ..
  | .digestSnap c v => execDigestSnap_goes h c v
  | .timeSnap _ => execTimeSnap_goes h ..
  | .registerWrite _ _ _ _ => execRegisterWrite_goes h ..
  | .timedParam _ => execTimedParam_goes h ..
  | .tpDoorbell => execTpDoorbell_goes h
  | .tpCoefWord => execTpCoefWord_goes h
  | .tpSwap => execTpSwap_goes h
  | .tpBindoff => execTpBindoff_goes h
  | .coreBindoffReset _ => execCoreBindoffReset_goes h ..
  | .migrateGo _ => execMigrateGo_goes h ..
  | .firmwareMigrationRequest _ _ => execFirmwareMigrationRequest_goes h ..
  | .migrationPerform => execMigrationPerform_goes h
  | .migrationAbandon => execMigrationAbandon_goes h
  | .mapDataApply => execMapDataApply_goes h
  | .shdDataWrite _ => execShdDataWrite_goes h ..
  | .mapCheck => execMapCheck_goes h
  | .mapCheckDone => execMapCheckDone_goes h
  | .mapSwap => execMapSwap_goes h
  | .shdRouteWrite _ => execShdRouteWrite_goes h ..
  | .mtxCheck => execMtxCheck_goes h
  | .mtxCheckDone => execMtxCheckDone_goes h
  | .mtxTableSwap => execMtxTableSwap_goes h
  | .mtxCtlApply => execMtxCtlApply_goes h
  | .xpSelApply => execXpSelApply_goes h
  | .xpGainApply => execXpGainApply_goes h
  | .glideEnd _ => execGlideEnd_goes h ..
  | .dlyCtlApply => execDlyCtlApply_goes h
  | .lineLenApply => execLineLenApply_goes h
  | .lineDelayApply => execLineDelayApply_goes h
  | .crossfadeEnd _ => execCrossfadeEnd_goes h ..
  | .qownWrite _ _ => execQownWrite_goes h ..
  | .speedWrite _ _ => execSpeedWrite_goes h ..
  | .frameReceive _ _ => execFrameReceive_goes h ..
  | .cutThroughDecision _ _ _ _ => execCutThroughDecision_goes h ..
  | .underrun _ _ => execUnderrun_goes h ..
  | .pauseFrameReceive _ _ => execPauseFrameReceive_goes h ..
  | .pfcFrameReceive _ _ _ => execPfcFrameReceive_goes h ..
  | .pauseHaltExpire _ _ => execPauseHaltExpire_goes h ..
  | .pauseFrameSend _ => execPauseFrameSend_goes h ..
  | .frameTransmitStart _ _ => execFrameTransmitStart_goes h ..
  | .frameTransmitDone _ => execFrameTransmitDone_goes h ..
  | .gateCycleStart _ => execGateCycleStart_goes h ..
  | .gateEntryStart _ => execGateEntryStart_goes h ..
  | .gclSwap _ => execGclSwap_goes h ..
  | .lpiEnter _ _ => execLpiEnter_goes h ..
  | .lpiExit _ _ => execLpiExit_goes h ..
  | .lldpReceive _ _ => execLldpReceive_goes h ..
  | .eeeTlvTimeout _ => execEeeTlvTimeout_goes h ..
  | .txtsPop _ _ => execTxtsPop_goes h ..
  | .fdbHiWrite _ => execFdbHiWrite_goes h ..
  | .rxBind _ => execRxBind_goes h ..
  | .txBind _ => execTxBind_goes h ..
  | .rxBindoff _ => execRxBindoff_goes h ..
  | .txBindoff _ => execTxBindoff_goes h ..
  | .flowBindoffEnd _ _ => execFlowBindoffEnd_goes h ..
  | .flowDrainEnd _ _ => execFlowDrainEnd_goes h ..
  | .malraingFrameReceive _ _ _ => execMalraingFrameReceive_goes h ..
  | .flowLost _ => execFlowLost_goes h ..
  | .aafPacketReceive _ _ => execAafPacketReceive_goes h ..
  | .rtpPacketReceive _ _ => execRtpPacketReceive_goes h ..
  | .receiveDeadline => execReceiveDeadline_goes h
  | .laneLock _ _ _ _ => execLaneLock_goes h ..
  | .laneUp _ => execLaneUp_goes h ..
  | .laneLockLoss _ => execLaneLockLoss_goes h ..
  | .adaptFreeze _ _ _ _ => execAdaptFreeze_goes h ..
  | .runEnd _ _ _ _ => execRunEnd_goes h ..
  | .retrainEnd _ _ _ _ => execRetrainEnd_goes h ..
  | .laneEidleEnter _ _ _ _ => execLaneEidleEnter_goes h ..
  | .laneSignalDetect _ => execLaneSignalDetect_goes h ..
  | .fastExitLock _ _ _ _ => execFastExitLock_goes h ..
  | .fastExitFail _ => execFastExitFail_goes h ..
  | .elasticError _ => execElasticError_goes h ..
  | .txfirWrite _ _ => execTxfirWrite_goes h ..
  | .txrefWrite _ _ => execTxrefWrite_goes h ..
  | .laneEnWrite _ _ => execLaneEnWrite_goes h ..
  | .loopbackStart _ _ => execLoopbackStart_goes h ..
  | .loopbackEnd _ => execLoopbackEnd_goes h ..
  | .eyeScanGo _ _ => execEyeScanGo_goes h ..
  | .eyePointDone _ _ => execEyePointDone_goes h ..
  | .tbEnWrite _ _ => execTbEnWrite_goes h ..
  | .ptpSyncReceive _ _ _ => execPtpSyncReceive_goes h ..
  | .ptpDelayRespReceive _ => execPtpDelayRespReceive_goes h ..
  | .ptpAnnounceReceive _ _ _ _ _ _ _ _ _ _ => execPtpAnnounceReceive_goes h ..
  | .ptpReceiptTimeout _ => execPtpReceiptTimeout_goes h ..
  | .tbSet _ => execTbSet_goes h ..
  | .tbRestep _ => execTbRestep_goes h ..
  | .tbHold _ => execTbHold_goes h ..
  | .tbRelease _ => execTbRelease_goes h ..
  | .mediaselApply => execMediaselApply_goes h
  | .mediaRestepPrepared => execMediaRestepPrepared_goes h
  | .restepNostepTimeout => execRestepNostepTimeout_goes h
  | .dpllUpdate _ _ _ => execDpllUpdate_goes h ..
  | .refLoss _ => execRefLoss_goes h ..
  | .refLossClear _ _ => execRefLossClear_goes h ..
  | .rateWindow _ _ => execRateWindow_goes h ..
  | .refOffsetUpdate _ _ => execRefOffsetUpdate_goes h ..
  | .wtrExpire _ => execWtrExpire_goes h ..
  | .histokSet => execHistokSet_goes h
  | .esmcReceive _ _ => execEsmcReceive_goes h ..
  | .esmcTimeout _ => execEsmcTimeout_goes h ..
  | .esmcInfoSend _ => execEsmcInfoSend_goes h ..
  | .esmcEventSend _ => execEsmcEventSend_goes h ..
  | .phstepApply => execPhstepApply_goes h
  | .xoLoss => execXoLoss_goes h
  | .xoRestore => execXoRestore_goes h
  | .portCaston _ => execPortCaston_goes h ..
  | .portBindoff _ => execPortBindoff_goes h ..
  | .portCommit _ => execPortCommit_goes h ..
  | .groupStart _ => execGroupStart_goes h ..
  | .groupStop _ => execGroupStop_goes h ..
  | .groupCommit _ => execGroupCommit_goes h ..
  | .startPinEdge => execStartPinEdge_goes h
  | .portStart _ => execPortStart_goes h ..
  | .preclkEnd _ => execPreclkEnd_goes h ..
  | .postclkEnd _ => execPostclkEnd_goes h ..
  | .zcTimeout _ => execZcTimeout_goes h ..
  | .localFrameReceive _ _ _ _ _ _ _ => execLocalFrameReceive_goes h ..
  | .portNoclkTimeout _ => execPortNoclkTimeout_goes h ..
  | .portAutoRearm _ => execPortAutoRearm_goes h ..
  | .localFrameSend _ => execLocalFrameSend_goes h ..
  | .xfeedFrameReceive _ => execXfeedFrameReceive_goes h ..
  | .xfeedClockLoss => execXfeedClockLoss_goes h
  | .ampRowSelect _ _ => execAmpRowSelect_goes h ..
  | .boostShortfall _ _ => execBoostShortfall_goes h ..
  | .busLow => execBusLow_goes h
  | .busLowRecover => execBusLowRecover_goes h
  | .railOvervoltage => execRailOvervoltage_goes h
  | .overTemperature => execOverTemperature_goes h
  | .protectionRecover _ => execProtectionRecover_goes h ..
  | .bootstrapUndervoltage _ _ => execBootstrapUndervoltage_goes h ..
  | .currentLimit _ _ _ => execCurrentLimit_goes h ..
  | .tripRetry _ => execTripRetry_goes h ..
  | .retryGainStep _ => execRetryGainStep_goes h ..
  | .chEnable _ => execChEnable_goes h ..
  | .chDisable _ => execChDisable_goes h ..
  | .chClear _ => execChClear_goes h ..
  | .prechgEnd _ => execPrechgEnd_goes h ..
  | .channelRampEnd _ => execChannelRampEnd_goes h ..
  | .impedanceWindow _ _ _ => execImpedanceWindow_goes h ..
  | .lookaheadWrite _ => execLookaheadWrite_goes h ..
  | .tunnelAccess _ _ _ => execTunnelAccess_goes h ..
  | .tunnelTimeout _ => execTunnelTimeout_goes h ..
  | .badHostAccess _ _ _ => execBadHostAccess_goes h ..
  | .doorbellReadComplete _ => execDoorbellReadComplete_goes h ..
  | .ringEnable _ _ => execRingEnable_goes h ..
  | .ringReset _ => execRingReset_goes h ..
  | .ringResetDone _ => execRingResetDone_goes h ..
  | .cmdNop _ => execCmdNop_goes h ..
  | .loadProg _ => execLoadProg_goes h ..
  | .loadCoef _ => execLoadCoef_goes h ..
  | .loadMap _ => execLoadMap_goes h ..
  | .loadMtx _ => execLoadMtx_goes h ..
  | .shmemWrite _ => execShmemWrite_goes h ..
  | .shmemRead _ => execShmemRead_goes h ..
  | .fwConfigSyncInterval _ => execFwConfigSyncInterval_goes h ..
  | .fwConfigAnnounceInterval _ => execFwConfigAnnounceInterval_goes h ..
  | .fwConfigAnnounceTimeout _ => execFwConfigAnnounceTimeout_goes h ..
  | .fwConfigMetadataTlv _ => execFwConfigMetadataTlv_goes h ..
  | .fwConfigLldpInterval _ => execFwConfigLldpInterval_goes h ..
  | .fwConfigEsmc _ => execFwConfigEsmc_goes h ..
  | .resume _ => execResume_goes h ..
  | .resumeAbort _ => execResumeAbort_goes h ..
  | .imageLoadRun _ => execImageLoadRun_goes h ..
  | .imageLoadSlot _ => execImageLoadSlot_goes h ..
  | .slotProgramDone _ _ => execSlotProgramDone_goes h ..
  | .txFrame _ => execTxFrame_goes h ..
  | .rxBuf _ => execRxBuf_goes h ..
  | .rtPlayBlock _ => execRtPlayBlock_goes h ..
  | .rtRecBlock _ => execRtRecBlock_goes h ..
  | .rtPlayBlockDone _ => execRtPlayBlockDone_goes h ..
  | .rtRecBlockWrite _ => execRtRecBlockWrite_goes h ..
  | .dmaTransferDone _ => execDmaTransferDone_goes h ..
  | .coalesceTimeout _ => execCoalesceTimeout_goes h ..
  | .hostReadCompletion _ _ _ => execHostReadCompletion_goes h ..
  | .readCompletionTimeout _ => execReadCompletionTimeout_goes h ..
  | .tlbInvalidate _ => execTlbInvalidate_goes h ..
  | .invalidateDone => execInvalidateDone_goes h
  | .eventDeliveryPass => execEventDeliveryPass_goes h
  | .eventRaise _ => execEventRaise_goes h ..
  | .mailboxWrite _ _ => execMailboxWrite_goes h ..
  | .mailboxRead _ => execMailboxRead_goes h ..
  | .firmwareMailboxAccess _ _ => execFirmwareMailboxAccess_goes h ..
  | .twsendWrite _ _ => execTwsendWrite_goes h ..
  | .twsendTimeout _ => execTwsendTimeout_goes h ..
  | .twinEnWrite _ => execTwinEnWrite_goes h ..
  | .join _ => execJoin_goes h ..
  | .helloSend => execHelloSend_goes h
  | .hello _ => execHello_goes h ..
  | .twinHeartbeatSend _ => execTwinHeartbeatSend_goes h ..
  | .heartbeat _ _ => execHeartbeat_goes h ..
  | .heartbeatLoss => execHeartbeatLoss_goes h
  | .linkDownTimeout => execLinkDownTimeout_goes h
  | .settleEnd => execSettleEnd_goes h
  | .digestSend => execDigestSend_goes h
  | .digest _ => execDigest_goes h ..
  | .mirror _ => execMirror_goes h ..
  | .mirrorRetry _ => execMirrorRetry_goes h ..
  | .ack _ => execAck_goes h ..
  | .mbx _ => execMbx_goes h ..
  | .mbxAck _ => execMbxAck_goes h ..
  | .pingSend => execPingSend_goes h
  | .ping _ => execPing_goes h ..
  | .pong _ => execPong_goes h ..
  | .pingMeasureEnd => execPingMeasureEnd_goes h
  | .refereeHeartbeatSend => execRefereeHeartbeatSend_goes h
  | .refereeHeartbeatReceive _ => execRefereeHeartbeatReceive_goes h ..
  | .grant _ => execGrant_goes h ..
  | .grantApply => execGrantApply_goes h
  | .prstOutEnd => execPrstOutEnd_goes h
  | .prstInAssert => execPrstInAssert_goes h
  | .prstInRelease => execPrstInRelease_goes h
  | .powerOn => execPowerOn_goes h
  | .vbusUndervoltage => execVbusUndervoltage_goes h
  | .vbusOvervoltage => execVbusOvervoltage_goes h
  | .vbusOvervoltageClear => execVbusOvervoltageClear_goes h
  | .powerFailWarning => execPowerFailWarning_goes h
  | .powerFailWarningClear => execPowerFailWarningClear_goes h
  | .sagAssert _ _ _ _ => execSagAssert_goes h ..
  | .sagDeassert => execSagDeassert_goes h
  | .railFault _ _ _ => execRailFault_goes h ..
  | .railRestartDone => execRailRestartDone_goes h
  | .reqActive => execReqActive_goes h
  | .reqIdle => execReqIdle_goes h
  | .reqStandby => execReqStandby_goes h
  | .standbyEntryDone => execStandbyEntryDone_goes h
  | .wakeGo _ => execWakeGo_goes h ..
  | .wakein => execWakein_goes h
  | .wakeFrame _ _ => execWakeFrame_goes h ..
  | .alarm => execAlarm_goes h
  | .wakeDone _ => execWakeDone_goes h ..
  | .resetRelease _ _ _ _ _ => execResetRelease_goes h ..
  | .rstCtlGo _ => execRstCtlGo_goes h ..
  | .perstAssert => execPerstAssert_goes h
  | .perstDeassert => execPerstDeassert_goes h
  | .functionLevelReset => execFunctionLevelReset_goes h
  | .wdog => execWdog_goes h
  | .bootEarly _ => execBootEarly_goes h ..
  | .bootRunning => execBootRunning_goes h
  | .bootDone => execBootDone_goes h
  | .bootTrialTimeout => execBootTrialTimeout_goes h
  | .trialConfirm => execTrialConfirm_goes h
  | .seqWrite => execSeqWrite_goes h
  | .seqWaitrows => execSeqWaitrows_goes h
  | .seqWaitfield _ => execSeqWaitfield_goes h ..
  | .seqTparam => execSeqTparam_goes h
  | .recoveryPoll => execRecoveryPoll_goes h
  | .fuseProgramKey0 => execFuseProgramKey0_goes h
  | .fuseProgramKey1 => execFuseProgramKey1_goes h
  | .fuseRevokeKey0 => execFuseRevokeKey0_goes h
  | .fuseRaiseCount => execFuseRaiseCount_goes h
  | .fuseOpDone => execFuseOpDone_goes h
  | .jtagInstruction _ => execJtagInstruction_goes h ..
  | .loopCalibrationRequest _ => execLoopCalibrationRequest_goes h ..
  | .loopCalibrationDone _ _ => execLoopCalibrationDone_goes h ..
  | .memoryMarchRequest _ => execMemoryMarchRequest_goes h ..
  | .memoryMarchStart => execMemoryMarchStart_goes h
  | .memoryMarchDone _ => execMemoryMarchDone_goes h ..
  | .coreTestPeriod _ => execCoreTestPeriod_goes h ..
  | .coreTestDone _ _ => execCoreTestDone_goes h ..
  | .eyeScanPeriod _ _ _ _ => execEyeScanPeriod_goes h ..
  | .senseTrim => execSenseTrim_goes h
  | .agingMeasure _ => execAgingMeasure_goes h ..
  | .lifeSample _ => execLifeSample_goes h ..
  | .lifeSave => execLifeSave_goes h
  | .illegalInstruction _ _ => execIllegalInstruction_goes h ..
  | .referenceEdge _ _ => execReferenceEdge_goes h ..
  | .ptpMessageSend _ _ _ => execPtpMessageSend_goes h ..
  | .ptpDelayReqReceive _ _ _ => execPtpDelayReqReceive_goes h ..
  | .lldpSend _ => execLldpSend_goes h ..
  | .senseTrimDone _ _ => execSenseTrimDone_goes h ..

/-! ### The statements -/

/-- Settles O59: `exec_goes` says of every command that it answers a next state with the same queue. -/
theorem everyCommandCompletes : Obligations.EveryCommandCompletes := by
  intro i s
  obtain ⟨t, e, h⟩ := exec_goes (Kept.refl s) i
  exact ⟨t, e, h.pending⟩

theorem State.Inv.dropFront (i : s.Inv) (q : List Instr) : State.Inv { s with pending := q } := { i with }

/-- Settles O60: `exec_goes` for the command at the front, `Kept.countOnce` for the idle step. -/
theorem invariantKept : Obligations.InvariantKept := by
  intro s t i e
  unfold step at e
  split at e
  next c q _ =>
    obtain ⟨u, hu, h⟩ := exec_goes (Kept.refl { s with pending := q }) c
    obtain rfl : u = t := by simpa [hu] using e
    exact h.inv (i.dropFront q)
  next =>
    obtain rfl : s.countOnce = t := by simpa using e
    exact (Kept.refl (ρ := False) s).countOnce.inv i

end Sys2Proof.Machine

/-! ## The row tick

The row that ends leaves the clock of the rows alone, one function counts, and what follows leaves the index alone. -/

namespace Sys2Proof.Machine

variable {o s t : State}

/-! ### The clock that the row index is read from -/

/-- Not a register that says which time base counts rows (MEDIASEL) or how many rows a second has (PROFILE_STAT). -/
abbrev NotTimeReg (a : Nat) : Prop := a ≠ Reg.TB0_MEDIASEL ∧ a ≠ Reg.ENG_PROFILE_STAT

/-- `t` counts rows as `s` does: the time bases, the registers that choose among them, the index and the move of the power
state are those of `s`. -/
structure SameTime (s t : State) : Prop where
  tb : t.tb = s.tb
  sup : t.sup = s.sup
  fresh : t.row.fresh = s.row.fresh
  rowIdx : t.row.rowIdx = s.row.rowIdx
  media : t.reg Reg.TB0_MEDIASEL = s.reg Reg.TB0_MEDIASEL
  rate : t.reg Reg.ENG_PROFILE_STAT = s.reg Reg.ENG_PROFILE_STAT

theorem SameTime.refl (s : State) : SameTime s s := ⟨rfl, rfl, rfl, rfl, rfl, rfl⟩

theorem SameTime.mediaRow (h : SameTime o s) : s.mediaRow = o.mediaRow := by
  have hmedia : s.media = o.media := congrArg (fun w => bitsOf w _ _) h.media
  have hfs : s.fs = o.fs := congrArg (fun w => rateHz (bitsOf w _ _)) h.rate
  simp only [State.mediaRow, State.tbTime, State.base, h.tb, hmedia, hfs]

/-- What the clock is not made of may change. -/
theorem SameTime.frame (h : SameTime o s) (hregs : t.regs = s.regs := by rfl) (htb : t.tb = s.tb := by rfl)
    (hsup : t.sup = s.sup := by rfl) (hfresh : t.row.fresh = s.row.fresh := by rfl)
    (hidx : t.row.rowIdx = s.row.rowIdx := by rfl) : SameTime o t :=
  ⟨htb.trans h.tb, hsup.trans h.sup, hfresh.trans h.fresh, hidx.trans h.rowIdx,
   (congrArg (fun r => Table.get resetWord r _) hregs).trans h.media,
   (congrArg (fun r => Table.get resetWord r _) hregs).trans h.rate⟩

theorem SameTime.ite {c : Prop} {_ : Decidable c} {a b : State} (ha : SameTime o a) (hb : SameTime o b) :
    SameTime o (if c then a else b) := by
  split <;> assumption

theorem SameTime.foldl {α : Type} {f : State → α → State} {l : List α} (h : SameTime o s)
    (hf : ∀ t x, SameTime o t → SameTime o (f t x)) : SameTime o (l.foldl f s) := by
  induction l generalizing s with
  | nil => exact h
  | cons x l ih => exact ih (hf s x h)

theorem SameTime.setReg (h : SameTime o s) {a : Nat} (ha : NotTimeReg a) (w : Word) : SameTime o (s.setReg a w) :=
  ⟨h.tb, h.sup, h.fresh, h.rowIdx, (Table.get_set_other _ _ _ _ _ ha.1.symm).trans h.media,
   (Table.get_set_other _ _ _ _ _ ha.2.symm).trans h.rate⟩

theorem SameTime.put (h : SameTime o s) {f : Fd} (hf : NotTimeReg f.addr) (v : Nat) : SameTime o (s.put f v) := h.setReg hf _

theorem SameTime.flag (h : SameTime o s) {f : Fd} (hf : NotTimeReg f.addr) (b : Bool) : SameTime o (s.flag f b) := h.put hf _

theorem notTimeReg_event {n : Nat} (hn : n < 256) : NotTimeReg (fdStatus n).addr ∧ NotTimeReg (Reg.EVT_INFO n) := by
  simp only [NotTimeReg, fdStatus, Reg.EVT_STATUS, Reg.EVT_INFO, Reg.TB0_MEDIASEL, Reg.ENG_PROFILE_STAT]
  omega

theorem SameTime.raise (h : SameTime o s) {n : Nat} (hn : n < 256) (info : Nat) : SameTime o (s.raise n info) :=
  ((h.flag (notTimeReg_event hn).1 _).setReg (notTimeReg_event hn).2 _).frame

theorem SameTime.level (h : SameTime o s) {n : Nat} (hn : n < 256) (b : Bool) (info : Nat) : SameTime o (s.level n b info) :=
  .ite (.ite h (h.raise hn _)) (h.flag (notTimeReg_event hn).1 _)

theorem groupOf_lt (a : Nat) : groupOf a < 8 := by
  unfold groupOf
  dsimp only
  split_ifs <;> decide

theorem SameTime.setSat (h : SameTime o s) {f : Fd} (hf : NotTimeReg f.addr) : SameTime o (s.setSat f) :=
  (h.flag hf _).level (by have := groupOf_lt f.addr; omega) ..

theorem SameTime.count (h : SameTime o s) {c : Ctr} (hc : NotTimeReg c.sat.addr) : SameTime o (s.count c) := by
  unfold State.count State.countBy
  exact .ite h (.ite (SameTime.setSat (SameTime.frame h) hc) h.frame)

theorem SameTime.countReg (h : SameTime o s) {f sat : Fd} (hf : NotTimeReg f.addr) (hs : NotTimeReg sat.addr) (k : Nat) :
    SameTime o (s.countReg f sat k) :=
  .ite h (.ite ((h.put hf _).setSat hs) (h.put hf _))

/-! ### The row that ends -/

theorem SameTime.countStitch (h : SameTime o s) (c : Nat) : SameTime o (s.countStitch c) := by
  refine (h.countReg ?_ ?_ 1).count (by decide)
  · simp only [NotTimeReg, fdCore, Fld.CLU_CORE_STITCH_COUNT, Reg.CLU_CORE_STITCH, Reg.TB0_MEDIASEL, Reg.ENG_PROFILE_STAT]
    omega
  · simp only [NotTimeReg, fdCore, Fld.CLU_CORE_OUTCFG_STSAT, Reg.CLU_CORE_OUTCFG, Reg.TB0_MEDIASEL, Reg.ENG_PROFILE_STAT]
    omega

theorem SameTime.stopCores (h : SameTime o s) : SameTime o s.stopCores.1 := by
  unfold State.stopCores
  generalize s.listedCores = l
  suffices hp : ∀ p : State × Nat, SameTime o p.1 → SameTime o (l.foldl _ p).1 from hp _ h
  induction l with
  | nil => exact fun _ hp => hp
  | cons c l ih =>
    refine fun p hp => ih _ ?_
    dsimp only
    split
    · exact SameTime.countStitch (SameTime.frame hp) c
    · exact hp.frame

theorem SameTime.sourceWrite (h : SameTime o s) (cls idx w) : SameTime o (s.sourceWrite cls idx w) := by
  unfold State.sourceWrite
  split
  · exact h.frame
  · exact h

theorem SameTime.endPasses (h : SameTime o s) : SameTime o s.endPasses := by
  unfold State.endPasses
  extract_lets f prog len ok s1 mst s2 s3 s4
  have h1 : SameTime o s1 := h.foldl fun _ _ h => .ite ((h.sourceWrite ..).count (by decide)) (h.sourceWrite ..)
  have h2 : SameTime o s2 := .ite ((h1.count (by decide)).raise (by decide) _) h1
  have h3 : SameTime o s3 := h2.foldl fun _ _ h => h.sourceWrite ..
  have h4 : SameTime o s4 := .ite ((h3.count (by decide)).raise (by decide) _) h3
  exact h4.frame

theorem SameTime.stopPoint (h : SameTime o s) : SameTime o s.stopPoint := by
  have h2 : SameTime o (s.stopCores.1.endPasses.setRow { s.stopCores.1.endPasses.row with inWindow := false }) :=
    h.stopCores.endPasses.frame
  exact .ite (.ite h2 (h2.raise (by decide) _)) h

theorem notTimeReg_twn (j : Nat) : NotTimeReg (ctrTwn j).sat.addr :=
  show NotTimeReg Reg.TWN_CNT_SAT by decide

theorem SameTime.compareSets (h : SameTime o s) (a b) : SameTime o (s.compareSets a b) := by
  unfold State.compareSets
  extract_lets t diffM maskDiff ages t1 differ excused bad s1 s2 s3 s4
  have h1 : SameTime o s1 := h.frame
  have h2 : SameTime o s2 := .ite (h1.count (notTimeReg_twn 2)) h1
  have h3 : SameTime o s3 := .ite h2 (h2.count (notTimeReg_twn 1))
  have h4 : SameTime o s4 := .ite (h3.raise (by decide) _) h3
  exact h4.flag (by decide) _

theorem SameTime.compareRow (h : SameTime o s) : SameTime o s.compareRow := by
  unfold State.compareRow
  extract_lets t _ s1
  have h1 : SameTime o s1 := by
    refine .ite ?_ h
    split
    · exact h.compareSets ..
    · exact h.count (notTimeReg_twn 3)
  exact h1.frame

theorem SameTime.endRow (h : SameTime o s) : SameTime o s.endRow := by
  unfold State.endRow
  extract_lets s1 s2 _ s3
  have h1 : SameTime o s1 := h.stopPoint
  have h2 : SameTime o s2 := .ite (SameTime.compareRow (SameTime.frame h1)) h1
  have h3 : SameTime o s3 := .ite h2 (SameTime.frame (h2.raise (n := 42) (by decide) s2.row.decayRow))
  exact .ite h3 (SameTime.raise (SameTime.frame h3) (by decide) _)

/-! ### The row index after the count -/

theorem SameTime.rowIdx_countRow (h : SameTime o s) :
    s.countRow.row.rowIdx = if o.row.fresh then o.mediaRow else o.row.rowIdx + 1 := by
  simp only [State.countRow, h.fresh, h.mediaRow, h.rowIdx, State.setRow]

/-! The effects of the tick between the count and the power state leave the move of the power state alone. -/

theorem State.count_sup (s : State) (c : Ctr) : (s.count c).sup = s.sup := by
  obtain ⟨r, l, e, o, h⟩ := s.countBy_frame c 1
  rw [State.count, h]

theorem State.markShed_sup (s : State) (c : Nat) : (s.markShed c).sup = s.sup := by
  unfold State.markShed
  dsimp only
  split
  · rfl
  · exact State.count_sup ..

theorem State.judge_sup (s : State) (c cycles : Nat) : (s.judge c cycles).sup = s.sup := by
  unfold State.judge
  extract_lets tooLong
  split
  · exact s.markShed_sup c
  · rfl

theorem State.foldl_judge_sup (l : List Nat) (cycles : State → Nat) (s : State) :
    (l.foldl (fun s c => s.judge c (cycles s)) s).sup = s.sup := by
  induction l generalizing s with
  | nil => rfl
  | cons c l ih => exact (ih _).trans (s.judge_sup c _)

theorem State.setGauge_sup (s : State) (g ns : Nat) : (s.setGauge g ns).sup = s.sup := by
  unfold State.setGauge
  dsimp only
  split
  · exact State.foldl_judge_sup _ (fun _ => _) _
  · split
    · exact State.foldl_judge_sup _ (fun t => cyclesTo 2 s.row.accU s.row.sinceU g s.row.selvage t.fs) _
    · rfl

theorem State.latencyEffect_sup (s : State) : s.latencyEffect.sup = s.sup := by
  unfold State.latencyEffect
  split <;> rfl

theorem State.policyEffect_sup (s : State) : s.policyEffect.sup = s.sup := by
  unfold State.policyEffect
  split
  · dsimp only
    split
    · exact State.setGauge_sup ..
    · rfl
  · rfl

/-- With no change of the power state waiting, its part in the tick is at most the end of a pause. -/
theorem Kept.powerTick_of_none {ρ : Prop} (h : Kept ρ o s) (hm : s.sup.move = .none) : Kept ρ o s.powerTick := by
  unfold State.powerTick
  rw [hm]
  exact .ite h.frame h

/-- After the count of a tick no function counts a row again. -/
theorem Kept.rowTick_of_none (hm : s.endRow.countRow.sup.move = .none) : Kept True s.endRow.countRow s.rowTick := by
  unfold State.rowTick
  extract_lets s1 s2 s3 _ s4
  have h0 : Kept True s.endRow.countRow s.endRow.countRow.latencyEffect.policyEffect :=
    (Kept.refl _).latencyEffect.policyEffect
  have h1 : Kept True s.endRow.countRow s1 :=
    h0.powerTick_of_none (by rw [State.policyEffect_sup, State.latencyEffect_sup, hm])
  have h2 : Kept True s.endRow.countRow s2 := (h1.put ..).twinRow.reportRestep.portsRow
  have h3 : Kept True s.endRow.countRow s3 := .ite h2.outputRow h2
  exact (h3.frame.send ..).hostRow.deliveryPass

theorem State.rowIdx_rowTick (s : State) (hm : s.sup.move = .none) :
    s.rowTick.row.rowIdx = if s.row.fresh then s.mediaRow else s.row.rowIdx + 1 := by
  have h : SameTime s s.endRow := (SameTime.refl s).endRow
  have hm' : s.endRow.countRow.sup.move = .none := (congrArg SupS.move h.sup).trans hm
  rw [(Kept.rowTick_of_none hm').row trivial, h.rowIdx_countRow]

/-- Settles O22: the row that ends leaves the clock, `countRow` counts, and nothing after it does. -/
theorem rowTickCounts : Obligations.RowTickCounts := by
  intro s
  refine ⟨fun hticks hreset hdue hmove => ⟨s.rowTick, ?_, s.rowIdx_rowTick hmove⟩, fun hnot => ?_⟩
  · refine congrArg Host.Outcome.next ?_
    simp [hticks, hreset, hdue]
  · refine congrArg Host.Outcome.next ?_
    rcases hnot with h | h | h <;> simp [h]

end Sys2Proof.Machine

/-! ## One step, and the state after reset -/

namespace Sys2Proof.Machine

/-- Settles O56: `step` by the cases of the queue. -/
theorem stepRunsFront : Obligations.StepRunsFront :=
  ⟨fun c q s h => by rw [step, h], fun _ _ _ => rfl, step_empty⟩

/-! The fields of the reset state are fields of the reset words, which the register table gives. -/

set_option maxRecDepth 2000 in
theorem reset_ringState : ∀ r < 64, State.reset.ringState r = 0 := by decide

set_option maxRecDepth 2000 in
theorem reset_ringGen : ∀ r < 64, State.reset.ringGen r = 0 := by decide

theorem reset_laneState : ∀ n < 6, State.reset.laneState n = 0 := by decide

theorem reset_tbState : ∀ n < 4, State.reset.tbState n = 0 := by decide

theorem reset_chState : ∀ c < 8, State.reset.chState c = 0 := by decide

/-- Settles O57: the tables are empty, so each register and field is read from its reset word. -/
theorem resetState : Obligations.ResetState := by
  refine ⟨rfl, State.Inv.reset, fun _ => rfl, ?hifId, ?sagDepth, ?guard, fun _ => rfl, reset_laneState,
    fun r hr => ⟨reset_ringState r hr, reset_ringGen r hr, rfl⟩, fun _ _ => rfl, ?twin, reset_tbState,
    reset_chState, ?boot, rfl, rfl, rfl, rfl, fun _ => rfl⟩
  case hifId => decide
  case sagDepth => decide
  case guard => decide
  case twin => decide
  case boot => decide

end Sys2Proof.Machine

/-! ## Addressed memories -/

namespace Sys2Proof.Machine

theorem memByte_memSetByte (m : Table Byte) (a x : Nat) (v : Byte) :
    memByte (memSetByte m a v) x = if x = a then v else memByte m x :=
  Table.get_set memDefault m a x v

/-- Bytes outside the range written read as before. -/
theorem memByte_memSetBytes_outside (b : List Byte) : ∀ (m : Table Byte) (a x : Nat), x < a ∨ a + b.length ≤ x →
    memByte (memSetBytes m a b) x = memByte m x := by
  induction b with
  | nil => exact fun _ _ _ _ => rfl
  | cons v b ih =>
    intro m a x hx
    rw [List.length_cons] at hx
    rw [memSetBytes, ih _ _ _ (by omega), memByte_memSetByte, if_neg (by omega)]

/-- Each byte written reads back. -/
theorem memByte_memSetBytes_inside (b : List Byte) : ∀ (m : Table Byte) (a i : Nat) (h : i < b.length),
    memByte (memSetBytes m a b) (a + i) = b[i] := by
  induction b with
  | nil => exact fun _ _ _ h => absurd h (Nat.not_lt_zero _)
  | cons v b ih =>
    intro m a i h
    rw [memSetBytes]
    cases i with
    | zero => rw [memByte_memSetBytes_outside b _ _ _ (by omega), memByte_memSetByte]; simp
    | succ i =>
      rw [List.length_cons, Nat.succ_lt_succ_iff] at h
      rw [show a + (i + 1) = a + 1 + i by omega, ih _ _ _ h]
      simp

theorem memBytes_memSetBytes_same (b : List Byte) : ∀ (m : Table Byte) (a : Nat),
    memBytes (memSetBytes m a b) a b.length = b := by
  induction b with
  | nil => exact fun _ _ => rfl
  | cons v b ih =>
    intro m a
    have hv : memByte (memSetBytes m a (v :: b)) a = v :=
      memByte_memSetBytes_inside (v :: b) m a 0 (Nat.succ_pos _)
    rw [List.length_cons, memBytes, hv, memSetBytes, ih]

/-- The four bytes of a word, least significant first, make the word. -/
theorem leWord_extract (w : Word) :
    leWord (w.extractLsb' 0 8) (w.extractLsb' 8 8) (w.extractLsb' 16 8) (w.extractLsb' 24 8) = w := by
  unfold leWord
  rw [BitVec.extractLsb'_append_extractLsb'_eq_extractLsb' (by rfl),
    BitVec.extractLsb'_append_extractLsb'_eq_extractLsb' (by rfl),
    BitVec.extractLsb'_append_extractLsb'_eq_extractLsb' (by rfl)]
  exact BitVec.extractLsb'_eq_self

theorem memByte_memSetWord_inside (m : Table Byte) (a : Nat) (w : Word) {i : Nat} (hi : i < 4) :
    memByte (memSetWord m a w) (a + i) = w.extractLsb' (8 * i) 8 := by
  rw [memSetWord, memByte_memSetBytes_inside (leBytes w) m a i hi]
  interval_cases i <;> rfl

theorem memWord_memSetWord_same (m : Table Byte) (a : Nat) (w : Word) : memWord (memSetWord m a w) a = w := by
  have hb {i : Nat} (hi : i < 4) := memByte_memSetWord_inside m a w hi
  unfold memWord
  rw [hb (i := 1) (by omega), hb (i := 2) (by omega), hb (i := 3) (by omega), show memByte _ a = _ from hb (i := 0) (by omega)]
  exact leWord_extract w

/-- Settles O58: the laws of one byte written, carried over the list of bytes; canonical memories are canonical tables. -/
theorem memoryLaws : Obligations.MemoryLaws :=
  ⟨fun m a b => ⟨memBytes_memSetBytes_same b m a, memByte_memSetBytes_inside b m a, memByte_memSetBytes_outside b m a⟩,
   fun m a w => ⟨memWord_memSetWord_same m a w, fun _ hi => memByte_memSetWord_inside m a w hi,
     fun x hx => memByte_memSetBytes_outside (leBytes w) m a x hx⟩,
   fun _ _ hm hm' h => Table.wfFrom_ext hm hm' h⟩

end Sys2Proof.Machine

/-! ## Fields of a written register

A write of some bits of a word leaves its other bits, so fields that share no bit do not see each other's writes. -/

namespace Sys2Proof.Machine

theorem testBit_bitsOf (w : Word) (m l i : Nat) :
    (bitsOf w m l).testBit i = (decide (i < m + 1 - l) && w.toNat.testBit (l + i)) := by
  rw [bitsOf, Nat.testBit_mod_two_pow, Nat.testBit_div_two_pow, Nat.add_comm l i]

/-- The bits of a word after a write of one of its fields. -/
theorem testBit_withBits (w : Word) {m l : Nat} (v : Nat) (h : l ≤ m) (hm : m ≤ 31) (i : Nat) :
    (withBits w m l v).toNat.testBit i = if l ≤ i ∧ i ≤ m then v.testBit (i - l) else w.toNat.testBit i := by
  have hlow : w.toNat % 2 ^ l < 2 ^ l := Nat.mod_lt _ (Nat.two_pow_pos l)
  have hfield : v % 2 ^ (m + 1 - l) < 2 ^ (m + 1 - l) := Nat.mod_lt _ (Nat.two_pow_pos _)
  have hmid : 2 ^ l * (v % 2 ^ (m + 1 - l)) + w.toNat % 2 ^ l < 2 ^ (m + 1) := by
    calc 2 ^ l * (v % 2 ^ (m + 1 - l)) + w.toNat % 2 ^ l
        < 2 ^ l * (v % 2 ^ (m + 1 - l) + 1) := by rw [Nat.mul_succ]; omega
      _ ≤ 2 ^ l * 2 ^ (m + 1 - l) := Nat.mul_le_mul_left _ hfield
      _ = 2 ^ (m + 1) := by rw [← Nat.pow_add]; congr 1; omega
  have hsum : w.toNat % 2 ^ l + v % 2 ^ (m + 1 - l) * 2 ^ l + w.toNat / 2 ^ (m + 1) * 2 ^ (m + 1)
      = 2 ^ (m + 1) * (w.toNat / 2 ^ (m + 1)) + (2 ^ l * (v % 2 ^ (m + 1 - l)) + w.toNat % 2 ^ l) := by ring
  rw [withBits, BitVec.toNat_ofNat, hsum, Nat.testBit_mod_two_pow, Nat.testBit_two_pow_mul_add _ hmid,
    Nat.testBit_two_pow_mul_add _ hlow]
  by_cases hi : i < 32
  · by_cases h1 : i < l
    · simp [hi, h1, show i < m + 1 by omega, show ¬ l ≤ i by omega]
    · by_cases h2 : i ≤ m
      · simp [hi, h1, h2, show i < m + 1 by omega, show l ≤ i by omega]
        omega
      · simp [hi, h2, show ¬ i < m + 1 by omega, Nat.testBit_div_two_pow, show i - (m + 1) + (m + 1) = i by omega]
  · have hw : w.toNat.testBit i = false :=
      Nat.testBit_lt_two_pow (lt_of_lt_of_le w.isLt (Nat.pow_le_pow_right (by omega) (by omega)))
    simp [hi, hw, show ¬ i ≤ m by omega]

/-- A field that shares no bit with the one written keeps its value. -/
theorem bitsOf_withBits_disjoint (w : Word) {m l m' l' : Nat} (v : Nat) (h : l ≤ m) (hm : m ≤ 31) (hd : m' < l ∨ m < l') :
    bitsOf (withBits w m l v) m' l' = bitsOf w m' l' := by
  refine Nat.eq_of_testBit_eq fun i => ?_
  rw [testBit_bitsOf, testBit_bitsOf]
  by_cases hi : i < m' + 1 - l'
  · rw [testBit_withBits w v h hm, if_neg (by omega)]
  · simp [hi]

theorem State.get_put_disjoint (s : State) {f g : Fd} (v : Nat) (h : f.lsb ≤ f.msb) (hm : f.msb ≤ 31)
    (hd : g.msb < f.lsb ∨ f.msb < g.lsb) : (s.put f v).get g = s.get g := by
  by_cases ha : g.addr = f.addr
  · simp only [State.get, State.put, State.reg, State.setReg, ha, Table.get_set_same]
    exact bitsOf_withBits_disjoint _ v h hm hd
  · exact s.get_put_other f g v ha

/-- What a write of the word `w` makes of a field that reads `old`. -/
def FieldDesc.written (f : FieldDesc) (old : Nat) (w : Word) : Nat :=
  match f.acc with
  | .rw => if f.legal (f.of w) then f.of w else old
  | .w1c => Nat.land old (Nat.xor (2 ^ (f.msb + 1 - f.lsb) - 1) (f.of w)) % 2 ^ (f.msb + 1 - f.lsb)
  | _ => old

theorem bitsOf_lt (w : Word) (m l : Nat) : bitsOf w m l < 2 ^ (m + 1 - l) := Nat.mod_lt _ (Nat.two_pow_pos _)

theorem State.get_writeField_same (s : State) (a : Nat) (w : Word) {f : FieldDesc} (h : f.lsb ≤ f.msb) (hm : f.msb ≤ 31) :
    (s.writeField a w f).get (f.fd a) = f.written (s.get (f.fd a)) w := by
  have hput (v) : (s.put ⟨a, f.msb, f.lsb⟩ v).get (f.fd a) = v % 2 ^ (f.msb + 1 - f.lsb) := s.get_put_same _ v h hm
  cases hacc : f.acc with
  | rw =>
    simp only [State.writeField, FieldDesc.written, hacc]
    split
    · exact (hput _).trans (Nat.mod_eq_of_lt (bitsOf_lt w f.msb f.lsb))
    · rfl
  | w1c =>
    simp only [State.writeField, FieldDesc.written, hacc]
    exact hput _
  | _ => simp only [State.writeField, FieldDesc.written, hacc]

theorem State.get_writeField_disjoint (s : State) (a : Nat) (w : Word) {f g : FieldDesc} (h : f.lsb ≤ f.msb) (hm : f.msb ≤ 31)
    (hd : f.msb < g.lsb ∨ g.msb < f.lsb) : (s.writeField a w f).get (g.fd a) = s.get (g.fd a) := by
  unfold State.writeField
  split
  · split
    · exact s.get_put_disjoint _ h hm hd.symm
    · rfl
  · exact s.get_put_disjoint _ h hm hd.symm
  · rfl

/-- Fields that share no bit with a field leave it. -/
theorem State.get_writeFields_disjoint (a : Nat) (w : Word) {g : FieldDesc} {l : List FieldDesc}
    (hl : ∀ f ∈ l, (f.lsb ≤ f.msb ∧ f.msb ≤ 31) ∧ (f.msb < g.lsb ∨ g.msb < f.lsb)) (s : State) :
    (l.foldl (fun s f => s.writeField a w f) s).get (g.fd a) = s.get (g.fd a) := by
  induction l generalizing s with
  | nil => rfl
  | cons f l ih =>
    obtain ⟨⟨⟨h, hm⟩, hd⟩, hl⟩ := List.forall_mem_cons.mp hl
    rw [List.foldl_cons, ih hl, s.get_writeField_disjoint a w h hm hd]

/-- Each of several fields of one register that share no bit takes its own value. -/
theorem State.get_writeFields (a : Nat) (w : Word) {l : List FieldDesc} (hl : FieldsOk l) (s : State) :
    ∀ f ∈ l, (l.foldl (fun s f => s.writeField a w f) s).get (f.fd a) = f.written (s.get (f.fd a)) w := by
  induction l generalizing s with
  | nil => exact fun _ h => absurd h List.not_mem_nil
  | cons g l ih =>
    obtain ⟨hw, hp⟩ := hl
    obtain ⟨⟨hg, hgm⟩, hwl⟩ := List.forall_mem_cons.mp hw
    obtain ⟨hgl, hpl⟩ := List.pairwise_cons.mp hp
    intro f hf
    rw [List.foldl_cons]
    rcases List.mem_cons.mp hf with rfl | hf
    · rw [State.get_writeFields_disjoint (l := l) a w (fun x hx => ⟨hwl x hx, (hgl x hx).symm⟩),
        s.get_writeField_same a w hg hgm]
    · rw [ih ⟨hwl, hpl⟩ _ f hf, s.get_writeField_disjoint a w hg hgm (hgl f hf)]

/-- A state that differs at most in the register at one address. -/
def OnlyReg (a : Nat) (s t : State) : Prop := (∀ b, b ≠ a → t.reg b = s.reg b) ∧ ∃ r, t = { s with regs := r }

theorem OnlyReg.refl (a : Nat) (s : State) : OnlyReg a s s := ⟨fun _ _ => rfl, s.regs, rfl⟩

theorem OnlyReg.trans {a : Nat} {s t u : State} (h : OnlyReg a s t) (h' : OnlyReg a t u) : OnlyReg a s u := by
  obtain ⟨hreg, r, rfl⟩ := h
  obtain ⟨hreg', r', rfl⟩ := h'
  exact ⟨fun b hb => (hreg' b hb).trans (hreg b hb), r', rfl⟩

theorem OnlyReg.put (a m l v : Nat) (s : State) : OnlyReg a s (s.put ⟨a, m, l⟩ v) :=
  ⟨fun _ hb => Table.get_set_other _ _ _ _ _ hb, _, rfl⟩

theorem OnlyReg.writeField (a : Nat) (w : Word) (f : FieldDesc) (s : State) : OnlyReg a s (s.writeField a w f) := by
  unfold State.writeField
  split
  · split
    · exact .put ..
    · exact .refl a s
  · exact .put ..
  · exact .refl a s

theorem OnlyReg.writeFields (a : Nat) (w : Word) (l : List FieldDesc) (s : State) :
    OnlyReg a s (l.foldl (fun s f => s.writeField a w f) s) := by
  induction l generalizing s with
  | nil => exact .refl a s
  | cons f l ih => exact (OnlyReg.writeField a w f s).trans (ih _)

theorem FieldDesc.testBit_written_w1c {f : FieldDesc} (hf : f.acc = .w1c) (h : f.lsb ≤ f.msb) (old : Nat) (w : Word) {i : Nat}
    (hi : i ≤ f.msb - f.lsb) : (f.written old w).testBit i = (old.testBit i && !(f.of w).testBit i) := by
  have hlt : i < f.msb + 1 - f.lsb := by omega
  simp only [FieldDesc.written, hf, Nat.testBit_mod_two_pow, hlt, decide_true, Bool.true_and]
  rw [show Nat.land old _ = old &&& _ from rfl, Nat.testBit_and, show Nat.xor _ (f.of w) = _ ^^^ f.of w from rfl,
    Nat.testBit_xor, Nat.testBit_two_pow_sub_one]
  simp [hlt]

/-- Settles O24: the fields share no bit, so each takes the value of its own write, whatever is written after it. -/
theorem registerWriteFields : Obligations.RegisterWriteFields := by
  intro s a w hok hsat t
  have ht : t = (fieldsAt a).foldl (fun s f => s.writeField a w f) s := by
    simp only [t, State.writeFields, hsat, Bool.false_eq_true, if_false]
  have hget (f) (hf : f ∈ fieldsAt a) : t.get ⟨a, f.msb, f.lsb⟩ = f.written (s.get ⟨a, f.msb, f.lsb⟩) w :=
    ht ▸ State.get_writeFields a w hok s f hf
  obtain ⟨hreg, r, hr⟩ : OnlyReg a s t := ht ▸ OnlyReg.writeFields a w (fieldsAt a) s
  have hrest : t = { s with regs := t.regs } := by rw [hr]
  refine ⟨fun f hf => ⟨?legal, ?reserved, ?w1c, ?other⟩, hreg, hrest⟩
  case legal =>
    intro hacc hl
    rw [hget f hf, FieldDesc.written, hacc]
    exact if_pos hl
  case reserved =>
    intro hacc hl
    rw [hget f hf, FieldDesc.written, hacc]
    exact if_neg (Bool.eq_false_iff.mp hl)
  case w1c =>
    intro hacc i hi
    rw [hget f hf]
    exact FieldDesc.testBit_written_w1c hacc (hok.1 f hf).1 _ w hi
  case other =>
    intro hrw hw1c
    rw [hget f hf, FieldDesc.written]
    split
    · exact absurd ‹_› hrw
    · exact absurd ‹_› hw1c
    · rfl

end Sys2Proof.Machine

/-! ## Register commands -/

namespace Sys2Proof.Machine

/-! ### REGISTER_WRITE -/

theorem exec_registerWrite_host (a : BitVec 23) (w : Word) (s : State) (hs : s.regServed = true) :
    exec (.registerWrite false false a w) s =
      .next (if a.toNat % 4 = 0 then s.writeW0 a.toNat w else s.badAccess false true a.toNat) := by
  refine congrArg Host.Outcome.next ?_
  by_cases ha : a.toNat % 4 = 0 <;> simp [State.hostWrite, hs, ha]

theorem exec_registerWrite_house (a : BitVec 23) (w : Word) (s : State) (hs : s.regServed = true) :
    exec (.registerWrite true false a w) s = .next (if a.toNat % 4 = 0 then s.writeW0 a.toNat w else s) := by
  refine congrArg Host.Outcome.next ?_
  by_cases ha : a.toNat % 4 = 0 <;> simp [State.houseWrite, hs, ha]

theorem exec_registerWrite_w2 (a : BitVec 23) (w : Word) (s : State) (hs : s.regServed = true) (ha : a.toNat % 4 = 0) :
    exec (.registerWrite false true a w) s = .next (s.writeW2 a.toNat w) := by
  refine congrArg Host.Outcome.next ?_
  simp [hs, ha]

/-! ### PROFILE_WRITE -/

/-- PROFILE holds no SAT bit, so a write of its fields changes its register only. -/
theorem OnlyReg.writeProfileFields (s : State) (w : Word) : OnlyReg Reg.ENG_PROFILE s (s.writeFields Reg.ENG_PROFILE w) := by
  have hsat : (fieldsAt Reg.ENG_PROFILE).any FieldDesc.sat = false := by decide
  simp only [State.writeFields, hsat, Bool.false_eq_true, if_false]
  exact .writeFields ..

theorem exec_profileWrite (w : Word) (s : State) (hs : s.regServed = true) (hp : s.paired = false) :
    exec (.profileWrite w) s = .next (s.writeProfile w) := by
  refine congrArg Host.Outcome.next ?_
  simp [hs, State.writeEng, hp, State.writeMirrored]

theorem State.writeProfile_refused (s : State) (w : Word) (hb : s.allBoundOff = false)
    (hr : (s.writeFields Reg.ENG_PROFILE w).get Fld.ENG_PROFILE_FS ≠ s.get Fld.ENG_PROFILE_FS) :
    s.writeProfile w = (s.flag Fld.ENG_PROFILE_STAT_REFUSED true).raise 34 w.toNat := by
  simp [State.writeProfile, hb, hr]

theorem State.writeProfile_policy (s : State) (w : Word) (hc : badCodes Reg.ENG_PROFILE w = false)
    (hr : (s.writeFields Reg.ENG_PROFILE w).get Fld.ENG_PROFILE_FS = s.get Fld.ENG_PROFILE_FS)
    (hm : (s.writeFields Reg.ENG_PROFILE w).get Fld.ENG_PROFILE_LATENCY = s.get Fld.ENG_PROFILE_LATENCY)
    (hp : (s.writeFields Reg.ENG_PROFILE w).get Fld.ENG_PROFILE_POLICY ≠ s.get Fld.ENG_PROFILE_POLICY) :
    s.writeProfile w = (addrs 0 1 4).foldl State.checkLpi
      ((s.writeFields Reg.ENG_PROFILE w).setRow { s.row with pendPolicy := true }) := by
  have hrow : (s.writeFields Reg.ENG_PROFILE w).row = s.row := by
    obtain ⟨-, r, hr⟩ := OnlyReg.writeProfileFields s w
    rw [hr]
  simp [State.writeProfile, hc, hr, hm, hp, hrow]

theorem State.checkLpi_of_off (s : State) (n : Nat) (h : s.on (Fld.NET_STAT_LPITX n) = false) : s.checkLpi n = s := by
  simp [State.checkLpi, State.leaveLpi, h]

theorem State.checkLpi_of_on (s : State) (n : Nat) (h : s.on (Fld.NET_STAT_LPITX n) = true)
    (hp : s.get Fld.ENG_PROFILE_POLICY ≠ 2) :
    s.checkLpi n = ((s.countLpi n).flag (Fld.NET_STAT_LPITX n) false).laneTxIdle n false := by
  simp [State.checkLpi, State.eeeOn, State.leaveLpi, h, hp]

/-- A new policy does not touch the idle bit of a port. -/
theorem State.on_lpiTx_writeProfileFields (s : State) (w : Word) (r : RowS) (n : Fin 4) :
    ((s.writeFields Reg.ENG_PROFILE w).setRow r).on (Fld.NET_STAT_LPITX n) = s.on (Fld.NET_STAT_LPITX n) := by
  have hne : Reg.NET_STAT n ≠ Reg.ENG_PROFILE := by
    unfold Reg.NET_STAT Reg.ENG_PROFILE
    omega
  have hreg : ((s.writeFields Reg.ENG_PROFILE w).setRow r).reg (Reg.NET_STAT n) = s.reg (Reg.NET_STAT n) :=
    (OnlyReg.writeProfileFields s w).1 _ hne
  unfold State.on State.get
  rw [show (Fld.NET_STAT_LPITX n).addr = Reg.NET_STAT n from rfl, hreg]

/-! ### CNT_SNAP -/

theorem State.capture32_reg (l : List Nat) (s : State) (b : Nat) :
    (s.capture32 l).reg b = if b ∈ l then BitVec.ofNat 32 (s.liveAt b) else s.reg b := by
  induction l generalizing s with
  | nil => simp [State.capture32]
  | cons a l ih =>
    rw [State.capture32, ih]
    by_cases hl : b ∈ l
    · simp [hl, State.liveAt]
    · by_cases hb : b = a
      · subst hb
        simp [hl, State.reg, State.setReg]
      · simp [hl, hb, State.reg, State.setReg, Table.get_set_other]

/-- A register that snapshots no 64-bit count is none of a network port. -/
theorem snapshotOf_not_net {a : Nat} {l32 : List Nat} (h : snapshotOf a = some ([], l32)) :
    ¬ (0x20 ≤ a / 0x10000 ∧ a / 0x10000 - 0x20 < 4) := by
  rintro ⟨hge, hlt⟩
  have hblk : a / 0x10000 = 0x20 ∨ a / 0x10000 = 0x21 ∨ a / 0x10000 = 0x22 ∨ a / 0x10000 = 0x23 := by omega
  unfold snapshotOf at h
  rcases hblk with e | e | e | e <;> simp [e, locPortAt, addrs] at h

theorem State.snapCounters_of_no64 (s : State) {a : Nat} {l32 : List Nat} (hstr : a ≠ Reg.STR_CNT_SNAP)
    (h : snapshotOf a = some ([], l32)) : s.snapCounters a = s.capture32 l32 := by
  simp only [State.snapCounters, if_neg hstr, h, if_neg (snapshotOf_not_net h), State.capture64]

theorem exec_cntSnap (a : BitVec 23) (f1 f2 be fi fd : BitVec 32) (s : State) (hs : s.regServed = true)
    (hsup : onSupply a.toNat = false) (hlane : a.toNat / 0x10000 < 0x24 ∨ 0x2A ≤ a.toNat / 0x10000) :
    exec (.cntSnap ⟨a, f1, f2, be, fi, fd⟩) s = .next (s.snapCounters a.toNat) := by
  have hnot : ¬ (0x24 ≤ a.toNat / 0x10000 ∧ a.toNat / 0x10000 - 0x24 < 6 ∧ s.regServed = true) := by omega
  refine congrArg Host.Outcome.next ?_
  rw [if_neg hnot]
  simp only [hs, hsup, Bool.not_true, Bool.false_eq_true, if_false]

/-! ### TIME_SNAP -/

theorem exec_timeSnap_base (n : Fin 4) (s : State) (hs : s.regServed = true) :
    exec (.timeSnap ⟨n.val, by omega⟩) s = .next (s.snapBase n) := by
  refine congrArg Host.Outcome.next ?_
  simp [hs]

theorem exec_timeSnap_clk (s : State) (hs : s.regServed = true) : exec (.timeSnap 4) s = .next s.snapClk := by
  refine congrArg Host.Outcome.next ?_
  simp [hs]

/-- Settles O26, one command after the other. -/
theorem registerCommands : Obligations.RegisterCommands := by
  refine ⟨?write, ?rate, ?policy, ?snap, fun n s hs => ⟨exec_timeSnap_base n s hs, exec_timeSnap_clk s hs⟩⟩
  case write =>
    intro a w s hs
    rw [exec_registerWrite_host a w s hs, exec_registerWrite_house a w s hs]
    exact ⟨fun ha => ⟨by rw [if_pos ha], by rw [if_pos ha], exec_registerWrite_w2 a w s hs ha⟩,
      fun ha => ⟨by rw [if_neg ha], by rw [if_neg ha]⟩, rfl⟩
  case rate =>
    intro w s hs hp hb hr
    rw [exec_profileWrite w s hs hp, s.writeProfile_refused w hb hr]
  case policy =>
    intro w s hs hp hc hr hm hpol u
    refine ⟨?_, fun n => ⟨fun hoff => ?_, fun hon hne => ?_⟩⟩
    · rw [exec_profileWrite w s hs hp, s.writeProfile_policy w hc hr hm hpol]
    · exact u.checkLpi_of_off n ((s.on_lpiTx_writeProfileFields w _ n).trans hoff)
    · exact u.checkLpi_of_on n ((s.on_lpiTx_writeProfileFields w _ n).trans hon) hne
  case snap =>
    intro a f1 f2 be fi fd s l32 hs hsup hstr hlane hl
    obtain ⟨r, hr⟩ := s.capture32_frame l32
    refine ⟨s.capture32 l32, ?_, fun b hb => ?_, fun b hb => ?_, by rw [hr]⟩
    · rw [exec_cntSnap a f1 f2 be fi fd s hs hsup hlane, s.snapCounters_of_no64 hstr hl]
    · rw [s.capture32_reg, if_pos hb]
    · rw [s.capture32_reg, if_neg hb]

end Sys2Proof.Machine

/-! ## The flit layout and its CRC (R21) -/

namespace Sys2Proof.Machine

theorem crcBit_lt {n poly : Nat} (hp : poly < 2 ^ n) (c : Nat) (b : Bool) : crcBit n poly c b < 2 ^ n := by
  have hc : c * 2 % 2 ^ n < 2 ^ n := Nat.mod_lt _ (Nat.two_pow_pos n)
  unfold crcBit
  dsimp only
  split
  · exact Nat.xor_lt_two_pow hc hp
  · exact hc

/-- The CRC register never outgrows its width. -/
theorem crcBits_lt {n poly c : Nat} (hp : poly < 2 ^ n) (hc : c < 2 ^ n) (l : List Bool) : crcBits n poly c l < 2 ^ n := by
  induction l generalizing c with
  | nil => exact hc
  | cons b l ih => exact ih (crcBit_lt hp c b)

theorem flitCrc_lt (v : Nat) : flitCrc v < 2 ^ 16 := crcBits_lt (by decide) (by decide) _

/-- The 14 bytes that the CRC covers: header and payload. -/
def flitBody (typ seq ack credit p : Nat) : Nat := ((typ * 16 + seq) * 256 + (ack * 16 + credit)) * 2 ^ 96 + p

section
variable {typ seq ack credit p : Nat} (ht : typ < 16) (hs : seq < 16) (ha : ack < 16) (hc : credit < 16) (hp : p < 2 ^ 96)
include ht hs ha hc hp

theorem flitBody_lt : flitBody typ seq ack credit p < 2 ^ 112 := by
  unfold flitBody
  omega

theorem toNat_mkFlit : (mkFlit typ seq ack credit p).toNat =
    flitBody typ seq ack credit p * 2 ^ 16 + flitCrc (flitBody typ seq ack credit p) := by
  have hb := flitBody_lt ht hs ha hc hp
  have hcrc := flitCrc_lt (flitBody typ seq ack credit p)
  have hfit : flitBody typ seq ack credit p * 2 ^ 16 + flitCrc (flitBody typ seq ack credit p) < 2 ^ 128 := by omega
  simp only [mkFlit, Nat.mod_eq_of_lt ht, Nat.mod_eq_of_lt hs, Nat.mod_eq_of_lt ha, Nat.mod_eq_of_lt hc, Nat.mod_eq_of_lt hp,
    BitVec.toNat_ofNat]
  exact Nat.mod_eq_of_lt hfit

/-- Above its CRC a flit holds header and payload. -/
theorem body_mkFlit : (mkFlit typ seq ack credit p).toNat / 2 ^ 16 = flitBody typ seq ack credit p := by
  have hcrc := flitCrc_lt (flitBody typ seq ack credit p)
  rw [toNat_mkFlit ht hs ha hc hp]
  omega

theorem crc_mkFlit : (mkFlit typ seq ack credit p).toNat % 2 ^ 16 = flitCrc (flitBody typ seq ack credit p) := by
  have hcrc := flitCrc_lt (flitBody typ seq ack credit p)
  rw [toNat_mkFlit ht hs ha hc hp]
  omega

theorem flitGood_mkFlit : flitGood (mkFlit typ seq ack credit p) = true := by
  rw [flitGood, body_mkFlit ht hs ha hc hp, crc_mkFlit ht hs ha hc hp]
  exact beq_self_eq_true _

theorem fields_mkFlit : flitType (mkFlit typ seq ack credit p) = typ ∧ flitSeq (mkFlit typ seq ack credit p) = seq ∧
    flitAck (mkFlit typ seq ack credit p) = ack ∧ flitCredit (mkFlit typ seq ack credit p) = credit ∧
    flitPayload (mkFlit typ seq ack credit p) = p := by
  have hbody := body_mkFlit ht hs ha hc hp
  unfold flitBody at hbody
  unfold flitType flitSeq flitAck flitCredit flitPayload
  omega

end

/-- Settles O27: the CRC fits its 16 bits, so the fields above it are those of the body. -/
theorem flitRoundTrip : Obligations.FlitRoundTrip := fun _ _ _ _ _ ht hs ha hc hp =>
  ⟨flitGood_mkFlit ht hs ha hc hp, fields_mkFlit ht hs ha hc hp⟩

end Sys2Proof.Machine

/-! ## The engine tick and the stop point

The stop point ends the window of the row before. What the engine tick does up to the swap of the pages leaves the row's
clock, its queues and its window alone (`SameTick`), and so does what it does on the page that has opened. -/

namespace Sys2Proof.Machine

variable {o s t : State}

/-! ### What the passes of a row change -/

/-- `t` differs from `s` at most in registers, live counts, the delivery of events, what goes out, and the sample store. -/
def OnlyFabric (s t : State) : Prop := ∃ r l e b f, t = { s with regs := r, live := l, evt := e, outbox := b, fab := f }

theorem OnlyFabric.refl (s : State) : OnlyFabric s s := ⟨_, _, _, _, _, rfl⟩

theorem OnlyFabric.trans {u : State} (h : OnlyFabric s t) (h' : OnlyFabric t u) : OnlyFabric s u := by
  obtain ⟨r, l, e, b, f, rfl⟩ := h
  obtain ⟨r', l', e', b', f', rfl⟩ := h'
  exact ⟨r', l', e', b', f', rfl⟩

theorem OnlyFabric.ite {c : Prop} {_ : Decidable c} {a b : State} (ha : OnlyFabric s a) (hb : OnlyFabric s b) :
    OnlyFabric s (if c then a else b) := by
  split <;> assumption

theorem OnlyFabric.foldl {α : Type} {f : State → α → State} {l : List α} (h : OnlyFabric s t)
    (hf : ∀ u x, OnlyFabric s u → OnlyFabric s (f u x)) : OnlyFabric s (l.foldl f t) := by
  induction l generalizing t with
  | nil => exact h
  | cons x l ih => exact ih (hf t x h)

theorem OnlyFabric.core (h : OnlyFabric s t) (c : Nat) : t.core c = s.core c := by
  obtain ⟨r, l, e, b, f, rfl⟩ := h
  rfl

theorem OnlyFabric.level (s : State) (n : Nat) (b : Bool) (info : Nat) : OnlyFabric s (s.level n b info) := by
  obtain ⟨r, e, o, h⟩ := s.level_frame n b info
  exact ⟨r, _, e, o, _, h⟩

theorem OnlyFabric.raise (s : State) (n info : Nat) : OnlyFabric s (s.raise n info) := by
  obtain ⟨r, e, o, h⟩ := s.raise_frame n info
  exact ⟨r, _, e, o, _, h⟩

theorem OnlyFabric.count (s : State) (c : Ctr) : OnlyFabric s (s.count c) := by
  obtain ⟨r, l, e, o, h⟩ := s.countBy_frame c 1
  exact ⟨r, l, e, o, _, h⟩

theorem OnlyFabric.put (s : State) (f : Fd) (v : Nat) : OnlyFabric s (s.put f v) := ⟨_, _, _, _, _, rfl⟩

theorem OnlyFabric.countReg (s : State) (f sat : Fd) (k : Nat) : OnlyFabric s (s.countReg f sat k) :=
  .ite (.refl s) (.ite (((OnlyFabric.put s f _).trans (.put _ sat _)).trans (.level ..)) (.put ..))

theorem OnlyFabric.countStitch (s : State) (c : Nat) : OnlyFabric s (s.countStitch c) :=
  (OnlyFabric.countReg ..).trans (.count ..)

theorem OnlyFabric.sourceWrite (s : State) (cls idx : Nat) (w : Word) : OnlyFabric s (s.sourceWrite cls idx w) := by
  unfold State.sourceWrite
  split
  · exact ⟨_, _, _, _, _, rfl⟩
  · exact .refl s

theorem OnlyFabric.endPasses (s : State) : OnlyFabric s s.endPasses := by
  unfold State.endPasses
  extract_lets f prog len ok s1 mst s2 s3 s4
  have h1 : OnlyFabric s s1 := (OnlyFabric.refl s).foldl fun _ _ h =>
    .ite (h.trans ((OnlyFabric.sourceWrite ..).trans (.count ..))) (h.trans (.sourceWrite ..))
  have h2 : OnlyFabric s s2 := .ite (h1.trans ((OnlyFabric.count ..).trans (.raise ..))) h1
  have h3 : OnlyFabric s s3 := h2.foldl fun _ _ h => h.trans (.sourceWrite ..)
  have h4 : OnlyFabric s s4 := .ite (h3.trans ((OnlyFabric.count ..).trans (.raise ..))) h3
  exact h4.trans ⟨_, _, _, _, _, rfl⟩

/-! ### The cores at the stop point (R83, R133) -/

/-- The state of a core after the stop point: a row program waits for the next row. -/
def CoreState.stopped (x : CoreState) : CoreState := if x = .row then .wait else x

@[simp] theorem CoreState.stopped_stopped (x : CoreState) : x.stopped.stopped = x.stopped := by
  cases x <;> rfl

theorem Core.stop_state (k : Core) : k.stop.1.state = k.state.stopped := by
  unfold Core.stop CoreState.stopped
  split
  · next h => rw [h]; rfl
  · next h =>
    split <;> simp [h]
  · next hrow _ => rw [if_neg hrow]

/-- One core stopped in a state `p.1`; `p.2` counts the stitches dropped. -/
def State.stopCore (p : State × Nat) (c : Nat) : State × Nat :=
  let r := (p.1.core c).stop
  let s1 := p.1.setCore c r.1
  if r.2 then (s1.countStitch c, p.2 + 1) else (s1, p.2)

theorem State.stopCores_eq (s : State) : s.stopCores = s.listedCores.foldl State.stopCore (s, 0) := rfl

theorem State.stopCore_fst (p : State × Nat) (c : Nat) :
    OnlyFabric (p.1.setCore c (p.1.core c).stop.1) (State.stopCore p c).1 := by
  unfold State.stopCore
  dsimp only
  split
  · exact .countStitch ..
  · exact .refl _

theorem State.state_stopCore (p : State × Nat) (c d : Nat) : ((State.stopCore p c).1.core d).state =
    if d = c then (p.1.core d).state.stopped else (p.1.core d).state := by
  rw [(State.stopCore_fst p c).core, State.core_setCore]
  split
  · next h => rw [Core.stop_state, h]
  · rfl

theorem State.state_foldl_stopCore (l : List Nat) (p : State × Nat) (d : Nat) :
    ((l.foldl State.stopCore p).1.core d).state = if d ∈ l then (p.1.core d).state.stopped else (p.1.core d).state := by
  induction l generalizing p with
  | nil => rfl
  | cons c l ih =>
    rw [List.foldl_cons, ih, State.state_stopCore]
    by_cases hc : d = c <;> by_cases hl : d ∈ l <;> simp [hc, hl]

/-- A key that a table does not list reads as the default. -/
theorem Table.get_of_not_mem {α : Type} (d : Nat → α) (m : Table α) {k : Nat} (h : k ∉ m.map Prod.fst) :
    Table.get d m k = d k := by
  induction m with
  | nil => rfl
  | cons p m ih =>
    rw [List.map_cons, List.mem_cons, not_or] at h
    rw [Table.get, if_neg h.1, ih h.2]

/-- A core that nothing has written is in RESET, and the stop point passes over it. -/
theorem State.state_stopCores (s : State) (d : Nat) : (s.stopCores.1.core d).state = (s.core d).state.stopped := by
  rw [s.stopCores_eq, State.state_foldl_stopCore]
  split
  · rfl
  · next h =>
    have hreset : s.core d = coreReset := Table.get_of_not_mem _ _ h
    rw [hreset]
    rfl

/-! ### The stop point -/

/-- The cores have stopped and the passes have ended. -/
def State.windowEnded (s : State) : State :=
  s.stopCores.1.endPasses.setRow { s.stopCores.1.endPasses.row with inWindow := false }

theorem State.stopPoint_of_open (s : State) (h : s.row.inWindow = true) : OnlyFabric s.windowEnded s.stopPoint := by
  unfold State.stopPoint
  rw [if_pos h]
  exact .ite (.refl _) (.raise ..)

theorem State.stopPoint_of_closed (s : State) (h : s.row.inWindow = false) : s.stopPoint = s := by
  rw [State.stopPoint, h, if_neg Bool.false_ne_true]

theorem State.state_stopPoint (s : State) (h : s.row.inWindow = true) (d : Nat) :
    (s.stopPoint.core d).state = (s.core d).state.stopped := by
  rw [(s.stopPoint_of_open h).core]
  change (s.stopCores.1.endPasses.core d).state = _
  rw [(OnlyFabric.endPasses _).core, s.state_stopCores]

/-! ### What the engine tick keeps -/

/-- What the engine tick reads of the row and of what waits for a tick. -/
structure TickView where
  ticks : Bool
  ticked : Bool
  pageOpen : Bool
  inWindow : Bool
  openRow : Word
  tpq : List TpRec
  regHeld : List RegRec
  joinDue : Bool
  seqTick : Bool

def State.tickView (s : State) : TickView :=
  ⟨s.row.ticks, s.row.ticked, s.row.pageOpen, s.row.inWindow, s.row.openRow, s.row.tpq, s.twn.regHeld, s.twn.joinDue,
    s.boot.seqTick⟩

theorem OnlyFabric.tickView (h : OnlyFabric s t) : t.tickView = s.tickView := by
  obtain ⟨r, l, e, b, f, rfl⟩ := h
  rfl

theorem State.tickView_stopCores (s : State) : s.stopCores.1.tickView = s.tickView := by
  have hfold (l : List Nat) (p : State × Nat) : (l.foldl State.stopCore p).1.tickView = p.1.tickView := by
    induction l generalizing p with
    | nil => rfl
    | cons c l ih => exact (ih _).trans (State.stopCore_fst p c).tickView
  exact hfold _ _

/-- The stop point ends the window, and leaves the rest of the view. -/
theorem State.tickView_stopPoint (s : State) : s.stopPoint.tickView = { s.tickView with inWindow := false } := by
  cases h : s.row.inWindow
  · rw [s.stopPoint_of_closed h, State.tickView, h]
  · rw [(s.stopPoint_of_open h).tickView, ← s.tickView_stopCores,
      ← (OnlyFabric.endPasses s.stopCores.1).tickView]
    rfl

/-- `t` counts rows as `s` does and looks the same to the engine tick. -/
structure SameTick (s t : State) : Prop extends SameTime s t where
  view : t.tickView = s.tickView

theorem SameTick.refl (s : State) : SameTick s s := ⟨.refl s, rfl⟩

theorem SameTick.stopPoint (s : State) : SameTick (s.setRow { s.row with inWindow := false }) s.stopPoint :=
  have h : SameTime s s.stopPoint := (SameTime.refl s).stopPoint
  ⟨⟨h.tb, h.sup, h.fresh, h.rowIdx, h.media, h.rate⟩, s.tickView_stopPoint⟩

theorem SameTick.frame (h : SameTick o s) (hregs : t.regs = s.regs := by rfl) (htb : t.tb = s.tb := by rfl)
    (hsup : t.sup = s.sup := by rfl) (hfresh : t.row.fresh = s.row.fresh := by rfl)
    (hidx : t.row.rowIdx = s.row.rowIdx := by rfl) (hview : t.tickView = s.tickView := by rfl) : SameTick o t :=
  ⟨h.toSameTime.frame hregs htb hsup hfresh hidx, hview.trans h.view⟩

theorem SameTick.ticks (h : SameTick o s) : s.row.ticks = o.row.ticks := congrArg TickView.ticks h.view
theorem SameTick.tpq (h : SameTick o s) : s.row.tpq = o.row.tpq := congrArg TickView.tpq h.view
theorem SameTick.regHeld (h : SameTick o s) : s.twn.regHeld = o.twn.regHeld := congrArg TickView.regHeld h.view
theorem SameTick.joinDue (h : SameTick o s) : s.twn.joinDue = o.twn.joinDue := congrArg TickView.joinDue h.view

theorem SameTick.ite {c : Prop} {_ : Decidable c} {a b : State} (ha : SameTick o a) (hb : SameTick o b) :
    SameTick o (if c then a else b) := by
  split <;> assumption

theorem SameTick.foldl {α : Type} {f : State → α → State} {l : List α} (h : SameTick o s)
    (hf : ∀ t x, SameTick o t → SameTick o (f t x)) : SameTick o (l.foldl f s) := by
  induction l generalizing s with
  | nil => exact h
  | cons x l ih => exact ih (hf s x h)

theorem SameTick.setReg (h : SameTick o s) {a : Nat} (ha : NotTimeReg a) (w : Word) : SameTick o (s.setReg a w) :=
  ⟨h.toSameTime.setReg ha w, h.view⟩

theorem SameTick.put (h : SameTick o s) {f : Fd} (hf : NotTimeReg f.addr) (v : Nat) : SameTick o (s.put f v) := h.setReg hf _

theorem SameTick.flag (h : SameTick o s) {f : Fd} (hf : NotTimeReg f.addr) (b : Bool) : SameTick o (s.flag f b) := h.put hf _

theorem SameTick.raise (h : SameTick o s) {n : Nat} (hn : n < 256) (info : Nat) : SameTick o (s.raise n info) :=
  ⟨h.toSameTime.raise hn info, h.view⟩

theorem SameTick.level (h : SameTick o s) {n : Nat} (hn : n < 256) (b : Bool) (info : Nat) : SameTick o (s.level n b info) :=
  ⟨h.toSameTime.level hn b info, (OnlyFabric.level ..).tickView.trans h.view⟩

theorem SameTick.count (h : SameTick o s) {c : Ctr} (hc : NotTimeReg c.sat.addr) : SameTick o (s.count c) :=
  ⟨h.toSameTime.count hc, (OnlyFabric.count ..).tickView.trans h.view⟩

theorem SameTick.sourceWrite (h : SameTick o s) (cls idx w) : SameTick o (s.sourceWrite cls idx w) :=
  ⟨h.toSameTime.sourceWrite .., (OnlyFabric.sourceWrite ..).tickView.trans h.view⟩

/-! ### Streams -/

theorem SameTick.modFlow (h : SameTick o s) (n g) : SameTick o (s.modFlow n g) := h.frame

theorem SameTick.countFlow (h : SameTick o s) (n j k) : SameTick o (s.countFlow n j k) :=
  .ite h (.ite h.frame (SameTick.level (SameTick.frame h) (by decide) ..))

theorem SameTick.countMissing (h : SameTick o s) (n) : SameTick o (s.countMissing n) := (h.countFlow ..).modFlow ..

theorem SameTick.drainFlow (h : SameTick o s) (n) : SameTick o (s.drainFlow n) := h.modFlow ..

theorem SameTick.writeFlow (h : SameTick o s) (n ws) : SameTick o (s.writeFlow n ws) :=
  (h.modFlow ..).foldl fun _ _ h => h.sourceWrite ..

theorem SameTick.recvDeadline (h : SameTick o s) : SameTick o s.recvDeadline := by
  unfold State.recvDeadline
  extract_lets e one
  have hone (t n) (h : SameTick o t) : SameTick o (one t n) := by
    unfold one
    refine .ite ?_ h
    split
    · exact (h.modFlow ..).writeFlow ..
    · exact .ite ((h.modFlow ..).countMissing ..) (h.modFlow ..)
  exact .ite h (SameTick.frame (h.foldl hone))

theorem SameTick.closeFlows (h : SameTick o s) : SameTick o s.closeFlows := by
  unfold State.closeFlows
  extract_lets e s0 one s1 nl nm s2 s3
  have h1 : SameTick o s1 := h.recvDeadline.foldl fun _ _ h => .ite (h.drainFlow ..) (.ite (h.countMissing ..) h)
  have h2 : SameTick o s2 := .ite h1 (h1.raise (by decide) _)
  have h3 : SameTick o s3 := .ite h2 (h2.raise (by decide) _)
  exact h3.foldl fun _ _ h => h.modFlow ..

theorem SameTick.openFlows (h : SameTick o s) : SameTick o s.openFlows := by
  unfold State.openFlows
  extract_lets e one s1 src
  have hone (t n) (h : SameTick o t) : SameTick o (one t n) := by
    unfold one
    extract_lets f keep z u
    have hu : SameTick o u := by
      unfold u
      split
      · exact .ite ((h.modFlow ..).writeFlow ..) (h.modFlow ..)
      · exact h.modFlow ..
    exact .ite ((h.modFlow ..).foldl fun _ _ h => h.sourceWrite ..) (.ite (hu.drainFlow ..) hu)
  exact SameTick.frame (h.foldl hone)

theorem notTimeReg_net (n j : Nat) : NotTimeReg (ctrNet n j).sat.addr := by
  simp only [NotTimeReg, ctrNet, Reg.NET_CNT_SAT, Reg.TB0_MEDIASEL, Reg.ENG_PROFILE_STAT]
  omega

/-- A frame of a stream has no descriptor, so dropping it completes none. -/
theorem SameTick.queueFlow (h : SameTick o s) (n b) : SameTick o (s.queueFlow n b) :=
  .ite h.frame (h.count (notTimeReg_net _ 9))

theorem SameTick.gatherRow (h : SameTick o s) (n j) : SameTick o (s.gatherRow n j) := by
  unfold State.gatherRow
  dsimp only
  split
  · exact h.modFlow ..
  · exact .ite (h.modFlow ..) (.ite ((h.modFlow ..).queueFlow ..) (h.modFlow ..))

theorem SameTick.sendFlows (h : SameTick o s) (j) : SameTick o (s.sendFlows j) := by
  refine h.foldl fun t n h => .ite (.ite ?_ (h.gatherRow ..)) h
  split
  · exact .ite h (h.queueFlow ..)
  · exact h.queueFlow ..

/-! ### Cores and passes -/

theorem SameTick.setCore (h : SameTick o s) (c k) : SameTick o (s.setCore c k) := h.frame

theorem SameTick.missDoorbell (h : SameTick o s) (c) : SameTick o (s.missDoorbell c) :=
  SameTick.raise (SameTick.count (h.setCore ..) (by decide)) (by decide) _

theorem SameTick.markShed (h : SameTick o s) (c) : SameTick o (s.markShed c) :=
  .ite (h.setCore ..) (SameTick.count (SameTick.frame (h.setCore ..)) (by decide))

theorem SameTick.judge (h : SameTick o s) (c cycles) : SameTick o (s.judge c cycles) := .ite (h.markShed ..) h

theorem SameTick.coreTick (h : SameTick o s) (c budget row) : SameTick o (s.coreTick c budget row) := by
  unfold State.coreTick
  extract_lets miss s0 _ k held go
  have h0 : SameTick o s0 := .ite (h.missDoorbell ..) h
  have hset (k') : SameTick o (s0.setCore c k') := h0.setCore ..
  have hgo (k') : SameTick o (go k' s0) := (h0.setCore ..).judge ..
  split
  · exact hset _
  · exact hset _
  · exact hset _
  · exact .ite (hset _) (hgo _)
  · exact .ite (hset _) (.ite (hset _) (.ite (hgo _) (hgo _)))

theorem SameTick.writeBeat (h : SameTick o s) (qs n) : SameTick o (s.writeBeat qs n) := by
  unfold State.writeBeat
  refine .ite ?_ h
  dsimp only
  split
  · exact h.frame
  · exact h

theorem SameTick.writeBeats (h : SameTick o s) : SameTick o s.writeBeats := h.foldl fun _ _ h => h.writeBeat ..

theorem SameTick.startPasses (h : SameTick o s) : SameTick o s.startPasses := by
  unfold State.startPasses
  extract_lets i used s0 fab fab' s1 p
  have h0 : SameTick o s0 := h.setReg (by decide) _
  have h1 : SameTick o s1 := .ite h0.frame h.frame
  exact .ite (SameTick.writeBeats h1.frame) h1.frame

theorem SameTick.startRow (h : SameTick o s) : SameTick o s.startRow :=
  ((h.put (by decide) _).foldl fun _ _ h => h.coreTick ..).startPasses

/-! ### Blocks of the rings, and the output of the row -/

theorem SameTick.modRing (h : SameTick o s) (r f) : SameTick o (s.modRing r f) := h.frame

theorem SameTick.recordRow (h : SameTick o s) (c) : SameTick o (s.recordRow c) :=
  h.foldl fun _ _ h => .ite (h.modRing ..) h

theorem SameTick.playRow (h : SameTick o s) (w) : SameTick o (s.playRow w) :=
  h.foldl fun _ _ h => .ite ((h.foldl fun _ _ h => .ite (h.foldl fun _ _ h => h.sourceWrite ..) h).modRing ..) h

theorem SameTick.latchPorts (h : SameTick o s) : SameTick o s.latchPorts :=
  h.foldl fun _ _ h => .ite h h.frame

theorem SameTick.latchAmp (h : SameTick o s) : SameTick o s.latchAmp := .ite h.frame h.frame

theorem SameTick.outputRow (h : SameTick o s) : SameTick o s.outputRow := (h.sendFlows _).latchPorts.latchAmp

/-! ### The tick up to the swap of the pages -/

theorem SameTick.settleReady (h : SameTick o s) (row) : SameTick o (s.settleReady row) := h.frame

/-- With no register held for a tick, the settings of GUARD are all that the tick takes in. -/
theorem SameTick.tickRegs (h : SameTick o s) (hheld : s.twn.regHeld = []) : SameTick o s.tickRegs := by
  unfold State.tickRegs
  extract_lets due twn s1 s2 row s3
  have h1 : SameTick o s1 := h.frame (hview := by simp [s1, twn, State.tickView, State.setTwn, hheld])
  have hdue : due = [] := by simp [due, hheld]
  have h2 : SameTick o s2 := by rwa [show s2 = s1 by simp [s2, hdue]]
  exact SameTick.put (SameTick.frame h2) (by decide) _

theorem SameTick.testFit (h : SameTick o s) : SameTick o s.testFit := by
  unfold State.testFit
  extract_lets e m src s1 s2 s3
  have h1 : SameTick o s1 := h.frame
  have h2 : SameTick o s2 := .ite (h1.flag (by decide) _) h1
  have h3 : SameTick o s3 := .ite (h2.flag (by decide) _) h2
  exact .ite h (.ite (h3.raise (by decide) _) h3)

theorem State.applyDue_of_empty (s : State) (h : s.row.tpq = []) : s.applyDue = s := by
  simp [State.applyDue, h, State.applyClass]

theorem State.joinRegs_of_no_join (s : State) (h : s.twn.joinDue = false) : s.joinRegs = s := by
  rw [State.joinRegs, h, if_neg Bool.false_ne_true]

theorem State.seqTicked_of_no_seqTick (s : State) (h : s.boot.seqTick = false) : s.seqTicked = s := by
  rw [State.seqTicked, h, if_neg Bool.false_ne_true]

theorem SameTick.countMigration (h : SameTick o s) : SameTick o s.countMigration := by
  unfold State.countMigration
  split
  · exact h.frame
  · exact h

/-- The row before is closed, and the settings of the tick are in effect. -/
def State.tickSettled (s : State) : State := (s.stopPoint.closeFlows.settleReady s.tickRow).tickRegs

/-- The state whose pages swap when nothing is queued. -/
def State.tickClosed (s : State) : State := s.tickSettled.testFit.countMigration

theorem SameTick.tickSettled (s : State) (hheld : s.twn.regHeld = []) :
    SameTick (s.setRow { s.row with inWindow := false }) s.tickSettled := by
  have h := (SameTick.stopPoint s).closeFlows.settleReady s.tickRow
  exact h.tickRegs (h.regHeld.trans hheld)

/-- With nothing queued, the tick takes in no more than the end of the row before. -/
theorem SameTick.tickClosed (s : State) (hheld : s.twn.regHeld = []) :
    SameTick (s.setRow { s.row with inWindow := false }) s.tickClosed :=
  (SameTick.tickSettled s hheld).testFit.countMigration

/-- The row index of the page is that of R26. -/
theorem SameTime.tickRow (h : SameTime o s) : s.tickRow = o.tickRow := by
  have hfast : s.isFast = o.isFast := congrArg (fun w => bitsOf w _ _ == 1) h.rate
  rw [State.tickRow, State.tickRow, hfast, h.rowIdx]

/-- What the page that has opened shows, and what waits as before. -/
theorem State.tickView_openPage (s : State) : s.openPage.tickView =
    { s.tickView with pageOpen := true, openRow := s.tickRow, ticked := true, inWindow := true } := by
  unfold State.openPage
  exact (SameTick.openFlows (.refl _)).view

/-- What the tick does on the page that has opened. -/
def State.tickOpened (s : State) : State :=
  let s3 := s.openPage.startRow
  let s4 := (s3.recordRow s3.row.openRow).playRow (s3.row.openRow + 1)
  if s4.isFast then s4 else s4.outputRow

theorem SameTick.tickOpened (s : State) : SameTick s.openPage s.tickOpened := by
  unfold State.tickOpened
  extract_lets s3 s4
  have h4 : SameTick s.openPage s4 := ((SameTick.refl _).startRow.recordRow _).playRow _
  exact .ite h4 h4.outputRow

/-- What the tick leaves when nothing is queued: the page of the tick's row is open, and the window has begun. -/
theorem State.tickView_tickOpened (s : State) (hheld : s.twn.regHeld = []) : s.tickClosed.tickOpened.tickView =
    { s.tickView with pageOpen := true, openRow := s.tickRow, ticked := true, inWindow := true } := by
  have hclosed := SameTick.tickClosed s hheld
  rw [(SameTick.tickOpened _).view, State.tickView_openPage, hclosed.view, hclosed.tickRow]
  rfl

theorem State.engineTick_eq (s : State) : s.engineTick =
    let s2 := s.tickSettled.testFit.applyDue.joinRegs.countMigration
    if !s.tickSettled.row.ticks then s.tickSettled else if !s2.row.ticks then s2 else s2.tickOpened.seqTicked := by
  unfold State.engineTick State.tickOpened State.tickSettled
  rfl

/-- With nothing queued, the tick is what it does before and after the pages swap. -/
theorem State.engineTick_of_nothing_queued (s : State) (hticks : s.row.ticks = true) (htpq : s.row.tpq = [])
    (hheld : s.twn.regHeld = []) (hjoin : s.twn.joinDue = false) (hseq : s.boot.seqTick = false) :
    s.engineTick = s.tickClosed.tickOpened := by
  have hsettled := SameTick.tickSettled s hheld
  have hclosed := SameTick.tickClosed s hheld
  have hdue : s.tickSettled.testFit.applyDue.joinRegs.countMigration = s.tickClosed := by
    rw [State.applyDue_of_empty _ (hsettled.testFit.tpq.trans htpq),
      State.joinRegs_of_no_join _ (hsettled.testFit.joinDue.trans hjoin), State.tickClosed]
  have hlast : s.tickClosed.tickOpened.boot.seqTick = false :=
    (congrArg TickView.seqTick (s.tickView_tickOpened hheld)).trans hseq
  have hon : s.tickSettled.row.ticks = true := hsettled.ticks.trans hticks
  have hon' : s.tickClosed.row.ticks = true := hclosed.ticks.trans hticks
  rw [s.engineTick_eq, hdue]
  simp only [hon, hon', Bool.not_true, Bool.false_eq_true, if_false]
  exact State.seqTicked_of_no_seqTick _ hlast

theorem exec_engineTick (s : State) : exec .engineTick s =
    .next (if s.row.ticks && !s.row.fresh && !s.inReset && !s.row.ticked then s.engineTick else s) := rfl

/-- Settles O23: what the tick shows is read from its view, and the stop point acts on every core that is listed. That a
second tick in a row, and one before the first row, change nothing rests on log entry 31. -/
theorem engineTickAndStopPoint : Obligations.EngineTickAndStopPoint := by
  refine ⟨?tick, ?idle, fun s => ⟨fun h => ?stop, fun h => ?closed⟩⟩
  case tick =>
    intro s hticks hreset hfresh htpq hheld hjoin hseq hticked
    have hview := s.tickView_tickOpened hheld
    refine ⟨s.tickClosed.tickOpened, ?_, congrArg TickView.pageOpen hview, congrArg TickView.inWindow hview,
      congrArg TickView.ticked hview, congrArg TickView.openRow hview⟩
    rw [exec_engineTick, ← s.engineTick_of_nothing_queued hticks htpq hheld hjoin hseq]
    simp [hticks, hreset, hfresh, hticked]
  case idle =>
    intro s h
    rw [exec_engineTick]
    rcases h with h | h | h | h <;> simp [h]
  case stop =>
    exact ⟨s.stopPoint, rfl, congrArg TickView.inWindow s.tickView_stopPoint, s.state_stopPoint h⟩
  case closed =>
    exact congrArg Host.Outcome.next (s.stopPoint_of_closed h)

end Sys2Proof.Machine

/-! ## Migrations, profile changes and the gauge -/

namespace Sys2Proof.Machine

@[simp] theorem State.core_setRow (s : State) (r : RowS) (c : Nat) : (s.setRow r).core c = s.core c := rfl
@[simp] theorem State.core_put (s : State) (f : Fd) (v c : Nat) : (s.put f v).core c = s.core c := rfl
@[simp] theorem State.row_put (s : State) (f : Fd) (v : Nat) : (s.put f v).row = s.row := rfl
@[simp] theorem State.row_setRow (s : State) (r : RowS) : (s.setRow r).row = r := rfl

/-! ### Migration requests (R153 to R155) -/

theorem State.migrateRequest_of_refused (s : State) {c : Nat} {back firmware : Bool} (h : s.migrateRefusal c back firmware ≠ 0) :
    s.migrateRequest c back firmware = s.put Fld.ENG_MIGRATE_RES_RESULT (s.migrateRefusal c back firmware) :=
  if_pos h

theorem State.migrateRequest_of_reset (s : State) {c : Nat} {back firmware : Bool} (h : s.migrateRefusal c back firmware = 0)
    (hc : (s.core c).state = .reset) :
    s.migrateRequest c back firmware = (s.movePhys c back).put Fld.ENG_MIGRATE_RES_RESULT 1 := by
  simp [State.migrateRequest, h, hc]

theorem State.migrateRequest_of_waits (s : State) {c : Nat} {back firmware : Bool} (h : s.migrateRefusal c back firmware = 0)
    (hc : (s.core c).state ≠ .reset) : s.migrateRequest c back firmware =
      (s.setRow { s.row with migration := some ⟨c, back, 0⟩ }).put Fld.ENG_MIGRATE_RES_RESULT 5 := by
  simp [State.migrateRequest, h, hc]

theorem State.writeMigrate_of_go (s : State) {w : Word} (h : w.getLsbD 9 = true) : s.writeMigrate w =
    (s.setReg Reg.ENG_MIGRATE (w &&& 0x17F)).migrateRequest (w.toNat % 128) (w.getLsbD 8) false :=
  if_pos h

theorem State.writeMigrate_of_no_go (s : State) {w : Word} (h : w.getLsbD 9 = false) :
    s.writeMigrate w = s.setReg Reg.ENG_MIGRATE (w &&& 0x17F) :=
  if_neg (by rw [h]; decide)

/-- The state that a performed migration leaves (R154). -/
def State.migrated (s : State) (m : Migration) : State :=
  let s1 := (s.movePhys m.core m.back).modCore m.core (fun k => { k with moved := true })
  (s1.setRow { s1.row with migration := none }).put Fld.ENG_MIGRATE_RES_RESULT 1

theorem exec_migrationPerform (s : State) {m : Migration} (h : s.row.migration = some m) :
    exec .migrationPerform s = .next (if s.migrateReady m then s.migrated m else s) := by
  rw [show exec .migrationPerform s = execMigrationPerform s from rfl, execMigrationPerform, h]
  exact (apply_ite Host.Outcome.next _ _ _).symm

theorem exec_migrationAbandon (s : State) {m : Migration} (h : s.row.migration = some m) :
    exec .migrationAbandon s = .next (if 64 ≤ m.waited then
      ((s.setRow { s.row with migration := none }).put Fld.ENG_MIGRATE_RES_RESULT 4).raise 41 m.core else s) := by
  rw [show exec .migrationAbandon s = execMigrationAbandon s from rfl, execMigrationAbandon, h]
  exact (apply_ite Host.Outcome.next _ _ _).symm

/-- Where a core runs stands in registers, so a move leaves the cores alone. -/
theorem State.core_movePhys (s : State) (c d : Nat) (back : Bool) : (s.movePhys c back).core d = s.core d := by
  rw [State.movePhys, State.core_put, State.core_put, State.flag, State.core_put]

theorem State.core_migrated (s : State) (m : Migration) (d : Nat) :
    (s.migrated m).core d = if d = m.core then { s.core m.core with moved := true } else s.core d := by
  rw [State.migrated, State.core_put, State.core_setRow, State.modCore, State.core_setCore, s.core_movePhys,
    s.core_movePhys]

theorem State.migration_migrated (s : State) (m : Migration) : (s.migrated m).row.migration = none := by
  rw [State.migrated, State.row_put, State.row_setRow]

theorem State.result_migrated (s : State) (m : Migration) : (s.migrated m).get Fld.ENG_MIGRATE_RES_RESULT = 1 := by
  rw [State.migrated, State.get_put_same _ _ _ (by decide) (by decide)]
  decide

/-! ### The gauge (R38, R42, R130) -/

theorem State.judge_gauge (s : State) (c cycles : Nat) : (s.judge c cycles).row.gauge = s.row.gauge := by
  unfold State.judge
  extract_lets tooLong
  split
  · unfold State.markShed
    dsimp only
    split
    · rfl
    · obtain ⟨r, l, e, o, h⟩ := State.countBy_frame _ ctrShed 1
      rw [State.count, h]
      rfl
  · rfl

theorem State.foldl_judge_gauge (l : List Nat) (cycles : State → Nat) (s : State) :
    (l.foldl (fun s c => s.judge c (cycles s)) s).row.gauge = s.row.gauge := by
  induction l generalizing s with
  | nil => rfl
  | cons c l ih => exact (ih _).trans (s.judge_gauge c _)

/-- Cores that do not fit the new step are shed; none of that moves the gauge again. -/
theorem State.setGauge_gauge (s : State) (g ns : Nat) : (s.setGauge g ns).row.gauge = g := by
  unfold State.setGauge
  dsimp only
  split
  · exact State.foldl_judge_gauge _ (fun _ => _) _
  · split
    · exact State.foldl_judge_gauge _ (fun t => cyclesTo 2 s.row.accU s.row.sinceU g s.row.selvage t.fs) _
    · rfl

/-- Outside the window a change of the gauge judges no core. -/
theorem State.setGauge_of_closed (s : State) (g ns : Nat) (h : s.row.inWindow = false) :
    s.setGauge g ns = s.setRow { s.row with gauge := g } := by
  simp [State.setGauge, h]

/-- POLICY has no code above 3, so POLICY_ACT holds it whole. -/
theorem State.policy_mod_four (s : State) : s.get Fld.ENG_PROFILE_POLICY % 4 = s.get Fld.ENG_PROFILE_POLICY :=
  Nat.mod_eq_of_lt (bitsOf_lt _ _ _)

theorem State.policyAct_put_policy (s : State) :
    (s.put Fld.ENG_PROFILE_STAT_POLICY_ACT (s.get Fld.ENG_PROFILE_POLICY)).get Fld.ENG_PROFILE_STAT_POLICY_ACT =
      s.get Fld.ENG_PROFILE_POLICY := by
  rw [State.get_put_same _ _ _ (by decide) (by decide)]
  exact s.policy_mod_four

/-- The policy that waits is in effect, and the gauge has not moved yet. -/
def State.policyTaken (s : State) : State :=
  (s.put Fld.ENG_PROFILE_STAT_POLICY_ACT (s.get Fld.ENG_PROFILE_POLICY)).setRow
    { s.row with pendPolicy := false, fitDue := true }

theorem State.policyEffect_of_pending (s : State) (hp : s.row.pendPolicy = true) : s.policyEffect =
    if s.row.gauge < policyStep (s.get Fld.ENG_PROFILE_POLICY) then
      s.policyTaken.setGauge (policyStep (s.get Fld.ENG_PROFILE_POLICY)) 0
    else s.policyTaken.setRow { s.policyTaken.row with
      recovering := decide (policyStep (s.get Fld.ENG_PROFILE_POLICY) < s.row.gauge) && !s.row.sag } := by
  rw [← s.policyAct_put_policy, State.policyEffect, if_pos hp]
  rfl

/-- A policy change outside the window (R42): the gauge goes up to the policy's lowest step at once. -/
theorem State.policyEffect_of_closed (s : State) (hp : s.row.pendPolicy = true) (hw : s.row.inWindow = false) :
    ∃ rec, s.policyEffect = s.policyTaken.setRow { s.policyTaken.row with
      recovering := rec, gauge := max s.row.gauge (policyStep (s.get Fld.ENG_PROFILE_POLICY)) } := by
  rw [s.policyEffect_of_pending hp]
  split
  · next h =>
    rw [s.policyTaken.setGauge_of_closed _ _ hw, max_eq_right h.le]
    exact ⟨_, rfl⟩
  · next h =>
    rw [max_eq_left (not_lt.mp h)]
    exact ⟨_, rfl⟩

/-- Settles O21: the requests of R153, the pending request, then the profile and the gauge. -/
theorem migrationAndGauge : Obligations.MigrationAndGauge := by
  refine ⟨?request, ?pending, ?profile⟩
  case request =>
    intro c back w s r
    refine ⟨fun hr => ?_, fun hr hc => ?_, fun hr hc => ?_, fun hgo => ?_, fun hgo => ?_⟩
    · exact congrArg Host.Outcome.next (s.migrateRequest_of_refused hr)
    · exact congrArg Host.Outcome.next (s.migrateRequest_of_reset hr hc)
    · exact congrArg Host.Outcome.next (s.migrateRequest_of_waits hr hc)
    · exact congrArg Host.Outcome.next (s.writeMigrate_of_no_go hgo)
    · exact congrArg Host.Outcome.next (s.writeMigrate_of_go hgo)
  case pending =>
    intro s m hm
    rw [exec_migrationPerform s hm, exec_migrationAbandon s hm]
    refine ⟨fun hr => ⟨s.migrated m, by rw [if_pos hr], s.migration_migrated m, s.result_migrated m, ?_, fun d hd => ?_⟩, fun hr => ?_,
      fun hw => by rw [if_pos hw], fun hw => by rw [if_neg (not_le.mpr hw)]⟩
    · rw [s.core_migrated, if_pos rfl]
    · rw [s.core_migrated, if_neg hd]
    · rw [hr, if_neg Bool.false_ne_true]
  case profile =>
    intro s b ns
    refine ⟨fun hb => ?latency, fun hp hw => ?policy, fun hrec hsag hlow => ?step, fun hrec => ?still⟩
    case latency =>
      refine congrArg Host.Outcome.next ?_
      rw [State.latencyEffect, hb]
    case policy =>
      obtain ⟨rec, h⟩ := s.policyEffect_of_closed hp hw
      refine ⟨s.policyEffect, rfl, ?_⟩
      rw [h]
      exact ⟨s.policyAct_put_policy.trans s.policy_mod_four.symm, rfl, rfl, le_max_right _ _, le_max_left _ _, fun hle => max_eq_left hle⟩
    case step =>
      refine ⟨_, if_pos (by simp [hrec, hsag, hlow]), ?_⟩
      exact s.setGauge_gauge (s.row.gauge - 1) ns
    case still =>
      exact if_neg (by simp [hrec])

end Sys2Proof.Machine

/-! ## Flits at their sender, and the tunnel (R24, R25, R416) -/

namespace Sys2Proof.Machine

/-! ### The modulation flits -/

/-- Four channel words of 24 bits from `o` on, the first uppermost. -/
def State.fourWords (s : State) (o : Nat) : Nat :=
  let w (i : Nat) : Nat := (s.amp.words.getD i 0).toNat % 2 ^ 24
  w o * 2 ^ 72 + w (o + 1) * 2 ^ 48 + w (o + 2) * 2 ^ 24 + w (o + 3)

theorem State.foldl_words (s : State) (o : Nat) :
    (addrs 0 1 4).foldl (fun n i => n + (s.amp.words.getD (o + i) 0).toNat % 2 ^ 24 * 2 ^ (24 * (3 - i))) 0 =
      s.fourWords o := by
  have h : addrs 0 1 4 = [0, 1, 2, 3] := by decide
  rw [h]
  simp [State.fourWords]

theorem exec_modulationFlitSend (s : State) (ht : s.row.ticks = true) (hr : s.inReset = false) :
    exec .modulationFlitSend s = .next (((s.sendFlit true 1 (s.row.rowIdx.toNat * 2 ^ 64 + s.amp.claimNow.toNat * 2 ^ 32)).sendFlit
      true 2 (s.fourWords 0)).sendFlit true 3 (s.fourWords 4)) := by
  refine congrArg Host.Outcome.next ?_
  simp only [ht, hr, Bool.not_false, Bool.and_self, if_true, s.foldl_words]

/-! ### A flit time -/

theorem LinkEnd.maySend_iff (e : LinkEnd) : e.maySend = true ↔ 0 < e.credit ∧ e.unacked.length < 8 := by
  simp [LinkEnd.maySend]

/-- With nothing to send, or no leave to, an end sends IDLE. -/
theorem exec_flitCreditSend_idle (b : Bool) (s : State) (hr : (b && s.inReset) = false)
    (h : (s.linkEnd b).queue = [] ∨ (s.linkEnd b).maySend = false) :
    exec (.flitCreditSend b) s = .next (s.sendFlit b 0 0) := by
  refine congrArg Host.Outcome.next ?_
  rcases h with h | h <;> simp [State.linkTurn, hr, h]

theorem exec_flitCreditSend_head (b : Bool) (s : State) (hr : (b && s.inReset) = false) (hm : (s.linkEnd b).maySend = true)
    (hq : (s.linkEnd b).queue ≠ []) : exec (.flitCreditSend b) s = .next (s.pumpLink b) := by
  refine congrArg Host.Outcome.next ?_
  simp [State.linkTurn, hr, hm, hq]

@[simp] theorem State.linkEnd_setLinkEnd (s : State) (b : Bool) (e : LinkEnd) : (s.setLinkEnd b e).linkEnd b = e := by
  cases b <;> rfl

theorem State.pumpLink_of_maySend (s : State) (b : Bool) {typ : Nat} {p : BitVec 96} {q : List (Nat × BitVec 96)}
    (hq : (s.linkEnd b).queue = (typ, p) :: q) (hm : (s.linkEnd b).maySend = true) :
    s.pumpLink b = (s.setLinkEnd b { s.linkEnd b with
      nextSeq := ((s.linkEnd b).nextSeq + 1) % 16, unacked := (s.linkEnd b).unacked ++ [⟨(s.linkEnd b).nextSeq, typ, p⟩],
      queue := q, credit := (s.linkEnd b).credit - 1 }).wireSeq b ⟨(s.linkEnd b).nextSeq, typ, p⟩ := by
  simp only [State.pumpLink, hq, hm, if_true]

/-! ### The tunnel -/

theorem State.setLinkEnd_frame (s : State) (b : Bool) (e : LinkEnd) : ∃ l, s.setLinkEnd b e = { s with link := l } := by
  cases b <;> exact ⟨_, rfl⟩

theorem State.pumpLink_frame (s : State) (b : Bool) : ∃ l o, s.pumpLink b = { s with link := l, outbox := o } := by
  unfold State.pumpLink
  dsimp only
  split
  · exact ⟨_, _, rfl⟩
  · split
    · obtain ⟨l, h⟩ := s.setLinkEnd_frame b _
      rw [h]
      exact ⟨_, _, rfl⟩
    · exact ⟨_, _, rfl⟩

/-- A flit handed to an end changes the link and what goes out. -/
theorem State.queueFlit_frame (s : State) (b : Bool) (typ payload : Nat) :
    ∃ l o, s.queueFlit b typ payload = { s with link := l, outbox := o } := by
  unfold State.queueFlit
  obtain ⟨l, h⟩ := s.setLinkEnd_frame b { s.linkEnd b with queue := (s.linkEnd b).queue ++ [(typ, BitVec.ofNat 96 payload)] }
  dsimp only
  rw [h]
  split
  · obtain ⟨l', o, h'⟩ := State.pumpLink_frame { s with link := l } b
    exact ⟨l', o, h'⟩
  · exact ⟨_, _, rfl⟩

/-- The access is noted under the next tag, and its flit is handed to the main die's end. -/
theorem State.tunnel_frame (s : State) (wr : Bool) (a : Nat) (v : Word) : ∃ l o, s.tunnel wr a v =
    { s with link := l, outbox := o, amp := { s.amp with
      nextTag := (s.amp.nextTag + 1) % 256, tunnels := s.amp.tunnels ++ [⟨s.amp.nextTag, wr, a⟩] } } := by
  unfold State.tunnel
  dsimp only
  split
  · exact State.queueFlit_frame _ true 5 _
  · exact State.queueFlit_frame _ true 6 _

theorem exec_tunnelAccess (wr : Bool) (a : BitVec 24) (v : Word) (s : State) :
    exec (.tunnelAccess wr a v) s = .next (if onSupply a.toNat then s.tunnel wr a.toNat v else s) := rfl

theorem exec_tunnelTimeout (tag : BitVec 8) (s : State) {x : Tunnel}
    (h : s.amp.tunnels.find? (fun t => t.tag == tag.toNat) = some x) :
    let u := (s.setAmp { s.amp with tunnels := s.amp.tunnels.filter (fun y => y.tag != tag.toNat) }).raise 204 (x.addr % 0x10000)
    exec (.tunnelTimeout tag) s = .next (if x.wr then u else u.send (.answer 0xFFFFFFFF)) := by
  rw [show exec (.tunnelTimeout tag) s = execTunnelTimeout tag s from rfl, execTunnelTimeout, h]

/-- Settles O29: the flits of the row, a flit time with and without leave to send, then the tunnel. -/
theorem linkSending : Obligations.LinkSending := by
  refine ⟨fun s ht hr => exec_modulationFlitSend s ht hr, fun b s typ p q hq => ⟨fun hr hc hu => ?head, fun hr hno => ?wait⟩,
    fun b s hq hr => exec_flitCreditSend_idle b s hr (.inl hq), fun wr a v s => ⟨fun ha => ?access, fun ha => ?elsewhere⟩,
    fun tag s x h => exec_tunnelTimeout tag s h⟩
  case head =>
    have hm : (s.linkEnd b).maySend = true := (s.linkEnd b).maySend_iff.mpr ⟨hc, hu⟩
    rw [exec_flitCreditSend_head b s hr hm (by simp [hq]), s.pumpLink_of_maySend b hq hm, State.wireSeq,
      State.linkEnd_setLinkEnd]
    rfl
  case wait =>
    have hm : (s.linkEnd b).maySend = false := by
      rw [Bool.eq_false_iff, Ne, LinkEnd.maySend_iff]
      omega
    exact exec_flitCreditSend_idle b s hr (.inr hm)
  case access =>
    obtain ⟨l, o, h⟩ := s.tunnel_frame wr a.toNat v
    exact ⟨s.tunnel wr a.toNat v, by rw [exec_tunnelAccess, if_pos ha], by rw [h], by rw [h]⟩
  case elsewhere =>
    rw [exec_tunnelAccess, ha, if_neg Bool.false_ne_true]

end Sys2Proof.Machine

/-! ## Flits at their receiver (R21 to R25) -/

namespace Sys2Proof.Machine

variable {f : BitVec 128}

/-! ### Arrival -/

theorem State.receiveFlit_in_reset (s : State) (f : BitVec 128) (h : s.inReset = true) : s.receiveFlit true f = s := by
  simp [State.receiveFlit, h]

theorem State.receiveFlit_bad_main (s : State) (hr : s.inReset = false) (hg : flitGood f = false) :
    s.receiveFlit true f = (s.countLinkErr 0).sendNak true := by
  simp [State.receiveFlit, State.linkErr, hr, hg]

theorem State.receiveFlit_bad_supply (s : State) (hr : s.inReset = false) (hg : flitGood f = false) :
    s.receiveFlit false f = (s.supplyEvent 205 1).sendNak false := by
  simp [State.receiveFlit, State.linkErr, hr, hg]

theorem State.receiveFlit_plain (s : State) (b : Bool) (hr : s.inReset = false) (hg : flitGood f = true) {t : Nat}
    (ht : flitType f = t) (hplain : ¬ (5 ≤ t ∧ t ≤ 9)) : s.receiveFlit b f =
      (s.takeAck b (flitAck f) (flitCredit f)).takePlain b t (flitPayload f) := by
  simp [State.receiveFlit, hr, hg, ht, hplain]

/-- The expected SEQ advances, and a NAK may be sent again (R23, R24). -/
def State.nextExpected (s : State) (b : Bool) : State :=
  s.setLinkEnd b { s.linkEnd b with expSeq := ((s.linkEnd b).expSeq + 1) % 16, nakSent := false }

/-- Acknowledgements leave the SEQ that is expected alone. -/
theorem State.expSeq_takeAck (s : State) (b : Bool) (ack credit : Nat) :
    ((s.takeAck b ack credit).linkEnd b).expSeq = (s.linkEnd b).expSeq := by
  rw [State.takeAck, State.linkEnd_setLinkEnd]

theorem State.receiveFlit_in_order (s : State) (b : Bool) (hr : s.inReset = false) (hg : flitGood f = true) {t : Nat}
    (ht : flitType f = t) (hseq : flitSeq f = (s.linkEnd b).expSeq ∧ flitSeq f < 16) (h : 5 ≤ t ∧ t ≤ 9) : s.receiveFlit b f =
      ((s.takeAck b (flitAck f) (flitCredit f)).nextExpected b).takeSeqFlit b t (flitPayload f) := by
  have hd : (((s.takeAck b (flitAck f) (flitCredit f)).linkEnd b).expSeq + 16 - flitSeq f) % 16 = 0 := by
    rw [s.expSeq_takeAck, hseq.1]
    omega
  simp [State.receiveFlit, hr, hg, ht, h, State.acceptSeq, hd, State.nextExpected]

/-! ### What a flit does, by its type (R22) -/

/-- The four words of a MOD_LO or MOD_HI flit. -/
theorem State.takePlain_words (s : State) (p : Nat) :
    let words := [sext24 (p / 2 ^ 72), sext24 (p / 2 ^ 48), sext24 (p / 2 ^ 24), sext24 p]
    s.takePlain false 2 p = s.setAmp { s.amp with lo := some words } ∧
      s.takePlain false 3 p = s.setAmp { s.amp with hi := some words } := by
  have h : addrs 0 1 4 = [0, 1, 2, 3] := by decide
  simp [State.takePlain, h]

theorem State.takeSense_channel (s : State) {p : Nat} (h : payBits p 92 90 = 0) :
    s.takeSense p = s.setReg (Reg.PWR_TLM (payBits p 95 93)) (BitVec.ofNat 32 (payBits p 63 32)) := by
  simp only [State.takeSense, h]

theorem State.takeRegWr_known (s : State) {p : Nat} (ha : onSupply (payBits p 87 64) = true)
    (hd : (regDesc (payBits p 87 64)).isSome = true) : s.takeRegWr p =
      (s.supplyWrite (payBits p 87 64) (BitVec.ofNat 32 (payBits p 63 32))).queueFlit false 7 (rspPayload (payBits p 95 88) 0 0) := by
  simp only [State.takeRegWr, ha, hd, Bool.and_self, if_true]

theorem State.takeRegWr_elsewhere (s : State) {p : Nat} (ha : onSupply (payBits p 87 64) = false) :
    s.takeRegWr p = s.queueFlit false 7 (rspPayload (payBits p 95 88) 1 0) := by
  simp only [State.takeRegWr, ha, Bool.false_and, Bool.false_eq_true, if_false]

theorem State.takeRegRd_known (s : State) {p : Nat} (ha : onSupply (payBits p 87 64) = true)
    (hd : (regDesc (payBits p 87 64)).isSome = true) : s.takeRegRd p =
      s.bumpFree.queueFlit false 7 (rspPayload (payBits p 95 88) 0 (s.supplyView (payBits p 87 64))) := by
  simp only [State.takeRegRd, ha, hd, Bool.and_self, if_true]

/-- The answer to a tunnelled read that waits for it (R416). -/
theorem State.takeRegRsp_read (s : State) {p : Nat} {x : Tunnel}
    (hx : s.amp.tunnels.find? (fun t => t.tag == payBits p 95 88) = some x) (hst : payBits p 87 80 = 0) (hrd : x.wr = false) :
    s.takeRegRsp p = (s.setAmp { s.amp with tunnels := s.amp.tunnels.filter (fun t => t.tag != payBits p 95 88) }).send
      (.answer (BitVec.ofNat 32 (payBits p 63 32))) := by
  simp [State.takeRegRsp, hx, hst, hrd]

theorem State.takeMbxFlit_empty (s : State) {p : Nat} (hn : 56 ≤ payBits p 95 90) (hfree : (s.mbx (payBits p 95 90)).full = false) :
    s.takeMbxFlit true p = (s.mbxWrite (payBits p 95 90) (BitVec.ofNat 32 (payBits p 63 32)) 4).1 := by
  have hbad : ¬ (payBits p 95 90 < 56 ∨ (s.mbx (payBits p 95 90)).full = true) := by
    simp [hfree, hn]
  simp only [State.takeMbxFlit, if_true, if_neg hbad]

theorem State.takeEvtFlit_listed (s : State) {p : Nat} (hn : payBits p 95 88 ≠ 205) (hl : eventListed (payBits p 95 88) = true)
    (he : eventLevel (payBits p 95 88) = false) : s.takeEvtFlit p = s.raise (payBits p 95 88) (payBits p 63 32) := by
  simp only [State.takeEvtFlit, if_neg hn, hl, he, Bool.not_false, Bool.and_self, if_true]

/-- Settles O28: an arrival in reset, with a bad CRC, unsequenced and in order, and what each type then does. -/
theorem flitReception : Obligations.FlitReception := by
  intro f s p m d words next inOrder
  refine ⟨fun hr hg => ?badMain, fun hr hg => ?badSupply, fun hr => ?inReset, fun hr hg => ?good⟩
  case badMain =>
    have h : (.next (s.receiveFlit true f) : Answer) = .next ((s.countLinkErr 0).sendNak true) :=
      congrArg _ (s.receiveFlit_bad_main hr hg)
    exact ⟨h, h, h, h, h, h⟩
  case badSupply =>
    have h : (.next (s.receiveFlit false f) : Answer) = .next ((s.supplyEvent 205 1).sendNak false) :=
      congrArg _ (s.receiveFlit_bad_supply hr hg)
    exact ⟨h, h, h, h, h, h, h, h⟩
  case inReset =>
    have h : (.next (s.receiveFlit true f) : Answer) = .next s := congrArg _ (s.receiveFlit_in_reset f hr)
    exact ⟨h, h, h⟩
  case good =>
    have plain (b : Bool) {t : Nat} (ht : flitType f = t) (hplain : ¬ (5 ≤ t ∧ t ≤ 9)) :=
      s.receiveFlit_plain b hr hg ht hplain
    have seq (b : Bool) {t : Nat} (ht : flitType f = t) (hseq : inOrder s b) (h : 5 ≤ t ∧ t ≤ 9) :=
      s.receiveFlit_in_order b hr hg ht hseq h
    refine ⟨fun ht hp => ?idle, fun ht => ?row, fun ht => ?lo, fun ht => ?hi, fun ht hk => ?sense, fun ht => ?nak,
      fun ht hs ha hd => ?write, fun ht hs ha hd => ?read, fun ht hs ha => ?elsewhere, fun ht hs x hx hst hrd => ?answer,
      fun ht hs hn hfree => ?mailbox, fun ht hs hn hl he => ?event⟩
    case idle =>
      have hidle (b : Bool) : s.receiveFlit b f = s.takeAck b (flitAck f) (flitCredit f) :=
        (plain b ht (by decide)).trans (if_pos hp)
      exact ⟨congrArg Host.Outcome.next (hidle true), congrArg Host.Outcome.next (hidle false)⟩
    case nak =>
      have hnak (b : Bool) : s.receiveFlit b f =
          (s.takeAck b (flitAck f) (flitCredit f)).replay b (payBits p 95 92) := plain b ht (by decide)
      exact ⟨congrArg Host.Outcome.next (hnak true), congrArg Host.Outcome.next (hnak false)⟩
    all_goals refine congrArg Host.Outcome.next ?_
    case row => exact plain false ht (by decide)
    case lo => exact (plain false ht (by decide)).trans (d.takePlain_words p).1
    case hi => exact (plain false ht (by decide)).trans (d.takePlain_words p).2
    case sense => exact (plain true ht (by decide)).trans (m.takeSense_channel hk)
    case write => exact (seq false ht hs (by decide)).trans (State.takeRegWr_known _ ha hd)
    case read => exact (seq false ht hs (by decide)).trans (State.takeRegRd_known _ ha hd)
    case elsewhere => exact (seq false ht hs (by decide)).trans (State.takeRegWr_elsewhere _ ha)
    case answer => exact (seq true ht hs (by decide)).trans (State.takeRegRsp_read _ hx hst hrd)
    case mailbox => exact (seq true ht hs (by decide)).trans (State.takeMbxFlit_empty _ hn hfree)
    case event => exact (seq true ht hs (by decide)).trans (State.takeEvtFlit_listed _ hn hl he)

end Sys2Proof.Machine

/-! ## Results in flight -/

namespace Sys2Proof.Machine

theorem Core.tickOnce_of_due {k : Core} {b1 : Bool} {w : Write} (h : k.flights = [⟨1, b1, w⟩]) :
    k.tickOnce = ({ k with flights := [], cycle := (k.cycle + 1) % 2 ^ 32 } : Core).apply b1 w := by
  cases hw : w.isSticky <;> simp [Core.tickOnce, h, Core.applyAll, hw]

theorem Core.tickOnce_of_later {k : Core} {b1 : Bool} {w : Write} {n : Nat} (h : k.flights = [⟨n + 2, b1, w⟩]) :
    k.tickOnce = { k with flights := [⟨n + 1, b1, w⟩], cycle := (k.cycle + 1) % 2 ^ 32 } := by
  simp [Core.tickOnce, h, Core.applyAll]

theorem Core.tickOnce_of_empty {k : Core} (h : k.flights = []) :
    k.tickOnce = { k with cycle := (k.cycle + 1) % 2 ^ 32 } := by
  simp [Core.tickOnce, h, Core.applyAll]

/-- Cycles that end one after another: the last one may be counted apart. -/
theorem Core.advance_succ (k : Core) (n : Nat) : k.advance (n + 1) = (k.advance n).tickOnce := by
  induction n generalizing k with
  | zero => rfl
  | succ n ih => exact ih k.tickOnce

/-- One result in flight, until the cycle at whose end it is due. -/
theorem Core.advance_until_due {k : Core} {n : Nat} {b1 : Bool} {w : Write} (h : k.flights = [⟨n + 1, b1, w⟩]) :
    k.advance n = { k with flights := [⟨1, b1, w⟩], cycle := if n = 0 then k.cycle else (k.cycle + n) % 2 ^ 32 } := by
  induction n generalizing k with
  | zero => simp [Core.advance, ← h]
  | succ n ih =>
    rw [Core.advance, Core.tickOnce_of_later h, ih rfl]
    have hcycle : (if n = 0 then (k.cycle + 1) % 2 ^ 32 else ((k.cycle + 1) % 2 ^ 32 + n) % 2 ^ 32) =
        (k.cycle + (n + 1)) % 2 ^ 32 := by
      split <;> omega
    simp only [hcycle, Nat.succ_ne_zero, if_false]

/-- Settles O13: the result waits for n cycles and is written at the end of the next. -/
theorem latency : Obligations.Latency := by
  intro k n b1 w h
  refine ⟨Core.advance_until_due h, ?_⟩
  rw [Core.advance_succ, Core.advance_until_due h, Core.tickOnce_of_due rfl]
  have hcycle : ((if n = 0 then k.cycle else (k.cycle + n) % 2 ^ 32) + 1) % 2 ^ 32 = (k.cycle + (n + 1)) % 2 ^ 32 := by
    split <;> omega
  simp only [hcycle]

/-! ## A result written to its bank (R52, R55, R74) -/

@[simp] theorem Core.setBank_bank (k : Core) (b1 : Bool) (bk : Bank) :
    (if b1 then (k.setBank b1 bk).bank1 else (k.setBank b1 bk).bank0) = bk := by
  cases b1 <;> rfl

/-- A bank replaced by itself. -/
@[simp] theorem Core.setBank_self (k : Core) (b1 : Bool) : k.setBank b1 (if b1 then k.bank1 else k.bank0) = k := by
  cases b1 <;> rfl

/-- Is the write one of a banked register? The control registers GIE, IEN, MBSEL and XSTAT are not banked (R54). -/
def Write.banked : Write → Bool
  | .ctrl idx _ => idx ≠ 0x0B ∧ idx ≠ 0x0C ∧ idx ≠ 0x0E ∧ idx ≠ 0x0F
  | _ => true

/-- A write of a banked register acts on its bank alone. -/
theorem Core.apply_banked {w : Write} (h : w.banked = true) (k : Core) (b1 : Bool) :
    k.apply b1 w = k.setBank b1 (bankApply (if b1 then k.bank1 else k.bank0) w) := by
  unfold Core.apply
  split
  iterate 4 exact absurd h (by simp [Write.banked])
  rfl

/-- The control registers without a state of their own in a bank, the read-only ones among them, take no write
(R54). -/
theorem bankApply_ctrl_unwritable (b : Bank) {idx : Nat} (h : idx = 0 ∨ 8 ≤ idx) (w : Word) :
    bankApply b (.ctrl idx w) = b := by
  simp only [bankApply]
  split
  iterate 7 omega
  rfl

/-- FLAGS after a write of FLAGS[3:0]: the low half as written, the sticky half as before (R55). -/
theorem nzcvWritten_bits (old : BitVec 8) (f : BitVec 4) :
    ((old &&& 0xF0#8) ||| f.setWidth 8).setWidth 4 = f ∧
      ((old &&& 0xF0#8) ||| f.setWidth 8).extractLsb' 4 4 = old.extractLsb' 4 4 := by
  constructor
  · ext i hi
    interval_cases i <;> simp
  · ext i hi
    interval_cases i <;> simp

/-- Settles O14: a banked write replaces its bank by `bankApply`, whose effect on each register is a table write. -/
theorem resultFrame : Obligations.ResultFrame := by
  intro k b1 n m v x w f g fwd old bk kept
  have written (r : Write) (hr : r.banked = true) : bk r = bankApply old r := by
    simp only [bk, Core.apply_banked hr, Core.setBank_bank, old]
  have keeps {r : Write} (hr : r.banked = true) : kept r := by
    simp only [kept, written r hr]
    exact Core.apply_banked hr k b1
  refine ⟨⟨keeps rfl, ?d⟩, ⟨keeps rfl, ?a⟩, ⟨keeps rfl, ?p⟩, ⟨keeps rfl, ?b⟩, ⟨keeps rfl, ?l⟩, ⟨keeps rfl, ?m⟩,
    ⟨keeps rfl, ?s⟩, ⟨keeps rfl, ?nzcv⟩, ⟨keeps rfl, written _ rfl⟩, ⟨keeps rfl, written _ rfl⟩, ⟨keeps rfl, written _ rfl⟩,
    ⟨keeps rfl, written _ rfl⟩, rfl, rfl, fun idx hidx => ?unwritable⟩
  case unwritable =>
    rw [Core.apply_banked (by simp [Write.banked]; omega), bankApply_ctrl_unwritable _ (by omega), Core.setBank_self]
  all_goals rw [written _ (by rfl)]
  case nzcv => exact ⟨rfl, nzcvWritten_bits old.flags f⟩
  all_goals exact ⟨Table.get_set .., rfl⟩

end Sys2Proof.Machine

/-! ## Faults (R87) -/

namespace Sys2Proof.Machine

/-- With nothing in flight there is nothing to wait for. -/
theorem Core.drain_of_empty {k : Core} (h : k.flights = []) : k.drain = k := by
  rw [Core.drain, if_pos (by simp [h]), Core.advance]

/-- What a faulting core is left as, once its results have retired. -/
def Core.faulted (k : Core) : Core :=
  { k.endChannels k.busy k.busy with
    state := .faulted, slots := 0, heldSlots := 0, taken := false, noAccept := false, xwait := 0, xfers := [], rowOwed := false,
    haltOwed := false, swapOwed := none, fade := .none }

/-- CORE_FAULT and CORE_FADDR of core `c` are loaded. -/
def State.loadFault (s : State) (c cause addr pc : Nat) (b1 : Bool) : State :=
  (((s.put (fdCore Fld.CLU_CORE_FAULT_CAUSE c) cause).flag (fdCore Fld.CLU_CORE_FAULT_BANK c) b1).put
    (fdCore Fld.CLU_CORE_FAULT_PC c) (pc % 0x2000)).setReg (Reg.CLU_CORE_FADDR (c / 8) (c % 8)) (BitVec.ofNat 32 addr)

theorem State.coreFault_eq (s : State) (c cause addr pc : Nat) (b1 : Bool) : s.coreFault c cause addr pc b1 =
    ((s.setCore c (s.core c).drain.faulted).loadFault c cause addr pc b1).raise 35 (c + cause * 256) := rfl

/-- An occurrence of a source writes the source's status word and INFO, and no other register (R482). -/
theorem State.reg_raise_other (s : State) (n i : Nat) {a : Nat} (hs : a ≠ (fdStatus n).addr) (hi : a ≠ Reg.EVT_INFO n) :
    (s.raise n i).reg a = s.reg a := by
  simp [State.raise, State.flag, State.put, State.reg_setReg, hs, hi]

theorem State.reg_raise_info (s : State) (n i : Nat) : (s.raise n i).reg (Reg.EVT_INFO n) = BitVec.ofNat 32 i := by
  simp [State.raise]

/-- The status bit of the source is set. -/
theorem State.on_raise_status (s : State) (n i : Nat) (h : (fdStatus n).addr ≠ Reg.EVT_INFO n) :
    (s.raise n i).on (fdStatus n) = true := by
  have hreg : (s.raise n i).reg (fdStatus n).addr = (s.flag (fdStatus n) true).reg (fdStatus n).addr := by
    simp [State.raise, State.reg_setReg, h]
  have hon := s.on_flag_same (fdStatus n) true rfl (Nat.le_of_lt_succ (Nat.mod_lt n (by decide)))
  rw [State.on, State.get] at hon ⊢
  rw [hreg, hon]

theorem State.core_raise (s : State) (n i c : Nat) : (s.raise n i).core c = s.core c := (OnlyFabric.raise s n i).core c

theorem State.reg_put_other (s : State) {f : Fd} {v a : Nat} (h : a ≠ f.addr) : (s.put f v).reg a = s.reg a :=
  s.reg_setReg_other _ _ _ h

theorem State.put_frame (s : State) (f : Fd) (v : Nat) : ∃ r, s.put f v = { s with regs := r } := ⟨_, rfl⟩

section
variable (s : State) {c cause addr pc : Nat} {b1 : Bool}

/-- The fault registers of a core are not those of the event sources. -/
theorem faultRegs_not_event (c : Nat) : Reg.EVT_INFO 35 < Reg.CLU_CORE_FAULT (c / 8) (c % 8) ∧
    Reg.CLU_CORE_FAULT (c / 8) (c % 8) < Reg.CLU_CORE_FADDR (c / 8) (c % 8) ∧ (fdStatus 35).addr < Reg.EVT_INFO 35 := by
  simp only [Reg.EVT_INFO, Reg.CLU_CORE_FAULT, Reg.CLU_CORE_FADDR, fdStatus, Reg.EVT_STATUS]
  omega

theorem State.reg_loadFault_other {a : Nat} (hf : a ≠ Reg.CLU_CORE_FAULT (c / 8) (c % 8))
    (ha : a ≠ Reg.CLU_CORE_FADDR (c / 8) (c % 8)) : (s.loadFault c cause addr pc b1).reg a = s.reg a := by
  rw [State.loadFault, State.reg_setReg_other _ _ _ _ ha]
  rw [State.reg_put_other _ (by exact hf), State.flag, State.reg_put_other _ (by exact hf),
    State.reg_put_other _ (by exact hf)]

theorem State.loadFault_frame : ∃ r, s.loadFault c cause addr pc b1 = { s with regs := r } := by
  obtain ⟨r1, h1⟩ := s.put_frame (fdCore Fld.CLU_CORE_FAULT_CAUSE c) cause
  obtain ⟨r2, h2⟩ := State.put_frame { s with regs := r1 } (fdCore Fld.CLU_CORE_FAULT_BANK c) b1.toNat
  obtain ⟨r3, h3⟩ := State.put_frame { s with regs := r2 } (fdCore Fld.CLU_CORE_FAULT_PC c) (pc % 0x2000)
  rw [State.loadFault, State.flag, h1, h2, h3]
  exact ⟨_, rfl⟩

theorem State.core_loadFault (d : Nat) : (s.loadFault c cause addr pc b1).core d = s.core d := by
  rw [State.loadFault, State.core_setReg, State.core_put, State.flag, State.core_put, State.core_put]

theorem State.reg_loadFault_faddr :
    (s.loadFault c cause addr pc b1).reg (Reg.CLU_CORE_FADDR (c / 8) (c % 8)) = BitVec.ofNat 32 addr :=
  State.reg_setReg_same ..

/-- CORE_FADDR is not CORE_FAULT, so what is loaded there leaves the fields of CORE_FAULT. -/
theorem State.get_loadFault {f : Fd} (hf : f.addr = Reg.CLU_CORE_FAULT (c / 8) (c % 8)) :
    (s.loadFault c cause addr pc b1).get f = (((s.put (fdCore Fld.CLU_CORE_FAULT_CAUSE c) cause).flag
      (fdCore Fld.CLU_CORE_FAULT_BANK c) b1).put (fdCore Fld.CLU_CORE_FAULT_PC c) (pc % 0x2000)).get f := by
  have h : f.addr ≠ Reg.CLU_CORE_FADDR (c / 8) (c % 8) := by have := faultRegs_not_event c; omega
  rw [State.get, State.loadFault, State.reg_setReg_other _ _ _ _ h, ← State.get]

theorem State.get_loadFault_cause (h : cause < 16) :
    (s.loadFault c cause addr pc b1).get (fdCore Fld.CLU_CORE_FAULT_CAUSE c) = cause := by
  rw [State.get_loadFault _ rfl, State.get_put_disjoint _ _ (Nat.zero_le _) (by decide : 12 ≤ 31) (.inr (by decide : 12 < 20)),
    State.flag, State.get_put_disjoint _ _ (le_refl 16) (by decide : 16 ≤ 31) (.inr (by decide : 16 < 20)),
    State.get_put_same _ _ _ (by decide : 20 ≤ 23) (by decide : 23 ≤ 31)]
  exact Nat.mod_eq_of_lt h

theorem State.get_loadFault_bank :
    (s.loadFault c cause addr pc b1).get (fdCore Fld.CLU_CORE_FAULT_BANK c) = b1.toNat := by
  rw [State.get_loadFault _ rfl, State.get_put_disjoint _ _ (Nat.zero_le _) (by decide : 12 ≤ 31) (.inr (by decide : 12 < 16)),
    State.flag, State.get_put_same _ _ _ (le_refl 16) (by decide : 16 ≤ 31)]
  exact Nat.mod_eq_of_lt b1.toNat_lt

theorem State.get_loadFault_pc (h : pc < 0x2000) :
    (s.loadFault c cause addr pc b1).get (fdCore Fld.CLU_CORE_FAULT_PC c) = pc := by
  rw [State.get_loadFault _ rfl, State.get_put_same _ _ _ (Nat.zero_le _) (by decide : 12 ≤ 31)]
  exact (Nat.mod_mod _ _).trans (Nat.mod_eq_of_lt h)

end

/-- Settles O12: the core is replaced by a faulted one, its fault registers are loaded, and event source 35 is raised, which
reaches none of them. -/
theorem faultEffect : Obligations.FaultEffect := by
  intro c cause addr pc b1 s hcause hpc hfl t k
  obtain ⟨hinfo, hfaddr, hstatus⟩ := faultRegs_not_event c
  let u := (s.setCore c k.faulted).loadFault c cause addr pc b1
  have ht : t = u.raise 35 (c + cause * 256) := by
    simp only [t, u, k, State.coreFault_eq, Core.drain_of_empty hfl]
  have hreg {a : Nat} (hs : a ≠ (fdStatus 35).addr) (hi : a ≠ Reg.EVT_INFO 35) : t.reg a = u.reg a := by
    rw [ht, State.reg_raise_other _ _ _ hs hi]
  have hget {f : Fd} (hf : f.addr = Reg.CLU_CORE_FAULT (c / 8) (c % 8)) : t.get f = u.get f := by
    rw [State.get, hreg (by omega) (by omega), State.get]
  have hcore (d : Nat) : t.core d = (s.setCore c k.faulted).core d := by
    rw [ht, State.core_raise, State.core_loadFault]
  have hself : t.core c = k.faulted := (hcore c).trans (State.core_setCore_same ..)
  refine ⟨(hget rfl).trans (State.get_loadFault_cause _ hcause), (hget rfl).trans (State.get_loadFault_bank _),
    (hget rfl).trans (State.get_loadFault_pc _ hpc), (hreg (by omega) (by omega)).trans (State.reg_loadFault_faddr _),
    ht ▸ State.on_raise_status _ _ _ (by omega), ht ▸ State.reg_raise_info .., ?_, ?_, ?_, ?_, ?_,
    fun d hd => (hcore d).trans (State.core_setCore_other _ _ _ _ hd), fun a hf ha hs hi => ?_, ?_⟩
  iterate 2 rw [hself]; rfl
  · rw [hself]; exact BitVec.and_not_self _
  iterate 2 rw [hself]; rfl
  · rw [hreg hs hi, State.reg_loadFault_other _ hf ha, State.reg_setCore]
  · obtain ⟨r, hu⟩ := (s.setCore c k.faulted).loadFault_frame (c := c) (cause := cause) (addr := addr) (pc := pc) (b1 := b1)
    obtain ⟨r', e, o, hr⟩ := u.raise_frame 35 (c + cause * 256)
    rw [ht, hr, show u = _ from hu]
    rfl

end Sys2Proof.Machine

/-! ## What retirement leaves of a core (R52, R54, R74) -/

namespace Sys2Proof.Machine

/-- `k'` is `k` after results retired and cycles passed: registers of the banks but no PC, the unbanked control registers, the
results in flight and CYCLE may differ. -/
structure Core.Retired (k k' : Core) : Prop where
  frame : k' = { k with
    bank0 := k'.bank0, bank1 := k'.bank1, gie := k'.gie, ien := k'.ien, mbsel := k'.mbsel, rej := k'.rej, done := k'.done,
    err := k'.err, flights := k'.flights, cycle := k'.cycle }
  pc0 : k'.bank0.pc = k.bank0.pc
  pc1 : k'.bank1.pc = k.bank1.pc

theorem Core.Retired.refl (k : Core) : k.Retired k := ⟨rfl, rfl, rfl⟩

theorem Core.Retired.trans {k k' k'' : Core} (h : k.Retired k') (h' : k'.Retired k'') : k.Retired k'' := by
  refine ⟨?_, h'.pc0.trans h.pc0, h'.pc1.trans h.pc1⟩
  conv_lhs => rw [h'.frame, h.frame]

theorem Core.Retired.state {k k' : Core} (h : k.Retired k') : k'.state = k.state := (congrArg Core.state h.frame :)

theorem Core.Retired.inBank1 {k k' : Core} (h : k.Retired k') : k'.inBank1 = k.inBank1 :=
  (congrArg Core.inBank1 h.frame :)

theorem Core.Retired.bank_pc {k k' : Core} (h : k.Retired k') : k'.bank.pc = k.bank.pc := by
  rw [Core.bank, Core.bank, h.inBank1]
  split
  · exact h.pc1
  · exact h.pc0

/-- No result is a PC. -/
theorem bankApply_pc (b : Bank) (w : Write) : (bankApply b w).pc = b.pc := by
  cases w with
  | ctrl idx v => simp only [bankApply]; split <;> rfl
  | _ => rfl

theorem Core.retired_setBank (k : Core) (b1 : Bool) {b : Bank} (h : b.pc = (if b1 then k.bank1 else k.bank0).pc) :
    k.Retired (k.setBank b1 b) := by
  cases b1
  · exact ⟨rfl, h, rfl⟩
  · exact ⟨rfl, rfl, h⟩

theorem Core.retired_apply (k : Core) (b1 : Bool) (w : Write) : k.Retired (k.apply b1 w) := by
  unfold Core.apply
  split
  iterate 4 exact ⟨rfl, rfl, rfl⟩
  exact k.retired_setBank b1 (bankApply_pc _ _)

theorem Core.retired_applyAll (p : Flight → Bool) (k : Core) (l : List Flight) : k.Retired (Core.applyAll p k l) := by
  induction l generalizing k with
  | nil => exact .refl k
  | cons f l ih =>
    refine .trans ?_ (ih _)
    split
    · exact k.retired_apply ..
    · exact .refl k

theorem Core.retired_tickOnce (k : Core) : k.Retired k.tickOnce := by
  have hclock (l : List Flight) (n : Nat) : k.Retired { k with flights := l, cycle := n } := ⟨rfl, rfl, rfl⟩
  exact ((hclock _ _).trans (retired_applyAll ..)).trans (retired_applyAll ..)

theorem Core.retired_advance (k : Core) (n : Nat) : k.Retired (k.advance n) := by
  induction n generalizing k with
  | zero => exact .refl k
  | succ n ih => exact k.retired_tickOnce.trans (ih _)

theorem Core.retired_drain (k : Core) : k.Retired k.drain :=
  (k.retired_advance _).trans ⟨rfl, rfl, rfl⟩

/-! ## What an instruction that has issued leaves (R77, R111, R113) -/

/-- `t` is `s` but for core `c`. -/
structure OnlyCore (c : Nat) (s t : State) : Prop where
  frame : t = { s with cores := t.cores }
  others : ∀ d, d ≠ c → t.core d = s.core d

theorem OnlyCore.refl (c : Nat) (s : State) : OnlyCore c s s := ⟨rfl, fun _ _ => rfl⟩

theorem OnlyCore.trans {c : Nat} {s t u : State} (h : OnlyCore c s t) (h' : OnlyCore c t u) : OnlyCore c s u := by
  refine ⟨?_, fun d hd => (h'.others d hd).trans (h.others d hd)⟩
  conv_lhs => rw [h'.frame, h.frame]

theorem OnlyCore.setCore (s : State) (c : Nat) (k : Core) : OnlyCore c s (s.setCore c k) :=
  ⟨rfl, fun d hd => s.core_setCore_other c d k hd⟩

theorem OnlyCore.afterIssue (s : State) (c : Nat) (b1 : Bool) (flow : Flow) (stall : Nat) :
    OnlyCore c s (s.afterIssue c b1 flow stall) := by
  unfold State.afterIssue
  split
  · exact .refl c s
  · exact .setCore s c _

/-- The core after it issued an instruction that falls through, before the results retire: the next word and one delay slot
less. -/
def Core.fellThrough (k : Core) (b1 : Bool) (stall : Nat) : Core :=
  let next := loopNext (if b1 then k.bank1 else k.bank0)
  { k.setBank b1 { next.1 with pc := if k.slots == 1 && k.taken then k.target else next.2 } with
    slots := k.slots - 1, noAccept := (decide (0 < k.slots) && k.taken) || decide (0 < stall) }

theorem State.afterIssue_seq (s : State) (c : Nat) (b1 : Bool) (stall : Nat) : s.afterIssue c b1 .seq stall =
    s.setCore c (((s.core c).fellThrough b1 stall).advance (1 + stall)) := rfl

/-- The core after a taken branch to `target` has issued, before the results retire. -/
def Core.branched (k : Core) (b1 : Bool) (target : Nat) : Core :=
  let next := loopNext (if b1 then k.bank1 else k.bank0)
  { k.setBank b1 { next.1 with pc := if k.slots == 1 && k.taken then k.target else next.2 } with
    slots := 2, taken := true, target := target, noAccept := true }

theorem State.afterIssue_taken (s : State) (c : Nat) (b1 : Bool) (target : Nat) : s.afterIssue c b1 (.taken target) 0 =
    s.setCore c (((s.core c).branched b1 target).advance 1) := rfl

section
variable (k : Core) (b1 : Bool) (b : Bank)

@[simp] theorem Core.setBank_state : (k.setBank b1 b).state = k.state := by cases b1 <;> rfl
@[simp] theorem Core.setBank_inBank1 : (k.setBank b1 b).inBank1 = k.inBank1 := by cases b1 <;> rfl
@[simp] theorem Core.setBank_xwait : (k.setBank b1 b).xwait = k.xwait := by cases b1 <;> rfl
@[simp] theorem Core.setBank_flights : (k.setBank b1 b).flights = k.flights := by cases b1 <;> rfl
@[simp] theorem Core.setBank_slots : (k.setBank b1 b).slots = k.slots := by cases b1 <;> rfl
@[simp] theorem Core.setBank_taken : (k.setBank b1 b).taken = k.taken := by cases b1 <;> rfl
@[simp] theorem Core.setBank_target : (k.setBank b1 b).target = k.target := by cases b1 <;> rfl

end

@[simp] theorem Core.bank_setBank_inBank1 (k : Core) (b : Bank) : (k.setBank k.inBank1 b).bank = b := by
  cases h : k.inBank1
  · exact if_neg (by simp [Core.setBank, Core.inBank1] at h ⊢; exact h)
  · exact if_pos (by simp [Core.setBank, Core.inBank1] at h ⊢; exact h)

/-- With no loop running the next word is the one after (R113). -/
theorem loopNext_of_no_loop {b : Bank} (h0 : b.lc0 = 0) (h1 : b.lc1 = 0) : loopNext b = (b, b.pc + 1) := by
  simp [loopNext, h0, h1]

/-! ## Delay slots -/

/-- The core runs at word `pc` with no loop running and nothing in flight, and is `n` delay slots before `dest` (R77). -/
structure Core.SlotsBefore (k : Core) (pc n dest : Nat) : Prop where
  runs : k.state = .row ∨ k.state = .handler
  xwait : k.xwait = 0
  flights : k.flights = []
  lc0 : k.bank.lc0 = 0
  lc1 : k.bank.lc1 = 0
  pc : k.bank.pc = pc
  slots : k.slots = n
  taken : k.taken = true
  target : k.target = dest

/-- A cycle passes. -/
theorem Core.SlotsBefore.tickOnce {k : Core} {pc n dest : Nat} (h : k.SlotsBefore pc n dest) :
    k.tickOnce.SlotsBefore pc n dest := by
  rw [Core.tickOnce_of_empty h.flights]
  exact { h with }

/-- A cycle passes, at whose end a return address is written. -/
theorem Core.SlotsBefore.tickOnce_link {k : Core} {pc n dest : Nat} (h : k.SlotsBefore pc n dest) (v : Word) :
    (k.push 1 k.inBank1 (.ctrl 1 v)).tickOnce.SlotsBefore pc n dest := by
  have hfl : (k.push 1 k.inBank1 (.ctrl 1 v)).flights = [⟨1, k.inBank1, .ctrl 1 v⟩] := by
    rw [Core.push, h.flights, List.nil_append]
  rw [Core.tickOnce_of_due hfl]
  generalize ((k.push 1 k.inBank1 (.ctrl 1 v)).cycle + 1) % 2 ^ 32 = cycle
  let u : Core := { k with flights := [], cycle := cycle }
  obtain ⟨hrun, hx, hfl, h0, h1, hpc, hs, ht, hd⟩ : u.SlotsBefore pc n dest := { h with flights := rfl }
  show (u.setBank u.inBank1 { u.bank with link := v.setWidth 13 }).SlotsBefore pc n dest
  constructor <;> simpa

/-- A taken branch leaves two delay slots before its target. -/
theorem Core.slotsBefore_branched {k : Core} (hrun : k.state = .row ∨ k.state = .handler) (hx : k.xwait = 0)
    (hfl : k.flights = []) (h0 : k.bank.lc0 = 0) (h1 : k.bank.lc1 = 0) (hs : k.slots = 0) (dest : Nat) :
    (k.branched k.inBank1 dest).SlotsBefore (k.bank.pc + 1) 2 dest := by
  have hb : (k.branched k.inBank1 dest).bank = { k.bank with pc := k.bank.pc + 1 } := by
    have hn : loopNext (if k.inBank1 then k.bank1 else k.bank0) = (k.bank, k.bank.pc + 1) := loopNext_of_no_loop h0 h1
    refine (k.bank_setBank_inBank1 _).trans ?_
    simp [hn, hs]
  exact ⟨by simpa [Core.branched], by simpa [Core.branched], by simpa [Core.branched], by simpa [hb], by simpa [hb],
    by rw [hb], rfl, rfl, rfl⟩

/-- One delay slot less: after the last one the core is at the target. -/
theorem Core.SlotsBefore.fellThrough {k : Core} {pc n dest : Nat} (h : k.SlotsBefore pc (n + 1) dest) :
    (k.fellThrough k.inBank1 0).SlotsBefore (if n = 0 then dest else pc + 1) n dest := by
  obtain ⟨hrun, hx, hfl, h0, h1, hpc, hs, ht, hd⟩ := h
  have hb : (k.fellThrough k.inBank1 0).bank = { k.bank with pc := if n = 0 then dest else pc + 1 } := by
    have hn : loopNext (if k.inBank1 then k.bank1 else k.bank0) = (k.bank, k.bank.pc + 1) := loopNext_of_no_loop h0 h1
    refine (k.bank_setBank_inBank1 _).trans ?_
    simp [hn, hs, ht, hd, hpc]
  exact ⟨by simpa [Core.fellThrough], by simpa [Core.fellThrough], by simpa [Core.fellThrough], by simpa [hb], by simpa [hb],
    by rw [hb], by simp [Core.fellThrough, hs], by simpa [Core.fellThrough], by simpa [Core.fellThrough]⟩

theorem Core.branched_push (k : Core) (b1 b1' : Bool) (n target : Nat) (w : Write) :
    (k.push n b1' w).branched b1 target = (k.branched b1 target).push n b1' w := by
  cases b1 <;> rfl

theorem Core.branched_inBank1 (k : Core) (b1 : Bool) (target : Nat) : (k.branched b1 target).inBank1 = k.inBank1 :=
  k.setBank_inBank1 b1 _

/-- A NOP in a delay slot. -/
theorem exec_nop_of_slotsBefore {c : Fin 128} {s : State} {pc n dest : Nat} (h : (s.core c).SlotsBefore pc (n + 1) dest)
    (hpc : pc < 0x2000) :
    ∃ t, exec (.nop c) s = .next t ∧ (t.core c).SlotsBefore (if n = 0 then dest else pc + 1) n dest := by
  have hruns : s.runs c := ⟨h.runs, h.xwait, h.pc ▸ hpc⟩
  refine ⟨_, congrArg Host.Outcome.next (s.issueCore_runs c id hruns), ?_⟩
  rw [State.afterIssue_seq, State.core_setCore_same, State.modCore, State.core_setCore_same]
  exact h.fellThrough.tickOnce

/-- A taken branch with or without a return address, of a core with no loop running and nothing in flight (R110). -/
theorem State.branchOp_slotsBefore {c : Nat} {s : State} (h : s.runs c) (hm : s.mayTransfer c) (hfl : (s.core c).flights = [])
    (h0 : (s.core c).bank.lc0 = 0) (h1 : (s.core c).bank.lc1 = 0) {cond : BitVec 4}
    (hc : condHolds cond (s.core c).bank.flags (s.core c).shed = true) (dest : Core → Nat) (link : Bool) :
    ((s.issue c true true true true (fun s => s.branchOp c cond dest link)).core c).SlotsBefore
      ((s.core c).bank.pc + 1) 2 (dest (s.core c)) := by
  have hb := Core.slotsBefore_branched h.1 h.2.1 hfl h0 h1 hm.1 (dest (s.core c))
  rw [State.issue_runs s c _ _ _ _ _ h rfl (by split <;> rfl) fun _ => hm]
  simp only [State.branchOp, if_pos hc, State.afterIssue_taken, State.core_setCore_same]
  cases link with
  | false => exact hb.tickOnce
  | true =>
    rw [if_pos rfl, State.core_setCore_same, Core.branched_push]
    have hlink := hb.tickOnce_link (BitVec.ofNat 32 ((s.core c).bank.pc + 3))
    rw [Core.branched_inBank1] at hlink
    exact hlink

/-- Settles O10: the branch leaves the core two delay slots before its target, and each NOP takes one. -/
theorem delaySlots : Obligations.DelaySlots := by
  intro c cond sn target s h hm hfl h0 h1 hpc hc i dest hi
  have hbranch : ∃ t1, exec i s = .next t1 ∧ (t1.core c).SlotsBefore ((s.core c).bank.pc + 1) 2 dest := by
    have branch := State.branchOp_slotsBefore h hm hfl h0 h1 hc
    rcases hi with ⟨rfl | rfl, rfl⟩ | ⟨rfl | rfl, rfl⟩ | ⟨rfl, rfl⟩
    all_goals exact ⟨_, rfl, branch _ _⟩
  obtain ⟨t1, e1, h1⟩ := hbranch
  obtain ⟨t2, e2, h2⟩ := exec_nop_of_slotsBefore h1 (by omega)
  obtain ⟨t3, e3, h3⟩ := exec_nop_of_slotsBefore h2 (by simpa using hpc)
  exact ⟨t1, t2, t3, e1, e2, e3, h1.pc, h2.pc, h3.pc⟩

end Sys2Proof.Machine

/-! ## Timed parameters of the cores (R140 to R151) -/

namespace Sys2Proof.Machine

variable {s : State} {r : TpRec}

theorem State.applyDoorbell_of_none (h : (s.core r.core).dbPending = false) : s.applyDoorbell r = s.modCore r.core (fun k =>
    { k with dbPending := true, dbNew := true, dbIndex := BitVec.ofNat 16 r.index, dbValue := r.value }) := by
  simp [State.applyDoorbell, h]

theorem State.applySwap_coef (hp : r.prog = false) (hc : r.coef = true)
    (hr : s.on (fdCore Fld.CLU_CORE_BANKS_CREADY r.core) = true) (ht : s.twinReady 1 r.core s.tickRow = true) :
    s.applySwap r = (s.swapCoef r.core).modCore r.core Core.endBindoff := by
  simp [State.applySwap, hp, hc, hr, ht]

theorem State.applySwap_prog (hp : r.prog = true) (hc : r.coef = false) (hs : (s.core r.core).state ≠ .handler)
    (hr : s.on (fdCore Fld.CLU_CORE_BANKS_PREADY r.core) = true) (ht : s.twinReady 0 r.core s.tickRow = true) :
    s.applySwap r = s.castOn r.core r.keep r.withFade r.value r.row := by
  simp [State.applySwap, hp, hc, hr, ht, hs]

theorem State.applySwap_not_ready (hc : r.coef = true) (hr : s.on (fdCore Fld.CLU_CORE_BANKS_CREADY r.core) = false) :
    s.applySwap r = (s.count ctrSwapfail).raise 40 r.core := by
  simp [State.applySwap, hc, hr]

theorem State.applyBindoff_running
    (h : (s.core r.core).state = .row ∨ (s.core r.core).state = .wait ∨ (s.core r.core).state = .handler) :
    s.applyBindoff r = s.modCore r.core (fun k => { k with fade := .bindOff r.row }) := by
  rcases h with h | h | h <;> simp only [State.applyBindoff, State.modCore, h]

theorem State.applyBindoff_idle
    (h : (s.core r.core).state = .idle ∨ (s.core r.core).state = .halted ∨ (s.core r.core).state = .faulted) :
    s.applyBindoff r = s.modCore r.core Core.toReset := by
  rcases h with h | h | h <;> simp only [State.applyBindoff, State.modCore, h]

theorem exec_coreBindoffReset (c : Fin 128) {start : Word} (h : (s.core c).fade = .bindOff start) :
    exec (.coreBindoffReset c) s =
      .next (s.setCore c (if 64 ≤ (s.tickRow - start).toNat then (s.core c).toReset else s.core c)) := by
  show execCoreBindoffReset c s = _
  simp only [execCoreBindoffReset, State.modCore, h]

/-- Settles O16: the record at the front takes effect by its class's function, one lemma per case of which says what it does. The
state without the record, `u`, has the cores, the registers and the row index of `s`. -/
theorem timedParameters : Obligations.TimedParameters := by
  refine ⟨fun s r q hf => ?front, fun s hq => ?empty, fun c s start hfade => ?bindoff⟩
  case front =>
    intro u c off
    have front {p : TpRec → Bool} (hp : p r = true) (f : State → TpRec → State) : s.applyFirst p f = f u r :=
      State.applyFirst_front hf hp f
    have effect {p : TpRec → Bool} {f : State → TpRec → State} {t : State} (hp : p r = true) (hfr : f u r = t) :
        (.next (s.applyFirst p f) : Answer) = .next t := congrArg _ ((front hp f).trans hfr)
    have cls {n : Nat} (h : r.cls = n) : (r.cls == n) = true := beq_iff_eq.mpr h
    exact ⟨fun h hdb => effect (cls h) (State.applyDoorbell_of_none hdb),
      fun h => effect (cls h) rfl,
      fun h hp hc hr ht => effect (cls h) (State.applySwap_coef hp hc hr ht),
      fun h hp hc hs hr ht => effect (cls h) (State.applySwap_prog hp hc hs hr ht),
      fun h hc hr => effect (cls h) (State.applySwap_not_ready hc hr),
      fun h hs => effect (cls h) (State.applyBindoff_running hs),
      fun h hs => effect (cls h) (State.applyBindoff_idle hs)⟩
  case empty =>
    have unchanged (p : TpRec → Bool) (f : State → TpRec → State) : (.next (s.applyFirst p f) : Answer) = .next s :=
      congrArg _ (State.applyFirst_none (by simp [hq]) f)
    exact ⟨unchanged _ _, unchanged _ _, unchanged _ _, unchanged _ _⟩
  case bindoff =>
    refine ⟨fun h => ⟨?_, rfl, rfl, rfl⟩, fun h => ?_⟩
    · rw [exec_coreBindoffReset c hfade, if_pos h]
    · rw [exec_coreBindoffReset c hfade, if_neg (by omega)]

end Sys2Proof.Machine

/-! ## The row program's end, handlers and interrupts (R66, R78 to R90, R116) -/

namespace Sys2Proof.Machine

/-! ### Instructions that may not stand where they do -/

/-- An instruction with illegal fields, or illegal in the running bank, faults with cause 1 (R90, R117). -/
theorem State.issue_faults (s : State) (c : Nat) (ctl i0 i1 l : Bool) (body : State → Issued) (h : s.runs c)
    (hbad : l = false ∨ (if (s.core c).inBank1 then i1 else i0) = false) :
    s.issue c ctl i0 i1 l body = s.coreFault c 1 0 (s.core c).bank.pc (s.core c).inBank1 := by
  obtain ⟨hrun, hx, hpc⟩ := h
  have hlive : ¬ (((s.core c).state != .row && (s.core c).state != .handler) || (s.core c).xwait != 0) = true := by
    rcases hrun with h | h <;> simp [h, hx]
  refine (if_neg hlive).trans (if_pos (.inr ?_))
  rcases hbad with hl | hb
  · exact .inl (by simp [hl])
  · exact .inr (.inl (by simp [hb]))

theorem Core.inBank1_of_row {k : Core} (h : k.state = .row) : k.inBank1 = false := by simp [Core.inBank1, h]

theorem Core.inBank1_of_handler {k : Core} (h : k.state = .handler) : k.inBank1 = true := by simp [Core.inBank1, h]

/-! ### WAITROW -/

/-- The core that has posted its page. -/
def State.postedCore (s : State) (c : Nat) : Core :=
  let k := s.core c
  let post : RowPost :=
    { k.post with posted := true, window := memBytes k.ram 0 32, words := k.posted.filter (fun p => p.1 < s.dign c),
                  cycles := k.cycle }
  { k.drain with state := .wait, post := post, slots := 0, noAccept := false }

/-- A posted word goes to the sample store alone. -/
theorem State.sourceWrite_frame (s : State) (cls idx : Nat) (w : Word) : ∃ f, s.sourceWrite cls idx w = { s with fab := f } := by
  unfold State.sourceWrite
  split <;> exact ⟨_, rfl⟩

theorem State.foldl_sourceWrite_frame (l : List (Nat × Word)) (c : Nat) (s : State) :
    ∃ f, l.foldl (fun (s : State) p => s.sourceWrite 0x06 (512 * c + p.1) p.2) s = { s with fab := f } := by
  induction l generalizing s with
  | nil => exact ⟨_, rfl⟩
  | cons p l ih =>
    obtain ⟨f, hf⟩ := s.sourceWrite_frame 0x06 (512 * c + p.1) p.2
    obtain ⟨f', hf'⟩ := ih { s with fab := f }
    exact ⟨f', by rw [List.foldl_cons, hf, hf']⟩

/-- The posted words of core `c` stand in the sample store. -/
def State.withWords (s : State) (c : Nat) : State :=
  { s with fab := ((s.core c).posted.foldl (fun (s : State) p => s.sourceWrite 0x06 (512 * c + p.1) p.2) s).fab }

theorem State.postPage_eq (s : State) (c : Nat) : s.postPage c =
    ((s.withWords c).setCore c (s.postedCore c)).put (fdCore Fld.CLU_CORE_PEAK_CYCLES c)
      (max (s.get (fdCore Fld.CLU_CORE_PEAK_CYCLES c)) (s.core c).cycle) := by
  obtain ⟨f, hf⟩ := State.foldl_sourceWrite_frame (s.core c).posted c s
  rw [State.postPage, State.withWords, hf]
  rfl

/-- A field of all 32 bits is the word. -/
theorem bitsOf_word (w : Word) : bitsOf w 31 0 = w.toNat := by
  simp [bitsOf, Nat.mod_eq_of_lt w.isLt]

theorem withBits_word (w : Word) (v : Nat) : withBits w 31 0 v = BitVec.ofNat 32 (v % 2 ^ 32) := by
  apply BitVec.eq_of_toNat_eq
  simp [withBits, Nat.mod_one]

theorem State.get_peak (s : State) (c : Nat) :
    s.get (fdCore Fld.CLU_CORE_PEAK_CYCLES c) = (s.reg (fdCore Fld.CLU_CORE_PEAK_CYCLES c).addr).toNat := bitsOf_word _

/-- What an instruction that falls through leaves of its core: it moves on in its bank, and results retire. -/
theorem Core.advance_fellThrough_frame (k : Core) (b1 : Bool) (stall n : Nat) :
    let k' := (k.fellThrough b1 stall).advance n
    k' = { k with
      bank0 := k'.bank0, bank1 := k'.bank1, gie := k'.gie, ien := k'.ien, mbsel := k'.mbsel, rej := k'.rej, done := k'.done,
      err := k'.err, flights := k'.flights, cycle := k'.cycle, slots := k.slots - 1,
      noAccept := (decide (0 < k.slots) && k.taken) || decide (0 < stall) } := by
  intro k'
  conv_lhs => rw [show k' = _ from (Core.retired_advance _ n).frame]
  cases b1 <;> rfl

theorem exec_waitrow (c : Fin 128) (s : State) (h : s.runs c) (hs : (s.core c).state = .row) (hm : s.mayTransfer c) :
    exec (.waitrow c) s = .next ((s.postPage c).afterIssue c false .seq 0) := by
  have hb := Core.inBank1_of_row hs
  refine congrArg Host.Outcome.next ((State.issue_runs s c _ _ _ _ _ h rfl (by simp [hb]) fun _ => hm).trans ?_)
  rw [hb]

/-- A WAITROW that may stand posts the page, and the core waits. -/
theorem waitrow_posts (c : Fin 128) (s : State) (h : s.runs c) (hs : (s.core c).state = .row) (hm : s.mayTransfer c) :
    let k := s.core c
    let peak := fdCore Fld.CLU_CORE_PEAK_CYCLES c
    ∃ t, exec (.waitrow c) s = .next t ∧ (t.core c).state = .wait ∧ (t.core c).post.posted = true ∧
        (t.core c).post.window = memBytes k.ram 0 32 ∧ (t.core c).ram = k.ram ∧
        t.fab = (k.posted.foldl (fun s p => s.sourceWrite 0x06 (512 * c + p.1) p.2) s).fab ∧
        t = { s with cores := t.cores, fab := t.fab, regs := t.regs } ∧
        t.reg peak.addr = BitVec.ofNat 32 (max (s.reg peak.addr).toNat k.cycle % 2 ^ 32) ∧
        (∀ a, a ≠ peak.addr → t.reg a = s.reg a) ∧ (∀ d, d ≠ c.val → t.core d = s.core d) := by
  intro k peak
  let v := s.withWords c
  have hpage : s.postPage c = (v.setCore c (s.postedCore c)).put peak (max (s.get peak) k.cycle) := s.postPage_eq c
  obtain ⟨r, hframe⟩ := (v.setCore c (s.postedCore c)).put_frame peak (max (s.get peak) k.cycle)
  rw [← hpage] at hframe
  have hself : (s.postPage c).core c = s.postedCore c := by
    rw [hpage, State.core_put, State.core_setCore_same]
  have honly := OnlyCore.afterIssue (s.postPage c) c false .seq 0
  generalize ht : (s.postPage c).afterIssue c false .seq 0 = t at honly
  have hcore : t.core c = ((s.postedCore c).fellThrough false 0).advance 1 := by
    rw [← ht, State.afterIssue_seq, State.core_setCore_same, hself]
  have hk := (s.postedCore c).advance_fellThrough_frame false 0 1
  rw [← hcore] at hk
  have hregs (a : Nat) : t.reg a = (s.postPage c).reg a := by rw [honly.frame]; rfl
  refine ⟨t, ht ▸ exec_waitrow c s h hs hm, (congrArg Core.state hk :), (congrArg (fun k => k.post.posted) hk :),
    (congrArg (fun k => k.post.window) hk :), (congrArg Core.ram hk :).trans k.drain_ram, ?_, ?_, ?_, fun a ha => ?_,
    fun d hd => ?_⟩
  · rw [honly.frame, hframe]; rfl
  · rw [honly.frame, hframe]; rfl
  · rw [hregs, hpage, State.put, State.reg_setReg_same, ← s.get_peak]
    exact withBits_word _ _
  · rw [hregs, hpage, State.reg_put_other _ ha]; rfl
  · rw [honly.others d hd, hpage, State.core_put, State.core_setCore_other _ _ _ _ hd]; rfl

/-! ### RETI -/

/-- The core that a handler with nothing owed leaves: back in bank 0, with the words that waited there (R80, R111). -/
def Core.returned (k : Core) : Core :=
  { k with state := if k.fromWait then .wait else .row, slots := k.heldSlots, heldSlots := 0, taken := false }

theorem State.retiReturn_plain (s : State) (c : Nat) (hr : (s.core c).rowOwed = false) (hh : (s.core c).haltOwed = false)
    (hw : (s.core c).swapOwed = none) :
    OnlyCore c s (s.retiReturn c) ∧ (s.retiReturn c).core c = (s.core c).returned := by
  constructor
  · simp only [State.retiReturn, hw]
    exact (OnlyCore.setCore ..).trans (.setCore ..)
  · simp [State.retiReturn, State.modCore, Core.returned, hr, hh, hw]

theorem exec_reti (c : Fin 128) (s : State) (h : s.runs c) (hs : (s.core c).state = .handler) (hm : s.mayTransfer c) :
    exec (.reti c) s = .next ((s.afterIssue c true .seq 1).retiReturn c) :=
  congrArg Host.Outcome.next
    (State.issue_runs s c _ _ _ _ _ h rfl (by simp [Core.inBank1_of_handler hs]) fun _ => hm)

/-- What a handler owes, where it came from and what waits there are not changed by an instruction that falls through. -/
theorem reti_returns (c : Fin 128) (s : State) (h : s.runs c) (hs : (s.core c).state = .handler) (hm : s.mayTransfer c)
    (hr : (s.core c).rowOwed = false) (hh : (s.core c).haltOwed = false) (hw : (s.core c).swapOwed = none) :
    ∃ t, exec (.reti c) s = .next t ∧ OnlyCore c s t ∧ t.core c = { (s.afterIssue c true .seq 1).core c with
      state := if (s.core c).fromWait then .wait else .row, slots := (s.core c).heldSlots, heldSlots := 0, taken := false } := by
  have honly := OnlyCore.afterIssue s c true .seq 1
  have hk := (s.core c).advance_fellThrough_frame true 1 2
  have hu : (s.afterIssue c true .seq 1).core c = ((s.core c).fellThrough true 1).advance 2 := by
    rw [State.afterIssue_seq, State.core_setCore_same]
  rw [← hu] at hk
  generalize hv : s.afterIssue c true .seq 1 = v at *
  obtain ⟨hret, hcore⟩ := v.retiReturn_plain c ((congrArg Core.rowOwed hk :).trans hr) ((congrArg Core.haltOwed hk :).trans hh)
    ((congrArg Core.swapOwed hk :).trans hw)
  refine ⟨_, hv ▸ exec_reti c s h hs hm, honly.trans hret, ?_⟩
  have hfrom : (v.core c).fromWait = (s.core c).fromWait := (congrArg Core.fromWait hk :)
  have hheld : (v.core c).heldSlots = (s.core c).heldSlots := (congrArg Core.heldSlots hk :)
  rw [hcore, ← hfrom, ← hheld]
  rfl

/-! ### Interrupts -/

/-- The vector, and where the handler came from; a result that retires in the switch cycle changes neither. -/
theorem Core.tickOnce_enterHandler (k : Core) (vec : Nat) : (k.enterHandler vec).tickOnce.state = .handler ∧
    (k.enterHandler vec).tickOnce.bank1.pc = vec ∧ (k.enterHandler vec).tickOnce.fromWait = (k.state == .wait) := by
  have h : (k.enterHandler vec).state = .handler ∧ (k.enterHandler vec).bank1.pc = vec ∧
      (k.enterHandler vec).fromWait = (k.state == .wait) := by
    unfold Core.enterHandler
    split
    · exact ⟨rfl, rfl, rfl⟩
    · split <;> exact ⟨rfl, rfl, rfl⟩
  have hr := (k.enterHandler vec).retired_tickOnce
  exact ⟨hr.state.trans h.1, hr.pc1.trans h.2.1, (congrArg Core.fromWait hr.frame :).trans h.2.2⟩

theorem Core.noAccept_of_mayAccept {k : Core} (h : k.mayAccept = true) : k.noAccept = false := by
  simp only [Core.mayAccept, Bool.and_eq_true, Bool.not_eq_true'] at h
  exact h.2

/-- A core that may accept enters the handler of the source it selects. -/
theorem interruptAccept_enters (c : Fin 128) (idle : Fin 65536) (s : State) {vec : Nat} (h : (s.core c).mayAccept = true)
    (hv : (s.core c).acceptSource (s.watchedFull c) = some vec) :
    ∃ t, exec (.interruptAccept c idle) s = .next t ∧ (t.core c).state = .handler ∧ (t.core c).bank1.pc = vec ∧
      (t.core c).fromWait = ((s.core c).state == .wait) ∧ OnlyCore c s t := by
  let n : Nat := if (s.core c).state == .wait then idle else 0
  have hexec : exec (.interruptAccept c idle) s =
      .next (s.setCore c ((((s.core c).advance n).enterHandler vec).tickOnce)) := by
    show execInterruptAccept c idle s = _
    have hk : { s.core c with
        noAccept := (s.core c).noAccept && !((s.core c).state == .wait && decide (0 < idle.val)) } = s.core c := by
      rw [Core.noAccept_of_mayAccept h, Bool.false_and, ← Core.noAccept_of_mayAccept h]
    simp only [execInterruptAccept, hk, hv, h, if_true, n]
  obtain ⟨hstate, hpc, hfrom⟩ := ((s.core c).advance n).tickOnce_enterHandler vec
  refine ⟨_, hexec, ?_, ?_, ?_, .setCore ..⟩ <;> rw [State.core_setCore_same]
  · exact hstate
  · exact hpc
  · rw [hfrom, ((s.core c).retired_advance n).state]

theorem exec_clrfault (c : Fin 128) (s : State) (h : (s.core c).state = .faulted) :
    exec (.clrfault c) s = .next (s.setCore c { (s.core c).clearRegs with state := .idle }) := by
  show execClrfault c s = _
  simp [execClrfault, State.clearFault, State.modCore, h]

/-- Settles O11: each command by the lemma that says what it does where it may stand, and the two that may not. -/
theorem rowEndAndInterrupts : Obligations.RowEndAndInterrupts := by
  intro c s k peak
  refine ⟨fun h hs hm => waitrow_posts c s h hs hm, fun h hs => ?waitrow, fun h hs => ?reti, fun h hs hm hr hh hw => ?returns,
    fun idle hmay => ?accept, fun hs => ⟨_, exec_clrfault c s hs, ?cleared⟩, fun w h hw => ?illegal⟩
  case waitrow =>
    have hb : (s.core c).inBank1 = true := Core.inBank1_of_handler hs
    refine congrArg Host.Outcome.next ((State.issue_faults s c _ _ _ _ _ h (.inr (by simp [hb]))).trans ?_)
    rw [hb]
  case reti =>
    have hb : (s.core c).inBank1 = false := Core.inBank1_of_row hs
    refine congrArg Host.Outcome.next ((State.issue_faults s c _ _ _ _ _ h (.inr (by simp [hb]))).trans ?_)
    rw [hb]
  case returns =>
    obtain ⟨t, he, honly, hcore⟩ := reti_returns c s h hs hm hr hh hw
    exact ⟨t, he, honly.frame, honly.others, hcore⟩
  case accept =>
    intro fire
    have enters {vec : Nat} (hv : k.acceptSource (s.watchedFull c) = some vec) : fire vec := by
      obtain ⟨t, he, hstate, hpc, hfrom, honly⟩ := interruptAccept_enters c idle s hmay hv
      exact ⟨t, he, hstate, hpc, hfrom, honly.frame, honly.others⟩
    refine ⟨fun ⟨hd, hi⟩ => enters ?_, fun ⟨hd, hx, hi⟩ => enters ?_, fun ⟨hd, hx, hf, hi⟩ => enters ?_⟩
    · simp [Core.acceptSource, hd, hi]
    · simp [Core.acceptSource, hd, hx, hi]
    · simp [Core.acceptSource, hd, hx, hf, hi]
  case cleared =>
    have honly := OnlyCore.setCore s c { k.clearRegs with state := .idle }
    refine ⟨honly.frame, honly.others, ?_⟩
    rw [State.core_setCore_same]
    exact ⟨rfl, rfl, rfl, rfl, rfl, rfl, rfl, rfl⟩
  case illegal =>
    refine congrArg Host.Outcome.next ((if_pos (by rw [hw]; rfl)).trans ?_)
    exact State.issue_faults s c _ _ _ _ _ h (.inl rfl)

end Sys2Proof.Machine

/-! ## Moves, saturating results and accumulations (R93 to R104, R115, R116) -/

namespace Sys2Proof.Machine

/-- An instruction that only puts results in flight. -/
theorem State.issueCore_flies {s : State} {c : Nat} (h : s.runs c) {legal : Bool} (hl : legal = true) {f : Core → Core}
    {ws : List (Nat × Write)} (hf : f (s.core c) = { s.core c with
      flights := (s.core c).flights ++ ws.map (fun p => ⟨p.1, (s.core c).inBank1, p.2⟩) }) :
    s.issueCore c legal f = s.fly c ws := by
  rw [hl, State.issueCore_runs s c f h, State.modCore, hf, State.fly]

/-- An instruction of the plain kind, with what its work leaves before the core moves on. -/
theorem State.issuePlain_next {s : State} {c : Nat} (h : s.runs c) {legal : Bool} (hl : legal = true) {f : State → State}
    {t : State} (hf : f s = t) : (.next (s.issuePlain c legal f) : Answer) = .next (t.afterIssue c (s.core c).inBank1 .seq 0) := by
  rw [hl, State.issuePlain_runs s c f h, hf]

/-! ### Results that saturate (R58, R60, R97, R98) -/

/-- Vector results with their overflow, lane by lane, into D`dd`; SAT where a lane was out of range. -/
def State.laneResults (s : State) (c dd lat : Nat) (f : Fin 8 → Word × Bool) : State :=
  let k := s.core c
  (s.setCore c (k.push lat k.inBank1 (.d dd (vOf (fun i => (f i).1))))).stickySet c lat k.inBank1
    (if (vList (vOf f)).any Prod.snd then flagSAT else 0)

theorem State.vecResult_vOf (s : State) (c dd lat : Nat) (f : Fin 8 → Word × Bool) :
    s.vecResult c dd lat (vOf f) = s.laneResults c dd lat f := rfl

theorem State.valuQ_eq (s : State) (c dd da db : Nat) (f : Int → Int → Int) : s.valuQ c dd da db f =
    s.laneResults c dd 2 (fun i => qsat (cmSatm (s.core c).bank.cmode)
      (f (vLane (bankD (s.core c).bank da) i).toInt (vLane (bankD (s.core c).bank db) i).toInt)) :=
  s.vecResult_vOf ..

theorem State.vmulOp_eq (s : State) (c dd da : Nat) (b : Bank → Fin 8 → Word) : s.vmulOp c dd da b =
    s.laneResults c dd 3 (fun i => extract (s.core c).bank.cmode 0
      (2 * ((vLane (bankD (s.core c).bank da) i).toInt * (b (s.core c).bank i).toInt))) :=
  s.vecResult_vOf ..

theorem State.core_countReg (s : State) (f sat : Fd) (k c : Nat) : (s.countReg f sat k).core c = s.core c :=
  (OnlyFabric.countReg s f sat k).core c

/-- A set of sticky flags leaves the running bank the running one. -/
theorem State.inBank1_stickySet (s : State) (c lat : Nat) (b1 : Bool) (f : BitVec 8) :
    ((s.stickySet c lat b1 f).core c).inBank1 = (s.core c).inBank1 := by
  unfold State.stickySet
  split
  · rfl
  · dsimp only
    split
    · rw [State.core_countReg, State.core_setCore_same]; rfl
    · rw [State.core_setCore_same]; rfl

theorem State.inBank1_laneResults (s : State) (c dd lat : Nat) (f : Fin 8 → Word × Bool) :
    ((s.laneResults c dd lat f).core c).inBank1 = (s.core c).inBank1 := by
  rw [State.laneResults, State.inBank1_stickySet, State.core_setCore_same]
  rfl

theorem exec_ext (c : Fin 128) (dd : BitVec 5) (src : BitVec 3) (sc : BitVec 4) (clr : Bool) (s : State) (h : s.runs c)
    (hsc : sc.toNat ≤ 8) :
    let u := s.laneResults c dd.toNat 3 (fun i =>
      extract (s.core c).bank.cmode sc.toNat (vLane (bankA (s.core c).bank src.toNat) i).toInt)
    exec (.ext c dd src sc clr) s = if clr then .next (u.fly c [(3, .a src.toNat zeroA true)])
      else .next (u.afterIssue c (s.core c).inBank1 .seq 0) := by
  intro u
  have hu : s.vecResult c dd.toNat 3 (vMap (fun x : Acc => extract (s.core c).bank.cmode sc.toNat x.toInt)
      (bankA (s.core c).bank src.toNat)) = u := s.vecResult_vOf ..
  refine (State.issuePlain_next h (decide_eq_true hsc) (t := if clr then
    u.modCore c (fun k => k.push 3 k.inBank1 (.a src.toNat zeroA true)) else u) (by simp only [hu])).trans ?_
  cases clr with
  | false => rfl
  | true =>
    have hb : (u.core c).inBank1 = (s.core c).inBank1 := s.inBank1_laneResults ..
    rw [if_pos rfl, if_pos rfl, ← hb]
    rfl

/-- Settles O3: the lanes of each instruction are those of the operation it shares with the others. -/
theorem saturatingResults : Obligations.SaturatingResults := by
  intro c dd da db n l src sc clr s h k a b x cm into out
  have valu {lat : Nat} {f : State → State} {g : Fin 8 → Word × Bool} (hf : f s = s.laneResults c dd.toNat lat g) :
      (.next (s.issuePlain c true f) : Answer) = out lat g := State.issuePlain_next h rfl hf
  exact ⟨valu (s.valuQ_eq ..), valu (s.valuQ_eq ..), valu (s.valuQ_eq ..), valu (s.valuQ_eq ..), valu (s.valuQ_eq ..),
    valu (s.vmulOp_eq ..), valu (s.vmulOp_eq ..), exec_ext c dd src sc clr s h⟩

/-! ### Accumulations (R57, R93, R96) -/

/-- What an accumulation into A`ad` starts from, lane by lane: 0 with Z, else the latest accumulation (R74, R93). -/
def State.accStart (s : State) (c ad : Nat) (z : Bool) (i : Fin 8) : Int :=
  if z then 0 else (vLane ((s.core c).accView (s.core c).inBank1 ad) i).toInt

/-- The exact sums `f` saturated into A`ad`, lane by lane; AOV where a lane was out of range. -/
def State.accResults (s : State) (c ad : Nat) (f : Fin 8 → Int) : State :=
  let k := s.core c
  (s.setCore c (k.push 3 k.inBank1 (.a ad (vOf (fun i => (sat72 (f i)).1)) true))).stickySet c 3 k.inBank1
    (if (vList (vOf (fun i => sat72 (f i)))).any Prod.snd then flagAOV else 0)

@[simp] theorem vLane_vBroadcast {α : Type} (x : α) (i : Fin 8) : vLane (vBroadcast x) i = x := by
  unfold vLane
  split <;> rfl

theorem State.accumulate_eq (s : State) (c ad : Nat) (z : Bool) {x y : Fin 8 → Int} (h : ∀ i, x i = y i) :
    s.accumulate c ad z x = s.accResults c ad (fun i => s.accStart c ad z i + y i) := by
  have hbase (i : Fin 8) :
      (vLane (if z then zeroA else (s.core c).accView (s.core c).inBank1 ad) i).toInt = s.accStart c ad z i := by
    cases z with
    | false => rfl
    | true => simp [zeroA, State.accStart]
  simp only [State.accumulate, hbase, h]
  rfl

theorem State.macOp_eq (s : State) (c ad da db : Nat) (bc : Bool) (l : Fin 8) (z neg : Bool) : s.macOp c ad da db bc l z neg =
    s.accResults c ad (fun i => s.accStart c ad z i + (if neg then -1 else 1) * (2 * ((vLane (bankD (s.core c).bank da) i).toInt *
      (vLane (bankD (s.core c).bank db) (if bc then l else i)).toInt))) := by
  refine s.accumulate_eq c ad z fun i => ?_
  cases bc <;> simp [prod]

theorem exec_ahsum (c : Fin 128) (ad src : BitVec 3) (s : State) (h : s.runs c) :
    let k := s.core c
    let v := bankA k.bank src.toNat
    let r := sat72 (v.l0.toInt + v.l1.toInt + v.l2.toInt + v.l3.toInt + v.l4.toInt + v.l5.toInt + v.l6.toInt + v.l7.toInt)
    let lanes : V8 Acc := ⟨r.1, 0, 0, 0, 0, 0, 0, 0⟩
    exec (.ahsum c ad src) s = .next (((s.setCore c (k.push 3 k.inBank1 (.a ad.toNat lanes false))).stickySet
      c 3 k.inBank1 (if r.2 then flagAOV else 0)).afterIssue c k.inBank1 .seq 0) := by
  intro k v r lanes
  have hsum : (vList v).foldl (fun x l => x + l.toInt) 0 =
      v.l0.toInt + v.l1.toInt + v.l2.toInt + v.l3.toInt + v.l4.toInt + v.l5.toInt + v.l6.toInt + v.l7.toInt := by
    simp [vList]
  refine State.issuePlain_next h rfl ?_
  dsimp only
  rw [hsum]
  rfl

/-- Settles O4: each accumulation by its exact addend, and the two copies. -/
theorem accumulations : Obligations.Accumulations := by
  intro c ad src l da db bc z s h k a b from0 sum
  have acc {legal : Bool} (hl : legal = true) {z : Bool} {f : State → State} {x : Fin 8 → Int}
      (hf : f s = s.accResults c ad.toNat (fun i => s.accStart c ad.toNat z i + x i)) :
      (.next (s.issuePlain c legal f) : Answer) = sum z x := State.issuePlain_next h hl hf
  have legal (hl : bc = true ∨ l = 0) : (bc || l == 0) = true := by simpa using hl
  refine ⟨fun hl => acc (legal hl) ?mac, fun hl => acc (legal hl) ?msu, acc rfl (s.accumulate_eq _ _ _ fun _ => rfl),
    acc rfl (s.accumulate_eq _ _ _ fun _ => rfl), congrArg Host.Outcome.next (State.issueCore_flies h rfl rfl),
    exec_ahsum c ad src s h⟩
  case mac => simpa using s.macOp_eq c ad.toNat da.toNat db.toNat bc l.toFin z false
  case msu => simpa using s.macOp_eq c ad.toNat da.toNat db.toNat bc l.toFin z true

/-! ### Moves (R72, R82, R102 to R104, R115, R116) -/

/-- A register of one class always moves to a register of the same class that exists. -/
theorem moveOk_vectors (dn sn : BitVec 5) : moveOk (5#3).toNat dn.toNat (5#3).toNat sn.toNat = true := by
  simp [moveOk, classNumOk, dn.isLt, sn.isLt]

theorem moveOk_accumulators {dn sn : BitVec 5} (hd : dn.toNat < 8) (hs : sn.toNat < 8) :
    moveOk (6#3).toNat dn.toNat (6#3).toNat sn.toNat = true := by
  simp [moveOk, classNumOk, hd, hs]

/-- A move of a 32-bit register (R102). -/
theorem Core.moveReg_word (k : Core) (dst1 src1 : Bool) {dcl : Nat} (h : dcl ≤ 4) (dn scl sn : Nat) :
    k.moveReg dst1 src1 dcl dn scl sn =
      k.push 1 dst1 (classWrite dcl dn (bankWord (if src1 then k.bank1 else k.bank0) scl sn)) := by
  rw [Core.moveReg, if_neg (by omega), if_neg (by omega)]

theorem Core.bank_other (k : Core) (dir : Bool) : (if !dir then k.bank1 else k.bank0) = if dir then k.bank0 else k.bank1 := by
  cases dir <;> rfl

/-- XMOV in a handler (R82): the move puts one write in flight. -/
theorem exec_xmov_handler {c : Fin 128} {dir : Bool} {dcl scl : BitVec 3} {dn sn : BitVec 5} {s : State} (h : s.runs c)
    (hs : (s.core c).state = .handler) (hm : moveOk dcl.toNat dn.toNat scl.toNat sn.toNat = true) {lat : Nat} {w : Write}
    (hw : (s.core c).moveReg dir (!dir) dcl.toNat dn.toNat scl.toNat sn.toNat = (s.core c).push lat dir w) :
    exec (.xmov c dir dcl dn scl sn) s = .next ((s.setCore c ((s.core c).push lat dir w)).afterIssue c true .seq 0) := by
  have hb := Core.inBank1_of_handler hs
  refine congrArg Host.Outcome.next ((State.issue_runs s c _ _ _ _ _ h hm (by simp [hb]) (by simp)).trans ?_)
  simp only [hb, State.modCore, hw]

/-- A control register that is not listed reads 0 (R54). -/
theorem Core.readCtrl_unlisted (k : Core) (c : Nat) (full : Bool) {idx : Nat} (h : 0x10 < idx) : k.readCtrl c full idx = 0 := by
  simp only [Core.readCtrl]
  split
  iterate 17 omega
  rfl

/-- XMOV in a row program (R117). -/
theorem exec_xmov_row {c : Fin 128} {dir : Bool} {dcl scl : BitVec 3} {dn sn : BitVec 5} {s : State} (h : s.runs c)
    (hs : (s.core c).state = .row) :
    exec (.xmov c dir dcl dn scl sn) s = .next (s.coreFault c 1 0 (s.core c).bank.pc false) := by
  have hb := Core.inBank1_of_row hs
  refine congrArg Host.Outcome.next ((State.issue_faults s c _ _ _ _ _ h (.inr (by simp [hb]))).trans ?_)
  rw [hb]

/-- Settles O6: each move is one write in flight, but for WRC of a reserved rounding mode, which also raises an event, and XMOV in
a row program, which faults. -/
theorem moves : Obligations.Moves := by
  intro c cl n dn sn hi sx e dir imm p idx s h k b ptr
  have flies {legal : Bool} (hl : legal = true) {f : Core → Core} {ws : List (Nat × Write)} (hf : f (s.core c) = { s.core c with
      flights := (s.core c).flights ++ ws.map (fun p => ⟨p.1, (s.core c).inBank1, p.2⟩) }) :
      (.next (s.issueCore c legal f) : Answer) = .next (s.fly c ws) :=
    congrArg _ (State.issueCore_flies h hl hf)
  refine ⟨flies rfl ?nop, flies rfl rfl, flies rfl rfl, fun m hm hcl hn hx => ?setr, fun dcl scl hd hsc hm => ?movr,
    flies (moveOk_vectors dn sn) rfl, fun hd hs => flies (moveOk_accumulators hd hs) rfl,
    fun hs dcl scl hd hsc hm => ?xmov, fun hs => ?xmovVector, fun hs hd hsn => ?xmovAcc, exec_xmov_row h,
    flies rfl rfl, flies rfl rfl, flies rfl rfl, flies rfl rfl, fun hx => flies rfl ?rdcNone, fun hx => ?wrc,
    fun hx => ?wrcReserved⟩
  case nop => simp
  case setr =>
    subst hcl
    exact flies (by simp [hm, hn, hx]) rfl
  case movr => exact flies hm (Core.moveReg_word _ _ _ hd ..)
  case xmov => exact exec_xmov_handler h hs hm ((Core.moveReg_word _ _ _ hd ..).trans (by rw [Core.bank_other]))
  case xmovVector =>
    exact exec_xmov_handler h hs (moveOk_vectors dn sn)
      (congrArg (fun b => k.push 2 dir (.d dn.toNat (bankD b sn.toNat))) (k.bank_other dir))
  case xmovAcc =>
    exact exec_xmov_handler h hs (moveOk_accumulators hd hsn)
      (congrArg (fun b => k.push 3 dir (.a dn.toNat (bankA b sn.toNat) false)) (k.bank_other dir))
  case rdcNone => rw [Core.readCtrl_unlisted _ _ _ hx]; rfl
  case wrc => exact State.issuePlain_next h rfl (if_neg hx)
  case wrcReserved => exact State.issuePlain_next h rfl (if_pos ⟨rfl, hx⟩)

end Sys2Proof.Machine

/-! ## Transfers (R69, R71, R107, R108) -/

namespace Sys2Proof.Machine

/-! ### Copies of bytes -/

theorem memBytes_length (m : Table Byte) (a n : Nat) : (memBytes m a n).length = n := by
  induction n generalizing a with
  | zero => rfl
  | succ n ih => rw [memBytes, List.length_cons, ih]

theorem memBytes_getElem (m : Table Byte) (a n : Nat) {i : Nat} (h : i < (memBytes m a n).length) :
    (memBytes m a n)[i] = memByte m (a + i) := by
  induction n generalizing a i with
  | zero => exact absurd h (Nat.not_lt_zero _)
  | succ n ih =>
    cases i with
    | zero => rfl
    | succ i =>
      simp only [memBytes, List.getElem_cons_succ, ih]
      congr 1; omega

/-- A copy of `n` bytes from `a'` to `a`: what each byte reads afterwards. -/
theorem memByte_copy (m m' : Table Byte) (a a' n x : Nat) : memByte (memSetBytes m a (memBytes m' a' n)) x =
    if a ≤ x ∧ x < a + n then memByte m' (a' + (x - a)) else memByte m x := by
  have hlen := memBytes_length m' a' n
  split
  next hx =>
    obtain ⟨i, rfl⟩ := Nat.exists_eq_add_of_le hx.1
    have hi : i < (memBytes m' a' n).length := by omega
    rw [memByte_memSetBytes_inside _ _ _ _ hi, memBytes_getElem, Nat.add_sub_cancel_left]
  next hx => exact memByte_memSetBytes_outside _ _ _ _ (by omega)

/-! ### Beats -/

/-- Is byte `x` one of those that the core stored in the cycle that has just ended (R71)? -/
def ownByte (own : Option (Nat × Nat)) (x : Nat) : Bool :=
  match own with
  | none => false
  | some p => decide (p.1 ≤ x) && decide (x < p.1 + p.2)

theorem ownByte_iff (own : Option (Nat × Nat)) (x : Nat) :
    ownByte own x = true ↔ ∃ p, own = some p ∧ p.1 ≤ x ∧ x < p.1 + p.2 := by
  cases own <;> simp [ownByte]

/-- A beat lands but for the core's own bytes (R71). -/
theorem memByte_landBeat (m m' : Table Byte) (a a' x : Nat) (own : Option (Nat × Nat)) :
    memByte (landBeat m a own (memBytes m' a' 64)) x =
      if (a ≤ x ∧ x < a + 64) ∧ ownByte own x = false then memByte m' (a' + (x - a)) else memByte m x := by
  cases own with
  | none => simp [landBeat, memByte_copy, ownByte]
  | some p =>
    by_cases ho : p.1 ≤ x ∧ x < p.1 + p.2
    · have hown : ownByte (some p) x = true := (ownByte_iff ..).mpr ⟨p, rfl, ho⟩
      rw [landBeat, memByte_copy, if_pos ho, if_neg (by simp [hown]), Nat.add_sub_cancel' ho.1]
    · have hown : ownByte (some p) x = false := by simpa [ownByte] using ho
      rw [landBeat, memByte_copy, if_neg ho, memByte_copy]
      exact if_congr (and_iff_left hown).symm rfl rfl

/-- `t` is `s` after beats `i` up to `j` of transfer `x` of core `c` have moved, and nothing else (R69, R71). -/
structure BeatsMoved (c : Nat) (x : Xfer) (i j : Nat) (s t : State) : Prop where
  frame : t = { s with cores := t.cores, fab := { s.fab with shared := t.fab.shared } }
  others : ∀ d, d ≠ c → t.core d = s.core d
  core : t.core c = { s.core c with ram := (t.core c).ram }
  toShared : x.toShared = true → (t.core c).ram = (s.core c).ram ∧ ∀ a, memByte t.fab.shared a =
    if x.shared + 64 * i ≤ a ∧ a < x.shared + 64 * j then memByte (s.core c).ram (x.ram + (a - x.shared))
    else memByte s.fab.shared a
  toRam : x.toShared = false → t.fab.shared = s.fab.shared ∧ ∀ a, memByte (t.core c).ram a =
    if (x.ram + 64 * i ≤ a ∧ a < x.ram + 64 * j) ∧ ownByte (s.core c).justStored a = false
    then memByte s.fab.shared (x.shared + (a - x.ram)) else memByte (s.core c).ram a

section
variable {c : Nat} {x : Xfer} {i j l : Nat} {s t u : State}

/-- A beat in the place of its 64 bytes: the byte at `a` comes from the byte as far into the source. -/
theorem beat_at {α : Type} (f : Nat → α) (v : α) (base src i a : Nat) :
    (if base + 64 * i ≤ a ∧ a < base + 64 * i + 64 then f (src + 64 * i + (a - (base + 64 * i))) else v) =
      if base + 64 * i ≤ a ∧ a < base + 64 * (i + 1) then f (src + (a - base)) else v := by
  by_cases h : base + 64 * i ≤ a ∧ a < base + 64 * i + 64
  · rw [if_pos h, if_pos (by omega), show src + 64 * i + (a - (base + 64 * i)) = src + (a - base) by omega]
  · rw [if_neg h, if_neg (by omega)]

theorem BeatsMoved.refl : BeatsMoved c x i i s s where
  frame := rfl
  others _ _ := rfl
  core := rfl
  toShared _ := ⟨rfl, fun a => by rw [if_neg (by omega)]⟩
  toRam _ := ⟨rfl, fun a => by rw [if_neg (by omega)]⟩

theorem State.moveBeat_moved (s : State) (c : Nat) (x : Xfer) (i : Nat) : BeatsMoved c x i (i + 1) s (s.moveBeat c x i) := by
  cases hx : x.toShared with
  | true =>
    have h : s.moveBeat c x i = s.setShared (memSetBytes s.fab.shared (x.shared + 64 * i)
      (memBytes (s.core c).ram (x.ram + 64 * i) 64)) := by simp [State.moveBeat, hx]
    rw [h]
    refine ⟨rfl, fun _ _ => rfl, rfl, fun _ => ⟨rfl, fun a => ?_⟩, fun hf => absurd hf (by simp [hx])⟩
    exact (memByte_copy ..).trans (beat_at (memByte (s.core c).ram) ..)
  | false =>
    let ram := landBeat (s.core c).ram (x.ram + 64 * i) (s.core c).justStored (memBytes s.fab.shared (x.shared + 64 * i) 64)
    have h : s.moveBeat c x i = s.setCore c { s.core c with ram := ram } := by simp [State.moveBeat, hx, ram]
    rw [h]
    have honly := OnlyCore.setCore s c { s.core c with ram := ram }
    refine ⟨honly.frame, honly.others, ?_, fun hf => absurd hf (by simp [hx]), fun _ => ⟨rfl, fun a => ?_⟩⟩
    · rw [State.core_setCore_same]
    · rw [State.core_setCore_same]
      refine (memByte_landBeat ..).trans ?_
      by_cases ho : ownByte (s.core c).justStored a = false
      · exact (if_congr (and_iff_left ho) rfl rfl).trans
          ((beat_at (memByte s.fab.shared) ..).trans (if_congr (and_iff_left ho).symm rfl rfl))
      · rw [if_neg fun h => ho h.2, if_neg fun h => ho h.2]

theorem BeatsMoved.trans (hij : i ≤ j) (hjl : j ≤ l) (h : BeatsMoved c x i j s t) (h' : BeatsMoved c x j l t u) :
    BeatsMoved c x i l s u where
  frame := by
    conv_lhs => rw [h'.frame, h.frame]
  others d hd := (h'.others d hd).trans (h.others d hd)
  core := by
    conv_lhs => rw [h'.core, h.core]
  toShared hx := by
    obtain ⟨hr, hm⟩ := h.toShared hx
    obtain ⟨hr', hm'⟩ := h'.toShared hx
    refine ⟨hr'.trans hr, fun a => ?_⟩
    rw [hm', hm, hr, ← ite_or]
    exact if_congr (by omega) rfl rfl
  toRam hx := by
    obtain ⟨hr, hm⟩ := h.toRam hx
    obtain ⟨hr', hm'⟩ := h'.toRam hx
    have hown : (t.core c).justStored = (s.core c).justStored := (congrArg Core.justStored h.core :)
    refine ⟨hr'.trans hr, fun a => ?_⟩
    rw [hm', hm, hr, hown, ← ite_or]
    refine if_congr ?_ rfl rfl
    rw [← or_and_right]
    exact and_congr_left fun _ => by omega

/-- Every beat that the fabric admits moves (R69, R70). -/
theorem State.moveBeats_moved (n : Nat) : ∀ (s : State) (i : Nat),
    (∀ m, i ≤ m → m < i + n → admits (s.ownerAt (x.shared + 64 * m)) (c / 8) false = true ∧
      hasPath (c / 8) ((x.shared + 64 * m) / 0x200000) = true) →
    ∃ t, s.moveBeats c x n i = (t, none) ∧ BeatsMoved c x i (i + n) s t := by
  induction n with
  | zero => exact fun s i _ => ⟨s, rfl, .refl⟩
  | succ n ih =>
    intro s i hok
    obtain ⟨ha, hp⟩ := hok i le_rfl (by omega)
    have hbeat := s.moveBeat_moved c x i
    have hregs : (s.moveBeat c x i).regs = s.regs := (congrArg State.regs hbeat.frame :)
    have howner (off : Nat) : (s.moveBeat c x i).ownerAt off = s.ownerAt off :=
      congrArg (fun r => bitsOf (Table.get resetWord r _) _ _) hregs
    obtain ⟨t, ht, hrest⟩ := ih (s.moveBeat c x i) (i + 1) fun m him hmn => by
      rw [howner]
      exact hok m (by omega) (by omega)
    refine ⟨t, ?_, ?_⟩
    · rw [State.moveBeats, ha, hp]
      exact ht
    · rw [show i + (n + 1) = i + 1 + n by omega]
      exact hbeat.trans (by omega) (by omega) hrest

end

/-! ### The channel of a transfer -/

/-- A channel with beats still to come. -/
def Core.carryOn (k : Core) (ch : Nat) (x : Xfer) (moved : Nat) : Core :=
  { k with xfers := k.xfers.set (fun _ => none) ch (some { x with moved := moved }) }

/-- A channel that carries no transfer any more. -/
def Core.dropTransfer (k : Core) (ch : Nat) : Core := { k with xfers := k.xfers.set (fun _ => none) ch none }

/-- A channel ends without an error; a stall that waits for no other channel ends with it (R108). -/
def Core.endStalled (k : Core) (ch waited : Nat) : Core :=
  let k1 := k.endChannels (bit4 ch) 0
  if k1.xwait ≠ 0 ∧ k1.busy &&& k1.xwait = 0 then
    Core.advance { k1 with xwait := 0, noAccept := k1.noAccept || decide (0 < waited) } waited
  else k1

/-- A channel whose last beat has moved. -/
def Core.channelEnded (k : Core) (ch waited : Nat) : Core := (k.dropTransfer ch).endStalled ch waited

@[simp] theorem Core.channelEnded_ram (k : Core) (ch waited : Nat) : (k.channelEnded ch waited).ram = k.ram := by
  unfold Core.channelEnded Core.endStalled
  dsimp only
  split
  · rw [Core.advance_ram]; rfl
  · rfl

theorem Core.channelEnded_of_no_stall {k : Core} (h : k.xwait = 0) (ch waited : Nat) : k.channelEnded ch waited =
    (k.dropTransfer ch).endChannels (bit4 ch) 0 :=
  if_neg fun hx => hx.1 h

theorem Core.channelEnded_ends_stall {k : Core} {ch : Nat} (hx : k.xwait ≠ 0) (hb : k.busy &&& ~~~bit4 ch &&& k.xwait = 0)
    (waited : Nat) : (k.channelEnded ch waited).xwait = 0 := by
  rw [Core.channelEnded, Core.endStalled, if_pos ⟨hx, hb⟩]
  exact (congrArg Core.xwait (Core.retired_advance _ waited).frame :)

/-- A transfer whose next beats are admitted: they move, and the channel carries on or ends. -/
theorem transferDone_moved {c : Fin 128} {ch : BitVec 2} {beats : Fin 257} (waited : Fin 65536) {s u : State} {x : Xfer}
    {n : Nat}
    (hx : (s.core c).xfers.get (fun _ => none) ch.toNat = some x) (hn : x.count / 64 = n)
    (hm : s.moveBeats c x (min beats (n - x.moved)) x.moved = (u, none)) :
    ∃ t, exec (.transferDone c ch ⟨beats, waited⟩) s = .next t ∧ OnlyCore c u t ∧
      t.core c = if x.moved + min beats.val (n - x.moved) < n
        then (u.core c).carryOn ch.toNat x (x.moved + min beats.val (n - x.moved))
        else (u.core c).channelEnded ch.toNat waited := by
  subst hn
  by_cases hlt : x.moved + min beats.val (x.count / 64 - x.moved) < x.count / 64
  · refine ⟨u.modCore c (fun k => k.carryOn ch.toNat x (x.moved + min beats.val (x.count / 64 - x.moved))), ?_, .setCore .., ?_⟩
    · show execTransferDone c ch _ s = _
      simp only [execTransferDone, hx, hm, if_pos hlt]
      rfl
    · rw [if_pos hlt, State.modCore, State.core_setCore_same]
  · refine ⟨(u.modCore c (fun k => k.dropTransfer ch.toNat)).modCore c (fun k => k.endStalled ch.toNat waited), ?_,
      (OnlyCore.setCore ..).trans (.setCore ..), ?_⟩
    · show execTransferDone c ch _ s = _
      simp only [execTransferDone, hx, hm, if_neg hlt]
      rfl
    · rw [if_neg hlt, State.modCore, State.core_setCore_same, State.modCore, State.core_setCore_same]
      rfl

/-! ### XFER (R69, R107) -/

section
variable (s : State) (c ch : Nat) (dir : Bool) (pw px sn : Nat)

/-- The checks of XFER on its byte count, its working-RAM address and its shared address (R107). -/
abbrev xferCountOk (n : Nat) : Prop := 64 ≤ n ∧ n ≤ 16384 ∧ n % 64 = 0
abbrev xferRamOk (w n : Nat) : Prop := w % 64 = 0 ∧ w + n ≤ 0x1E000
abbrev xferSharedOk (x n : Nat) : Prop := x % 64 = 0 ∧ 0x10000000 ≤ x ∧ x + n ≤ 0x16000000

/-- The three cases of XFER: the channel is busy, all checks pass, or one fails. -/
theorem State.xferOp_eq :
    let k := s.core c
    let w := (bankP k.bank pw).toNat
    let x := (bankP k.bank px).toNat
    let n := (bankS k.bank sn).toNat
    s.xferOp c ch dir pw px sn =
      if k.busy.getLsbD ch then .done (s.setCore c { k with rej := k.rej ||| bit4 ch }) .seq 0
      else if xferCountOk n ∧ xferRamOk w n ∧ xferSharedOk x n then .done (s.setCore c { k with
        busy := k.busy ||| bit4 ch,
        xfers := k.xfers.set (fun _ => none) ch (some ⟨dir, w, x - 0x10000000, n, k.bank.pc, k.inBank1, 0⟩) }) .seq 0
      else .fault (s.setCore c (k.endChannels (bit4 ch) (bit4 ch))) 5
        (if xferRamOk w n ∧ ¬ xferSharedOk x n then x else w) := by
  intro k w x n
  simp only [State.xferOp, ← Bool.decide_and, ← decide_not, decide_eq_true_eq, and_assoc]
  rfl

end

/-- What a core that may issue leaves, by the answer of the instruction's operation. -/
def State.afterOp (s : State) (c : Nat) : Issued → State
  | .fault s1 cause addr => s1.coreFault c cause addr (s.core c).bank.pc (s.core c).inBank1
  | .done s1 flow stall => s1.afterIssue c (s.core c).inBank1 flow stall

theorem exec_xfer {s : State} {c : Fin 128} (h : s.runs c) {ch : BitVec 2} {dir : Bool} {pw px sn : BitVec 4} {o : Issued}
    (ho : s.xferOp c ch.toNat dir pw.toNat px.toNat sn.toNat = o) :
    exec (.xfer c ch dir pw px sn) s = .next (s.afterOp c o) := by
  subst ho
  exact congrArg Host.Outcome.next (State.issue_runs s c _ _ _ _ _ h rfl (by split <;> rfl)
    fun hctl => absurd hctl Bool.false_ne_true)

/-- Settles O8: the cases of XFER, and the beats that move with what the last of them ends. -/
theorem transfers : Obligations.Transfers := by
  refine ⟨fun c ch dir pw px sn m s h => ?_, fun c ch beats waited s x n => ?_⟩
  · intro k b w x n countOk wOk xOk bit run
    have hop := s.xferOp_eq c ch.toNat dir pw.toNat px.toNat sn.toNat
    have free (hb : k.busy.getLsbD ch.toNat = false) : ¬ k.busy.getLsbD ch.toNat = true := by simp [hb]
    exact ⟨fun hb => exec_xfer h (hop.trans (if_pos hb)),
      fun hb hn hw hx => exec_xfer h (hop.trans ((if_neg (free hb)).trans (if_pos ⟨hn, hw, hx⟩))),
      fun hb hbad => exec_xfer h (hop.trans ((if_neg (free hb)).trans (if_neg hbad))),
      congrArg Host.Outcome.next (State.issueCore_runs s c _ h)⟩
  · intro k bit hi moves own hx hcount hmoved hok
    have hdiv : x.count / 64 = n := by omega
    have hhi : x.moved + min beats.val (n - x.moved) = hi := by omega
    obtain ⟨u, hu, hbeats⟩ := State.moveBeats_moved (c := c) (x := x) (min beats (n - x.moved)) s x.moved
      fun i h1 h2 => hok i h1 (by omega)
    obtain ⟨t, ht, honly, hcore⟩ := transferDone_moved waited hx hdiv hu
    rw [hhi] at hcore hbeats
    have hown (a : Nat) : own a ↔ ownByte k.justStored a = true := (ownByte_iff ..).symm
    have hram : (t.core c).ram = (u.core c).ram := by
      rw [hcore]
      split
      · rfl
      · exact Core.channelEnded_ram ..
    have hshared : t.fab.shared = u.fab.shared := by rw [honly.frame]
    have hk : u.core c = { k with ram := (u.core c).ram } := hbeats.core
    have hxwait : (u.core c).xwait = k.xwait := (congrArg Core.xwait hk :)
    refine ⟨t, ht, fun hlt => ?carriesOn, fun hend hx0 => ?ends, fun hend hx0 hb => ?stallEnds, ?frame,
      fun d hd => (honly.others d hd).trans (hbeats.others d hd), fun hdir => ?toShared, fun hdir => ?toRam⟩
    case carriesOn =>
      rw [hram, hcore, if_pos hlt]
      conv_lhs => rw [hk]
      rfl
    case ends =>
      rw [hcore, if_neg (by omega), Core.channelEnded_of_no_stall (hxwait.trans hx0), hk]
      exact ⟨rfl, rfl, BitVec.or_zero, (Table.get_set_same (fun _ => none) k.xfers ch.toNat none :)⟩
    case stallEnds =>
      rw [hcore, if_neg (by omega)]
      exact Core.channelEnded_ends_stall (hxwait ▸ hx0) (by rw [hk]; exact hb) _
    case frame =>
      rw [honly.frame, hbeats.frame]
    case toShared =>
      obtain ⟨hr, hm⟩ := hbeats.toShared hdir
      refine ⟨hram.trans hr, fun a => ?_⟩
      rw [hshared, hm]
      exact ⟨fun ha => if_pos ha, fun ha => if_neg ha⟩
    case toRam =>
      obtain ⟨hs, hm⟩ := hbeats.toRam hdir
      refine ⟨hshared.trans hs, fun a => ?_⟩
      rw [hram, hm, hown]
      refine ⟨fun ha ho => if_pos ⟨ha, by simpa using ho⟩, fun ha => if_neg fun ⟨hin, hfree⟩ => ?_⟩
      rcases ha with hout | ho
      · exact hout hin
      · exact Bool.false_ne_true (hfree.symm.trans ho)

end Sys2Proof.Machine

/-! ## Engine words (R89 to R117) -/

namespace Sys2Proof

/-! ### The fields of a word of each format

The widths of the parts stay sums, as the lemmas about fields of a concatenation state them: hence `-Nat.reduceAdd`. -/

@[simp] theorem bit_beq_one (b : Bool) : (bit b == 1#1) = b := by cases b <;> rfl

/-- A flag is a field of one bit. -/
theorem flagAt_eq_field (w : Word) (i : Nat) : flagAt w i = (field w i 1 == 1#1) := by
  have h : field w i 1 = bit (flagAt w i) := by
    ext j hj
    obtain rfl : j = 0 := by omega
    simp [field, flagAt, bit]
  rw [h, bit_beq_one]

section
open BitVec (extractLsb'_append_eq_of_le extractLsb'_append_eq_of_add_le extractLsb'_append_eq_right)

variable (dd da db dn rg sn fn5 : BitVec 5) (sd sa sb pn fn4 : BitVec 4) (ad src k fn3 dcl scl : BitVec 3) (mode fn2 : BitVec 2)
  (op imm6 : BitVec 6) (imm : BitVec 16) (ofs : BitVec 15) (f bc z neg xb dir : Bool)

@[simp] theorem valu_fields : let w := valu dd da db fn5 imm6
    field w 26 6 = 0x10 ∧ field w 21 5 = dd ∧ field w 16 5 = da ∧ field w 11 5 = db ∧ field w 6 5 = fn5 ∧
      field w 0 5 = imm6.extractLsb' 0 5 ∧ field w 0 3 = imm6.extractLsb' 0 3 := by
  simp [field, valu, extractLsb'_append_eq_of_le, extractLsb'_append_eq_of_add_le, -Nat.reduceAdd]

@[simp] theorem salu_fields : let w := salu sd sa sb f fn4
    field w 26 6 = 0x18 ∧ field w 22 4 = sd ∧ field w 18 4 = sa ∧ field w 14 4 = sb ∧ flagAt w 13 = f ∧ field w 9 4 = fn4 := by
  simp [flagAt_eq_field, field, salu, extractLsb'_append_eq_of_le, extractLsb'_append_eq_right, -Nat.reduceAdd]

@[simp] theorem immWord_fields : let w := immWord op sd sa f imm
    field w 26 6 = op ∧ field w 22 4 = sd ∧ field w 18 4 = sa ∧ flagAt w 17 = f ∧ field w 0 16 = imm := by
  simp [flagAt_eq_field, field, immWord, extractLsb'_append_eq_of_le, extractLsb'_append_eq_right, -Nat.reduceAdd]

@[simp] theorem memWordOf_fields : let w := memWordOf op rg pn mode ofs
    field w 26 6 = op ∧ field w 21 5 = rg ∧ field w 21 4 = rg.extractLsb' 0 4 ∧ field w 17 4 = pn ∧ field w 15 2 = mode ∧
      field w 0 15 = ofs := by
  simp [field, memWordOf, extractLsb'_append_eq_of_le, extractLsb'_append_eq_of_add_le, -Nat.reduceAdd]

@[simp] theorem macWord_fields : let w := macWord ad da db bc k z neg
    field w 26 6 = 0x08 ∧ field w 23 3 = ad ∧ field w 18 5 = da ∧ field w 13 5 = db ∧ flagAt w 12 = bc ∧ field w 9 3 = k ∧
      flagAt w 8 = z ∧ flagAt w 7 = neg := by
  simp [flagAt_eq_field, field, macWord, extractLsb'_append_eq_of_le, extractLsb'_append_eq_right, -Nat.reduceAdd]

@[simp] theorem accWord_fields : let w := accWord ad da src fn3
    field w 26 6 = 0x0A ∧ field w 23 3 = ad ∧ field w 18 5 = da ∧ field w 15 3 = src ∧ field w 12 3 = fn3 := by
  simp [field, accWord, extractLsb'_append_eq_of_le, extractLsb'_append_eq_right, -Nat.reduceAdd]

@[simp] theorem vmoveWord_fields : let w := vmoveWord dd sa k fn2
    field w 26 6 = 0x12 ∧ field w 21 5 = dd ∧ field w 17 4 = sa ∧ field w 14 3 = k ∧ field w 12 2 = fn2 := by
  simp [field, vmoveWord, extractLsb'_append_eq_of_le, extractLsb'_append_eq_right, -Nat.reduceAdd]

@[simp] theorem movrWord_fields : let w := movrWord dcl dn scl sn xb dir
    field w 26 6 = 0x1E ∧ field w 23 3 = dcl ∧ field w 18 5 = dn ∧ field w 15 3 = scl ∧ field w 10 5 = sn ∧
      flagAt w 9 = xb ∧ flagAt w 8 = dir := by
  simp [flagAt_eq_field, field, movrWord, extractLsb'_append_eq_of_le, extractLsb'_append_eq_right, -Nat.reduceAdd]

/-- What an instruction's word holds is the instruction. -/
theorem readEngine_encodeEngine {i : Instr} {w : Word} (h : encodeEngine i = some w) :
    ∃ c, readEngine c w = some i := by
  cases i with
  | nop c | waitrow c | reti c =>
    cases h
    exact ⟨c, rfl⟩
  | mac c | msu c | addi c | andi c | ori c | xori c | movr c | xmov c =>
    cases h
    exact ⟨c, by simp [readEngine]⟩
  | aadd c | asub c | amov c | ahsum c =>
    cases h
    exact ⟨c, by simp [readEngine, readAcc]⟩
  | vadd c | vsub c | vaddw c | vsubw c | vand c | vor c | vxor c | vandn c | vmax c | vmin c | vabs c | vneg c | vcmpeq c
  | vcmplt c | vcmple c | vcmpltu c | vsel c | vperm c | vmul c =>
    cases h
    exact ⟨c, by simp [readEngine, readValu]⟩
  | vshl c | vshls c | vshra c | vshrl c | vbc c | vmulB c =>
    cases h
    exact ⟨c, by simp [readEngine, readValu, extractLsb'_append_eq_right, -Nat.reduceAdd]⟩
  | vsplat c | vput c | vget c =>
    cases h
    exact ⟨c, by simp [readEngine, readVmove]⟩
  | add c | sub c | and c | or c | xor c | shl c | shra c | shrl c | mul c | cmp c | min c | max c =>
    cases h
    exact ⟨c, by simp [readEngine, readSalu]⟩
  | lds c | ldv c | sts c | stv c =>
    cases h
    exact ⟨c, by simp [readEngine, extractLsb'_append_eq_right, -Nat.reduceAdd]⟩
  | gie c | tap c | ext c | setr c | padd c | xfer c | xwait c | b c | call c | jr c | callr c | ret c | loop c | rdc c
  | wrc c =>
    cases h
    exact ⟨c, by simp [readEngine, flagAt_eq_field, field, extractLsb'_append_eq_of_le, extractLsb'_append_eq_right,
      -Nat.reduceAdd]⟩
  | _ => cases h

end

/-! ### The core of an instruction -/

section
variable {w : Word} {c d : Fin 128} {i : Instr}

theorem core_eq_of_readAcc : readAcc c w = some i → readAcc d w = some i → c = d := by
  unfold readAcc
  generalize (field w 12 3).toNat = fn
  dsimp only
  split <;> rintro ⟨⟩ ⟨⟩ <;> rfl

theorem core_eq_of_readValu : readValu c w = some i → readValu d w = some i → c = d := by
  unfold readValu
  generalize (field w 6 5).toNat = fn
  dsimp only
  split <;> rintro ⟨⟩ ⟨⟩ <;> rfl

theorem core_eq_of_readVmove : readVmove c w = some i → readVmove d w = some i → c = d := by
  unfold readVmove
  generalize (field w 12 2).toNat = fn
  dsimp only
  split <;> rintro ⟨⟩ ⟨⟩ <;> rfl

theorem core_eq_of_readSalu : readSalu c w = some i → readSalu d w = some i → c = d := by
  unfold readSalu
  generalize (field w 9 4).toNat = fn
  dsimp only
  split <;> rintro ⟨⟩ ⟨⟩ <;> rfl

/-- A word read for two cores is one instruction for both only if the cores are one. -/
theorem core_eq_of_readEngine : readEngine c w = some i → readEngine d w = some i → c = d := by
  unfold readEngine
  generalize (field w 26 6).toNat = op
  dsimp only
  split
  -- The opcodes ACC, VALU, VMOVE and SALU have readers of their own; MAC with MSU, and MOVR with XMOV, share an opcode.
  case h_7 => exact core_eq_of_readAcc
  case h_9 => exact core_eq_of_readValu
  case h_10 => exact core_eq_of_readVmove
  case h_11 => exact core_eq_of_readSalu
  case h_5 => split <;> rintro ⟨⟩ ⟨⟩ <;> rfl
  case h_17 => split <;> rintro ⟨⟩ ⟨⟩ <;> rfl
  all_goals rintro ⟨⟩ ⟨⟩ <;> rfl

end

/-! ### Decoding -/

theorem decodeEngine_eq_some_iff {c : Fin 128} {w : Word} {i : Instr} :
    decodeEngine c w = some i ↔ readEngine c w = some i ∧ i.wf = true ∧ encodeEngine i = some w := by
  simp [decodeEngine, Option.filter_eq_some_iff]

/-- Settles O15: a word is read back as what it encodes, for the instruction's core alone, and a word is decoded only if it
encodes what is read. -/
theorem engineRoundTrip : Obligations.EngineRoundTrip := by
  refine ⟨fun i w hwf hw => ?_, fun c i w h => (decodeEngine_eq_some_iff.mp h).2, by decide, by decide, by decide, by decide,
    by decide, by decide⟩
  obtain ⟨c, hc⟩ := readEngine_encodeEngine hw
  refine ⟨c, decodeEngine_eq_some_iff.mpr ⟨hc, hwf, hw⟩, fun d hd => ?_⟩
  obtain ⟨hread, -⟩ := decodeEngine_eq_some_iff.mp hd
  exact core_eq_of_readEngine hread hc

end Sys2Proof

/-! ## Scalar and vector results (R98 to R101) -/

namespace Sys2Proof.Machine

/-! ### Condition flags (R101) -/

theorem nzcvOf_eq (r : Word) (c v : Bool) : nzcvOf r c v = condFlags r c v := by
  have hzero : (r == 0) = decide (r = 0) := rfl
  unfold nzcvOf condFlags
  rw [hzero]
  cases v <;> cases c <;> cases r.msb <;> cases decide (r = 0) <;> rfl

theorem logicFlags_eq (r : Word) : logicFlags r = (r, condFlags r false false) := by
  rw [logicFlags, nzcvOf_eq]

theorem addFlags_add (a b : Word) : addFlags a b false =
    (a + b, condFlags (a + b) (decide (2 ^ 32 ≤ a.toNat + b.toNat)) (BitVec.saddOverflow a b)) := by
  have hsum : BitVec.ofNat 32 (a.toNat + b.toNat + false.toNat) = a + b := (BitVec.add_def ..).symm
  have hover : decide (a.toInt + b.toInt + (false.toNat : Int) < -(2 ^ 31) ∨ 2 ^ 31 ≤ a.toInt + b.toInt + (false.toNat : Int)) =
      BitVec.saddOverflow a b := by
    rw [BitVec.saddOverflow, ← Bool.decide_or]
    exact decide_eq_decide.mpr (by rw [Bool.toNat_false]; omega)
  simp only [addFlags, hsum, hover, nzcvOf_eq]
  rfl

/-- SA + ~SB + 1 is SA - SB, and its carry says that nothing was borrowed. -/
theorem addFlags_sub (a b : Word) : addFlags a (~~~b) true =
    (a - b, condFlags (a - b) (decide (b.toNat ≤ a.toNat)) (BitVec.ssubOverflow a b)) := by
  have hnot : (~~~b).toNat = 2 ^ 32 - 1 - b.toNat := BitVec.toNat_not
  have hb := b.isLt
  have hone : true.toNat = 1 := rfl
  have hsum : BitVec.ofNat 32 (a.toNat + (~~~b).toNat + true.toNat) = a - b := by
    rw [hnot, hone, BitVec.sub_def]
    congr 1
    omega
  have hcarry : decide (2 ^ 32 ≤ a.toNat + (~~~b).toNat + true.toNat) = decide (b.toNat ≤ a.toNat) :=
    decide_eq_decide.mpr (by rw [hnot, hone]; omega)
  have hnotInt : (~~~b).toInt = -b.toInt - 1 := by
    rw [BitVec.toInt_eq_toNat_cond, BitVec.toInt_eq_toNat_cond, hnot]
    omega
  have hover : decide (a.toInt + (~~~b).toInt + (true.toNat : Int) < -(2 ^ 31) ∨
      2 ^ 31 ≤ a.toInt + (~~~b).toInt + (true.toNat : Int)) = BitVec.ssubOverflow a b := by
    rw [BitVec.ssubOverflow, ← Bool.decide_or, hnotInt, hone]
    exact decide_eq_decide.mpr (by omega)
  simp only [addFlags, hsum, hcarry, hover, nzcvOf_eq]

theorem shlFlags_eq (a : Word) (n : Nat) :
    shlFlags a n = (a <<< n, condFlags (a <<< n) (decide (n ≠ 0) && a.getLsbD (32 - n)) false) := by
  rw [shlFlags, shiftFlags, nzcvOf_eq]

/-- An arithmetic shift divides the signed value, rounding down. -/
theorem shraFlags_eq (a : Word) (n : Nat) : shraFlags a n =
    (BitVec.ofInt 32 (a.toInt / 2 ^ n),
      condFlags (BitVec.ofInt 32 (a.toInt / 2 ^ n)) (decide (n ≠ 0) && a.getLsbD (n - 1)) false) := by
  have h : a.sshiftRight n = BitVec.ofInt 32 (a.toInt / 2 ^ n) := by
    rw [BitVec.sshiftRight, Int.shiftRight_eq_div_pow, Nat.cast_pow, Nat.cast_ofNat]
  rw [shraFlags, shiftFlags, nzcvOf_eq, h]

theorem shrlFlags_eq (a : Word) (n : Nat) : shrlFlags a n =
    (BitVec.ofNat 32 (a.toNat / 2 ^ n),
      condFlags (BitVec.ofNat 32 (a.toNat / 2 ^ n)) (decide (n ≠ 0) && a.getLsbD (n - 1)) false) := by
  have h : a >>> n = BitVec.ofNat 32 (a.toNat / 2 ^ n) := by
    rw [← Nat.shiftRight_eq_div_pow, ← BitVec.toNat_ushiftRight, BitVec.ofNat_toNat, BitVec.setWidth_eq]
  rw [shrlFlags, shiftFlags, nzcvOf_eq, h]

theorem signedMin_eq (a b : Word) : (if b.toInt < a.toInt then b else a) = BitVec.ofInt 32 (min a.toInt b.toInt) := by
  split
  next h => rw [min_eq_right h.le, BitVec.ofInt_toInt]
  next h => rw [min_eq_left (not_lt.mp h), BitVec.ofInt_toInt]

theorem signedMax_eq (a b : Word) : (if a.toInt < b.toInt then b else a) = BitVec.ofInt 32 (max a.toInt b.toInt) := by
  split
  next h => rw [max_eq_right h.le, BitVec.ofInt_toInt]
  next h => rw [max_eq_left (not_lt.mp h), BitVec.ofInt_toInt]

/-! ### Results in flight -/

/-- A scalar result with its optional flags, as writes in flight (R101). -/
def scalarWrites (sd : Nat) (f : Bool) (r : Word × BitVec 4) : List (Nat × Write) :=
  (1, .s sd r.1) :: (if f then [(1, .nzcv r.2)] else [])

theorem Core.scalarResult_flights (k : Core) (sd : Nat) (f : Bool) (r : Word × BitVec 4) : k.scalarResult sd f r = { k with
    flights := k.flights ++ (scalarWrites sd f r).map (fun p => ⟨p.1, k.inBank1, p.2⟩) } := by
  cases f with
  | false => rfl
  | true => simp [Core.scalarResult, scalarWrites, Core.push, Core.inBank1]

/-- An instruction whose operation answers a scalar result. -/
theorem State.issueCore_scalar {s : State} {c : Nat} (h : s.runs c) {f : Core → Core} {sd : Nat} {flag : Bool}
    {r r' : Word × BitVec 4} (hf : f (s.core c) = (s.core c).scalarResult sd flag r) (hr : r = r') :
    (.next (s.issueCore c true f) : Answer) = .next (s.fly c (scalarWrites sd flag r')) :=
  congrArg _ (State.issueCore_flies h rfl (hf.trans (hr ▸ Core.scalarResult_flights ..)))

/-- Settles O1: each instruction puts the result and the flags of its operation in flight. -/
theorem scalarResults : Obligations.ScalarResults := by
  intro c sd sa sb f imm s h a b n i z out
  have result {g : Core → Core} {r : Word × BitVec 4} {v : Word} {cy ov : Bool}
      (hg : g (s.core c) = (s.core c).scalarResult sd.toNat f r) (hr : r = (v, condFlags v cy ov)) :
      (.next (s.issueCore c true g) : Answer) = out v cy ov := (State.issueCore_scalar h hg hr :)
  have logic {r v : Word} (hv : r = v) : logicFlags r = (v, condFlags v false false) := hv ▸ logicFlags_eq r
  refine ⟨result rfl (addFlags_add a b), result rfl (addFlags_sub a b), result rfl (logic rfl), result rfl (logic rfl),
    result rfl (logic rfl), result rfl (shlFlags_eq a n), result rfl (shraFlags_eq a n), result rfl (shrlFlags_eq a n),
    result rfl (logic BitVec.mul_def), result rfl (logic (signedMin_eq a b)), result rfl (logic (signedMax_eq a b)), ?cmp,
    result rfl (addFlags_add a i), result rfl (logic rfl), result rfl (logic rfl), result rfl (logic rfl)⟩
  case cmp =>
    refine congrArg Host.Outcome.next (State.issueCore_flies h rfl ?_)
    simp only [addFlags_sub]
    rfl

/-! ### Vectors (R98 to R100) -/

/-- The lane that VPERM selects is the lane number modulo 8. -/
theorem setWidth_toFin (x : Word) : (x.setWidth 3).toFin = ⟨x.toNat % 8, Nat.mod_lt _ (by decide)⟩ :=
  Fin.ext (BitVec.toNat_setWidth 3 x)

/-- Settles O2: each instruction puts one vector in flight, lane by lane as its operation says, and VGET one lane. -/
theorem vectorResults : Obligations.VectorResults := by
  intro c dd da db n l sn s h k a b old out ones
  have vec {g : Core → Core} {f : Fin 8 → Word} (hg : g (s.core c) = (s.core c).vecPlain dd.toNat (vOf f)) :
      (.next (s.issueCore c true g) : Answer) = out f := congrArg _ (State.issueCore_flies h rfl hg)
  refine ⟨vec rfl, vec rfl, vec rfl, vec rfl, vec rfl, vec rfl, vec rfl, vec rfl, vec rfl, vec rfl, vec rfl, vec rfl, vec rfl,
    vec rfl, vec rfl, vec rfl, vec ?vperm, vec rfl, vec rfl, vec rfl,
    congrArg Host.Outcome.next (State.issueCore_flies h rfl rfl)⟩
  case vperm => simp only [setWidth_toFin, a, b, k]

/-! ## Control transfers (R109 to R114) -/

/-- Where the fields and the place are legal, the answer of the instruction's operation decides. -/
theorem State.issue_afterOp {s : State} {c : Nat} (h : s.runs c) {ctl legal : Bool} (hc : ctl = true → s.mayTransfer c)
    (hl : legal = true) (body : State → Issued) : s.issue c ctl true true legal body = s.afterOp c (body s) :=
  State.issue_runs s c _ _ _ _ _ h hl (by split <;> rfl) hc

/-- A control transfer in a delay slot or at a loop's end faults with cause 1 (R111, R114). -/
theorem State.issue_misplaced {s : State} {c : Nat} (h : s.runs c) (hm : ¬ s.mayTransfer c) (i0 i1 legal : Bool)
    (body : State → Issued) :
    s.issue c true i0 i1 legal body = s.coreFault c 1 0 (s.core c).bank.pc (s.core c).inBank1 := by
  obtain ⟨hrun, hx, hpc⟩ := h
  have hlive : ¬ (((s.core c).state != .row && (s.core c).state != .handler) || (s.core c).xwait != 0) = true := by
    rcases hrun with h | h <;> simp [h, hx]
  have hplace : 0 < (s.core c).slots ∨ loopEndNear (s.core c).bank = true := by
    by_contra hno
    obtain ⟨hs, hl⟩ := not_or.mp hno
    exact hm ⟨by omega, by simpa using hl⟩
  exact (if_neg hlive).trans (if_pos (.inr (.inr (.inr ⟨rfl, hplace⟩))))

section
variable (s : State) {c : Nat} {cond : BitVec 4} (dest : Core → Nat) (link : Bool)

theorem State.branchOp_taken (hc : condHolds cond (s.core c).bank.flags (s.core c).shed = true) :
    s.branchOp c cond dest link = .done (if link then s.setCore c ((s.core c).push 1 (s.core c).inBank1
      (.ctrl 1 (BitVec.ofNat 32 ((s.core c).bank.pc + 3)))) else s) (.taken (dest (s.core c))) 0 :=
  if_pos hc

theorem State.branchOp_untaken (hc : condHolds cond (s.core c).bank.flags (s.core c).shed = false) :
    s.branchOp c cond dest link = .done s .untaken 0 :=
  if_neg (by simp [hc])

end

theorem exec_loop {c : Fin 128} {inner creg : Bool} {len : BitVec 10} {count : BitVec 14} {s : State} {n : Word}
    (hn : (if creg then bankS (s.core c).bank (count.toNat % 16) else count.setWidth 32) = n) :
    exec (.loop c inner creg len count) s = .next (s.issue c true true true
      (decide ((s.core c).bank.pc + 1 + len.toNat ≤ 0x1FFF) && (!creg || decide (count.toNat < 16)))
      (fun s => s.loopOp c inner len.toNat n)) := by
  subst hn
  rfl

/-- Settles O9: a branch answers by its condition, LOOP by its count, and each faults where it may not stand. -/
theorem branches : Obligations.Branches := by
  intro c cond sn target inner creg len count s h k b reg holds linked go stay illegal n last set fits
  have misplaced (hm : ¬ s.mayTransfer c) (legal : Bool) (body : State → Issued) :
      (.next (s.issue c true true true legal body) : Answer) = illegal := congrArg _ (State.issue_misplaced h hm ..)
  have hlegal : (decide (b.pc + 1 + len.toNat ≤ 0x1FFF) && (!creg || decide (count.toNat < 16))) = true ↔ fits := by
    cases creg <;> simp [fits, last]
  refine ⟨fun hm hc => ?taken, fun hm hc => ?untaken, fun hm hf => ?loop, fun hf => ?unfit, fun hm =>
    ⟨misplaced hm .., misplaced hm .., misplaced hm .., misplaced hm .., misplaced hm .., misplaced hm ..⟩⟩
  case taken =>
    have taken (dest : Core → Nat) (link : Bool) :
        (.next (s.issue c true true true true (State.branchOp · c cond dest link)) : Answer) =
          go (if link then linked else s) (dest k) := by
      rw [State.issue_afterOp h (fun _ => hm) rfl, s.branchOp_taken dest link hc]
      rfl
    exact ⟨taken _ false, taken _ true, taken _ false, taken _ true, taken _ false⟩
  case untaken =>
    have untaken (dest : Core → Nat) (link : Bool) :
        (.next (s.issue c true true true true (State.branchOp · c cond dest link)) : Answer) = stay := by
      rw [State.issue_afterOp h (fun _ => hm) rfl, s.branchOp_untaken dest link hc]
      rfl
    exact ⟨untaken _ false, untaken _ true, untaken _ false, untaken _ true, untaken _ false⟩
  case loop =>
    have hn : (if creg then bankS b (count.toNat % 16) else count.setWidth 32) = n := by
      cases creg with
      | false => rfl
      | true => simp [n, Nat.mod_eq_of_lt (hf.2 rfl)]
    rw [exec_loop hn, State.issue_afterOp h (fun _ => hm) (hlegal.mpr hf), State.loopOp]
    split <;> rfl
  case unfit =>
    exact congrArg _ (State.issue_faults s c _ _ _ _ _ h (.inl (Bool.eq_false_iff.mpr (mt hlegal.mp hf))))

/-! ## TAP (R94, R95, R649) -/

@[simp] theorem vLane_vOf {α : Type} (f : Fin 8 → α) (i : Fin 8) : vLane (vOf f) i = f i := by
  fin_cases i <;> rfl

/-- An accumulation leaves the running bank the running one. -/
theorem State.inBank1_accResults (s : State) (c ad : Nat) (f : Fin 8 → Int) :
    ((s.accResults c ad f).core c).inBank1 = (s.core c).inBank1 := by
  rw [State.accResults, State.inBank1_stickySet, State.core_setCore_same]
  rfl

/-- The results `ws` join those in flight for the running bank. -/
def Core.join (k : Core) (ws : List (Nat × Write)) : Core :=
  { k with flights := k.flights ++ ws.map (fun p => ⟨p.1, k.inBank1, p.2⟩) }

theorem State.afterIssue_join {s : State} {c : Nat} {b1 : Bool} (hb : (s.core c).inBank1 = b1) (ws : List (Nat × Write)) :
    (s.modCore c (Core.join · ws)).afterIssue c b1 .seq 0 = s.fly c ws := by
  subst hb
  rfl

theorem State.flew_fly (s : State) (c : Nat) (ws : List (Nat × Write)) : s.flew (s.fly c ws) c ws := by
  have honly : OnlyCore c s (s.fly c ws) := (OnlyCore.setCore ..).trans (.afterIssue ..)
  exact ⟨honly.frame, honly.others, rfl⟩

section
variable (s : State) (c ad pn pc : Nat) (ddir cv cdir neg z : Bool)

/-- The address of the sample of a TAP: its pointer, wrapped. -/
def State.tapSampleAddr : Nat := (bankCirc (s.core c).bank pn 0).toNat

/-- The address of its coefficient: the pointer as it is. -/
def State.tapCoefAddr : Nat := (bankP (s.core c).bank pc).toNat

/-- The bytes of its coefficient: a vector, or one word for all lanes. -/
def tapCoefSize : Nat := if cv then 32 else 4

/-- The addend of a TAP in lane `i`: sample times coefficient, subtracted with NEG (R94). -/
def State.tapProduct (i : Fin 8) : Int :=
  let x := (s.coreLoad c (s.tapSampleAddr c pn + 4 * i.val)).toInt
  let h := (s.coreLoad c (if cv then s.tapCoefAddr c pc + 4 * i.val else s.tapCoefAddr c pc)).toInt
  if neg then -(2 * (x * h)) else 2 * (x * h)

/-- The pointers that a TAP writes (R94). -/
def State.tapPointers : List (Nat × Write) :=
  let b := (s.core c).bank
  [(1, .p pn (bankCirc b pn (if ddir then 32 else -32))),
   (1, .p pc (bankCirc b pc (if cdir then -(BitVec.ofNat 32 (tapCoefSize cv)) else BitVec.ofNat 32 (tapCoefSize cv))))]

/-- May a sample come from this region (R95)? -/
abbrev tapSampleOk (r : Region) : Prop := r = .ram ∨ r = .inport ∨ r = .outport

/-- The accumulation of a TAP, lane by lane. -/
def State.tapAccumulated : State :=
  s.accResults c ad (fun i => s.accStart c ad z i + s.tapProduct c pn pc cv neg i)

theorem State.tapOp_eq : s.tapOp c ad pn pc ddir cv cdir neg z =
    if tapSampleOk (regionOf (s.tapSampleAddr c pn)) then
      if regionOf (s.tapCoefAddr c pc) = .coef then
        if s.tapSampleAddr c pn % 32 = 0 then
          if s.tapCoefAddr c pc % tapCoefSize cv = 0 then
            .done ((s.tapAccumulated c ad pn pc cv neg z).modCore c (Core.join · (s.tapPointers c pn pc ddir cv cdir))) .seq 0
          else .fault s 3 (s.tapCoefAddr c pc)
        else .fault s 3 (s.tapSampleAddr c pn)
      else .fault s 2 (s.tapCoefAddr c pc)
    else .fault s 2 (s.tapSampleAddr c pn) := by
  have hacc : s.accumulate c ad z (fun i => (if neg then -1 else 1) * prod (vLane (s.coreLoadV c (s.tapSampleAddr c pn)) i)
      (vLane (if cv then s.coreLoadV c (s.tapCoefAddr c pc) else vBroadcast (s.coreLoad c (s.tapCoefAddr c pc))) i)) =
      s.tapAccumulated c ad pn pc cv neg z := by
    refine s.accumulate_eq c ad z fun i => ?_
    cases cv <;> cases neg <;> simp [prod, State.tapProduct, State.coreLoadV]
  have hbad (r : Region) : (decide (r ≠ .ram) && decide (r ≠ .inport) && decide (r ≠ .outport)) = decide (¬ tapSampleOk r) := by
    cases r <;> rfl
  have hpush (k : Core) (v w : Write) : (k.push 1 k.inBank1 v).push 1 k.inBank1 w = k.join [(1, v), (1, w)] := by
    simp [Core.push, Core.join]
  simp only [State.tapOp, hbad, decide_eq_true_eq, hpush, ne_eq, ite_not]
  rw [← hacc]
  rfl

end

/-- Settles O5: the checks of TAP in their order, and the accumulation with its two pointers where all of them pass. -/
theorem tapStep : Obligations.TapStep := by
  intro c ad pn pc ddir cv cdir neg z s h hp k b xa ca size sampleOk run
  have hop := s.tapOp_eq c ad.toNat pn.toNat pc.toNat ddir cv cdir neg z
  have hrun {o : Issued} (ho : s.tapOp c ad.toNat pn.toNat pc.toNat ddir cv cdir neg z = o) : run = .next (s.afterOp c o) := by
    subst ho
    exact congrArg Host.Outcome.next (State.issue_afterOp h (by simp) (by simpa using hp)
      (State.tapOp · c ad.toNat pn.toNat pc.toNat ddir cv cdir neg z))
  refine ⟨fun hs hc hx ha => ?accumulates, fun hs => hrun (hop.trans (if_neg hs)),
    fun hs hc => hrun (hop.trans ((if_pos hs).trans (if_neg hc))),
    fun hs hc hx => hrun (hop.trans ((if_pos hs).trans ((if_pos hc).trans (if_neg hx)))),
    fun hs hc hx ha => hrun (hop.trans ((if_pos hs).trans ((if_pos hc).trans ((if_pos hx).trans (if_neg ha)))))⟩
  case accumulates =>
    intro x h p base acc
    have hacc : s.tapAccumulated c ad.toNat pn.toNat pc.toNat cv neg z = acc := rfl
    have hdone := hrun (hop.trans ((if_pos hs).trans ((if_pos hc).trans ((if_pos hx).trans (if_pos ha)))))
    refine ⟨acc.fly c (s.tapPointers c pn.toNat pc.toNat ddir cv cdir), hdone.trans (congrArg _ ?_), acc.flew_fly c _⟩
    rw [hacc]
    exact State.afterIssue_join (s.inBank1_accResults ..) _

end Sys2Proof.Machine

/-! ## Swaps of the banks of a core (R53, R147, R148) -/

namespace Sys2Proof.Machine

/-! ### What a swap writes in CORE_BANKS -/

theorem OnlyReg.cores {a : Nat} {s t : State} (h : OnlyReg a s t) : t.cores = s.cores := by
  obtain ⟨_, _, rfl⟩ := h
  rfl

theorem OnlyReg.get_other {a : Nat} {s t : State} (h : OnlyReg a s t) {f : Fd} (hf : f.addr ≠ a) : t.get f = s.get f := by
  rw [State.get, h.1 _ hf, State.get]

/-- Bit `b` of the register at `a` names the other bank, and the count in its field [m:l] advances. -/
def State.bankCounted (s : State) (a b m l : Nat) : State :=
  (s.flag ⟨a, b, b⟩ (!s.on ⟨a, b, b⟩)).put ⟨a, m, l⟩ (s.get ⟨a, m, l⟩ + 1)

/-- READY, bit `r` of the register at `a`, is cleared where it is set. -/
def State.readyCleared (s : State) (a r : Nat) : State :=
  if s.on ⟨a, r, r⟩ == false then s else s.flag ⟨a, r, r⟩ false

/-- The register at `a` after a swap on a unit without a partner. -/
def State.bankSwapped (s : State) (a b m l r : Nat) : State := (s.bankCounted a b m l).readyCleared a r

/-- The bit of the bank, READY and the count above them share no bit. -/
abbrev SwapFields (b m l r : Nat) : Prop := b ≠ r ∧ b < l ∧ r < l ∧ l ≤ m ∧ m ≤ 31

theorem OnlyReg.bankCounted (s : State) (a b m l : Nat) : OnlyReg a s (s.bankCounted a b m l) :=
  (OnlyReg.put a b b _ s).trans (.put a m l _ _)

theorem OnlyReg.readyCleared (s : State) (a r : Nat) : OnlyReg a s (s.readyCleared a r) := by
  unfold State.readyCleared
  split
  · exact .refl a s
  · exact .put a r r _ s

theorem OnlyReg.bankSwapped (s : State) (a b m l r : Nat) : OnlyReg a s (s.bankSwapped a b m l r) :=
  (OnlyReg.bankCounted s a b m l).trans (.readyCleared _ a r)

theorem State.on_readyCleared (s : State) {a r : Nat} (hr : r ≤ 31) : (s.readyCleared a r).on ⟨a, r, r⟩ = false := by
  unfold State.readyCleared
  split
  · next h => exact beq_iff_eq.mp h
  · exact s.on_flag_same _ _ rfl hr

theorem State.get_readyCleared (s : State) {a r : Nat} {g : Fd} (hr : r ≤ 31) (hg : g.msb < r ∨ r < g.lsb) :
    (s.readyCleared a r).get g = s.get g := by
  unfold State.readyCleared
  split
  · rfl
  · exact s.get_put_disjoint _ (le_refl r) hr hg

section
variable (s : State) (a : Nat) {b m l r : Nat} (h : SwapFields b m l r)
include h

theorem State.on_bankSwapped_bank : (s.bankSwapped a b m l r).on ⟨a, b, b⟩ = !s.on ⟨a, b, b⟩ := by
  obtain ⟨hbr, hb, hr, hl, hm⟩ := h
  rw [State.on, State.bankSwapped, State.get_readyCleared _ (by omega) (Nat.lt_or_gt_of_ne hbr), State.bankCounted,
    State.get_put_disjoint _ _ hl hm (.inl hb)]
  exact s.on_flag_same _ _ rfl (by simp only; omega)

theorem State.get_bankSwapped_count : (s.bankSwapped a b m l r).get ⟨a, m, l⟩ = (s.get ⟨a, m, l⟩ + 1) % 2 ^ (m + 1 - l) := by
  obtain ⟨-, -, hr, hl, hm⟩ := h
  rw [State.bankSwapped, State.get_readyCleared _ (by omega) (.inr hr)]
  exact State.get_put_same _ _ _ hl hm

theorem State.on_bankSwapped_ready : (s.bankSwapped a b m l r).on ⟨a, r, r⟩ = false := by
  obtain ⟨-, -, hr, hl, hm⟩ := h
  exact State.on_readyCleared _ (by omega)

theorem State.on_bankSwapped_other {k : Nat} (hk : k < l) (hkb : k ≠ b) (hkr : k ≠ r) :
    (s.bankSwapped a b m l r).on ⟨a, k, k⟩ = s.on ⟨a, k, k⟩ := by
  obtain ⟨-, hb, hr, hl, hm⟩ := h
  rw [State.on, State.bankSwapped, State.get_readyCleared _ (by omega) (Nat.lt_or_gt_of_ne hkr), State.bankCounted,
    State.get_put_disjoint _ _ hl hm (.inl hk), State.flag,
    State.get_put_disjoint _ _ (le_refl b) (by simp only; omega) (Nat.lt_or_gt_of_ne hkb), State.on]

end

/-! ### The swaps of a unit without a partner -/

theorem State.paired_of_onlyReg_banks {s t : State} (c : Nat) (h : OnlyReg (Reg.CLU_CORE_BANKS (c / 8) (c % 8)) s t) :
    t.paired = s.paired := by
  have hne : Reg.TWN_STAT ≠ Reg.CLU_CORE_BANKS (c / 8) (c % 8) := by
    simp only [Reg.TWN_STAT, Reg.CLU_CORE_BANKS]
    omega
  rw [State.paired, h.get_other hne, State.paired]

section
variable {s : State} (h : s.paired = false) (c : Nat)
include h

theorem State.reportReady_unpaired (kind core : Nat) (b : Bool) : s.reportReady kind core b = s := by
  rw [State.reportReady, h, if_neg Bool.false_ne_true]

theorem State.setCready_unpaired : s.setCready c false = s.readyCleared (Reg.CLU_CORE_BANKS (c / 8) (c % 8)) 2 :=
  congrArg (ite _ s) (State.reportReady_unpaired ((State.paired_of_onlyReg_banks c (.put ..)).trans h) ..)

theorem State.setPready_unpaired : s.setPready c false = s.readyCleared (Reg.CLU_CORE_BANKS (c / 8) (c % 8)) 3 :=
  congrArg (ite _ s) (State.reportReady_unpaired ((State.paired_of_onlyReg_banks c (.put ..)).trans h) ..)

theorem State.swapCoef_unpaired : s.swapCoef c = s.bankSwapped (Reg.CLU_CORE_BANKS (c / 8) (c % 8)) 1 19 8 2 :=
  State.setCready_unpaired ((State.paired_of_onlyReg_banks c (.bankCounted ..)).trans h) c

end

/-- The registers that a cast-on writes: those of the swap, and the CORE_BUDGET of the new program. -/
def State.castRegs (s : State) (c : Nat) (value : Word) : State :=
  (s.bankSwapped (Reg.CLU_CORE_BANKS (c / 8) (c % 8)) 0 31 20 3).setReg (Reg.CLU_CORE_BUDGET (c / 8) (c % 8)) value

section
variable (s : State) (c : Nat) (value : Word)

theorem State.core_castRegs (d : Nat) : (s.castRegs c value).core d = s.core d := by
  rw [State.castRegs, State.core_setReg, State.core, (OnlyReg.bankSwapped ..).cores, State.core]

theorem State.get_castRegs {f : Fd} (hf : f.addr = Reg.CLU_CORE_BANKS (c / 8) (c % 8)) : (s.castRegs c value).get f =
    (s.bankSwapped (Reg.CLU_CORE_BANKS (c / 8) (c % 8)) 0 31 20 3).get f := by
  have hne : f.addr ≠ Reg.CLU_CORE_BUDGET (c / 8) (c % 8) := by
    simp only [hf, Reg.CLU_CORE_BANKS, Reg.CLU_CORE_BUDGET]
    omega
  rw [State.get, State.castRegs, State.reg_setReg_other _ _ _ _ hne, State.get]

end

section
variable {s : State} (h : s.paired = false) (c : Nat) (keep fade : Bool) (value start : Word)
include h

theorem State.swapProg_unpaired : s.swapProg c keep value =
    if keep then s.castRegs c value else (s.castRegs c value).modCore c Core.clearRegs := by
  have hready := State.setPready_unpaired ((State.paired_of_onlyReg_banks c (OnlyReg.bankCounted s _ 0 31 20)).trans h) c
  rw [State.castRegs, State.bankSwapped, ← hready]
  rfl

theorem State.regs_castOn_unpaired : (s.castOn c keep fade value start).regs = (s.castRegs c value).regs := by
  rw [State.castOn, State.swapProg_unpaired h]
  cases keep <;> rfl

theorem State.core_castOn_same : (s.castOn c keep fade value start).core c =
    { (if keep then s.core c else (s.core c).clearRegs) with
      fade := if fade then .fadeIn start else .none, castHold := s.early c,
      state := if s.early c then .idle else (s.core c).state } := by
  rw [State.castOn, State.modCore, State.core_setCore_same, State.swapProg_unpaired h]
  cases keep
  · rw [if_neg Bool.false_ne_true, State.modCore, State.core_setCore_same, State.core_castRegs]
    rfl
  · rw [if_pos rfl, State.core_castRegs]
    rfl

theorem State.core_castOn_other {d : Nat} (hd : d ≠ c) : (s.castOn c keep fade value start).core d = s.core d := by
  rw [State.castOn, State.modCore, State.core_setCore_other _ _ _ _ hd, State.swapProg_unpaired h]
  cases keep
  · rw [if_neg Bool.false_ne_true, State.modCore, State.core_setCore_other _ _ _ _ hd, State.core_castRegs]
  · rw [if_pos rfl, State.core_castRegs]

end

/-- Settles O17: both swaps write CORE_BANKS in the same way; a cast-on then writes CORE_BUDGET and its core, which keeps its
memories. -/
theorem swapEffect : Obligations.SwapEffect := by
  intro c keep fade value start s h cb pb t u
  let a := Reg.CLU_CORE_BANKS (c / 8) (c % 8)
  have hcoef : SwapFields 1 19 8 2 := by decide
  have hprog : SwapFields 0 31 20 3 := by decide
  have ht : t = s.bankSwapped a 1 19 8 2 := State.swapCoef_unpaired h c
  have htreg : OnlyReg a s t := ht ▸ OnlyReg.bankSwapped s a 1 19 8 2
  have hregs : u.regs = (s.castRegs c value).regs := State.regs_castOn_unpaired h c keep fade value start
  have hget {f : Fd} (hf : f.addr = a) : u.get f = (s.bankSwapped a 0 31 20 3).get f := by
    rw [← s.get_castRegs c value hf, State.get, State.reg, hregs]
    rfl
  have hon {k : Nat} : u.on ⟨a, k, k⟩ = (s.bankSwapped a 0 31 20 3).on ⟨a, k, k⟩ := congrArg (· == 1) (hget rfl)
  have hcore := State.core_castOn_same h c keep fade value start
  refine ⟨ht ▸ s.on_bankSwapped_bank a hcoef, ht ▸ s.get_bankSwapped_count a hcoef, ht ▸ s.on_bankSwapped_ready a hcoef,
    ht ▸ s.on_bankSwapped_other a hcoef (by decide) (by decide) (by decide), htreg.cores, htreg.1,
    hon.trans (s.on_bankSwapped_bank a hprog), (hget rfl).trans (s.get_bankSwapped_count a hprog),
    hon.trans (s.on_bankSwapped_ready a hprog),
    hon.trans (s.on_bankSwapped_other a hprog (by decide) (by decide) (by decide)), ?budget, ?cleared, ?kept,
    ?ram, ?prog0, ?prog1, ?coef0, ?coef1, fun d hd => State.core_castOn_other h c keep fade value start hd⟩
  case budget =>
    rw [State.reg, hregs]
    exact State.reg_setReg_same _ _ value
  case cleared =>
    rintro rfl
    rw [hcore]
    exact ⟨rfl, rfl, rfl⟩
  case kept =>
    rintro rfl
    rw [hcore]
    exact ⟨rfl, rfl⟩
  all_goals
    rw [hcore]
    cases keep <;> rfl

end Sys2Proof.Machine

/-! ## Registers of a core and of its cluster (R10, R127, R137, R157, R158) -/

namespace Sys2Proof.Machine

/-! ### CORE_BUDGET and CORE_OUTCFG -/

section
variable {s : State} (c : Fin 128) (w : Word)

theorem exec_coreBudgetWrite (h : s.paired = false) : exec (.coreBudgetWrite c w) s = .next (s.writeBudget c w) :=
  congrArg Host.Outcome.next (if_neg (Bool.not_eq_true _ ▸ h))

theorem exec_coreOutcfgWrite (h : s.paired = false) : exec (.coreOutcfgWrite c w) s = .next (s.writeOutcfg c w) :=
  congrArg Host.Outcome.next (if_neg (Bool.not_eq_true _ ▸ h))

end

section
variable {s : State} {c : Nat} {w : Word}

theorem State.writeBudget_of_not_declaration (hd : isDeclaration w = false) :
    s.writeBudget c w = s.invalid (Reg.CLU_CORE_BUDGET (c / 8) (c % 8)) :=
  if_pos (by rw [hd]; rfl)

theorem State.writeBudget_of_declaration (hd : isDeclaration w = true) (hw : w ≠ s.reg (Reg.CLU_CORE_BUDGET (c / 8) (c % 8))) :
    s.writeBudget c w = if (s.core c).settled then s.setReg (Reg.CLU_CORE_BUDGET (c / 8) (c % 8)) w
      else s.invalid (Reg.CLU_CORE_BUDGET (c / 8) (c % 8)) :=
  (if_neg (by rw [hd]; decide)).trans (if_neg hw)

theorem State.writeOutcfg_of_reserved (hd : 512 < w.toNat % 1024) (hw : w.msb = false) :
    s.writeOutcfg c w = s.invalid (Reg.CLU_CORE_OUTCFG (c / 8) (c % 8)) := by
  rw [State.writeOutcfg, if_pos hd, hw]
  rfl

/-- A value up to 512 has STSAT 0, so DIGN alone is written. -/
theorem State.writeOutcfg_of_settled (hd : w.toNat ≤ 512) (hs : (s.core c).settled = true)
    (hw : w.toNat ≠ s.get (fdCore Fld.CLU_CORE_OUTCFG_DIGN c)) :
    s.writeOutcfg c w = s.put (fdCore Fld.CLU_CORE_OUTCFG_DIGN c) w.toNat := by
  have hmod : w.toNat % 1024 = w.toNat := Nat.mod_eq_of_lt (by omega)
  have hmsb : w.msb = false := BitVec.msb_eq_false_iff_two_mul_lt.mpr (by omega)
  rw [State.writeOutcfg, hmod, hmsb, if_neg (by omega), if_neg hw, if_pos hs]
  rfl

end

/-! ### Fields that a read clears -/

theorem State.reg_readClear_other (s : State) {f : Fd} {b : Nat} (hb : b ≠ f.addr) : (s.readClear f).reg b = s.reg b :=
  State.reg_put_other _ hb

/-- A field of 32 bits is its register. -/
theorem State.readClear_word (s : State) (a : Nat) :
    let t := s.readClear ⟨a, 31, 0⟩
    t.reg a = 0 ∧ t.outbox = .answer (s.reg a) :: s.outbox ∧ t = { s with regs := t.regs, outbox := t.outbox } ∧
      ∀ b, b ≠ a → t.reg b = s.reg b := by
  have hanswer : BitVec.ofNat 32 (s.get ⟨a, 31, 0⟩) = s.reg a := (congrArg _ (bitsOf_word _)).trans (BitVec.ofNat_toNat ..)
  refine ⟨?_, congrArg (fun v => Output.answer v :: s.outbox) hanswer, rfl, fun b hb => s.reg_readClear_other hb⟩
  exact (State.reg_setReg_same ..).trans (withBits_word _ 0)

/-! ### Digests -/

theorem digestRegs_ascend (n : Nat) : Reg.CLU_DIGEST_LO n < Reg.CLU_DIGEST_HI n ∧ Reg.CLU_DIGEST_HI n < Reg.CLU_DIGEST_ROW n ∧
    Reg.CLU_DIGEST_ROW n < Reg.CLU_DIGEST_STITCH n := by
  simp only [Reg.CLU_DIGEST_LO, Reg.CLU_DIGEST_HI, Reg.CLU_DIGEST_ROW, Reg.CLU_DIGEST_STITCH]
  omega

theorem State.reg_snapDigest (s : State) (n b : Nat) :
    let d := s.row.digests.get (fun _ => digestNone) n
    (s.snapDigest n).reg b =
      if b = Reg.CLU_DIGEST_STITCH n then d.stitch.setWidth 32
      else if b = Reg.CLU_DIGEST_ROW n then d.row
      else if b = Reg.CLU_DIGEST_HI n then (d.value >>> 32).setWidth 32
      else if b = Reg.CLU_DIGEST_LO n then d.value.setWidth 32
      else s.reg b := by
  simp only [State.snapDigest, State.reg_setReg]

/-- Settles O20: the two writes, the four reads that clear what they answer, and the capture of a digest. -/
theorem coreRegisters : Obligations.CoreRegisters := by
  refine ⟨?writes, ?reads, ?wmax, ?digest⟩
  case writes =>
    intro c w s h a o
    rw [exec_coreBudgetWrite c w h, exec_coreOutcfgWrite c w h]
    refine ⟨fun hd hs hw => ?_, fun hd => ?_, fun hd hs hw => ?_, fun hd hs hw => ?_, fun hd hw => ?_⟩
    · rw [State.writeBudget_of_declaration hd hw, if_pos hs]
    · rw [State.writeBudget_of_not_declaration hd]
    · rw [State.writeBudget_of_declaration hd hw, hs, if_neg Bool.false_ne_true]
    · rw [State.writeOutcfg_of_settled hd hs hw]
    · rw [State.writeOutcfg_of_reserved hd hw]
  case reads =>
    intro c s clears
    have hread (a : Nat) {i : Instr} (hi : exec i s = .next (s.readClear ⟨a, 31, 0⟩)) : clears i a :=
      ⟨_, hi, s.readClear_word a⟩
    exact ⟨hread _ rfl, hread _ rfl, hread _ rfl⟩
  case wmax =>
    intro s
    exact ⟨_, rfl, State.get_put_same _ _ _ (by decide) (by decide), rfl, fun b hb => s.reg_readClear_other hb⟩
  case digest =>
    intro n w s d
    obtain ⟨hlo, hhi, hrow⟩ := digestRegs_ascend n
    have hreg := s.reg_snapDigest n
    refine ⟨s.snapDigest n, rfl, ?_, ?_, ?_, ?_, rfl, fun b hblo hbhi hbrow hbst => ?_⟩
    · rw [hreg, if_neg (by omega), if_neg (by omega), if_neg (by omega), if_pos rfl]
    · rw [hreg, if_neg (by omega), if_neg (by omega), if_pos rfl]
    · rw [hreg, if_neg (by omega), if_pos rfl]
    · rw [hreg, if_pos rfl]
    · rw [hreg, if_neg hbst, if_neg hbrow, if_neg hbhi, if_neg hblo]

end Sys2Proof.Machine

/-! ## Commands at the head of a ring (R141, R145, R433 to R442, R475, R587, R588) -/

namespace Sys2Proof.Machine

section
variable {s : State} {r : Nat}

theorem State.execHead_of_empty (h : (s.ring r).fetched = []) (p : Desc → Bool) (f : State → Desc → State) :
    s.execHead r p f = s := by
  rw [State.execHead, h]

section
variable {d : Desc} (h : s.headIs r d) {p : Desc → Bool} (hp : p d = true)
include h hp

/-- A command that finds its descriptor at the head checks the fields, then takes effect (R435, R440). -/
theorem State.execHead_of_headIs (f : State → Desc → State) : s.execHead r p f =
    ((s.badField r d).elim (f s d) fun o => s.finishHead r (d.comp r 2 o)).startAllRx.pumpAll := by
  obtain ⟨hhead, hrun, hactive, hdup, hlost, hop⟩ := h
  obtain ⟨q, hq⟩ := List.head?_eq_some_iff.mp hhead
  cases hb : s.badField r d <;> simp [State.execHead, hq, hrun, hactive, hdup, hlost, hop, hp, hb]

theorem State.execHead_turn {f : State → Desc → State} {t : State} (hf : f s d = t) :
    (∀ o, s.badField r d = some o →
      (.next (s.execHead r p f) : Answer) = .next (s.finishHead r (d.comp r 2 o)).startAllRx.pumpAll) ∧
    (s.badField r d = none → (.next (s.execHead r p f) : Answer) = .next t.startAllRx.pumpAll) := by
  rw [State.execHead_of_headIs h hp, hf]
  exact ⟨fun o hb => by rw [hb, Option.elim_some], fun hb => by rw [hb, Option.elim_none]⟩

end

end

theorem exec_rxBuf_of_empty {s : State} {r : Fin 64} (h : (s.ring r).fetched = []) : exec (.rxBuf r) s = .next s := by
  show execRxBuf r s = .next s
  rw [execRxBuf, h]

theorem isConfig_of_key {d : Desc} {key : Nat} (hop : d.op = 8) (hkey : d.p0 = key) : isConfig key d = true := by
  simp [isConfig, hop, hkey]

/-- Settles O46: with an empty ring there is no head; else `execHead_turn` with the effect of each command. -/
theorem ringCommands : Obligations.RingCommands := by
  intro r s
  refine ⟨fun h => ?empty, fun d h => ?head⟩
  case empty =>
    have unchanged (p : Desc → Bool) (f : State → Desc → State) : (.next (s.execHead r p f) : Answer) = .next s :=
      congrArg _ (State.execHead_of_empty h p f)
    iterate 19 refine List.forall_mem_cons.mpr ⟨unchanged _ _, ?_⟩
    exact List.forall_mem_cons.mpr ⟨exec_rxBuf_of_empty h, fun _ hn => absurd hn List.not_mem_nil⟩
  case head =>
    intro turn fin q
    have op {n : Nat} (hop : d.op = n) : (d.op == n) = true := beq_iff_eq.mpr hop
    iterate 8 refine ⟨fun hop => State.execHead_turn h (op hop) rfl, ?_⟩
    iterate 6 refine ⟨fun hop hkey => State.execHead_turn h (isConfig_of_key hop hkey) rfl, ?_⟩
    refine ⟨fun f hop hf => ⟨fun hp => ?resume, fun hp => ?abort⟩, fun hop => ⟨fun hp => ?run, fun hp => ?slot⟩,
      fun hop => State.execHead_turn h (op hop) rfl⟩
    case resume => exact State.execHead_turn h (by simp [hop, hp]) (by rw [hf])
    case abort => exact State.execHead_turn h (by simp [hop, hp]) (by rw [hf])
    case run => exact State.execHead_turn h (by simp [hop, hp]) rfl
    case slot => exact State.execHead_turn h (by rcases hp with hp | hp <;> simp [hop, hp]) rfl

end Sys2Proof.Machine

/-! ## Records for the map, the matrix and the delay lines (R166 to R181) -/

namespace Sys2Proof.Machine

variable {s : State} {r : TpRec} {q : List TpRec} {w : Word}

/-- A direct write or a UNIT_FIELD record is of the commands that list its target. -/
theorem TpRec.names_of_target {as : List Nat} (hform : r.direct = true ∨ r.cls = 5) (ht : r.target ∈ as) :
    r.names as = true := by
  simp [TpRec.names, hform, ht]

/-! ### The channel map (R166, R168) -/

/-- The entry `e` would make a second source of a slot (R28). -/
def State.SecondSource (s : State) (cls idx : Nat) (e : BitVec 16) : Prop :=
  cls < 0x10 ∧ ∃ n, entrySlot e = some n ∧ slotTaken s.activeMap (mapKey cls idx) n = true

section
variable (hi : s.get Fld.SST_MAP_SEL_INDEX < classSize (s.get Fld.SST_MAP_SEL_CLASS))
include hi

theorem State.applyMapData_second
    (h : s.SecondSource (s.get Fld.SST_MAP_SEL_CLASS) (s.get Fld.SST_MAP_SEL_INDEX) (w.setWidth 16 &&& 0xBFFF#16)) :
    s.applyMapData w = (s.count ctrMapref).invalid Reg.SST_MAP_DATA := by
  obtain ⟨hc, n, he, ht⟩ := h
  simp [State.applyMapData, hi, hc, he, ht]

theorem State.applyMapData_entry
    (h : ¬ s.SecondSource (s.get Fld.SST_MAP_SEL_CLASS) (s.get Fld.SST_MAP_SEL_INDEX) (w.setWidth 16 &&& 0xBFFF#16)) :
    s.applyMapData w = s.setActiveMap (s.activeMap.set (fun _ => 0)
      (mapKey (s.get Fld.SST_MAP_SEL_CLASS) (s.get Fld.SST_MAP_SEL_INDEX)) (w.setWidth 16 &&& 0xBFFF#16)) := by
  cases he : entrySlot (w.setWidth 16 &&& 0xBFFF#16) with
  | none => simp [State.applyMapData, hi, he]
  | some n =>
    have hfree : ¬ (s.get Fld.SST_MAP_SEL_CLASS < 0x10 ∧
        slotTaken s.activeMap (mapKey (s.get Fld.SST_MAP_SEL_CLASS) (s.get Fld.SST_MAP_SEL_INDEX)) n = true) :=
      fun ⟨hc, ht⟩ => h ⟨hc, n, he, ht⟩
    simp [State.applyMapData, hi, he, hfree]

end

/-- The shadow map may become the active one (R168, R477). -/
def State.MapReady (s : State) : Prop :=
  s.on Fld.SST_MAP_STAT_SHREADY = true ∧ s.loadOpen 4 = false ∧ s.twinReady 2 0 s.tickRow = true

theorem State.swapMap_of_ready (h : s.MapReady) :
    s.swapMap = (s.flag Fld.SST_MAP_STAT_ACTIVE (!s.on Fld.SST_MAP_STAT_ACTIVE)).setMapReady false := by
  obtain ⟨hs, hl, ht⟩ := h
  simp [State.swapMap, hs, hl, ht]

theorem State.swapMap_of_not_ready (h : ¬ s.MapReady) : s.swapMap = (s.count ctrMapref).raise 43 0 :=
  if_neg (by simpa [State.MapReady, and_assoc] using h)

/-- What SWAP makes of the state is checked where the write is a record's and has CHECK (R616). -/
theorem State.applyMapCtl_eq {t : State} (direct : Bool) (ht : (if w.getLsbD 1 then s.swapMap else s) = t) :
    s.applyMapCtl w direct = if w.getLsbD 0 = true ∧ direct = false then t.startMapCheck else t := by
  subst ht
  simp [State.applyMapCtl]

/-! ### The matrix (R175 to R177) -/

/-- The shadow table may become the active one (R175, R477). -/
def State.MtxReady (s : State) : Prop :=
  s.on Fld.MTX_TBL_STAT_SHREADY = true ∧ s.loadOpen 5 = false ∧ s.twinReady 3 0 s.tickRow = true ∧
    s.get Fld.MTX_SHD_LEN_COUNT ≤ mtxCapacity (fabricAt s.isFast s.checkStepNow s.row.selvage s.fs)

theorem State.swapMtx_of_ready (h : s.MtxReady) :
    s.swapMtx = ((((s.put Fld.MTX_SHD_LEN_COUNT (s.get Fld.MTX_ACT_LEN_COUNT)).put Fld.MTX_ACT_LEN_COUNT
      (s.get Fld.MTX_SHD_LEN_COUNT)).flag Fld.MTX_TBL_STAT_ACTIVE (!s.on Fld.MTX_TBL_STAT_ACTIVE)).setMtxReady
        false).setGlides [] := by
  obtain ⟨hs, hl, ht, hfit⟩ := h
  simp [State.swapMtx, hs, hl, ht, hfit]

theorem State.swapMtx_of_not_ready (h : ¬ s.MtxReady) : s.swapMtx = (s.count ctrSwapref).raise 45 0 :=
  if_neg (by simpa [State.MtxReady, and_assoc] using h)

theorem State.applyTblCtl_eq {t : State} (direct : Bool) (ht : (if w.getLsbD 1 then s.swapMtx else s) = t) :
    s.applyTblCtl w direct = if w.getLsbD 0 = true ∧ direct = false then t.startMtxCheck else t := by
  subst ht
  simp [State.applyTblCtl]

/-- The gain from which a glide of entry `i` starts: the last one of the glide that runs on it, else that of the table. -/
def State.glideStart (s : State) (i : Nat) : Word := (s.glideOn i).elim (s.mtxEntry s.mtxActive i).1 Glide.last

theorem State.glideStart_of_running {i : Nat} {g : Glide} (h : s.glideOn i = some g) : s.glideStart i = g.last := by
  rw [State.glideStart, h, Option.elim_some]

theorem State.glideStart_of_none {i : Nat} (h : s.glideOn i = none) : s.glideStart i = (s.mtxEntry s.mtxActive i).1 := by
  rw [State.glideStart, h, Option.elim_none]

section
variable (hi : s.get Fld.MTX_XP_SEL_INDEX < s.get Fld.MTX_ACT_LEN_COUNT)
include hi

/-- Every glide that may run runs on other entries, so the new gain takes effect at once (R177). -/
theorem State.applyXpGain_full (hn : s.get Fld.MTX_XP_SEL_GLIDE ≠ 0)
    (hfull : 16384 ≤ ((s.fab.glides.filter (fun g => g.entry != s.get Fld.MTX_XP_SEL_INDEX)).filter Glide.runs).length) :
    s.applyXpGain w = ((((s.setReg Reg.MTX_XP_GAIN w).setGlides
      (s.fab.glides.filter (fun g => g.entry != s.get Fld.MTX_XP_SEL_INDEX))).setActGain (s.get Fld.MTX_XP_SEL_INDEX) w).count
        ctrGlidefull).raise 46 (s.get Fld.MTX_XP_SEL_INDEX) :=
  (if_neg (by omega)).trans (if_pos ⟨hn, hfull⟩)

/-- A glide starts, in place of the one that runs on the entry (R176; log entry 19). -/
theorem State.applyXpGain_glide {g0 : Word} (hfull : ¬ (s.get Fld.MTX_XP_SEL_GLIDE ≠ 0 ∧
      16384 ≤ ((s.fab.glides.filter (fun g => g.entry != s.get Fld.MTX_XP_SEL_INDEX)).filter Glide.runs).length))
    (hg : s.glideStart (s.get Fld.MTX_XP_SEL_INDEX) = g0) :
    s.applyXpGain w = (s.setReg Reg.MTX_XP_GAIN w).setGlides
      (s.fab.glides.filter (fun g => g.entry != s.get Fld.MTX_XP_SEL_INDEX) ++
        [⟨s.get Fld.MTX_XP_SEL_INDEX, g0, w, s.get Fld.MTX_XP_SEL_GLIDE, 0, g0⟩]) := by
  subst hg
  refine (if_neg (by omega)).trans ((if_neg hfull).trans ?_)
  rw [State.glideStart]
  cases s.glideOn (s.get Fld.MTX_XP_SEL_INDEX) <;> rfl

end

/-! ### Delay lines (R179 to R181) -/

theorem isLineReg_line {o n : Nat} (hn : n < 2048) : isLineReg o (o + 0x10 * n) = true := by
  simp only [isLineReg, Bool.and_eq_true, decide_eq_true_eq]
  omega

theorem lineOf_line (o n : Nat) : lineOf o (o + 0x10 * n) = n := by
  simp only [lineOf]
  omega

/-- Line `n` may take the length `len` (R179). -/
def State.LineFits (s : State) (n len : Nat) : Prop :=
  let base := 64 * s.lineBase n
  let others := s.enabledLines.filter (fun m => m != n)
  len % 16 = 0 ∧ len ≤ 1048576 ∧ base + 4 * len ≤ s.poolQuarters.length * 0x80000 ∧
    (∀ m ∈ others, 64 * s.lineBase m + 4 * s.lineLen m ≤ base ∨ base + 4 * len ≤ 64 * s.lineBase m) ∧ s.lineDelay n < len ∧
    dlyBound s.poolWait (others.length + 1) s.fadingLines.length ≤ fabricAt s.isFast s.checkStepNow s.row.selvage s.fs

section
variable {n : Nat}

theorem State.applyLineLen_zero (h : w.toNat % 2 ^ 21 = 0) :
    s.applyLineLen n w = (s.setReg (Reg.DLY_LINE_LEN n) 0).setLine n dlyReset := if_pos h

theorem State.applyLineLen_of_unfit (h : w.toNat % 2 ^ 21 ≠ 0) (hfit : ¬ s.LineFits n (w.toNat % 2 ^ 21)) :
    s.applyLineLen n w = s.invalid (Reg.DLY_LINE_LEN n) := by
  refine (if_neg h).trans (if_pos ?_)
  simp only [Bool.or_eq_true, decide_eq_true_eq, List.any_eq_true, Bool.and_eq_true]
  by_contra hbad
  simp only [not_or, not_exists, not_and] at hbad
  obtain ⟨⟨⟨⟨⟨h16, hmax⟩, hpool⟩, hclash⟩, hdelay⟩, hbound⟩ := hbad
  refine hfit ⟨by omega, by omega, by omega, fun m hm => ?_, by omega, by omega⟩
  have := hclash m hm
  omega

theorem State.applyLineLen_of_fits (h : w.toNat % 2 ^ 21 ≠ 0) (hfit : s.LineFits n (w.toNat % 2 ^ 21)) :
    s.applyLineLen n w = (s.put (Fld.DLY_LINE_LEN_LEN n) (w.toNat % 2 ^ 21)).setLine n
      (if s.lineLen n = 0 then { dlyReset with pos := n % 16 } else
        { s.line n with hist := (s.line n).hist.take (w.toNat % 2 ^ 21), pos := (s.line n).pos % (w.toNat % 2 ^ 21) }) := by
  obtain ⟨h16, hmax, hpool, hapart, hdelay, hbound⟩ := hfit
  refine (if_neg h).trans (if_neg ?_)
  simp only [Bool.or_eq_true, decide_eq_true_eq, List.any_eq_true, Bool.and_eq_true]
  rintro (((((hbad | hbad) | hbad) | ⟨m, hm, hbad⟩) | hbad) | hbad)
  case inl.inl.inr =>
    have := hapart m hm
    omega
  all_goals omega


section
variable (hlen : w.toNat % 2 ^ 20 < s.lineLen n) (hd : w.toNat % 2 ^ 20 ≠ s.lineDelay n)

/-- LINE_DELAY of line `n` holds the delay and XF of a write of `w`. -/
def State.setLineDelay (s : State) (n : Nat) (w : Word) : State :=
  (s.put (Fld.DLY_LINE_DELAY_DELAY n) (w.toNat % 2 ^ 20)).flag (Fld.DLY_LINE_DELAY_XF n) (w.getLsbD 31)

theorem State.applyLineDelay_beyond (h : s.lineLen n ≤ w.toNat % 2 ^ 20) :
    s.applyLineDelay n w = s.invalid (Reg.DLY_LINE_DELAY n) := if_pos h

include hlen

theorem State.applyLineDelay_same (h : w.toNat % 2 ^ 20 = s.lineDelay n) : s.applyLineDelay n w = s.setLineDelay n w :=
  (if_neg (by omega)).trans (if_pos h)

include hd

theorem State.applyLineDelay_at_once (hxf : w.getLsbD 31 = false) :
    s.applyLineDelay n w = (s.setLineDelay n w).setLine n { s.line n with xfade := none } :=
  (if_neg (by omega)).trans ((if_neg hd).trans (if_pos (by rw [hxf]; rfl)))

theorem State.applyLineDelay_full (hxf : w.getLsbD 31 = true)
    (hfull : 256 ≤ (s.fadingLines.filter (fun m => m != n)).length) :
    s.applyLineDelay n w =
      (((s.setLineDelay n w).setLine n { s.line n with xfade := none }).count ctrXffull).raise 48 n :=
  (if_neg (by omega)).trans ((if_neg hd).trans ((if_neg (by rw [hxf]; decide)).trans (if_pos (decide_eq_true hfull))))

theorem State.applyLineDelay_fade (hxf : w.getLsbD 31 = true)
    (hfull : ¬ 256 ≤ (s.fadingLines.filter (fun m => m != n)).length) :
    s.applyLineDelay n w = (s.setLineDelay n w).setLine n { s.line n with xfade := some (s.lineDelay n, 0) } :=
  (if_neg (by omega)).trans ((if_neg hd).trans ((if_neg (by rw [hxf]; decide)).trans (if_neg (by simpa using hfull))))

end

end

/-- Settles O18: the record at the front takes effect by its command's function, one lemma per case of which says what it does.
The state without the record, `u`, has the registers, the tables and the row index of `s`. -/
theorem timedRegisters : Obligations.TimedRegisters := by
  intro s r q hf hform u w check
  have effect {p : TpRec → Bool} {f : State → TpRec → State} {t : State} (hp : p r = true) (hfr : f u r = t) :
      (.next (s.applyFirst p f) : Answer) = .next t := congrArg _ ((State.applyFirst_front hf hp f).trans hfr)
  have named {as : List Nat} (ht : r.target ∈ as) : r.names as = true := r.names_of_target hform ht
  have kind : (r.direct || r.cls == 5) = true := by simpa using hform
  refine ⟨fun ht => ?mapSel, fun ht => ?mapData, fun ht => ?mapCtl, fun ht => ?tblCtl, fun ht => ?mtxCtl, fun ht => ?xpSel,
    fun ht => ?xpGain, fun ht => ?dlyCtl, fun n hn ht => ?lineLen, fun n hn ht => ?lineDelay⟩
  case mapSel =>
    have apply {t : State} (h : u.applyMapSel w = t) : exec .mapDataApply s = .next t :=
      effect (named (by simp [ht])) ((if_pos ht).trans h)
    exact ⟨fun h => apply (if_pos h), fun h => apply (if_neg (by rw [h]; decide))⟩
  case mapData =>
    have apply {t : State} (h : u.applyMapData w = t) : exec .mapDataApply s = .next t :=
      effect (named (by simp [ht])) ((if_neg (by rw [ht]; decide)).trans h)
    exact ⟨fun h => apply (if_pos h), fun hi h => apply (State.applyMapData_second hi h),
      fun hi h => apply (State.applyMapData_entry hi h)⟩
  case mapCtl =>
    have apply {t : State} (h : (if w.getLsbD 1 then u.swapMap else u) = t) :
        exec .mapSwap s = .next (check t t.startMapCheck) :=
      effect (named (by simp [ht])) (State.applyMapCtl_eq r.direct h)
    exact ⟨fun hw h => apply ((if_pos hw).trans (State.swapMap_of_ready h)),
      fun hw h => apply ((if_pos hw).trans (State.swapMap_of_not_ready h)),
      fun hw => apply (if_neg (by rw [hw]; decide))⟩
  case tblCtl =>
    have apply {t : State} (h : (if w.getLsbD 1 then u.swapMtx else u) = t) :
        exec .mtxTableSwap s = .next (check t t.startMtxCheck) :=
      effect (named (by simp [ht])) (State.applyTblCtl_eq r.direct h)
    exact ⟨fun hw h => apply ((if_pos hw).trans (State.swapMtx_of_ready h)),
      fun hw h => apply ((if_pos hw).trans (State.swapMtx_of_not_ready h)),
      fun hw => apply (if_neg (by rw [hw]; decide))⟩
  case mtxCtl => exact effect (named (by simp [ht])) rfl
  case xpSel => exact effect (named (by simp [ht])) rfl
  case xpGain =>
    have apply {t : State} (h : u.applyXpGain w = t) : exec .xpGainApply s = .next t := effect (named (by simp [ht])) h
    exact ⟨fun h => apply (if_pos h), fun hi ⟨hn, hfull⟩ => apply (State.applyXpGain_full hi hn hfull), fun hi hfull =>
      ⟨fun g hg => apply (State.applyXpGain_glide (s := u) hi hfull (State.glideStart_of_running hg)),
        fun hg => apply (State.applyXpGain_glide (s := u) hi hfull (State.glideStart_of_none hg))⟩⟩
  case dlyCtl => exact effect (named (by simp [ht])) rfl
  case lineLen =>
    have hline : isLineReg (Reg.DLY_LINE_LEN 0) r.target = true := ht ▸ isLineReg_line hn
    have hof : lineOf (Reg.DLY_LINE_LEN 0) r.target = n := ht ▸ lineOf_line ..
    have apply {t : State} (h : u.applyLineLen n w = t) : exec .lineLenApply s = .next t :=
      effect (by rw [kind, hline]; rfl) (by rw [hof]; exact h)
    refine ⟨fun h => apply (State.applyLineLen_zero h), fun h hfit => apply (State.applyLineLen_of_unfit h hfit),
      fun h hfit h0 => apply ((State.applyLineLen_of_fits (s := u) h hfit).trans (congrArg _ (if_pos h0))),
      fun h hfit h0 => apply ((State.applyLineLen_of_fits (s := u) h hfit).trans (congrArg _ (if_neg h0)))⟩
  case lineDelay =>
    have hline : isLineReg (Reg.DLY_LINE_DELAY 0) r.target = true := ht ▸ isLineReg_line hn
    have hof : lineOf (Reg.DLY_LINE_DELAY 0) r.target = n := ht ▸ lineOf_line ..
    have apply {t : State} (h : u.applyLineDelay n w = t) : exec .lineDelayApply s = .next t :=
      effect (by rw [kind, hline]; rfl) (by rw [hof]; exact h)
    exact ⟨fun h => apply (State.applyLineDelay_beyond h), fun hlen h => apply (State.applyLineDelay_same hlen h),
      fun hlen hd => ⟨fun hxf => apply (State.applyLineDelay_at_once hlen hd hxf),
        fun hxf hfull => apply (State.applyLineDelay_fade hlen hd hxf hfull),
        fun hxf hfull => apply (State.applyLineDelay_full hlen hd hxf hfull)⟩⟩

end Sys2Proof.Machine

/-! ## The shadow tables, glides, crossfades, ownership and decay (R162 to R185) -/

namespace Sys2Proof.Machine

/-! ### One-bit fields of one register -/

section
variable (s : State) (a : Nat) {n k : Nat} (b : Bool)

theorem State.on_flag_bit (hn : n ≤ 31) : (s.flag ⟨a, n, n⟩ b).on ⟨a, n, n⟩ = b := s.on_flag_same _ b rfl hn

theorem State.on_flag_other_bit (hn : n ≤ 31) (hk : k ≠ n) : (s.flag ⟨a, n, n⟩ b).on ⟨a, k, k⟩ = s.on ⟨a, k, k⟩ :=
  congrArg (· == 1) (s.get_put_disjoint _ (le_refl n) hn (Nat.lt_or_gt_of_ne hk))

end

theorem OnlyReg.flag (a n : Nat) (b : Bool) (s : State) : OnlyReg a s (s.flag ⟨a, n, n⟩ b) := .put a n n _ s

theorem OnlyReg.frame {a : Nat} {s t : State} (h : OnlyReg a s t) : t = { s with regs := t.regs } := by
  obtain ⟨-, r, rfl⟩ := h
  rfl

theorem OnlyReg.paired {a : Nat} {s t : State} (h : OnlyReg a s t) (ha : Reg.TWN_STAT ≠ a) : t.paired = s.paired := by
  rw [State.paired, h.get_other ha, State.paired]

/-! ### SHREADY, SHBAD and CHECKING: bits 1, 2 and 3 of MAP_STAT and of TBL_STAT (R167, R171) -/

/-- SHREADY of the status register at `a` is `b`, written only where it changes; `readyCleared` is the case of `false`. -/
def State.readyTo (s : State) (a : Nat) (b : Bool) : State :=
  if s.on ⟨a, 1, 1⟩ == b then s else s.flag ⟨a, 1, 1⟩ b

/-- A check that the status register at `a` reports has started. -/
def State.checkStarted (s : State) (a : Nat) : State :=
  ((s.readyTo a false).flag ⟨a, 2, 2⟩ false).flag ⟨a, 3, 3⟩ true

section
variable (s : State) (a : Nat)

theorem OnlyReg.readyTo (b : Bool) : OnlyReg a s (s.readyTo a b) := by
  unfold State.readyTo
  split
  · exact .refl a s
  · exact .flag a 1 b s

theorem State.on_readyTo_ready (b : Bool) : (s.readyTo a b).on ⟨a, 1, 1⟩ = b := by
  unfold State.readyTo
  split
  · next h => exact beq_iff_eq.mp h
  · exact s.on_flag_bit a b (by decide)

theorem State.on_readyTo_other (b : Bool) {n : Nat} (hn : n ≠ 1) : (s.readyTo a b).on ⟨a, n, n⟩ = s.on ⟨a, n, n⟩ := by
  unfold State.readyTo
  split
  · rfl
  · exact s.on_flag_other_bit a b (by decide) hn

theorem OnlyReg.checkStarted : OnlyReg a s (s.checkStarted a) :=
  ((OnlyReg.readyTo s a false).trans (.flag a 2 false _)).trans (.flag a 3 true _)

theorem State.on_checkStarted_checking : (s.checkStarted a).on ⟨a, 3, 3⟩ = true :=
  State.on_flag_bit _ a true (by decide)

theorem State.on_checkStarted_bad : (s.checkStarted a).on ⟨a, 2, 2⟩ = false :=
  (State.on_flag_other_bit _ a true (by decide) (by decide)).trans (State.on_flag_bit _ a false (by decide))

theorem State.on_checkStarted_ready : (s.checkStarted a).on ⟨a, 1, 1⟩ = false :=
  (State.on_flag_other_bit _ a true (by decide) (by decide)).trans
    ((State.on_flag_other_bit _ a false (by decide) (by decide)).trans (s.on_readyTo_ready a false))

end

/-- `t` is `s` after a check that the register at `a` reports has ended. -/
structure CheckEnded (a : Nat) (s t : State) : Prop where
  checking : t.on ⟨a, 3, 3⟩ = false
  only : OnlyReg a s t

section
variable {s t : State} {a : Nat}

theorem CheckEnded.clear (a : Nat) (s : State) : CheckEnded a s (s.flag ⟨a, 3, 3⟩ false) :=
  ⟨s.on_flag_bit a false (by decide), .flag a 3 false s⟩

theorem CheckEnded.bad (h : CheckEnded a s t) : CheckEnded a s (t.flag ⟨a, 2, 2⟩ true) :=
  ⟨(t.on_flag_other_bit a true (by decide) (by decide)).trans h.checking, h.only.trans (.flag a 2 true t)⟩

theorem CheckEnded.readyTo (h : CheckEnded a s t) (b : Bool) : CheckEnded a s (t.readyTo a b) :=
  ⟨(t.on_readyTo_other a b (by decide)).trans h.checking, h.only.trans (.readyTo t a b)⟩

/-- A field above CHECKING is written. -/
theorem CheckEnded.put (h : CheckEnded a s t) {m l : Nat} (v : Nat) (hl : 3 < l) (hlm : l ≤ m) (hm : m ≤ 31) :
    CheckEnded a s (t.put ⟨a, m, l⟩ v) :=
  ⟨(congrArg (· == 1) (t.get_put_disjoint v hlm hm (.inl hl))).trans h.checking, h.only.trans (.put a m l v t)⟩

end

/-! ### The checks of a unit without a partner -/

section
variable {s : State} (h : s.paired = false)
include h

theorem State.setMapReady_unpaired (b : Bool) : s.setMapReady b = s.readyTo Reg.SST_MAP_STAT b :=
  congrArg (ite _ s) (State.reportReady_unpaired (((OnlyReg.flag _ 1 b s).paired (by decide)).trans h) ..)

theorem State.setMtxReady_unpaired (b : Bool) : s.setMtxReady b = s.readyTo Reg.MTX_TBL_STAT b :=
  congrArg (ite _ s) (State.reportReady_unpaired (((OnlyReg.flag _ 1 b s).paired (by decide)).trans h) ..)

theorem State.startMapCheck_unpaired : s.startMapCheck = s.checkStarted Reg.SST_MAP_STAT := by
  rw [State.startMapCheck, State.setMapReady_unpaired h]
  rfl

theorem State.startMtxCheck_unpaired : s.startMtxCheck = s.checkStarted Reg.MTX_TBL_STAT := by
  rw [State.startMtxCheck, State.touchShadowTable, State.setMtxReady_unpaired h]
  rfl

end

section
variable {s : State}

theorem exec_mapCheckDone (hc : s.on Fld.SST_MAP_STAT_CHECKING = true) : exec .mapCheckDone s = .next s.endMapCheck :=
  congrArg Host.Outcome.next (if_pos hc)

theorem exec_mtxCheckDone (hc : s.on Fld.MTX_TBL_STAT_CHECKING = true) : exec .mtxCheckDone s = .next s.endMtxCheck :=
  congrArg Host.Outcome.next (if_pos hc)

theorem State.endMapCheck_of_open (ho : s.loadOpen 4 = true) :
    s.endMapCheck = s.flag Fld.SST_MAP_STAT_CHECKING false := if_pos ho

theorem State.endMapCheck_of_good (h : s.paired = false) (ho : s.loadOpen 4 = false) (hd : dupSlot s.shadowMap = none) :
    s.endMapCheck = (s.flag Fld.SST_MAP_STAT_CHECKING false).readyTo Reg.SST_MAP_STAT true := by
  refine Eq.trans ?_ (State.setMapReady_unpaired (((OnlyReg.flag _ 3 false s).paired (by decide)).trans h) true)
  simp only [State.endMapCheck, ho, hd, Bool.false_eq_true, if_false]
  rfl

theorem State.endMapCheck_of_dup {n : Nat} (ho : s.loadOpen 4 = false) (hd : dupSlot s.shadowMap = some n) :
    s.endMapCheck =
      ((s.flag Fld.SST_MAP_STAT_CHECKING false).flag Fld.SST_MAP_STAT_SHBAD true).put Fld.SST_MAP_STAT_DUPSLOT n := by
  simp only [State.endMapCheck, ho, hd, Bool.false_eq_true, if_false]

theorem CheckEnded.endMapCheck (h : s.paired = false) : CheckEnded Reg.SST_MAP_STAT s s.endMapCheck := by
  have hclear := CheckEnded.clear Reg.SST_MAP_STAT s
  cases ho : s.loadOpen 4 with
  | true => exact State.endMapCheck_of_open ho ▸ hclear
  | false =>
    cases hd : dupSlot s.shadowMap with
    | none => exact State.endMapCheck_of_good h ho hd ▸ hclear.readyTo true
    | some n => exact State.endMapCheck_of_dup ho hd ▸ hclear.bad.put n (by decide) (by decide) (by decide)

/-- The shadow table may be activated: its length is one of the matrix, and its entries are in order (R171). -/
def State.TableGood (s : State) : Prop :=
  s.get Fld.MTX_SHD_LEN_COUNT ≤ mtxLmax s.isFast s.fs ∧ s.tableSorted s.mtxShadow 0 0 (s.get Fld.MTX_SHD_LEN_COUNT) = true

theorem State.tableGood_of_empty (hl : s.get Fld.MTX_SHD_LEN_COUNT = 0) : s.TableGood := by
  rw [State.TableGood, hl]
  exact ⟨Nat.zero_le _, rfl⟩

theorem State.endMtxCheck_of_open (ho : s.loadOpen 5 = true) :
    s.endMtxCheck = s.flag Fld.MTX_TBL_STAT_CHECKING false := if_pos ho

theorem State.endMtxCheck_of_good (h : s.paired = false) (ho : s.loadOpen 5 = false) (hg : s.TableGood) :
    s.endMtxCheck = (s.flag Fld.MTX_TBL_STAT_CHECKING false).readyTo Reg.MTX_TBL_STAT true := by
  refine Eq.trans ?_ (State.setMtxReady_unpaired (((OnlyReg.flag _ 3 false s).paired (by decide)).trans h) true)
  exact (if_neg (by simp [ho])).trans (if_pos hg)

theorem State.endMtxCheck_of_bad (ho : s.loadOpen 5 = false) (hg : ¬ s.TableGood) :
    s.endMtxCheck = (s.flag Fld.MTX_TBL_STAT_CHECKING false).flag Fld.MTX_TBL_STAT_SHBAD true :=
  (if_neg (by simp [ho])).trans (if_neg hg)

theorem CheckEnded.endMtxCheck (h : s.paired = false) : CheckEnded Reg.MTX_TBL_STAT s s.endMtxCheck := by
  have hclear := CheckEnded.clear Reg.MTX_TBL_STAT s
  cases ho : s.loadOpen 5 with
  | true => exact State.endMtxCheck_of_open ho ▸ hclear
  | false =>
    by_cases hg : s.TableGood
    · exact State.endMtxCheck_of_good h ho hg ▸ hclear.readyTo true
    · exact State.endMtxCheck_of_bad ho hg ▸ hclear.bad

end

/-! ### Glides and crossfades (R176, R181) -/

section
variable {s : State}

theorem State.endGlide_of_reached {i : Nat} {g : Glide} (hg : s.glideOn i = some g) (hr : g.reached = true) :
    s.endGlide i = (s.setGlides (s.fab.glides.filter (fun g => g.entry != i))).setActGain i g.target := by
  simp only [State.endGlide, hg, hr, if_true]

theorem exec_crossfadeEnd_of_faded {l : Fin 2048} {old m : Nat} (hx : (s.line l).xfade = some (old, m)) (hm : 64 ≤ m) :
    exec (.crossfadeEnd l) s = .next (s.setLine l { s.line l with xfade := none }) := by
  show execCrossfadeEnd l s = _
  simp only [execCrossfadeEnd, hx, hm, if_true]

/-! ### Owners of the quarters (R185) -/

/-- What QOWN_WRITE makes of quarter `q`: the state, and whether a change was refused so far. -/
def State.ownQuarter (s : State) (b : Nat) (w : Word) (p : State × Bool) (q : Nat) : State × Bool :=
  let o := s.get (fdQown b q)
  let n := bitsOf w (8 * q + 7) (8 * q)
  if o = n ∨ b < 2 ∨ (40 ≤ b ∧ q = 3) then p
  else if ownerChangeOk (s.on Fld.DLY_CTL_EN) b q o n && (n != 3 || decide (p.1.poolQuarters.length < 128)) then
    (p.1.put (fdQown b q) n, p.2)
  else (p.1, true)

variable {b : Nat} {w : Word}

theorem State.writeQown_eq : s.writeQown b w =
    let r := [0, 1, 2, 3].foldl (s.ownQuarter b w) (s, false)
    if r.2 then r.1.invalid (0x1C0000 + 4 * b) else r.1 := rfl

theorem State.ownQuarter_same (p : State × Bool) {q : Nat} (h : s.get (fdQown b q) = bitsOf w (8 * q + 7) (8 * q)) :
    s.ownQuarter b w p q = p := if_pos (.inl h)

/-- A quarter without an owner, in a bank where quarters change hands, is given to an owner other than the delay unit. -/
theorem State.ownQuarter_given (p : State × Bool) {q n : Nat} (hlow : 2 ≤ b) (hhigh : b < 40)
    (hlegal : n ≤ 5 ∨ (0x10 ≤ n ∧ n ≤ 0x1F)) (h0 : n ≠ 0) (h3 : n ≠ 3) (hn : bitsOf w (8 * q + 7) (8 * q) = n)
    (ho : s.get (fdQown b q) = 0) : s.ownQuarter b w p q = (p.1.put (fdQown b q) n, p.2) := by
  have hok : ownerChangeOk (s.on Fld.DLY_CTL_EN) b q 0 n = true := by
    simp [ownerChangeOk, hlegal, h3, show ¬ b < 2 by omega, show ¬ 40 ≤ b by omega]
  simp only [State.ownQuarter, ho, hn]
  rw [if_neg (by omega), if_pos (by simp [hok, h3])]

theorem State.foldl_ownQuarter_same (l : List Nat) (p : State × Bool)
    (h : ∀ q ∈ l, s.get (fdQown b q) = bitsOf w (8 * q + 7) (8 * q)) : l.foldl (s.ownQuarter b w) p = p := by
  induction l with
  | nil => rfl
  | cons q l ih =>
    obtain ⟨hq, hl⟩ := List.forall_mem_cons.mp h
    rw [List.foldl_cons, State.ownQuarter_same p hq, ih hl]

theorem State.writeQown_same (h : ∀ q, q < 4 → s.get (fdQown b q) = bitsOf w (8 * q + 7) (8 * q)) : s.writeQown b w = s := by
  rw [State.writeQown_eq, State.foldl_ownQuarter_same _ _ fun q hq => h q (by simp at hq; omega)]
  rfl

/-- Only the first quarter changes hands. -/
theorem State.writeQown_first {n : Nat} (hlow : 2 ≤ b) (hhigh : b < 40) (hlegal : n ≤ 5 ∨ (0x10 ≤ n ∧ n ≤ 0x1F)) (h0 : n ≠ 0)
    (h3 : n ≠ 3) (hn : bitsOf w 7 0 = n) (ho : s.get (fdQown b 0) = 0)
    (h : ∀ q, 1 ≤ q → q < 4 → s.get (fdQown b q) = bitsOf w (8 * q + 7) (8 * q)) :
    s.writeQown b w = s.put (fdQown b 0) n := by
  rw [State.writeQown_eq, List.foldl_cons, State.ownQuarter_given _ hlow hhigh hlegal h0 h3 hn ho,
    State.foldl_ownQuarter_same _ _ fun q hq => h q (by simp at hq; omega) (by simp at hq; omega)]
  rfl

end

/-! ### Decay (R162) -/

/-- The decay of slot `n` is counted. -/
def State.decayCounted (s : State) (n : Nat) : State := (s.setSlot n { s.slot n with decayDue := false }).count ctrDecay

theorem exec_slotDecayStart_of_due {s : State} {n : Fin 16384} (h : (s.slot n).decayDue = true) :
    exec (.slotDecayStart n) s = .next ((s.decayCounted n).setRow
      { (s.decayCounted n).row with decayRow := (s.decayCounted n).row.decayRow + 1 }) := if_pos h

theorem State.decayCounted_fab_row (s : State) (n : Nat) :
    (s.decayCounted n).fab = (s.setSlot n { s.slot n with decayDue := false }).fab ∧ (s.decayCounted n).row = s.row := by
  obtain ⟨r, l, e, o, h⟩ := (s.setSlot n { s.slot n with decayDue := false }).countBy_frame ctrDecay 1
  rw [State.decayCounted, State.count, h]
  exact ⟨rfl, rfl⟩

theorem State.slot_decayCounted (s : State) (n : Nat) : (s.decayCounted n).slot n = { s.slot n with decayDue := false } := by
  rw [State.slot, (s.decayCounted_fab_row n).1]
  exact Table.get_set_same ..

/-- Settles O19, one command after the other. -/
theorem fabricCommands : Obligations.FabricCommands := by
  refine ⟨fun w s => ?shadow, fun s h => ?checks, fun e s g hg hr => ?glide, fun l s old m hx hm => ?fade, fun b w s => ?owner,
    fun n s => ?decay⟩
  case shadow =>
    exact ⟨fun hi => congrArg Host.Outcome.next (if_neg (by omega)), fun hi => congrArg Host.Outcome.next (if_pos hi), rfl⟩
  case checks =>
    have started (a : Nat) {i : Instr} {t : State} (hi : exec i s = .next t) (ht : t = s.checkStarted a) :
        ∃ t, exec i s = .next t ∧ t.on ⟨a, 3, 3⟩ = true ∧ t.on ⟨a, 1, 1⟩ = false ∧ t.on ⟨a, 2, 2⟩ = false ∧
          t = { s with regs := t.regs } ∧ ∀ b, b ≠ a → t.reg b = s.reg b :=
      ⟨_, hi.trans (congrArg _ ht), s.on_checkStarted_checking a, s.on_checkStarted_ready a, s.on_checkStarted_bad a,
        (OnlyReg.checkStarted s a).frame, (OnlyReg.checkStarted s a).1⟩
    refine ⟨started _ rfl (State.startMapCheck_unpaired h), started _ rfl (State.startMtxCheck_unpaired h), fun hc => ?map,
      fun hc => ?mtx⟩
    case map =>
      have hend := CheckEnded.endMapCheck h
      refine ⟨s.endMapCheck, exec_mapCheckDone hc, hend.checking, fun ho => ?_, fun ho hd => ?_,
        fun n ho hd => ⟨?_, ?_⟩, hend.only.frame⟩
      · rw [State.endMapCheck_of_open ho]
        exact s.on_flag_other_bit _ false (by decide) (by decide)
      · rw [State.endMapCheck_of_good h ho hd]
        exact State.on_readyTo_ready _ _ true
      · rw [State.endMapCheck_of_dup ho hd]
        exact (congrArg (· == 1) (State.get_put_disjoint _ n (by decide) (by decide) (.inl (by decide)))).trans
          (State.on_flag_bit _ _ true (by decide))
      · rw [State.endMapCheck_of_dup ho hd]
        exact State.get_put_same _ _ n (by decide) (by decide)
    case mtx =>
      have hend := CheckEnded.endMtxCheck h
      refine ⟨s.endMtxCheck, exec_mtxCheckDone hc, hend.checking, fun ho => ?_, fun ho hl => ?_, fun ho hl => ?_,
        hend.only.frame⟩
      · rw [State.endMtxCheck_of_open ho]
        exact s.on_flag_other_bit _ false (by decide) (by decide)
      · rw [State.endMtxCheck_of_good h ho (State.tableGood_of_empty hl)]
        exact State.on_readyTo_ready _ _ true
      · rw [State.endMtxCheck_of_bad ho (fun hg => absurd hg.1 (by omega))]
        exact State.on_flag_bit _ _ true (by decide)
  case glide => exact congrArg Host.Outcome.next (State.endGlide_of_reached hg hr)
  case fade => exact exec_crossfadeEnd_of_faded hx hm
  case owner =>
    exact ⟨fun hq => congrArg Host.Outcome.next (State.writeQown_same hq), fun hlow hhigh n hlegal h0 h3 hn ho hq =>
      congrArg Host.Outcome.next (State.writeQown_first hlow hhigh hlegal h0 h3 hn ho hq)⟩
  case decay =>
    refine ⟨fun hd => ?_, fun hd => ?_⟩
    · refine ⟨_, exec_slotDecayStart_of_due hd, s.slot_decayCounted n, ?_, fun hc => ?_⟩
      · rw [(s.decayCounted_fab_row n).2]
        rfl
      · exact State.liveAt_countBy _ ctrDecay 1 hc
    · exact if_neg (by simp [hd])

end Sys2Proof.Machine

/-! ## Fields and ports

Fields whose places are numerals are told apart by evaluation, and a port reads as what was written to it. -/

namespace Sys2Proof.Machine

/-! ### Fields whose places are numerals -/

/-- The field lies in a register of 32 bits. -/
def Fd.fits (f : Fd) : Bool := decide (f.lsb ≤ f.msb) && decide (f.msb ≤ 31)

/-- The field lies in a register and shares no bit with `g`, if that is a field of the same register. -/
def Fd.apart (f g : Fd) : Bool := f.fits && (decide (g.msb < f.lsb) || decide (f.msb < g.lsb))

theorem State.get_congr {s t : State} {f : Fd} (h : t.reg f.addr = s.reg f.addr) : t.get f = s.get f :=
  congrArg (bitsOf · f.msb f.lsb) h

section
variable (s : State) {f g : Fd}

theorem State.get_put_fits (v : Nat) (h : f.fits = true) : (s.put f v).get f = v % 2 ^ (f.msb + 1 - f.lsb) := by
  obtain ⟨hl, hm⟩ : f.lsb ≤ f.msb ∧ f.msb ≤ 31 := by simpa [Fd.fits] using h
  exact s.get_put_same f v hl hm

theorem State.get_put_apart (v : Nat) (h : f.apart g = true) : (s.put f v).get g = s.get g := by
  obtain ⟨⟨hl, hm⟩, hd⟩ : (f.lsb ≤ f.msb ∧ f.msb ≤ 31) ∧ (g.msb < f.lsb ∨ f.msb < g.lsb) := by
    simpa [Fd.apart, Fd.fits] using h
  exact s.get_put_disjoint v hl hm hd

theorem State.on_put_apart (v : Nat) (h : f.apart g = true) : (s.put f v).on g = s.on g :=
  congrArg (· == 1) (s.get_put_apart v h)

theorem State.on_flag_apart (b : Bool) (h : f.apart g = true) : (s.flag f b).on g = s.on g := s.on_put_apart _ h

theorem State.get_flag_apart (b : Bool) (h : f.apart g = true) : (s.flag f b).get g = s.get g := s.get_put_apart _ h

theorem State.on_flag_fits (b : Bool) (h : f.fits = true) (hbit : f.lsb = f.msb) : (s.flag f b).on f = b := by
  obtain ⟨-, hm⟩ : f.lsb ≤ f.msb ∧ f.msb ≤ 31 := by simpa [Fd.fits] using h
  exact s.on_flag_same f b hbit hm

end

/-! ### Ports -/

@[simp] theorem State.port_setPort_same (s : State) (n : Nat) (x : PortS) : (s.setPort n x).port n = x :=
  Table.get_set_same ..

@[simp] theorem State.port_modPort_same (s : State) (n : Nat) (f : PortS → PortS) : (s.modPort n f).port n = f (s.port n) :=
  s.port_setPort_same ..

@[simp] theorem State.get_setPort (s : State) (n : Nat) (x : PortS) (f : Fd) : (s.setPort n x).get f = s.get f := rfl

@[simp] theorem State.get_modPort (s : State) (n : Nat) (g : PortS → PortS) (f : Fd) : (s.modPort n g).get f = s.get f := rfl

theorem OnlyFabric.port {s t : State} (h : OnlyFabric s t) (n : Nat) : t.port n = s.port n := by
  obtain ⟨_, _, _, _, _, rfl⟩ := h
  rfl

@[simp] theorem State.port_showHalts (s : State) (n m : Nat) : (s.showHalts n).port m = s.port m := rfl

theorem State.port_controlFrame (s : State) (n m : Nat) : (s.controlFrame n).port m = s.port m := (OnlyFabric.count _ _).port m

end Sys2Proof.Machine

/-! ## The reception of a frame (R192 to R202) -/

namespace Sys2Proof.Machine

section
variable {s : State} {n : Nat} {b : List (BitVec 8)}

/-! ### The checks of R193 -/

theorem State.rxFail_of_runt (h : b.length < 64) : s.rxFail n b = some 1 := if_pos h

theorem State.rxFail_of_oversize (h : 64 ≤ b.length) (hm : s.maxFrm n < b.length) : s.rxFail n b = some 2 := by
  rw [State.rxFail, if_neg (by omega), if_pos hm]

theorem State.rxFail_of_fits (h : 64 ≤ b.length) (hm : b.length ≤ s.maxFrm n) :
    s.rxFail n b = if fcsGood b then none else some 0 := by
  rw [State.rxFail, if_neg (by omega), if_neg (by omega)]

/-! ### Where a good frame goes (R194, R196) -/

theorem State.classify_of_control (c : Option CutRx) (h : frameType b = 0x8808) : s.classify n b c = s.takeControl n b := if_pos h

theorem State.classify_of_terminated (c : Option CutRx) (h : frameType b ≠ 0x8808) (ht : terminated b = true) :
    s.classify n b c = s.toHouse n b := by
  rw [State.classify, if_neg h, if_pos ht]

/-- A frame that the node does not terminate and no flow or filter claims is judged by its destination address. -/
theorem State.classify_of_unclaimed (c : Option CutRx) (ht : terminated b = false) (hm : s.matched n b = [])
    (hf : s.filtered n b = false) : s.classify n b c =
      if s.isOwn n b then s.toHost n b
      else if frameDst b = 2 ^ 48 - 1 then (s.toHost n b).forward n (b.take (b.length - 4)) c
      else s.forward n (b.take (b.length - 4)) c := by
  have hc : frameType b ≠ 0x8808 := fun h => by simp [terminated, h] at ht
  simp [State.classify, hc, ht, hm, hf]

/-- A frame of which nothing was decided before its end goes to the ports that its lookup gives, and counts in FWD_FRAMES if
one takes it. -/
theorem State.forward_of_hit {l : List Nat} (h : s.lookup n b = (l, false)) : s.forward n b none =
    let x := s.forwardTo n l b
    if x.2 then x.1.countNet n 4 1 else x.1 := by
  simp [State.forward, h]

theorem State.forwardTo_nil (s : State) (n : Nat) (b : List (BitVec 8)) : s.forwardTo n [] b = (s, false) := rfl

/-- A frame whose lookup names no port goes nowhere; a miss counts all the same (log entry 53). -/
theorem State.forward_of_nowhere (h : (s.lookup n b).1 = []) : s.forward n b none =
    if (s.lookup n b).2 then s.count (ctrNet n 11) else s := by
  simp [State.forward, h, State.forwardTo_nil]

end

/-! ### The command -/

section
variable {s : State} {p : Fin 4} {b : List (BitVec 8)}

theorem exec_frameReceive_of_down (h : s.linkUp p = false) : exec (.frameReceive p b) s = .next s := if_pos (by simp [h])

/-- A frame that comes in whole, with nothing sent by cut-through, is dropped and counted or goes where R194 sends it. -/
theorem exec_frameReceive_whole (hl : s.linkUp p = true) (ha : s.asleep = false) (hc : (s.port p).cut = none) :
    let u := s.modPort p (fun x => { x with cut := none })
    (∀ j, u.rxFail p b = some j → exec (.frameReceive p b) s = .next (u.count (ctrNet p j))) ∧
    (u.rxFail p b = none →
      exec (.frameReceive p b) s = .next (((u.countNet p 0 1).countNet p 1 b.length).classify p b none)) := by
  have hawake : ¬ (!s.linkUp p || s.asleep) = true := by simp [hl, ha]
  refine ⟨fun j hj => (if_neg hawake).trans ?_, fun hj => (if_neg hawake).trans ?_⟩ <;> rw [hj, hc]

theorem exec_cutThroughDecision_of_kept (e : Fin 4) (ns : BitVec 24)
    (h : s.linkUp p = false ∨ terminated b = true ∨ s.ownOnly p b = true) : exec (.cutThroughDecision p e b ns) s = .next s :=
  if_pos (by rcases h with h | h | h <;> simp [h])

end

/-- Settles O32: the three drops by their checks, then the destinations by their order in R194. -/
theorem frameReception : Obligations.FrameReception := by
  refine fun p b s => ⟨exec_frameReceive_of_down, ?_, exec_cutThroughDecision_of_kept⟩
  intro hl ha hc u g
  obtain ⟨hdrop, hgood⟩ := exec_frameReceive_whole (b := b) hl ha hc
  refine ⟨fun h => hdrop 1 (State.rxFail_of_runt h), fun h hm => hdrop 2 (State.rxFail_of_oversize h hm),
    fun h hm hf => hdrop 0 ((State.rxFail_of_fits h hm).trans (if_neg (by simp [hf]))), fun h hm hf => ?_⟩
  have goes {t : State} (ht : g.classify p b none = t) : exec (.frameReceive p b) s = .next t :=
    (hgood ((State.rxFail_of_fits h hm).trans (if_pos hf))).trans (congrArg _ ht)
  refine ⟨fun hc => goes (State.classify_of_control _ hc), fun hc ht => goes (State.classify_of_terminated _ hc ht),
    fun ht hmatch hfilter => ?_⟩
  have forwarded {t : State} (ho : g.isOwn p b = false) (hd : frameDst b ≠ 2 ^ 48 - 1)
      (h : g.forward p (b.take (b.length - 4)) none = t) : exec (.frameReceive p b) s = .next t :=
    goes ((State.classify_of_unclaimed _ ht hmatch hfilter).trans ((if_neg (by simp [ho])).trans ((if_neg hd).trans h)))
  exact ⟨fun ho => goes ((State.classify_of_unclaimed _ ht hmatch hfilter).trans (if_pos ho)),
    fun ho hd hnone => forwarded ho hd (State.forward_of_nowhere hnone),
    fun ho hd l hl => forwarded ho hd (State.forward_of_hit hl)⟩

end Sys2Proof.Machine

/-! ## Transmission (R199 to R218) -/

namespace Sys2Proof.Machine

/-- Port 0 sends a whole frame of flow slot 0. -/
def flowFrameSent : State :=
  State.reset.modPort 0 (fun x => { x with tx := some ⟨⟨[], 0, 0, 5, none, none, 0⟩, none, false, 0, 0⟩ })

/-- A frame of the stream unit that completes on the medium counts in FRAMES of its slot (R260). -/
theorem frames_frameTransmitDone_flowFrame : ∃ t, exec (.frameTransmitDone 0) flowFrameSent = .next t ∧ (t.flow 0).frames = 1 :=
  ⟨_, rfl, by decide⟩

/-- Refutes O33: for a whole frame of the stream unit FRAME_TRANSMIT_DONE also counts FRAMES of its flow slot (R260), which the
next state of the statement's last clause leaves out. -/
theorem not_transmission : ¬ Obligations.Transmission := by
  rintro ⟨-, -, -, -, hdone⟩
  have hstated := (hdone 0 flowFrameSent).2 _ rfl rfl rfl rfl
  obtain ⟨t, hrun, hframes⟩ := frames_frameTransmitDone_flowFrame
  obtain rfl := Host.Outcome.next.inj (hrun.symm.trans hstated)
  exact absurd hframes (by decide)

end Sys2Proof.Machine

/-! ## Halts and gates (R205 to R212) -/

namespace Sys2Proof.Machine

/-! ### Halts (R205, R206) -/

section
variable {s : State} {p : Fin 4}

theorem exec_pauseFrameReceive (q : BitVec 16) (hl : s.linkUp p = true) (ha : s.asleep = false) :
    exec (.pauseFrameReceive p q) s = .next ((s.controlFrame p).takePause p q.toNat) :=
  congrArg Host.Outcome.next (if_pos (by simp [hl, ha]))

theorem exec_pfcFrameReceive (v : BitVec 8) (w : BitVec 128) (hl : s.linkUp p = true) (ha : s.asleep = false) :
    exec (.pfcFrameReceive p v w) s =
      .next ((s.controlFrame p).takePfc p v.toNat (fun i => w.toNat / 2 ^ (16 * i) % 65536)) :=
  congrArg Host.Outcome.next (if_pos (by simp [hl, ha]))

theorem exec_pauseHaltExpire_priority (i : Fin 8) : exec (.pauseHaltExpire p (some i)) s =
    .next ((s.modPort p (fun x => { x with halts := x.halts &&& ~~~ BitVec.ofNat 8 (2 ^ i.val) })).showHalts p) := rfl

end

/-- A byte put together bit by bit has these bits. -/
theorem getLsbD_sumBits (b : Nat → Bool) {i : Nat} (hi : i < 8) :
    (BitVec.ofNat 8 ((addrs 0 1 8).foldl (fun m p => m + (b p).toNat * 2 ^ p) 0)).getLsbD i = b i := by
  have hsum : (addrs 0 1 8).foldl (fun m p => m + (b p).toNat * 2 ^ p) 0 = Nat.ofBits (fun j : Fin 8 => b j) := by
    simp [addrs, Nat.ofBits, Fin.foldr_succ]
    ring
  rw [hsum, BitVec.getLsbD_ofNat, Nat.testBit_ofBits_lt _ _ hi]
  simp [hi]

/-- The halt of a priority that the frame and PFC_RX name runs for quanta other than 0; the others stay. -/
theorem State.halts_takePfc (s : State) (n vec : Nat) (quanta : Nat → Nat) {i : Nat} (hi : i < 8) :
    ((s.takePfc n vec quanta).port n).halts.getLsbD i =
      if (s.get (Fld.NET_FC_CFG_PFC_RX n)).testBit i && vec.testBit i then decide (quanta i ≠ 0)
      else (s.port n).halts.getLsbD i := by
  have hquanta : (quanta i != 0) = decide (quanta i ≠ 0) := Bool.eq_iff_iff.mpr (by simp)
  rw [State.takePfc, State.port_showHalts, State.port_modPort_same, getLsbD_sumBits _ hi, ← hquanta]

/-- One priority's halt ends. -/
theorem getLsbD_and_not_twoPow (x : BitVec 8) (i j : Fin 8) :
    (x &&& ~~~ BitVec.ofNat 8 (2 ^ i.val)).getLsbD j = (x.getLsbD j && decide (j ≠ i)) := by
  have hij : i.val = j.val ↔ j = i := by omega
  rw [BitVec.getLsbD_and, BitVec.getLsbD_not, BitVec.getLsbD_ofNat, Nat.testBit_two_pow]
  simp [hij]

/-! ### PAUSE that is sent (R207) -/

section
variable {s : State} {p : Nat}

/-- A port that may send PAUSE: its link is up, it sends nothing, is awake, and PAUSE_TX is set. -/
structure State.MayPause (s : State) (p : Nat) : Prop where
  up : s.linkUp p = true
  silent : (s.port p).tx = none
  awake : s.on (Fld.NET_STAT_LPITX p) = false
  enabled : s.on (Fld.NET_FC_CFG_PAUSE_TX p) = true

/-- A PAUSE frame that asks for a halt (`xoff`) or ends it goes out and counts. -/
def State.pauseSent (s : State) (p : Nat) (xoff : Bool) : State :=
  let b := s.macControl p 1 (beBytes (if xoff then 0xFFFF else 0) 2)
  ((((s.setPort p { s.port p with xoffAll := xoff }).count (ctrNet p 5)).countNet p 2 1).countNet p 3 (b.length + 4)).send
    (.frame p b true)

/-- What PAUSE_FRAME_SEND asks for: a halt when the stored bytes have risen above XOFF KiB and none was asked for, its end when
they have fallen below XON KiB. -/
def State.pauseTurn (s : State) (p : Nat) : Option Bool :=
  let k := s.stored p (fun _ => true)
  if !(s.port p).xoffAll && decide (1024 * s.get (Fld.NET_FC_THR_XOFF p) < k) then some true
  else if (s.port p).xoffAll && decide (k < 1024 * s.get (Fld.NET_FC_THR_XON p)) then some false
  else none

theorem State.sendPause_eq (h : s.MayPause p) : s.sendPause p = (s.pauseTurn p).elim s (s.pauseSent p) := by
  obtain ⟨hup, hsilent, hawake, henabled⟩ := h
  refine (if_neg (by simp [hup, hsilent, hawake])).trans ((if_pos henabled).trans ?_)
  change (match s.pauseTurn p with | some b => s.pauseSent p b | none => s) = _
  cases s.pauseTurn p <;> rfl

end

/-! ### Gates (R208, R210) -/

section
variable {s : State} {n : Nat}

/-- With nothing queued, closing gates drop nothing. -/
theorem State.closeGates_of_empty (before : BitVec 8) (h : (s.port n).queue = []) :
    s.closeGates n before = s.setPort n (s.port n) := by
  have hkept : { s.port n with queue := [] } = s.port n := by rw [← h]
  simpa [State.closeGates, h] using congrArg (s.setPort n) hkept

/-- The waiting list takes effect: its entries and SCHEDQ in the port, EN, CYCLE and LEN in GCL_STAT. -/
def State.takeGates (s : State) (n : Nat) (g : GateList) : State :=
  (((s.modPort n (fun p => { p with gates := g.entries, schedq := g.schedq, pend := none })).flag
    (Fld.NET_GCL_STAT_EN n) g.en).put (Fld.NET_GCL_STAT_CYCLE n) g.cycle).put (Fld.NET_GCL_STAT_LEN n) g.entries.length

theorem State.on_takeGates_en (g : GateList) : (s.takeGates n g).on (Fld.NET_GCL_STAT_EN n) = g.en := by
  rw [State.takeGates, State.on_put_apart _ _ (by rfl), State.on_put_apart _ _ (by rfl), State.on_flag_fits _ _ (by rfl) (by rfl)]

theorem State.port_takeGates (g : GateList) :
    (s.takeGates n g).port n = { s.port n with gates := g.entries, schedq := g.schedq, pend := none } :=
  Table.get_set_same ..

/-- Entry 0 begins. -/
def State.entryZero (s : State) (n : Nat) : State :=
  (s.modPort n (fun p => { p with cycling := s.on (Fld.NET_GCL_STAT_EN n) })).put (Fld.NET_GCL_STAT_ENTRY n) 0

theorem State.startCycle_of_pend {g : GateList} (hg : (s.port n).pend = some g) : s.startCycle n =
    (((s.takeGates n g).entryZero n).closeGates n (s.gatesNow n)).modPort n (fun p => { p with dropped := false }) := by
  unfold State.startCycle
  rw [hg]
  rfl

theorem State.port_entryZero : (s.entryZero n).port n = { s.port n with cycling := s.on (Fld.NET_GCL_STAT_EN n) } :=
  Table.get_set_same ..

theorem State.get_entryZero : (s.entryZero n).get (Fld.NET_GCL_STAT_ENTRY n) = 0 := State.get_put_fits _ 0 (by rfl)

/-- With nothing queued a cycle start has the waiting list run from its first entry. -/
theorem State.startCycle_of_empty {g : GateList} (hg : (s.port n).pend = some g) (hq : (s.port n).queue = []) :
    ((s.startCycle n).port n) = { s.port n with
      gates := g.entries, schedq := g.schedq, pend := none, cycling := g.en, dropped := false } ∧
    (s.startCycle n).get (Fld.NET_GCL_STAT_ENTRY n) = 0 := by
  have hport : ((s.takeGates n g).entryZero n).port n =
      { s.port n with gates := g.entries, schedq := g.schedq, pend := none, cycling := g.en } := by
    rw [State.port_entryZero, State.port_takeGates, State.on_takeGates_en]
  rw [State.startCycle_of_pend hg, State.closeGates_of_empty _ (by rw [hport, hq])]
  constructor
  · rw [State.port_modPort_same, State.port_setPort_same, hport]
  · rw [State.get_modPort, State.get_setPort, State.get_entryZero]

end

section
variable {s : State} {p : Fin 4}

theorem exec_gateEntryStart_of_next {i : Nat} (hi : i = s.get (Fld.NET_GCL_STAT_ENTRY p) + 1) (hg : s.gated p = true)
    (hlen : i < (s.port p).gates.length)
    (hcycle : entryStart (s.port p).gates i * s.fs < 2 ^ s.get (Fld.NET_GCL_STAT_CYCLE p) * 1000000000) :
    exec (.gateEntryStart p) s = .next ((s.put (Fld.NET_GCL_STAT_ENTRY p) i).closeGates p (s.gatesNow p)) := by
  subst hi
  exact congrArg Host.Outcome.next (if_pos ⟨hg, hlen, hcycle⟩)

theorem exec_gateEntryStart_of_closed (hg : s.gated p = false) : exec (.gateEntryStart p) s = .next s :=
  congrArg Host.Outcome.next (if_neg (by simp [hg]))

/-- Where no list runs, the waiting one decides the cycle start by its own CYCLE (log entry 59). -/
theorem exec_gateCycleStart_of_pend {g : GateList} (hg : (s.port p).pend = some g)
    (he : s.on (Fld.NET_GCL_STAT_EN p) = false) (ht : s.row.ticks = true) : exec (.gateCycleStart p) s =
      .next (if s.row.rowIdx.toNat % 2 ^ g.cycle = 0 then s.startCycle p else s) := by
  have hnext : s.nextCycle p = some g.cycle := by simp [State.nextCycle, he, hg]
  refine congrArg Host.Outcome.next ?_
  rw [hnext]
  simp [ht]

/-! ### The swap of the gate list (R212) -/

theorem State.applyGclSwap_of_good {n : Nat} (h0 : 0 < (s.shadowGates n).entries.length)
    (hlen : (s.shadowGates n).entries.length ≤ 256) (hi : ∀ e ∈ (s.shadowGates n).entries, e.2 ≠ 0) :
    s.applyGclSwap n = s.modPort n (fun p => { p with pend := some (s.shadowGates n) }) :=
  if_neg (by
    have hne : (s.shadowGates n).entries ≠ [] := List.ne_nil_of_length_pos h0
    have hany : (s.shadowGates n).entries.any (fun e => e.2 == 0) = false :=
      List.any_eq_false.mpr fun e he => by simpa using hi e he
    simp [hne, hlen, hany])

theorem State.applyGclSwap_of_bad {n : Nat}
    (h : (s.shadowGates n).entries = [] ∨ ∃ e ∈ (s.shadowGates n).entries, e.2 = 0) :
    s.applyGclSwap n = s.invalid (Reg.NET_GCL_CTL n) :=
  if_pos (by
    rcases h with h | ⟨e, he, h0⟩
    · simp [h]
    · have hany : (s.shadowGates n).entries.any (fun e => e.2 == 0) = true := List.any_eq_true.mpr ⟨e, he, by simp [h0]⟩
      simp [hany])

end

/-- Settles O34, one command after the other. -/
theorem haltsAndGates : Obligations.HaltsAndGates := by
  refine ⟨fun p q v w s hl ha => ?receive, fun p s => ?expire, fun p s hl ht hlpi htx => ?send, fun p s => ?entry,
    fun p s g hg he ht => ?cycle, fun p s r q hf hr => ?swap⟩
  case receive =>
    intro u
    have hrun := exec_pauseFrameReceive q hl ha
    refine ⟨fun h => hrun.trans (congrArg _ (if_pos h)), fun h => hrun.trans (congrArg _ (if_neg (Bool.eq_false_iff.mp h))),
      _, exec_pfcFrameReceive v w hl ha, fun i hi => ?_⟩
    exact (State.halts_takePfc _ _ _ _ hi).trans (by rw [State.port_controlFrame]; rfl)
  case expire =>
    refine ⟨rfl, fun i => ⟨_, exec_pauseHaltExpire_priority i, fun j => ?_⟩⟩
    rw [State.port_showHalts, State.port_modPort_same]
    exact getLsbD_and_not_twoPow _ i j
  case send =>
    have hmay : s.MayPause p := ⟨hl, ht, hlpi, htx⟩
    have sends {o : Option Bool} (h : s.pauseTurn p = o) : exec (.pauseFrameSend p) s = .next (o.elim s (s.pauseSent p)) :=
      congrArg Host.Outcome.next (h ▸ State.sendPause_eq hmay)
    exact ⟨fun hx hk => sends (o := some true) (by simp [State.pauseTurn, hx, hk]),
      fun hx hk => sends (o := some false) (by simp [State.pauseTurn, hx, hk]),
      fun hx hk => sends (o := none) (by simp [State.pauseTurn, hx, hk])⟩
  case entry => exact ⟨exec_gateEntryStart_of_next rfl, exec_gateEntryStart_of_closed⟩
  case cycle =>
    have hrun := exec_gateCycleStart_of_pend hg he ht
    refine ⟨fun h => hrun.trans (congrArg _ (if_pos h)), fun hq => ?_, fun h => hrun.trans (congrArg _ (if_neg h))⟩
    obtain ⟨hport, hentry⟩ := State.startCycle_of_empty hg hq
    intro t
    rw [hport]
    exact ⟨rfl, rfl, rfl, rfl, hentry⟩
  case swap =>
    have hrun : exec (.gclSwap p) s = .next ((s.withQueue q).applyGclSwap p) :=
      congrArg Host.Outcome.next (State.applyFirst_front hf hr _)
    exact ⟨fun h0 hlen hi => hrun.trans (congrArg _ (State.applyGclSwap_of_good h0 hlen hi)),
      fun h => hrun.trans (congrArg _ (State.applyGclSwap_of_bad h))⟩

end Sys2Proof.Machine

/-! ## Low-power idle, timestamps and the forwarding table (R196, R213, R214, R220) -/

namespace Sys2Proof.Machine

/-! ### Low-power idle (R213, R214) -/

section
variable {s : State} {n : Nat}

/-- Without one of these conditions of R213 the transmitter stays awake. -/
theorem State.maySleep_of_missing (ns : Nat) (h : s.get (Fld.ENG_PROFILE_POLICY) ≠ 2 ∨ s.on (Fld.NET_EEE_CFG_EN n) = false ∨
    s.on (Fld.NET_EEE_STAT_NEGOK n) = false ∨ (s.port n).queue ≠ []) : s.maySleep n ns = false := by
  unfold State.maySleep State.eeeOn
  split
  · rfl
  · rcases h with h | h | h | h <;> simp [h]

/-- A frame waits, or the next due instant is TWTX away or less. -/
theorem State.mayWake_iff (ns : Nat) : s.mayWake n ns = true ↔ (s.port n).queue ≠ [] ∨
    (s.txBound n = true ∧ s.row.ticks = true ∧
      1000000000 + 1200 * s.fs ≤ (ns + 1000 * s.get (Fld.NET_EEE_STAT_TWTX n)) * s.fs) := by
  simp [State.mayWake, and_assoc]

theorem State.leaveLpi_of_on (h : s.on (Fld.NET_STAT_LPITX n) = true) :
    s.leaveLpi n = ((s.countLpi n).flag (Fld.NET_STAT_LPITX n) false).laneTxIdle n false := if_pos h

theorem State.leaveLpi_of_off (h : s.on (Fld.NET_STAT_LPITX n) = false) : s.leaveLpi n = s := if_neg (by simp [h])

theorem State.liveAt_countLpi (h : s.on (Fld.NET_STAT_LPITX n) = true) : (s.countLpi n).liveAt (Reg.NET_CNT64 n 10) =
    (s.liveAt (Reg.NET_CNT64 n 10) + (s.tb.edges - (s.port n).lpiFrom) * 25 / 12288) % 2 ^ 64 := by
  rw [State.countLpi, if_pos h]
  exact (State.liveAt_setLive ..).trans (if_pos rfl)

theorem State.regs_countLpi (s : State) (n : Nat) : (s.countLpi n).regs = s.regs := by
  unfold State.countLpi
  split <;> rfl

theorem State.checkLpi_of_not_negotiated (h : s.on (Fld.NET_EEE_STAT_NEGOK n) = false) : s.checkLpi n = s.leaveLpi n :=
  if_neg (by simp [State.eeeOn, h])

end

section
variable {s : State} {p : Fin 4}

theorem exec_lpiExit (ns : BitVec 24) : exec (.lpiExit p ns) s = .next (if s.mayWake p ns.toNat then s.leaveLpi p else s) := rfl

theorem exec_lldpReceive_of_lpi {tw ts : Nat} (w : BitVec 16) (ht : lpiTimes (s.portType p) = some (tw, ts))
    (hl : s.linkUp p = true) :
    exec (.lldpReceive p w) s =
      .next ((s.put (Fld.NET_EEE_STAT_TWTX p) (max tw w.toNat)).flag (Fld.NET_EEE_STAT_NEGOK p) true) := by
  refine congrArg Host.Outcome.next ?_
  rw [ht]
  exact if_pos hl

theorem exec_lldpReceive_of_no_lpi (w : BitVec 16) (ht : lpiTimes (s.portType p) = none) :
    exec (.lldpReceive p w) s = .next s := by
  refine congrArg Host.Outcome.next ?_
  rw [ht]

/-- The frame that LLDP_SEND offers to queue 5. -/
def State.lldpFrame (s : State) (n : Nat) : TxFrame := ⟨padFrame (s.lldpBytes n), 5, 0, 4, none, none, 0⟩

theorem exec_lldpSend_of_up (hl : s.linkUp p = true) (hm : (padFrame (s.lldpBytes p)).length + 4 ≤ s.maxFrm p) :
    exec (.lldpSend p) s = .next (s.modPort p (fun x => { x with queue := x.queue ++ [s.lldpFrame p] })) :=
  congrArg Host.Outcome.next (if_pos (Bool.and_eq_true_iff.mpr ⟨hl, decide_eq_true hm⟩))

theorem exec_lldpSend_of_down (hl : s.linkUp p = false) : exec (.lldpSend p) s = .next (s.count (ctrNet p 9)) :=
  congrArg Host.Outcome.next (if_neg (by simp [hl]))

end

/-! ### Timestamps (R220) -/

/-- The timestamp registers of a port are loaded. -/
def State.loadStamp (s : State) (n info lo hi frac : Nat) : State :=
  (((s.setReg (Reg.NET_TXTS_INFO n) (BitVec.ofNat 32 info)).setReg (Reg.NET_TXTS_NS_LO n) (BitVec.ofNat 32 lo)).setReg
    (Reg.NET_TXTS_NS_HI n) (BitVec.ofNat 32 hi)).setReg (Reg.NET_TXTS_FRAC n) (BitVec.ofNat 32 frac)

section
variable (s : State) (n info lo hi frac : Nat)

theorem State.port_loadStamp (m : Nat) : (s.loadStamp n info lo hi frac).port m = s.port m := rfl

theorem State.loadStamp_frame : s.loadStamp n info lo hi frac = { s with regs := (s.loadStamp n info lo hi frac).regs } := rfl

theorem State.reg_loadStamp :
    (s.loadStamp n info lo hi frac).reg (Reg.NET_TXTS_NS_LO n) = BitVec.ofNat 32 lo ∧
    (s.loadStamp n info lo hi frac).reg (Reg.NET_TXTS_NS_HI n) = BitVec.ofNat 32 hi ∧
    (s.loadStamp n info lo hi frac).reg (Reg.NET_TXTS_FRAC n) = BitVec.ofNat 32 frac ∧
    (s.loadStamp n info lo hi frac).reg (Reg.NET_TXTS_INFO n) = BitVec.ofNat 32 info := by
  simp [State.loadStamp, State.reg_setReg, Reg.NET_TXTS_INFO, Reg.NET_TXTS_NS_LO, Reg.NET_TXTS_NS_HI, Reg.NET_TXTS_FRAC]

end

section
variable {s : State} {p : Fin 4} {w : Word}

theorem toNat_mod_two_eq_zero_iff : w.toNat % 2 = 0 ↔ w.getLsbD 0 = false := by
  rw [BitVec.getLsbD, Nat.testBit_zero]
  simp

theorem exec_txtsPop_of_no_pop (h : w.getLsbD 0 = false) : exec (.txtsPop p w) s = .next s :=
  congrArg Host.Outcome.next (if_pos (toNat_mod_two_eq_zero_iff.mpr h))

theorem exec_txtsPop_of_stamp {x : TxStamp} {l : List TxStamp} (h : w.getLsbD 0 = true)
    (hx : popStamp true (s.port p).stamps = some (x, l)) : exec (.txtsPop p w) s =
      .next ((s.modPort p (fun y => { y with stamps := l })).loadStamp p
        (2 ^ 31 + x.tb * 2 ^ 28 + l.length * 2 ^ 16 + x.tag) x.ns (x.ns / 2 ^ 32) x.frac) := by
  refine congrArg Host.Outcome.next ((if_neg (by simp [toNat_mod_two_eq_zero_iff, h])).trans ?_)
  rw [hx]
  rfl

theorem exec_txtsPop_of_none (h : w.getLsbD 0 = true) (hx : popStamp true (s.port p).stamps = none) :
    exec (.txtsPop p w) s = .next (s.loadStamp p 0 0 0 0) := by
  refine congrArg Host.Outcome.next ((if_neg (by simp [toNat_mod_two_eq_zero_iff, h])).trans ?_)
  rw [hx]
  rfl

end

/-! ### The forwarding table (R196) -/

def State.setFdb (s : State) (i : Nat) (e : FdbEntry) : State :=
  { s with net := { s.net with fdb := s.net.fdb.set (fun _ => fdbNone) i e } }

theorem State.fdbEntry_setFdb (s : State) (i j : Nat) (e : FdbEntry) :
    (s.setFdb i e).fdbEntry j = if j = i then e else s.fdbEntry j := Table.get_set ..

theorem State.fdbEntry_put (s : State) (f : Fd) (v i : Nat) : (s.put f v).fdbEntry i = s.fdbEntry i := rfl

theorem OnlyFabric.fdbEntry {s t : State} (h : OnlyFabric s t) (i : Nat) : t.fdbEntry i = s.fdbEntry i := by
  obtain ⟨_, _, _, _, _, rfl⟩ := h
  rfl

/-- A write of a register changes registers and raises events. -/
theorem OnlyFabric.writeReg (s : State) (a : Nat) (w : Word) : OnlyFabric s (s.writeReg a w) := by
  have hfields : OnlyFabric s (s.writeFields a w) := by
    obtain ⟨-, r, hr⟩ := OnlyReg.writeFields a w (fieldsAt a) s
    have hone : OnlyFabric s ((fieldsAt a).foldl (fun s f => s.writeField a w f) s) := hr ▸ ⟨_, _, _, _, _, rfl⟩
    exact .ite (hone.trans (.ite (.refl _) (.level ..))) hone
  exact .ite (hfields.trans (.raise ..)) hfields

/-- The entry that a write of FDB_HI makes. -/
def State.fdbWritten (s : State) (w : Word) : FdbEntry :=
  ⟨w.msb, BitVec.ofNat 4 (w.toNat / 2 ^ 26), w.toNat / 2 ^ 14 % 4096,
    (s.reg Reg.FDB_MAC).toNat * 2 ^ 32 + (s.reg Reg.FDB_LO).toNat⟩

theorem exec_fdbHiWrite (w : Word) (s : State) : exec (.fdbHiWrite w) s =
    .next (((s.writeReg Reg.FDB_HI w).setFdb (s.get Fld.FDB_SEL_INDEX % 2048) (s.fdbWritten w)).put Fld.FDB_SEL_INDEX
      ((s.get Fld.FDB_SEL_INDEX + 1) % 2048)) := rfl

/-- Settles O35, one command after the other. -/
theorem idleStampsAndTable : Obligations.IdleStampsAndTable := by
  refine ⟨fun p ns s => ?enter, fun p ns s => ?exit, fun p tw s hl => ?receive, fun p s => ?send, fun p w s => ?stamp,
    fun w s => ?fdb⟩
  case enter =>
    exact ⟨fun hoff hm => congrArg Host.Outcome.next (if_pos (by simp [hoff, hm])),
      fun hon => congrArg Host.Outcome.next (if_neg (by simp [hon])),
      fun h => congrArg Host.Outcome.next (if_neg (by simp [State.maySleep_of_missing _ h]))⟩
  case exit =>
    intro us due
    refine ⟨fun hon h => ⟨?_, State.liveAt_countLpi hon, s.regs_countLpi p⟩, fun h => ?_⟩
    · rw [exec_lpiExit, if_pos ((State.mayWake_iff _).mpr h), State.leaveLpi_of_on hon]
    · rw [exec_lpiExit]
      rcases h with hoff | ⟨hq, hdue⟩
      · rw [State.leaveLpi_of_off hoff, ite_self]
      · rw [if_neg fun hwake => ((State.mayWake_iff _).mp hwake).elim (fun hne => hne hq) hdue]
  case receive =>
    have sets {type m ts : Nat} (ht : s.portType p = type) (hm : lpiTimes type = some (m, ts)) :=
      exec_lldpReceive_of_lpi tw (hm ▸ congrArg lpiTimes ht) hl
    exact ⟨fun h => sets h rfl, fun h => sets h rfl, fun h => sets h rfl,
      fun h => exec_lldpReceive_of_no_lpi tw (congrArg lpiTimes h)⟩
  case send =>
    refine ⟨congrArg Host.Outcome.next (State.checkLpi_of_not_negotiated (State.on_flag_fits _ _ rfl rfl)),
      fun hl hm => ⟨_, exec_lldpSend_of_up hl hm, rfl, rfl, rfl⟩, exec_lldpSend_of_down⟩
  case stamp =>
    refine ⟨exec_txtsPop_of_no_pop, fun x l h hx => ?_, fun h hx => ?_⟩
    · obtain ⟨hlo, hhi, hfrac, hinfo⟩ := State.reg_loadStamp (s.modPort p (fun y => { y with stamps := l })) p
        (2 ^ 31 + x.tb * 2 ^ 28 + l.length * 2 ^ 16 + x.tag) x.ns (x.ns / 2 ^ 32) x.frac
      refine ⟨_, exec_txtsPop_of_stamp h hx, ?_, hlo, hhi, hfrac, hinfo, State.loadStamp_frame ..⟩
      rw [State.port_loadStamp, State.port_modPort_same]
    · obtain ⟨hlo, hhi, hfrac, hinfo⟩ := s.reg_loadStamp p 0 0 0 0
      exact ⟨_, exec_txtsPop_of_none h hx, hinfo, hlo, hhi, hfrac, rfl⟩
  case fdb =>
    intro i
    refine ⟨_, exec_fdbHiWrite w s, ?_, ?_, fun j hj => ?_⟩
    · rw [State.get_put_fits _ _ (by rfl)]
      simp [Fld.FDB_SEL_INDEX, i]
    · rw [State.fdbEntry_put, State.fdbEntry_setFdb, if_pos rfl, State.fdbWritten]
    · rw [State.fdbEntry_put, State.fdbEntry_setFdb, if_neg hj, (OnlyFabric.writeReg ..).fdbEntry]

end Sys2Proof.Machine

/-! ## Lane settings, loopbacks and eye scans (R191, R263 to R291, R595) -/

namespace Sys2Proof.Machine

/-! ### Registers behind those of the events -/

section
variable (s : State) {a : Nat}

/-- A source's status word and INFO lie below every unit's registers. -/
theorem State.reg_raise_above {n : Nat} (hn : n < 256) (i : Nat) (ha : Reg.EVT_INFO 256 ≤ a) : (s.raise n i).reg a = s.reg a := by
  simp only [Reg.EVT_INFO] at ha
  refine s.reg_raise_other n i ?_ ?_
  · simp only [fdStatus, Reg.EVT_STATUS]
    omega
  · simp only [Reg.EVT_INFO]
    omega

theorem State.reg_countBy_above (c : Ctr) (k : Nat) (ha : Reg.EVT_INFO 256 ≤ a) (hc : a ≠ c.sat.addr) :
    (s.countBy c k).reg a = s.reg a := by
  have hsat (t : State) : (t.setSat c.sat).reg a = t.reg a := by
    have hflag : (t.flag c.sat true).reg a = t.reg a := t.reg_put_other hc
    have hgroup := groupOf_lt c.sat.addr
    rw [State.setSat, State.level, if_pos rfl]
    split
    · exact hflag
    · rw [State.reg_raise_above _ (by omega) _ ha, hflag]
  unfold State.countBy
  dsimp only
  split
  · rfl
  · split
    · rw [hsat, State.reg_setLive]
    · rfl

theorem State.reg_stopWtr (r : Nat) (ha : a < Reg.CLK_REF_STAT 0) : (s.stopWtr r).reg a = s.reg a := by
  have hne : a ≠ Reg.CLK_REF_STAT r := by
    simp only [Reg.CLK_REF_STAT] at ha ⊢
    omega
  rw [State.stopWtr, State.reg_put_other _ hne, State.flag, State.reg_put_other _ hne]
  rfl

theorem State.reg_setRefIn (r : Nat) (x : RefIn) : (s.setRefIn r x).reg a = s.reg a := rfl

/-- The loss of an input reaches the registers of the clock unit and of the events only. -/
theorem State.reg_setStage_loss (r : Nat) (ha : Reg.EVT_INFO 256 ≤ a) (hclk : a < Reg.CLK_REF_STAT 0) :
    (s.setStage r 1).reg a = s.reg a := by
  have hstat : a ≠ Reg.CLK_REF_STAT r := by
    simp only [Reg.CLK_REF_STAT] at hclk ⊢
    omega
  have hsat : a ≠ (ctrRef r 0).sat.addr := by
    simp only [Reg.CLK_REF_STAT, ctrRef, Reg.CLK_REF_CNTSAT] at hclk ⊢
    omega
  by_cases hst : 1 = s.stage r
  · rw [State.setStage, if_pos hst]
  · unfold State.setStage
    rw [if_neg hst]
    dsimp only
    rw [if_neg (by decide), if_pos rfl, State.reg_stopWtr _ _ hclk, State.count, State.reg_countBy_above _ _ _ ha hsat,
      State.reg_setRefIn, State.reg_raise_above _ (by decide) _ ha]
    exact s.reg_put_other hstat

theorem State.reg_showLink (n : Nat) (ha : Reg.EVT_INFO 256 ≤ a) (hn : a ≠ Reg.NET_STAT n) : (s.showLink n).reg a = s.reg a := by
  unfold State.showLink
  dsimp only
  split
  · rfl
  · exact (State.reg_raise_above _ (by decide) _ ha).trans (s.reg_put_other hn)

end

/-! ### The state and the mode of a lane (R262, R275) -/

/-- LANEn.STAT is no register of the events, of the clock unit or of a network port, and not the SAT register of a lane. -/
theorem laneStat_place (n : Fin 6) : Reg.EVT_INFO 256 ≤ Reg.LANE_STAT n ∧ Reg.LANE_STAT n < Reg.CLK_REF_STAT 0 ∧
    (n.val < 4 → Reg.LANE_STAT n ≠ Reg.NET_STAT n) ∧ Reg.LANE_STAT n ≠ Reg.LANE_CNT_SAT n := by
  simp only [Reg.EVT_INFO, Reg.LANE_STAT, Reg.CLK_REF_STAT, Reg.NET_STAT, Reg.LANE_CNT_SAT]
  omega

theorem State.laneState_setLaneState (s : State) (n : Fin 6) (st : Nat) : (s.setLaneState n st).laneState n = st % 16 := by
  obtain ⟨hevt, hclk, hnet, -⟩ := laneStat_place n
  have hput : (s.put (Fld.LANE_STAT_STATE n) st).laneState n = st % 16 := State.get_put_fits _ _ (by rfl)
  refine (State.get_congr ?_).trans hput
  have hstage (b : Bool) : (if b then (s.put (Fld.LANE_STAT_STATE n) st).setStage (4 + n) 1
      else s.put (Fld.LANE_STAT_STATE n) st).reg (Reg.LANE_STAT n) = (s.put (Fld.LANE_STAT_STATE n) st).reg (Reg.LANE_STAT n) := by
    split
    · exact State.reg_setStage_loss _ _ hevt hclk
    · rfl
  unfold State.setLaneState
  dsimp only
  split
  · exact (State.reg_showLink _ _ hevt (hnet ‹_›)).trans (hstage _)
  · exact hstage _

theorem State.laneMode_count_raise (s : State) (n : Fin 6) (j : Nat) {e : Nat} (he : e < 256) (i : Nat) :
    ((s.count (ctrLane n j)).raise e i).laneMode n = s.laneMode n := by
  obtain ⟨hevt, -, -, hsat⟩ := laneStat_place n
  exact State.get_congr ((State.reg_raise_above _ he _ hevt).trans (State.reg_countBy_above _ _ _ hevt hsat))

/-! ### Speed, clock and enable of a lane (R191, R263, R272) -/

section
variable {s : State} {w : Word}

/-- A change of TXREF restarts a port's lane; one of EN restarts a lane of the twin link. -/
theorem State.writeLaneCfg_port {n : Nat} (hn : n < 4) : s.writeLaneCfg n w =
    let x := s.writeReg (Reg.LANE_CFG n) w
    if x.on (Fld.LANE_CFG_TXREF n) = s.on (Fld.LANE_CFG_TXREF n) then x else (x.dropLink n).setMode n (x.laneMode n) := by
  rw [State.writeLaneCfg, if_pos hn]
  simp only [beq_iff_eq]

theorem State.writeLaneCfg_twin {n : Nat} (hn : ¬ n < 4) : s.writeLaneCfg n w =
    let x := s.writeReg (Reg.LANE_CFG n) w
    if x.on (Fld.LANE_CFG_EN n) = s.on (Fld.LANE_CFG_EN n) then x
    else x.setMode n (if x.on (Fld.LANE_CFG_EN n) then 5 else 0) := by
  rw [State.writeLaneCfg, if_neg hn]
  simp only [beq_iff_eq]

end

/-! ### The elastic buffer (R274) -/

theorem State.laneMode_elasticMove (s : State) (n : Fin 6) (m : Fin 3) : (s.elasticMove n m).laneMode n = s.laneMode n := by
  have hcentre : (s.recentre n).laneMode n = s.laneMode n :=
    State.laneMode_count_raise (s.modLane n (fun x => { x with fill := 16 })) n 3 (by decide) _
  match m with
  | 0 => exact (apply_ite (State.laneMode · n) _ _ _).trans (by rw [hcentre]; exact ite_self _)
  | 1 => exact (apply_ite (State.laneMode · n) _ _ _).trans (by rw [hcentre]; exact ite_self _)
  | 2 =>
    change (if _ then _ else if _ then _ else s).laneMode n = _
    split
    · rfl
    · split <;> rfl

/-- What the buffer meets while the lane runs, one move after the other. -/
theorem exec_elasticError_of_on {s : State} {i : Fin 2} (l : List (Fin 3)) (h : s.laneMode (4 + i.val) ≠ 0) :
    exec (.elasticError ⟨i, l⟩) s = .next (l.foldl (fun s m => s.elasticMove (4 + i.val) m) s) :=
  congrArg Host.Outcome.next (if_neg h)

theorem exec_elasticError_of_off {s : State} {i : Fin 2} (l : List (Fin 3)) (h : s.laneMode (4 + i.val) = 0) :
    exec (.elasticError ⟨i, l⟩) s = .next s := congrArg Host.Outcome.next (if_pos h)

/-! ### Transmit taps (R269) -/

theorem txfirOk_iff (w : Word) : txfirOk w = true ↔ bitsOf w 28 24 ≤ 16 ∧ 24 ≤ bitsOf w 22 16 ∧ bitsOf w 22 16 ≤ 64 ∧
    bitsOf w 12 8 ≤ 24 ∧ bitsOf w 28 24 + bitsOf w 22 16 + bitsOf w 12 8 ≤ 64 ∧
    16 + bitsOf w 28 24 + bitsOf w 12 8 ≤ bitsOf w 22 16 := by
  simp [txfirOk, and_assoc]

/-! ### Loopbacks (R286, R287, R595) -/

section
variable {s : State} {n : Nat}

theorem State.endLoop_of_idle (h : s.laneState n ≠ 6) : s.endLoop n = s := if_pos h

/-- A loopback that is not near-end leaves the lane in the mode it had. -/
theorem State.endLoop_of_far (h : s.laneState n = 6) (hn : s.nearEnd n = false) : s.endLoop n = s.setMode n (s.laneMode n) := by
  simp [State.endLoop, h, hn]

/-- A write of LOOP_CTL ends the loopback that runs, and starts the one that it asks for. -/
theorem State.writeLoopCtl_of_ended {w : Word} (h : s.laneState n = 6 → w.toNat % 4 ≠ s.get (Fld.LANE_LOOP_STAT_MODE n))
    (hr : (s.endLoop n).inReset = false) : s.writeLoopCtl n w =
      let u := (s.endLoop n).put (Fld.LANE_LOOP_CTL_MODE n) (w.toNat % 4)
      if w.toNat % 4 = 0 then u else u.startLoop n (w.toNat % 4) := by
  rw [State.writeLoopCtl, if_neg (fun hs => h hs.1 hs.2), if_neg (by simp [hr])]

theorem State.writeLoopCtl_of_idle {w : Word} (h : s.laneState n ≠ 6) (hr : s.inReset = false) : s.writeLoopCtl n w =
    let u := s.put (Fld.LANE_LOOP_CTL_MODE n) (w.toNat % 4)
    if w.toNat % 4 = 0 then u else u.startLoop n (w.toNat % 4) := by
  have hend := State.endLoop_of_idle h
  rw [State.writeLoopCtl_of_ended (fun h6 => absurd h6 h) (by rw [hend, hr]), hend]

/-- A request for a loopback is refused. -/
def State.loopRefused (s : State) (n result : Nat) : State :=
  (s.put (Fld.LANE_LOOP_STAT_RESULT n) result).put (Fld.LANE_LOOP_STAT_MODE n) 0

/-- A near-end loopback starts: the lane leaves its link for LOOP, and its transmitter is in electrical idle. -/
def State.loopStarted (s : State) (n mode : Nat) : State :=
  ((((((((s.abortEye n).laneDown n).setLaneState n 6).restartPrbs n true true).flag (Fld.LANE_STAT_FROZEN n) false).put
    (Fld.LANE_LOOP_STAT_RESULT n) 1).put (Fld.LANE_LOOP_STAT_MODE n) mode).flag (Fld.LANE_STAT_EIDLE_TX n) true).modLane n
    (fun x => { x with loopPaired := s.paired })

theorem State.startLoop_near {mode : Nat} (hm : mode < 3) : s.startLoop n mode =
    if s.foregroundOk then s.loopStarted n mode else (s.loopRefused n 2).refuseSwatch 6 1 := by
  simp only [State.startLoop, hm, decide_true, if_true]
  rfl

theorem State.startLoop_far_refused (h : s.laneState n ≠ 3) : s.startLoop n 3 = s.loopRefused n 3 := if_neg h

@[simp] theorem State.get_modLane (s : State) (n : Nat) (g : LaneS → LaneS) (f : Fd) : (s.modLane n g).get f = s.get f := rfl

theorem State.get_loopStarted_result (mode : Nat) : (s.loopStarted n mode).get (Fld.LANE_LOOP_STAT_RESULT n) = 1 := by
  rw [State.loopStarted, State.get_modLane, State.get_flag_apart _ _ (by rfl), State.get_put_apart _ _ (by rfl),
    State.get_put_fits _ _ (by rfl)]
  rfl

theorem State.get_loopStarted_mode (mode : Nat) : (s.loopStarted n mode).get (Fld.LANE_LOOP_STAT_MODE n) = mode % 4 := by
  rw [State.loopStarted, State.get_modLane, State.get_flag_apart _ _ (by rfl), State.get_put_fits _ _ (by rfl)]
  rfl

theorem State.on_loopStarted_idle (mode : Nat) : (s.loopStarted n mode).on (Fld.LANE_STAT_EIDLE_TX n) = true := by
  rw [State.loopStarted, State.on, State.get_modLane]
  exact State.on_flag_fits _ _ (by rfl) (by rfl)

theorem State.laneState_loopStarted (s : State) (n : Fin 6) (mode : Nat) : (s.loopStarted n mode).laneState n = 6 := by
  have hne : Reg.LANE_STAT n ≠ Reg.LANE_LOOP_STAT n := by
    simp only [Reg.LANE_STAT, Reg.LANE_LOOP_STAT]
    omega
  rw [State.loopStarted, State.laneState, State.get_modLane, State.get_flag_apart _ _ (by rfl), State.get_put_other _ _ _ _ hne,
    State.get_put_other _ _ _ _ hne, State.get_flag_apart _ _ (by rfl)]
  exact State.laneState_setLaneState _ n 6

end

/-! ### Eye scans (R290, R291) -/

section
variable {s : State} {n : Nat} {w : Word}

theorem State.writeEyeSel_of_busy (hw : w.msb = true) (he : (s.laneS n).eye = true) :
    s.writeEyeSel n w = s.invalid (Reg.LANE_EYE_SEL n) := if_pos (by simp [hw, he])

theorem State.writeEyeSel_of_no_go (hw : w.msb = false) : s.writeEyeSel n w = s.writeReg (Reg.LANE_EYE_SEL n) w :=
  (if_neg (by simp [hw])).trans (if_neg (by simp [hw]))

theorem State.writeEyeSel_of_go (hw : w.msb = true) (he : (s.laneS n).eye = false)
    (hc : badCodes (Reg.LANE_EYE_SEL n) w = false) : s.writeEyeSel n w =
      let u := ((s.writeReg (Reg.LANE_EYE_SEL n) w).flag (Fld.LANE_EYE_STAT_DONE n) false).flag (Fld.LANE_EYE_STAT_ABORT n) false
      if s.laneState n = 3 ∨ s.laneState n = 5 ∨ s.laneState n = 6 then
        (u.modLane n (fun x => { x with eye := true })).flag (Fld.LANE_EYE_STAT_BUSY n) true
      else u.flag (Fld.LANE_EYE_STAT_ABORT n) true :=
  (if_neg (by simp [he])).trans (if_pos (by simp [hw, hc]))

/-- The point that runs ends with `k` mismatches. -/
def State.eyeEnded (s : State) (n k : Nat) : State :=
  (((s.modLane n (fun x => { x with eye := false })).flag (Fld.LANE_EYE_STAT_BUSY n) false).flag
    (Fld.LANE_EYE_STAT_DONE n) true).put (Fld.LANE_EYE_ERR_ERR n) k

theorem State.laneS_modLane_same (s : State) (n : Nat) (f : LaneS → LaneS) : (s.modLane n f).laneS n = f (s.laneS n) :=
  Table.get_set_same ..

theorem State.laneS_put (s : State) (f : Fd) (v m : Nat) : (s.put f v).laneS m = s.laneS m := rfl

theorem State.eye_eyeEnded (k : Nat) : ((s.eyeEnded n k).laneS n).eye = false := by
  rw [State.eyeEnded, State.laneS_put, State.flag, State.laneS_put, State.flag, State.laneS_put, State.laneS_modLane_same]

theorem State.on_put_eyeErr (k : Nat) {f : Fd} (hf : f.addr = Reg.LANE_EYE_STAT n) :
    (s.put (Fld.LANE_EYE_ERR_ERR n) k).on f = s.on f := by
  refine congrArg (· == 1) (s.get_put_other _ _ _ ?_)
  rw [hf]
  simp only [Fld.LANE_EYE_ERR_ERR, Reg.LANE_EYE_STAT, Reg.LANE_EYE_ERR]
  omega

theorem State.on_eyeEnded_busy (k : Nat) : (s.eyeEnded n k).on (Fld.LANE_EYE_STAT_BUSY n) = false := by
  rw [State.eyeEnded, State.on_put_eyeErr _ rfl, State.on_flag_apart _ _ (by rfl), State.on_flag_fits _ _ (by rfl) (by rfl)]

theorem State.on_eyeEnded_done (k : Nat) : (s.eyeEnded n k).on (Fld.LANE_EYE_STAT_DONE n) = true := by
  rw [State.eyeEnded, State.on_put_eyeErr _ rfl, State.on_flag_fits _ _ (by rfl) (by rfl)]

theorem State.get_eyeEnded_err {k : Nat} (hk : k < 2 ^ 32) : (s.eyeEnded n k).get (Fld.LANE_EYE_ERR_ERR n) = k := by
  rw [State.eyeEnded, State.get_put_fits _ _ (by rfl)]
  simpa [Fld.LANE_EYE_ERR_ERR] using hk

theorem State.eyeEnded_frame (k : Nat) : ∃ r l, s.eyeEnded n k = { s with regs := r, lane := l } := ⟨_, _, rfl⟩

end

theorem exec_eyePointDone_of_running {s : State} {n : Fin 6} (k : BitVec 32) (h : (s.laneS n).eye = true) :
    exec (.eyePointDone n k) s =
      .next (s.eyeEnded n (min k.toNat (2 ^ (16 + s.get (Fld.LANE_EYE_SEL_DWELL n))))) :=
  congrArg Host.Outcome.next (if_pos h)

/-- Settles O40, one command after the other. -/
theorem laneSettings : Obligations.LaneSettings := by
  have hcfg (i : Fin 2) (w : Word) (s : State) : exec (.laneEnWrite i w) s = .next _ :=
    congrArg Host.Outcome.next (State.writeLaneCfg_twin (s := s) (w := w) (show ¬ 4 + i.val < 4 by omega))
  refine ⟨fun p w s => ?mode, fun i w s => ⟨?enabled, ?kept, ?elastic, ?off⟩, fun n w s => ?taps, fun n w s h6 hr => ?start,
    fun n s h6 hn hm hr => ?stop, fun n w s => ?scan, fun n k s => ?point⟩
  case mode =>
    have hcfg : exec (.txrefWrite p w) s = .next _ :=
      congrArg Host.Outcome.next (State.writeLaneCfg_port (s := s) (w := w) p.isLt)
    exact ⟨fun h => congrArg Host.Outcome.next (if_neg h), fun h => congrArg Host.Outcome.next (if_pos h),
      fun h => hcfg.trans (congrArg _ (if_neg h)), fun h => hcfg.trans (congrArg _ (if_pos h))⟩
  case enabled => exact fun h => (hcfg i w s).trans (congrArg _ (if_neg h))
  case kept => exact fun h => (hcfg i w s).trans (congrArg _ (if_pos h))
  case elastic =>
    intro hmode
    have moves {a : Fin 3} {t : State} (h : s.elasticMove (4 + i.val) a = t) : exec (.elasticError ⟨i, [a]⟩) s = .next t :=
      (exec_elasticError_of_on [a] hmode).trans (congrArg _ h)
    refine ⟨exec_elasticError_of_on [] hmode, fun h => moves (if_neg h), fun h => moves (if_neg h), fun h => moves (if_pos h),
      fun h => moves (if_pos h), fun h => moves (if_pos h), fun h => moves ((if_neg (by omega)).trans (if_pos h)),
      fun h h' => moves ((if_neg (by omega)).trans (if_neg (by omega))), fun a l => ⟨_, moves rfl, ?_⟩⟩
    have hkept := State.laneMode_elasticMove s ⟨4 + i.val, by omega⟩ a
    rw [exec_elasticError_of_on _ hmode, exec_elasticError_of_on l (by rw [hkept]; exact hmode)]
    rfl
  case off => exact fun l h => exec_elasticError_of_off l h
  case taps =>
    exact ⟨fun h => congrArg Host.Outcome.next (if_pos h), fun h => congrArg Host.Outcome.next (if_neg (by simp [h])),
      txfirOk_iff w⟩
  case start =>
    intro u
    have hrun : exec (.loopbackStart n w) s = .next _ :=
      congrArg Host.Outcome.next (State.writeLoopCtl_of_idle (w := w) h6 hr)
    have starts {t : State} (h0 : w.toNat % 4 ≠ 0) (h : u.startLoop n (w.toNat % 4) = t) :
        exec (.loopbackStart n w) s = .next t :=
      hrun.trans (congrArg _ ((if_neg h0).trans h))
    have near (h : w.toNat % 4 = 1 ∨ w.toNat % 4 = 2) := State.startLoop_near (s := u) (n := n) (show w.toNat % 4 < 3 by omega)
    have hzero : exec (.loopbackEnd n) s = .next (s.put (Fld.LANE_LOOP_CTL_MODE n) 0) :=
      congrArg Host.Outcome.next (State.writeLoopCtl_of_idle (w := 0) h6 hr)
    refine ⟨fun h => ⟨hrun.trans (congrArg _ (if_pos h)), hzero⟩,
      fun h hu => starts (by omega) (h ▸ State.startLoop_far_refused hu),
      fun h hf => starts (by omega) ((near h).trans (if_neg (by simp [hf]))),
      fun h hf => ⟨_, starts (by omega) ((near h).trans (if_pos hf)), State.get_loopStarted_result _, ?_,
        State.laneState_loopStarted _ n _, State.on_loopStarted_idle _⟩⟩
    rw [State.get_loopStarted_mode, Nat.mod_mod]
  case stop =>
    have hend := State.endLoop_of_far h6 hn
    refine congrArg Host.Outcome.next ((State.writeLoopCtl_of_ended (w := 0) (fun _ => hm.symm) (by rw [hend, hr])).trans ?_)
    rw [hend]
    rfl
  case scan =>
    intro a u
    refine ⟨fun hw he => congrArg Host.Outcome.next (State.writeEyeSel_of_busy hw he),
      fun hw => congrArg Host.Outcome.next (State.writeEyeSel_of_no_go hw), fun hw he hc => ?_⟩
    have hgo := State.writeEyeSel_of_go hw he hc
    exact ⟨fun h => congrArg Host.Outcome.next (hgo.trans (if_pos h)),
      fun h => congrArg Host.Outcome.next (hgo.trans (if_neg (by omega)))⟩
  case point =>
    have hk : min k.toNat (2 ^ (16 + s.get (Fld.LANE_EYE_SEL_DWELL n))) < 2 ^ 32 := lt_of_le_of_lt (min_le_left ..) k.isLt
    refine ⟨fun h => ⟨_, exec_eyePointDone_of_running k h, State.eye_eyeEnded _, State.on_eyeEnded_busy _,
      State.on_eyeEnded_done _, State.get_eyeEnded_err hk, ?_⟩, fun h => congrArg Host.Outcome.next (if_neg (by simp [h]))⟩
    obtain ⟨r, l, hframe⟩ := s.eyeEnded_frame (n := n) (min k.toNat (2 ^ (16 + s.get (Fld.LANE_EYE_SEL_DWELL n))))
    rw [hframe]

end Sys2Proof.Machine

/-! ## Flow slots: binding, and what is received for them (R223 to R260) -/

namespace Sys2Proof.Machine

/-! ### A flow slot -/

section
variable {s : State} {n m : Nat} {f : FlowSlot} {g : FlowSlot → FlowSlot}

@[simp] theorem State.flow_setFlow_same : (s.setFlow n f).flow n = f := Table.get_set_same ..

theorem State.flow_setFlow_other (h : m ≠ n) : (s.setFlow n f).flow m = s.flow m := Table.get_set_other _ _ _ _ _ h

@[simp] theorem State.flow_modFlow_same : (s.modFlow n g).flow n = g (s.flow n) := State.flow_setFlow_same

theorem State.flow_modFlow_other (h : m ≠ n) : (s.modFlow n g).flow m = s.flow m := State.flow_setFlow_other h

theorem State.flow_countFrame_same :
    (s.countFrame n).flow n = { s.flow n with frames := ((s.flow n).frames + 1) % 2 ^ 64 } := State.flow_modFlow_same

@[simp] theorem State.state_flow_countFrame : ((s.countFrame n).flow n).state = (s.flow n).state := by
  rw [State.flow_countFrame_same]

@[simp] theorem State.cfg_flow_countFrame : ((s.countFrame n).flow n).cfg = (s.flow n).cfg := by
  rw [State.flow_countFrame_same]

@[simp] theorem State.latch_flow_countFrame : ((s.countFrame n).flow n).latch = (s.flow n).latch := by
  rw [State.flow_countFrame_same]

@[simp] theorem State.hist_flow_countFrame : ((s.countFrame n).flow n).hist = (s.flow n).hist := by
  rw [State.flow_countFrame_same]

@[simp] theorem State.early_flow_countFrame : ((s.countFrame n).flow n).early = (s.flow n).early := by
  rw [State.flow_countFrame_same]

/-- A new value of a slot leaves the other slots and the rest of the state. -/
theorem State.modFlow_leaves (s : State) (n : Nat) (g : FlowSlot → FlowSlot) :
    (∀ m, m ≠ n → (s.modFlow n g).flow m = s.flow m) ∧ s.modFlow n g = { s with str := (s.modFlow n g).str } :=
  ⟨fun _ => State.flow_modFlow_other, rfl⟩

end

/-! ### Flow commands (R242 to R244) -/

section
variable {s : State} {r : TpRec} {op i : Nat} {tx : Bool}

theorem flowKey_rx : flowKey false i = i := Nat.zero_add i

theorem flowKey_tx : flowKey true i = 256 + i := rfl

/-- Operation and slot of a record that is the command's. -/
theorem value_of_fcmdIs (h : fcmdIs op tx i r = true) :
    r.value.toNat / 2 ^ 30 = op ∧ r.value.toNat % 512 = flowKey tx i := by
  simp only [fcmdIs, Bool.and_eq_true, decide_eq_true_eq, beq_iff_eq] at h
  obtain ⟨⟨⟨-, hop⟩, hdir⟩, hslot⟩ := h
  exact ⟨hop, by unfold flowKey; omega⟩

theorem State.applyFcmd_bind (k : Word) (h : fcmdIs 1 tx i r = true) :
    s.applyFcmd r.value k = s.bindFlow (flowKey tx i) k := by
  obtain ⟨hop, hkey⟩ := value_of_fcmdIs h
  simp only [State.applyFcmd, hop, hkey]

theorem State.applyFcmd_bindoff (k : Word) (h : fcmdIs 2 tx i r = true) :
    s.applyFcmd r.value k = s.bindoffFlow (flowKey tx i) k := by
  obtain ⟨hop, hkey⟩ := value_of_fcmdIs h
  simp only [State.applyFcmd, hop, hkey]

/-- The command's record at the front of the queue takes effect at the coming tick. -/
theorem State.fcmdDue_front {q : List TpRec} (hq : s.front r q) (h : fcmdIs op tx i r = true) :
    s.fcmdDue op tx i = (s.withQueue q).applyFcmd r.value (s.withQueue q).tickRow :=
  State.applyFirst_front hq h _

theorem State.fcmdDue_bind {q : List TpRec} (hq : s.front r q) (h : fcmdIs 1 tx i r = true) :
    s.fcmdDue 1 tx i = (s.withQueue q).bindFlow (flowKey tx i) (s.withQueue q).tickRow :=
  (State.fcmdDue_front hq h).trans (State.applyFcmd_bind _ h)

theorem State.fcmdDue_bindoff {q : List TpRec} (hq : s.front r q) (h : fcmdIs 2 tx i r = true) :
    s.fcmdDue 2 tx i = (s.withQueue q).bindoffFlow (flowKey tx i) (s.withQueue q).tickRow :=
  (State.fcmdDue_front hq h).trans (State.applyFcmd_bindoff _ h)

end

section
variable {s : State} {n : Nat} {k : Word}

theorem State.bindFlow_of_refused (h : s.bindReason n (s.shadowCfg n) ≠ 0) :
    s.bindFlow n k = s.refuseFlow n (s.bindReason n (s.shadowCfg n)) := if_pos h

theorem State.bindFlow_of_accepted {st : Nat} (hst : (if n < 256 then 1 else 2) = st)
    (h : s.bindReason n (s.shadowCfg n) = 0) :
    s.bindFlow n k = (s.setFlow n { flowReset with
      state := st, incarn := (s.flow n).incarn, cfg := s.shadowCfg n, start := s.firstOut k }).followFlowSat := by
  subst hst
  exact if_neg (by simp [h])

theorem State.bindoffFlow_of_bound {off : Option Word} (hoff : (if n < 256 then none else some (s.firstOut k)) = off)
    (h1 : 1 ≤ (s.flow n).state) (h3 : (s.flow n).state ≤ 3) :
    s.bindoffFlow n k = s.modFlow n (fun f =>
      { f with state := 4, reason := 0, fade := 0, early := none, offRow := off }) := by
  subst hoff
  exact if_pos ⟨h1, h3⟩

theorem State.bindoffFlow_of_unbound (h : (s.flow n).state = 0 ∨ 3 < (s.flow n).state) :
    s.bindoffFlow n k = s.refuseFlow n 9 := if_neg (by omega)

end

theorem State.fadeDone_of_not_bindoff {s : State} {n : Nat} (h : (s.flow n).state ≠ 4) : s.fadeDone n = false := by
  simp [State.fadeDone, h]

/-- Settles O36: the four commands at the head of the queue, the ends of BINDOFF and DRAIN, and the loss of a flow. -/
theorem flowBinding : Obligations.FlowBinding := by
  refine ⟨fun i s r q hq => ⟨?rxBind, ?txBind, ?rxBindoff, ?txBindoff⟩, fun tx i s => ⟨?fade, ?noFade, ?drain, ?noDrain⟩,
    fun i s => ⟨fun hst ht => congrArg Host.Outcome.next (if_pos ⟨hst, ht⟩),
      fun h => congrArg Host.Outcome.next (if_neg (by omega))⟩⟩
  case rxBind =>
    intro h
    have hrun : exec (.rxBind i) s = .next _ := congrArg Host.Outcome.next (State.fcmdDue_bind hq h)
    rw [hrun, flowKey_rx]
    exact ⟨fun hr => congrArg _ (State.bindFlow_of_accepted (if_pos i.isLt) hr),
      fun hr => congrArg _ (State.bindFlow_of_refused hr)⟩
  case txBind =>
    intro h
    have hrun : exec (.txBind i) s = .next _ := congrArg Host.Outcome.next (State.fcmdDue_bind hq h)
    rw [hrun, flowKey_tx]
    exact ⟨fun hr => congrArg _ (State.bindFlow_of_accepted (if_neg (by omega)) hr),
      fun hr => congrArg _ (State.bindFlow_of_refused hr)⟩
  case rxBindoff =>
    intro h
    have hrun : exec (.rxBindoff i) s = .next _ := congrArg Host.Outcome.next (State.fcmdDue_bindoff hq h)
    rw [hrun, flowKey_rx]
    exact ⟨fun h1 h3 => congrArg _ (State.bindoffFlow_of_bound (if_pos i.isLt) h1 h3),
      fun hst => congrArg _ (State.bindoffFlow_of_unbound hst)⟩
  case txBindoff =>
    intro h
    have hrun : exec (.txBindoff i) s = .next _ := congrArg Host.Outcome.next (State.fcmdDue_bindoff hq h)
    rw [hrun, flowKey_tx]
    exact ⟨fun h1 h3 => congrArg _ (State.bindoffFlow_of_bound (if_neg (by omega)) h1 h3),
      fun hst => congrArg _ (State.bindoffFlow_of_unbound hst)⟩
  case fade =>
    intro h
    obtain ⟨hothers, hframe⟩ := s.modFlow_leaves (flowKey tx i) (fun f =>
      { f with state := 5, drain := s.tbNs s.media, lastRow := none, gather := none })
    exact ⟨_, congrArg Host.Outcome.next (if_pos h), by simp [State.drainFlow], by simp [State.drainFlow], hothers, hframe⟩
  case noFade =>
    exact fun h => congrArg Host.Outcome.next (if_neg (by simp [State.fadeDone_of_not_bindoff h]))
  case drain =>
    intro hst ht
    obtain ⟨hothers, hframe⟩ := s.modFlow_leaves (flowKey tx i) (fun f =>
      { f with state := 0, incarn := (f.incarn + 1) % 65536, latch := 0, cfg := [] })
    exact ⟨_, congrArg Host.Outcome.next (if_pos ⟨hst, ht⟩), by simp [State.freeFlow], by simp [State.freeFlow], hothers, hframe⟩
  case noDrain => exact fun _ ht => congrArg Host.Outcome.next (if_neg (by omega))

/-! ### Malraing frames (R229, R235 to R238) -/

section
variable {s : State} {n : Nat} {x claim c : Word} {ws : List Word} {late : Bool}

/-- Row E in time, with no copy or one of a lower claim. -/
theorem State.malWindow_written (hd : (x - s.recvRow).toNat = 0) (hlate : late = false)
    (hk : copyOf (s.flow n).hist x = none ∨ ∃ c, copyOf (s.flow n).hist x = some c ∧ claimHigher claim c = true) :
    s.malWindow n x claim ws late false =
      (s.modFlow n (fun f => { f with hist := noteCopy f.hist x claim })).writeFlow n ws := by
  obtain hk | ⟨c, hk, hc⟩ := hk
  · simp [State.malWindow, hd, hlate, hk]
  · simp [State.malWindow, hd, hlate, hk, hc]

/-- Row E in time, with a copy whose claim is not lower. -/
theorem State.malWindow_dup (hd : (x - s.recvRow).toNat = 0) (hlate : late = false)
    (hk : copyOf (s.flow n).hist x = some c) (hc : claimHigher claim c = false) :
    s.malWindow n x claim ws late false = s.countDup n := by
  simp [State.malWindow, hd, hlate, hk, hc]

/-- Row E after its deadline, with a copy recorded. -/
theorem State.malWindow_late_dup (hd : (x - s.recvRow).toNat = 0) (hlate : late = true)
    (hk : copyOf (s.flow n).hist x = some c) : s.malWindow n x claim ws late false =
      if claimHigher claim c then (s.countFlow n 1 1).countFlow n 7 1 else s.countFlow n 1 1 := by
  simp [State.malWindow, hd, hlate, hk]

/-- Row E after its deadline, with no copy recorded. -/
theorem State.malWindow_late (hd : (x - s.recvRow).toNat = 0) (hlate : late = true)
    (hk : copyOf (s.flow n).hist x = none) : s.malWindow n x claim ws late false = s.countLate n false := by
  simp [State.malWindow, hd, hlate, hk]

/-- The row after E, where early copies are held and none is. -/
theorem State.malWindow_held (hd : (x - s.recvRow).toNat = 1) (hon : s.on Fld.STR_CFG_EARLY = true)
    (hearly : (s.flow n).early = none) :
    s.malWindow n x claim ws late false = s.modFlow n (fun f => { f with early := some ⟨x, claim, ws⟩ }) := by
  simp [State.malWindow, hd, hon, hearly]

/-- A row ahead of E that no copy is held for. -/
theorem State.malWindow_early (h0 : (x - s.recvRow).toNat ≠ 0) (hahead : (x - s.recvRow).toNat < 2 ^ 31)
    (hheld : ¬ ((x - s.recvRow).toNat = 1 ∧ s.on Fld.STR_CFG_EARLY = true)) :
    s.malWindow n x claim ws late false = s.countFlow n 3 1 :=
  (if_neg (fun h => h0 h.1)).trans ((if_neg h0).trans ((if_neg hheld).trans (if_pos hahead)))

/-- A row behind E in the history, with no copy recorded. -/
theorem State.malWindow_past (hpast : 2 ^ 31 ≤ (x - s.recvRow).toNat) (hnear : 2 ^ 32 - (x - s.recvRow).toNat ≤ 63)
    (hk : copyOf (s.flow n).hist x = none) : s.malWindow n x claim ws late false = s.countLate n false := by
  refine (if_neg (by omega)).trans ((if_neg (by omega)).trans ((if_neg (by omega)).trans ((if_neg (by omega)).trans
    ((if_pos hnear).trans ?_))))
  simp [hk]

/-- A row behind E that the history no longer holds. -/
theorem State.malWindow_old (hpast : 2 ^ 31 ≤ (x - s.recvRow).toNat) (hfar : 63 < 2 ^ 32 - (x - s.recvRow).toNat) :
    s.malWindow n x claim ws late false = s.countLate n true :=
  (if_neg (by omega)).trans ((if_neg (by omega)).trans ((if_neg (by omega)).trans ((if_neg (by omega)).trans
    (if_neg (by omega)))))

end

section
variable {s : State} {n : Nat} {b : List Byte} {late : Bool}

/-- The checks read the configuration of a slot only. -/
@[simp] theorem State.malFormed_countFrame (t : State) :
    t.malFormed ((s.countFrame n).flow n) b = t.malFormed (s.flow n) b := by
  rw [State.flow_countFrame_same]
  rfl

/-- BINDOFF and DRAIN take no frame. -/
theorem State.malFrame_of_unbinding (h : (s.flow n).state = 4 ∨ (s.flow n).state = 5) :
    s.malFrame n b late = s.countFrame n := by
  simp [State.malFrame, h]

theorem State.malFrame_of_malformed (hst : (s.flow n).state < 4) (h : (s.countFrame n).malFormed (s.flow n) b = false) :
    s.malFrame n b late = (s.countFrame n).countFlow n 4 1 := by
  have hbound : ¬ ((s.flow n).state = 4 ∨ (s.flow n).state = 5) := by omega
  simp [State.malFrame, hbound, h]

section
variable (hform : (s.countFrame n).malFormed (s.flow n) b = true)
include hform

theorem State.malFrame_of_earlier_incarnation (hst : (s.flow n).state = 2)
    (hne : beAt b (frameBody b + 24 + 8) 2 ≠ (s.flow n).latch)
    (hlater : laterThan 16 (beAt b (frameBody b + 24 + 8) 2) (s.flow n).latch = false) :
    s.malFrame n b late = (s.countFrame n).countFlow n 5 1 := by
  simp [State.malFrame, hst, hform, hne, hlater]

/-- A flow in WAIT or LOST whose binding names its incarnation takes no other. -/
theorem State.malFrame_of_other_incarnation (hst : (s.flow n).state = 1 ∨ (s.flow n).state = 3)
    (hexact : cfgBits (s.flow n).cfg 12 31 31 = 1)
    (hne : beAt b (frameBody b + 24 + 8) 2 ≠ cfgBits (s.flow n).cfg 12 15 0) :
    s.malFrame n b late = (s.countFrame n).countFlow n 5 1 := by
  have hbound : ¬ ((s.flow n).state = 4 ∨ (s.flow n).state = 5) := by omega
  simp [State.malFrame, hst, hbound, hform, hexact, hne]

/-- A frame of the latched incarnation without LAST is judged by the window rules. -/
theorem State.malFrame_of_latched (hst : (s.flow n).state = 2)
    (hinc : beAt b (frameBody b + 24 + 8) 2 = (s.flow n).latch)
    (hlast : beAt b (frameBody b + 24 + 12) 1 / 32 % 2 = 0) :
    s.malFrame n b late = (s.countFrame n).malWindow n (BitVec.ofNat 32 (beAt b (frameBody b + 24) 4))
      (BitVec.ofNat 32 (beAt b (frameBody b + 24 + 4) 4)) (rowIn b (frameBody b + 24 + 18) (cfgNch (s.flow n).cfg) 4)
      late false := by
  simp [State.malFrame, hst, hform, hinc, hlast]

end

end

/-- The flows that a Malraing frame matches handle it one after the other (log entry 67). -/
theorem exec_malraingFrameReceive_of_matched {p : Fin 4} {b : List (BitVec 8)} (ns : BitVec 24) {s : State} {l : List Nat}
    (h : (s.matched p b).filter (fun n => cfgFmt (s.flow n).cfg == 0) = l) :
    exec (.malraingFrameReceive p b ns) s =
      .next (l.foldl (fun s' n => s'.malFrame n b (s.pastDeadline ns.toNat)) s) := by
  subst h
  rfl

/-- Settles O37: the checks of the frame, then one window rule for each distance of its row from the receive row. -/
theorem malraingReception : Obligations.MalraingReception := by
  intro p b ns s late ms
  refine ⟨exec_malraingFrameReceive_of_matched ns, fun n hn => ?_⟩
  intro f u h x claim ws d known
  have hrun : exec (.malraingFrameReceive p b ns) s = .next (s.malFrame n b late) := exec_malraingFrameReceive_of_matched ns hn
  rw [hrun]
  refine ⟨fun hst => congrArg _ (State.malFrame_of_unbinding hst),
    fun hst hform => congrArg _ (State.malFrame_of_malformed hst hform),
    fun hst hform hne hlater => congrArg _ (State.malFrame_of_earlier_incarnation hform hst hne hlater),
    fun hst hform hexact hne => congrArg _ (State.malFrame_of_other_incarnation hform hst hexact hne),
    fun hst hform hinc hlast => ?_⟩
  have hhist : copyOf (u.flow n).hist x = known := congrArg (copyOf · x) State.hist_flow_countFrame
  rw [State.malFrame_of_latched hform hst hinc hlast]
  refine ⟨fun hd hlate hk => congrArg _ (State.malWindow_written (s := u) hd hlate (hhist ▸ hk)),
    fun c hd hlate hk hc => congrArg _ (State.malWindow_dup (s := u) hd hlate (hhist.trans hk) hc),
    fun c hd hlate hk => congrArg _ (State.malWindow_late_dup (s := u) hd hlate (hhist.trans hk)),
    fun hd hlate hk => congrArg _ (State.malWindow_late (s := u) hd hlate (hhist.trans hk)),
    fun hd hon hearly => congrArg _ (State.malWindow_held (s := u) hd hon (State.early_flow_countFrame.trans hearly)),
    fun h1 hahead hnot => congrArg _ (State.malWindow_early (s := u) (Nat.ne_of_gt h1) hahead ?_),
    fun hpast hnear hk => congrArg _ (State.malWindow_past (s := u) hpast hnear (hhist.trans hk)),
    fun hpast hfar => congrArg _ (State.malWindow_old (s := u) hpast hfar)⟩
  exact fun ⟨hd, hon⟩ => hnot.elim (· hd) (fun hoff => Bool.false_ne_true (hoff.symm.trans hon))

/-! ### Packets (R247 to R255) -/

/-- Where the UDP header of a frame with an IP header begins (R250). -/
def udpStart (b : List Byte) : Nat := frameBody b + beAt b (frameBody b) 1 % 16 * 4

section
variable {s : State} {n : Nat} {b : List Byte}

theorem State.aafPacket_of_unbinding (h : (s.flow n).state = 4 ∨ (s.flow n).state = 5) :
    s.aafPacket n b = s.countFrame n := by
  simp [State.aafPacket, h]

theorem State.aafPacket_of_malformed (hst : (s.flow n).state < 4)
    (h : (s.countFrame n).aafFormed (s.flow n).cfg b = false) :
    s.aafPacket n b = (s.countFrame n).countFlow n 4 1 := by
  have hbound : ¬ ((s.flow n).state = 4 ∨ (s.flow n).state = 5) := by omega
  simp [State.aafPacket, hbound, h]

/-- The presentation time nearest to the present gives the first row (R249). -/
theorem State.aafPacket_of_active (hst : (s.flow n).state = 2)
    (h : (s.countFrame n).aafFormed (s.flow n).cfg b = true) :
    s.aafPacket n b = ((s.countFrame n).takeSeq n (beAt b (frameBody b + 2) 1) 8).placeRows n
      (BitVec.ofNat 32 ((nearestTime (s.tbNs s.media) (beAt b (frameBody b + 12) 4) * s.fs + 999999999) / 1000000000))
      (payloadRows (s.flow n).cfg b (frameBody b + 24)) := by
  simp [State.aafPacket, hst, h]

/-- The flows that an AAF packet matches handle it one after the other (log entry 67). -/
theorem exec_aafPacketReceive_of_matched {p : Fin 4} {l : List Nat}
    (h : (s.matched p b).filter (fun n => cfgFmt (s.flow n).cfg == 1) = l) :
    exec (.aafPacketReceive p b) s = .next (l.foldl (fun s' n => s'.aafPacket n b) s) := by
  subst h
  rfl

theorem State.rtpPacket_of_unbinding (h : (s.flow n).state = 4 ∨ (s.flow n).state = 5) :
    s.rtpPacket n b = s.countFrame n := by
  simp [State.rtpPacket, h]

theorem State.rtpPacket_of_malformed (hst : (s.flow n).state < 4) (h : rtpPayload (s.flow n).cfg b = none) :
    s.rtpPacket n b = (s.countFrame n).countFlow n 4 1 := by
  have hbound : ¬ ((s.flow n).state = 4 ∨ (s.flow n).state = 5) := by omega
  simp [State.rtpPacket, hbound, h]

section
variable {off : Nat} (hst : (s.flow n).state = 2) (hoff : rtpPayload (s.flow n).cfg b = some off)
include hst hoff

/-- The source that the flow holds gives its rows by its time stamp (R253). -/
theorem State.rtpPacket_of_source
    (hwant : cfgBits (s.flow n).cfg 8 31 0 = 0 ∨ beAt b (udpStart b + 16) 4 = cfgBits (s.flow n).cfg 8 31 0)
    (hsrc : beAt b (udpStart b + 16) 4 = (s.flow n).latch) :
    s.rtpPacket n b = ((s.countFrame n).takeSeq n (beAt b (udpStart b + 10) 2) 16).placeRows n
      (BitVec.ofNat 32 (beAt b (udpStart b + 12) 4) - BitVec.ofNat 32 (cfgBits (s.flow n).cfg 10 31 0) +
        BitVec.ofNat 32 (cfgBits (s.flow n).cfg 11 12 0))
      (payloadRows (s.flow n).cfg b off) := by
  rw [udpStart] at *
  have hadmitted : ¬ (cfgBits (s.flow n).cfg 8 31 0 ≠ 0 ∧ (s.flow n).latch ≠ cfgBits (s.flow n).cfg 8 31 0) := by omega
  simp [State.rtpPacket, hst, hoff, hsrc, hadmitted]

/-- Another source than the one that the flow holds (R255; log entry 72). -/
theorem State.rtpPacket_of_other_source (hsrc : beAt b (udpStart b + 16) 4 ≠ (s.flow n).latch) :
    s.rtpPacket n b = (s.countFrame n).countFlow n 5 1 := by
  rw [udpStart] at hsrc
  simp [State.rtpPacket, hst, hoff, hsrc]

end

/-- The flows that an RTP packet matches handle it one after the other (log entry 67). -/
theorem exec_rtpPacketReceive_of_matched {p : Fin 4} {l : List Nat}
    (h : (s.matched p b).filter (fun n => decide (2 ≤ cfgFmt (s.flow n).cfg)) = l) :
    exec (.rtpPacketReceive p b) s = .next (l.foldl (fun s' n => s'.rtpPacket n b) s) := by
  subst h
  rfl

end

/-! ### The receive deadline (R239, R253) -/

section
variable {s : State} {n : Nat}

theorem State.recvDeadline_of_dead (h : s.str.dead = true) : s.recvDeadline = s := if_pos h

/-- The deadline has passed for packets: nothing is written in row E again. -/
def State.deadlinePassed (s : State) : State := { s with str := { s.str with dead := true } }

/-- The rows up to E leave the jitter buffer of a slot. -/
def State.dropRows (s : State) (n : Nat) : State :=
  s.modFlow n (fun f => { f with jit := f.jit.filter (fun p => laterThan 32 p.1.toNat s.recvRow.toNat) })

theorem State.recvDeadline_of_no_slot (h : s.str.dead = false) (hkeys : s.rxKeys = []) :
    s.recvDeadline = s.deadlinePassed := by
  simp only [State.recvDeadline, h, hkeys, Bool.false_eq_true, if_false, List.foldl_nil, State.deadlinePassed]

section
variable (h : s.str.dead = false) (hkeys : s.rxKeys = [n]) (hst : (s.flow n).state = 2 ∨ (s.flow n).state = 3)
  (hfmt : cfgFmt (s.flow n).cfg ≠ 0)
include h hkeys hst hfmt

theorem State.recvDeadline_of_no_row (hrow : (s.flow n).jit.find? (fun p => p.1 == s.recvRow) = none) :
    s.recvDeadline =
      (if (s.flow n).state = 2 then (s.dropRows n).countMissing n else s.dropRows n).deadlinePassed := by
  simp only [State.recvDeadline, h, hkeys, Bool.false_eq_true, if_false, List.foldl_cons, List.foldl_nil, hst, hfmt, hrow,
    ne_eq, not_false_eq_true, and_self, if_true]
  rfl

theorem State.recvDeadline_of_row {x : Word × List Word}
    (hrow : (s.flow n).jit.find? (fun p => p.1 == s.recvRow) = some x) :
    s.recvDeadline = ((s.dropRows n).writeFlow n x.2).deadlinePassed := by
  simp only [State.recvDeadline, h, hkeys, Bool.false_eq_true, if_false, List.foldl_cons, List.foldl_nil, hst, hfmt, hrow,
    ne_eq, not_false_eq_true, and_self, if_true]
  rfl

end

end

/-- Settles O38: AAF, RTP, and the deadline with no, a missing and a buffered row. -/
theorem packetReception : Obligations.PacketReception := by
  refine ⟨fun p b s => ?packets, fun s => ⟨?dead, ?noSlot, fun n h hkeys hst hfmt => ?slot⟩⟩
  case packets =>
    intro ma mr a udp
    refine ⟨exec_aafPacketReceive_of_matched, exec_rtpPacketReceive_of_matched, fun n hn => ?aaf, fun n hn => ?rtp⟩
    case aaf =>
      intro c u t
      have hrun : exec (.aafPacketReceive p b) s = .next (s.aafPacket n b) := exec_aafPacketReceive_of_matched hn
      rw [hrun]
      exact ⟨fun hst => congrArg _ (State.aafPacket_of_unbinding hst),
        fun hst hform => congrArg _ (State.aafPacket_of_malformed hst hform),
        fun hst hform => congrArg _ (State.aafPacket_of_active hst hform)⟩
    case rtp =>
      intro c u
      have hrun : exec (.rtpPacketReceive p b) s = .next (s.rtpPacket n b) := exec_rtpPacketReceive_of_matched hn
      rw [hrun]
      exact ⟨fun hst => congrArg _ (State.rtpPacket_of_unbinding hst),
        fun hst hform => congrArg _ (State.rtpPacket_of_malformed hst hform),
        fun off hst hoff hwant => ⟨fun hsrc => congrArg _ (State.rtpPacket_of_source hst hoff hwant hsrc),
          fun hsrc => congrArg _ (State.rtpPacket_of_other_source hst hoff hsrc)⟩⟩
  case dead => exact fun h => congrArg Host.Outcome.next (State.recvDeadline_of_dead h)
  case noSlot => exact fun h hkeys => congrArg Host.Outcome.next (State.recvDeadline_of_no_slot h hkeys)
  case slot =>
    exact ⟨fun hrow => congrArg Host.Outcome.next (State.recvDeadline_of_no_row h hkeys hst hfmt hrow),
      fun x hrow => congrArg Host.Outcome.next (State.recvDeadline_of_row h hkeys hst hfmt hrow)⟩

end Sys2Proof.Machine

/-! ## Lane states (R275 to R285) -/

namespace Sys2Proof.Machine

/-! ### Equalisation values and the freeze (R278, R279) -/

/-- Fields written one after the other change registers only. -/
theorem State.foldl_putS_frame (f : Nat → Fd) (v : Nat → Int) (l : List Nat) (s : State) :
    ∃ r, l.foldl (fun s i => s.putS (f i) (v i)) s = { s with regs := r } := by
  induction l generalizing s with
  | nil => exact ⟨_, rfl⟩
  | cons i l ih => exact (ih (s.putS (f i) (v i))).imp fun _ h => h

theorem State.reg_foldl_putS {f : Nat → Fd} {a : Nat} (v : Nat → Int) (ha : ∀ i, a ≠ (f i).addr) (l : List Nat) (s : State) :
    (l.foldl (fun s i => s.putS (f i) (v i)) s).reg a = s.reg a := by
  induction l generalizing s with
  | nil => rfl
  | cons i l ih => exact (ih _).trans (s.reg_put_other (ha i))

section
variable (s : State) (n k : Nat) (e : EqTaps)

theorem State.putEq_frame : ∃ r, s.putEq n k e = { s with regs := r } :=
  (State.foldl_putS_frame ..).imp fun _ h => h

/-- Equalisation values lie in RXEQ_APP and above. -/
theorem State.reg_putEq {a : Nat} (ha : a < Reg.LANE_RXEQ_APP n) : (s.putEq n k e).reg a = s.reg a := by
  simp only [Reg.LANE_RXEQ_APP] at ha
  have htap (i : Nat) : a ≠ (fdTap n k i).addr := by
    simp only [fdTap, Reg.LANE_DFE_APP]
    omega
  have hgain : a ≠ (fdGain n k).addr := by
    simp only [fdGain, Reg.LANE_RXEQ_APP]
    omega
  rw [State.putEq, State.reg_foldl_putS _ htap, State.reg_put_other _ (f := fdPeak n k) hgain, State.reg_put_other _ hgain]

theorem State.on_frozen_putEq : (s.putEq n k e).on (Fld.LANE_STAT_FROZEN n) = s.on (Fld.LANE_STAT_FROZEN n) := by
  refine congrArg (· == 1) (State.get_congr (s.reg_putEq n k e ?_))
  simp only [Fld.LANE_STAT_FROZEN, Reg.LANE_STAT, Reg.LANE_RXEQ_APP]
  omega

/-- Where adaptation is Continuous, a freeze shows in FROZEN, whether it starts or runs already. -/
theorem State.on_frozen_freeze (ha : s.adapt n = 0) : (s.freeze n e).on (Fld.LANE_STAT_FROZEN n) = true := by
  by_cases hf : s.on (Fld.LANE_STAT_FROZEN n) = true
  · rw [State.freeze, if_pos hf, hf]
  · rw [State.freeze, if_neg hf]
    dsimp only
    rw [if_pos ha, State.on, State.get_modLane]
    exact (State.on_frozen_putEq ..).trans (State.on_flag_fits _ _ (by rfl) (by rfl))

theorem State.freeze_frame : ∃ r l, s.freeze n e = { s with regs := r, lane := l } := by
  have hstart : ∃ r, (if s.adapt n = 0 then (s.putEq n 0 e).flag (Fld.LANE_STAT_FROZEN n) true else s) =
      { s with regs := r } := by
    split
    · obtain ⟨r, hr⟩ := s.putEq_frame n 0 e
      rw [hr]
      exact ⟨_, rfl⟩
    · exact ⟨_, rfl⟩
  obtain ⟨r, hr⟩ := hstart
  by_cases hf : s.on (Fld.LANE_STAT_FROZEN n) = true
  · exact ⟨_, _, if_pos hf⟩
  · rw [State.freeze, if_neg hf, hr]
    obtain ⟨r', hr'⟩ := State.putEq_frame { s with regs := r } n 1 (State.eqAt { s with regs := r } n 0)
    dsimp only
    rw [hr']
    exact ⟨_, _, rfl⟩

end

/-! ### The receiver of a lane (R275, R281 to R284) -/

section
variable {s : State} {n : Nat} {e : EqTaps}

theorem State.receives_iff : s.receives n = true ↔ s.laneState n = 3 ∨ s.laneState n = 4 ∧ (s.laneS n).rxIdle = false := by
  simp [State.receives]

theorem State.receives_of_low (h : s.laneState n < 3) : ¬ s.receives n = true := by
  rw [State.receives_iff]
  omega

theorem State.fastExit_of_not_idle (h : s.laneState n ≠ 4) : ¬ s.fastExit n = true := by
  simp [State.fastExit, h]

/-- The guard finds no drift: the snapshot is applied again. -/
theorem State.driftGuard_of_near (h : s.drifts n e (s.eqAt n 1) = false) : s.driftGuard n e =
    ((s.flag (Fld.LANE_STAT_FROZEN n) false).modLane n (fun x => { x with est := e })).putEq n 0 (s.eqAt n 1) :=
  if_neg (by simp [h])

/-- The guard finds drift: it is counted and reported, and the estimator's values are applied. -/
theorem State.driftGuard_of_far (h : s.drifts n e (s.eqAt n 1) = true) : s.driftGuard n e =
    let u := ((((s.flag (Fld.LANE_STAT_FROZEN n) false).modLane n (fun x => { x with est := e })).count (ctrLane n 2)).raise
      71 n).putEq n 0 e
    if s.on (Fld.LANE_DRIFT_CFG_ACT n) then u.setLaneState n 5 else u := if_pos h

theorem State.restState_eq_idle : s.restState n = 4 ↔ s.on (Fld.LANE_STAT_EIDLE_TX n) = true := by
  simp [State.restState]

theorem State.restState_eq_up : s.restState n = 3 ↔ s.on (Fld.LANE_STAT_EIDLE_TX n) = false := by
  simp [State.restState]

end

/-! ### A lane enters a state (R275, R276) -/

theorem State.laneState_showLink (s : State) (n : Fin 4) : (s.showLink n).laneState n = s.laneState n := by
  obtain ⟨hevt, -, hnet, -⟩ := laneStat_place (n.castLE (by decide))
  exact State.get_congr (s.reg_showLink n hevt (hnet n.isLt))

/-- STAT.LINK of a port shows UP and RETRAIN of its lane. -/
theorem State.on_link_showLink (s : State) (n : Fin 4) :
    (s.showLink n).on (Fld.NET_STAT_LINK n) = (s.laneState n == 3 || s.laneState n == 5) := by
  have hevt : Reg.EVT_INFO 256 ≤ (Fld.NET_STAT_LINK n).addr := by
    simp only [Fld.NET_STAT_LINK, Reg.EVT_INFO, Reg.NET_STAT]
    omega
  change (if (s.laneState n == 3 || s.laneState n == 5) == s.on (Fld.NET_STAT_LINK n) then s else State.raise _ 66 _).on _ = _
  split
  next hsame => exact (beq_iff_eq.mp hsame).symm
  next =>
    refine (congrArg (· == 1) (State.get_congr (State.reg_raise_above _ (by decide) _ hevt))).trans ?_
    exact State.on_flag_fits _ _ (by rfl) (by rfl)

theorem State.laneState_setLaneState_fits (s : State) (n : Fin 6) {k : Nat} (hk : k < 7) :
    (s.setLaneState n k).laneState n = k := by
  rw [State.laneState_setLaneState, Nat.mod_eq_of_lt (by omega)]

theorem State.on_link_setLaneState (s : State) (n : Fin 4) {k : Nat} (hk : k < 7) :
    (s.setLaneState n k).on (Fld.NET_STAT_LINK n) = true ↔ k = 3 ∨ k = 5 := by
  obtain ⟨u, hu⟩ : ∃ u : State, s.setLaneState n k = u.showLink n := ⟨_, if_pos n.isLt⟩
  have hst := s.laneState_setLaneState_fits (n.castLE (by decide)) hk
  have hlane : u.laneState n = k := by
    rw [← u.laneState_showLink n, ← hu]
    exact hst
  rw [hu, State.on_link_showLink, hlane]
  simp

/-- A lane of the twin link has no port and no SyncE input behind it. -/
theorem State.setLaneState_twin (s : State) {n : Nat} (st : Nat) (hn : 4 ≤ n) :
    s.setLaneState n st = s.put (Fld.LANE_STAT_STATE n) st := by
  simp [State.setLaneState, Nat.not_lt.mpr hn]

/-! ### Commands that the guard or the freeze answers (R279 to R281) -/

section
variable {s : State} {n : Fin 6}

theorem exec_adaptFreeze_of_run {c : Ctle} {tp : BitVec 70} {units : BitVec 32} (hr : s.receives n = true)
    (ha : s.adapt n = 0) (hu : 1024 * s.get (Fld.LANE_RXEQ_CFG_FRZRUN n) ≤ units.toNat) :
    exec (.adaptFreeze n c tp units) s = .next (s.freeze n (eqOf c.gain c.peak tp)) :=
  congrArg Host.Outcome.next (if_pos ⟨hr, ha, hu⟩)

theorem exec_runEnd_of_frozen {g : BitVec 4} {pk : BitVec 5} {tp : BitVec 70} (hr : s.receives n = true)
    (hf : s.on (Fld.LANE_STAT_FROZEN n) = true) :
    exec (.runEnd n g pk tp) s = .next (s.driftGuard n (eqOf g pk tp)) :=
  congrArg Host.Outcome.next (if_pos ⟨hr, hf⟩)

end

/-- Settles O39, one command after the other. -/
theorem laneStates : Obligations.LaneStates := by
  intro n g pk tp s e st
  refine ⟨fun h => congrArg Host.Outcome.next (if_pos h), fun h => congrArg Host.Outcome.next (if_neg h),
    fun h => congrArg Host.Outcome.next (if_pos h), fun h => congrArg Host.Outcome.next (if_neg h),
    ?lockLoss, ?lockLossLow, fun units => ⟨?freeze, ?noFreeze⟩, State.receives_iff, ?near, ?far, ?noRun,
    fun h => congrArg Host.Outcome.next (if_pos h), fun h => congrArg Host.Outcome.next (if_neg h),
    fun h => congrArg Host.Outcome.next (if_pos h),
    fun h => congrArg Host.Outcome.next (if_neg (State.receives_of_low h)), ?signal, ?notIdle,
    fun h => congrArg Host.Outcome.next (if_pos h), fun h => congrArg Host.Outcome.next (if_pos h),
    State.restState_eq_idle, State.restState_eq_up, fun k hk => ?enter⟩
  case lockLoss =>
    exact fun h => congrArg Host.Outcome.next (if_pos (h.imp_left fun h3 => State.receives_iff.mpr (.inl h3)))
  case lockLossLow =>
    refine fun h => congrArg Host.Outcome.next (if_neg ?_)
    rintro (hr | h5)
    · exact State.receives_of_low h hr
    · exact absurd h5 (by omega)
  case freeze =>
    intro hr ha _ hu
    obtain ⟨r, l, hframe⟩ := s.freeze_frame n (eqOf g pk tp)
    refine ⟨_, exec_adaptFreeze_of_run hr ha hu, s.on_frozen_freeze n _ ha, ?_⟩
    rw [hframe]
  case noFreeze =>
    refine fun h => congrArg Host.Outcome.next (if_neg ?_)
    rintro ⟨-, ha, hu⟩
    exact h.elim (absurd ha) (by omega)
  case near => exact fun hr hf hd => (exec_runEnd_of_frozen hr hf).trans (congrArg _ (State.driftGuard_of_near hd))
  case far => exact fun hr hf hd => (exec_runEnd_of_frozen hr hf).trans (congrArg _ (State.driftGuard_of_far hd))
  case noRun => exact fun h => congrArg Host.Outcome.next (if_neg fun hrun => by simp [h] at hrun)
  case signal =>
    exact fun h hi ha => congrArg Host.Outcome.next (if_pos ⟨h, hi, ha.imp_right fun h => by simp [h]⟩)
  case notIdle =>
    intro h
    have hexit : ¬ s.fastExit n = true := State.fastExit_of_not_idle h
    exact ⟨congrArg Host.Outcome.next (if_neg fun hi => h hi.1), congrArg Host.Outcome.next (if_neg hexit),
      congrArg Host.Outcome.next (if_neg hexit)⟩
  case enter =>
    exact ⟨s.laneState_setLaneState_fits n hk, fun hn => s.on_link_setLaneState ⟨n, hn⟩ hk,
      fun hn => s.setLaneState_twin k hn⟩

end Sys2Proof.Machine

/-! ## Time bases: enabling, samples and masters (R299 to R311) -/

namespace Sys2Proof.Machine

/-! ### The ports of a time base (R309) -/

/-- A time base of source PTP has ports, and every one of them is down. -/
def State.PortsLost (s : State) (n : Nat) : Prop :=
  s.tbClock n = false ∧ s.get (Fld.TB_PTPCFG_PORTS n) ≠ 0 ∧
    ∀ p < 4, (s.get (Fld.TB_PTPCFG_PORTS n)).testBit p = true → s.linkUp p = false

section
variable {s : State} {n : Nat}

/-- The check of the ports is that they are lost. -/
theorem State.portsLost_iff : s.PortsLost n ↔ (!s.tbClock n && s.get (Fld.TB_PTPCFG_PORTS n) != 0 &&
    (addrs 0 1 4).all (fun p => !(s.get (Fld.TB_PTPCFG_PORTS n)).testBit p || !s.linkUp p)) = true := by
  have hports : addrs 0 1 4 = List.range 4 := by decide
  simp only [State.PortsLost, hports, Bool.and_eq_true, Bool.not_eq_true', bne_iff_ne, List.all_eq_true, List.mem_range,
    Bool.or_eq_true, and_assoc, imp_iff_not_or, Bool.not_eq_true]

theorem State.checkBasePorts_of_lost (h : s.PortsLost n) : State.checkBasePorts n s = s.holdIfRuns n 4 :=
  if_pos (State.portsLost_iff.mp h)

theorem State.checkBasePorts_of_not_lost (h : ¬ s.PortsLost n) : State.checkBasePorts n s = s :=
  if_neg (mt State.portsLost_iff.mpr h)

end

/-! ### A write of CTL that leaves SOURCE as it is (R299, R301, R304) -/

section
variable {s : State} {n : Nat} {w : Word} (hs : w.toNat % 4 = s.get (Fld.TB_CTL_SOURCE n)) (hlt : w.toNat % 4 < 2) (free : Bool)
include hs hlt

theorem State.writeTbCtl_of_enable (hw : w.msb = true) (h0 : s.tbState n = 0)
    (hd : s.domainTaken n (s.get (Fld.TB_PTPCFG_PROFILE n)) (s.get (Fld.TB_PTPCFG_DOMAIN n)) = false) :
    s.writeTbCtl n w free = State.checkBasePorts n ((s.put (Fld.TB_CTL_SOURCE n) (w.toNat % 4)).enableBase n) := by
  simp [State.writeTbCtl, hw, h0, hd, ← hs, Nat.not_le.mpr hlt]

theorem State.writeTbCtl_of_disable (hw : w.msb = false) (h0 : s.tbState n ≠ 0) (hf : n ≠ s.media ∨ free = true) :
    s.writeTbCtl n w free = State.checkBasePorts n ((s.put (Fld.TB_CTL_SOURCE n) (w.toNat % 4)).disableBase n) := by
  have hmay : ¬ (n = s.media ∧ free = false) := fun ⟨hm, hbusy⟩ => hf.elim (absurd hm) (by simp [hbusy])
  simp [State.writeTbCtl, hw, h0, hmay, ← hs, Nat.not_le.mpr hlt]

theorem State.writeTbCtl_of_busy_media (hw : w.msb = false) (h0 : s.tbState n ≠ 0) (hm : n = s.media) (hf : free = false) :
    s.writeTbCtl n w free =
      State.checkBasePorts n ((s.put (Fld.TB_CTL_SOURCE n) (w.toNat % 4)).invalid (Reg.TB_CTL n)) := by
  simp [State.writeTbCtl, hw, h0, ← hm, hf, ← hs, Nat.not_le.mpr hlt]

theorem State.writeTbCtl_of_enabled (hw : w.msb = true) (h0 : s.tbState n ≠ 0) :
    s.writeTbCtl n w free = State.checkBasePorts n (s.put (Fld.TB_CTL_SOURCE n) (w.toNat % 4)) := by
  simp [State.writeTbCtl, hw, h0, ← hs, Nat.not_le.mpr hlt]

end

/-! ### Samples (R305, R306, R308, R310) -/

/-- The offset of a sample is above STEPTHR. -/
def State.isFar (s : State) (n : Nat) (o : Int) : Bool := decide ((s.get (Fld.TB_STEPTHR_THR n) : Int) < o.natAbs)

/-- The frequency of a sample is outside 250 ppm. -/
def outOfRange (f : Int) : Bool := decide (250 * 65536 < f.natAbs)

/-- The offset of a sample is outside the lock window. -/
def State.isWide (s : State) (n : Nat) (o : Int) : Bool := decide ((s.get (Fld.TB_LOCKWIN_WIN n) : Int) < o.natAbs)

/-- The state that shows the offset of a sample and has counted its runs. -/
def State.showSample (s : State) (n : Nat) (o f : Int) : State :=
  (s.showOffset n o).countRuns n (s.isFar n o) (outOfRange f) (s.isWide n o)

section
variable {s : State} {n : Nat} {o f : Int}

theorem State.sample_of_disabled (h : s.tbState n = 0) : s.sample n o f = s := if_pos h

theorem State.sample_of_unset (h : s.tbState n = 1) :
    s.sample n o f = (s.showSample n o f).sampleUnset n o f (outOfRange f) :=
  (if_neg (by omega)).trans (if_pos h)

/-- A sample of a time base with no re-step pending goes by its state. -/
theorem State.sample_of_no_restep (h : 2 ≤ s.tbState n) (hr : ((s.showSample n o f).base n).restep = .none) :
    s.sample n o f =
      if s.tbState n = 4 then (s.showSample n o f).sampleHold n o f (s.isFar n o) (outOfRange f)
      else (s.showSample n o f).sampleLocked n o f (s.isFar n o) (outOfRange f) := by
  have hno : ¬ (s.showSample n o f).restepTakes n (outOfRange f) = true := by simp [State.restepTakes, hr]
  exact ((if_neg (by omega)).trans (if_neg (by omega))).trans (if_neg hno)

theorem State.sample_of_locked (h : s.tbState n = 3) (hr : ((s.showSample n o f).base n).restep = .none) :
    s.sample n o f = (s.showSample n o f).sampleLocked n o f (s.isFar n o) (outOfRange f) :=
  (State.sample_of_no_restep (by omega) hr).trans (if_neg (by omega))

theorem State.sample_of_holdover (h : s.tbState n = 4) (hr : ((s.showSample n o f).base n).restep = .none) :
    s.sample n o f = (s.showSample n o f).sampleHold n o f (s.isFar n o) (outOfRange f) :=
  (State.sample_of_no_restep (by omega) hr).trans (if_pos h)

end

section
variable {s : State} {n : Nat} {far bad : Bool} (o f : Int)

theorem State.sampleUnset_of_invalid (hc : s.tbClock n = false) (h : bad = true ∨ (s.base n).pathOk = false) :
    s.sampleUnset n o f bad = s.setBase n { s.base n with good := 0 } :=
  (if_neg (by simp [hc])).trans (if_pos (by simpa using h))

theorem State.sampleUnset_of_valid (hc : s.tbClock n = false) (hb : bad = false) (hp : (s.base n).pathOk = true) :
    s.sampleUnset n o f bad = if (s.base n).good < 2 then s.setBase n { s.base n with good := (s.base n).good + 1 }
      else ((s.stepBase n o).askFreq n f).enterLocking n :=
  (if_neg (by simp [hc])).trans (if_neg (by simp [hb, hp]))

theorem State.sampleLocked_of_jump (hf : far = true) (hrun : 3 ≤ (s.base n).outRun) :
    s.sampleLocked n o f far bad = s.refuseJump n := if_pos (by simp [hf, hrun])

/-- In LOCKED a sample that ends nothing is applied, or counts as an outlier. -/
theorem State.sampleLocked_of_kept (h3 : s.tbState n = 3) (hrun : far = true → (s.base n).outRun < 3) (hb : bad = false)
    (hoff : (s.base n).offRun < s.get (Fld.TB_LOCKWIN_CNT n)) :
    s.sampleLocked n o f far bad = if far then s.count (ctrTb n 0) else s.applySample n o f := by
  have hjump : ¬ (far && decide (3 ≤ (s.base n).outRun)) = true := by
    simpa using hrun
  have hrange : ¬ (bad && decide (3 ≤ (s.base n).rangeRun)) = true := by simp [hb]
  have hlock : ¬ (s.tbState n = 2 ∧ s.get (Fld.TB_LOCKWIN_CNT n) ≤ (s.base n).inRun) := by omega
  have hunlock : ¬ (s.tbState n = 3 ∧ s.get (Fld.TB_LOCKWIN_CNT n) ≤ (s.base n).offRun) := by omega
  rw [State.sampleLocked, if_neg hjump, if_neg hrange, if_neg hlock, if_neg hunlock, hb]
  rfl

theorem State.sampleHold_of_forced (h : s.get (Fld.TB_STAT_REASON n) = 5) : s.sampleHold n o f far bad = s := if_pos h

theorem State.sampleHold_of_loss (h : s.get (Fld.TB_STAT_REASON n) = 1) (hf : far = false) (hb : bad = false) :
    s.sampleHold n o f far bad = (s.enterLocking n).applySample n o f := by
  simp [State.sampleHold, h, hf, hb]

end

/-! ### Sync messages of the selected master (R305, R320) -/

/-- The state that has taken a Sync. -/
def State.takeSync (s : State) (n : Nat) (k : BitVec 16) (info : List (BitVec 8)) : State :=
  s.modBase n (fun b => { b with seqIn := some k, info := info.take 22 })

section
variable {s : State} {n : Fin 4} {k : BitVec 16}

theorem exec_ptpSyncReceive_of_old {q : BitVec 16} (info : List (BitVec 8)) (o f : Int) (hq : (s.base n).seqIn = some q)
    (h : laterThan 16 k.toNat q.toNat = false) : exec (.ptpSyncReceive n ⟨k, info⟩ ⟨o, f⟩) s = .next s :=
  congrArg Host.Outcome.next (if_neg (by simp [hq, h]))

theorem exec_ptpSyncReceive_of_new (info : List (BitVec 8)) (o f : Int) (hc : s.tbClock n = false)
    (hsel : (s.base n).sel.isSome = true) (hrun : s.clockRuns = true)
    (h : ∀ q, (s.base n).seqIn = some q → laterThan 16 k.toNat q.toNat = true) :
    exec (.ptpSyncReceive n ⟨k, info⟩ ⟨o, f⟩) s = .next ((s.takeSync n k info).sample n o f) := by
  refine congrArg Host.Outcome.next (if_pos ?_)
  cases hq : (s.base n).seqIn with
  | none => simp [hc, hsel, hrun]
  | some q => simp [hc, hsel, hrun, h q hq]

end

/-! ### Masters (R302, R309) -/

/-- The best-master algorithm decides without the data of master `a`. -/
def State.dropMaster (s : State) (n : Nat) (a : Announce) : State :=
  (s.modBase n (fun b =>
    { b with masters := b.masters.filter (fun x => x.sender != a.sender || x.port != a.port) })).selectMaster n

/-- With 802.1AS, the path trace of an Announce names this clock. -/
def State.WentRound (s : State) (n : Nat) (path : List (BitVec 64)) : Prop :=
  s.ptpAs n = true ∧ BitVec.ofNat 64 (s.ownAnnounce n).gm ∈ path

section
variable {s : State} {n : Fin 4}

theorem exec_ptpReceiptTimeout_of_none (h : (s.base n).sel = none) : exec (.ptpReceiptTimeout n) s = .next s := by
  change execPtpReceiptTimeout n s = _
  rw [execPtpReceiptTimeout, h]

theorem exec_ptpReceiptTimeout_of_some {a : Announce} (h : (s.base n).sel = some a) : exec (.ptpReceiptTimeout n) s =
    .next (if ((s.dropMaster n a).base n).sel.isNone then (s.dropMaster n a).holdIfRuns n 1 else s.dropMaster n a) := by
  change execPtpReceiptTimeout n s = _
  rw [execPtpReceiptTimeout, h]
  rfl

end

section
variable {s : State} {n p : Fin 4} {path : List (BitVec 64)} (snd gm : BitVec 64) (p1 cl ac p2 : BitVec 8) (va st : BitVec 16)
  (tlv : List (BitVec 8))

theorem exec_ptpAnnounceReceive_of_taken (h0 : s.tbState n ≠ 0) (hprof : s.get (Fld.TB_PTPCFG_PROFILE n) ≠ 0)
    (hport : (s.get (Fld.TB_PTPCFG_PORTS n)).testBit p = true) (hround : ¬ s.WentRound n path) :
    let a : Announce := ⟨snd.toNat, p, p1.toNat, cl.toNat, ac.toNat, va.toNat, p2.toNat, gm.toNat, st.toNat, path, tlv⟩
    exec (.ptpAnnounceReceive n p snd gm p1 cl ac p2 va ⟨st, path, tlv⟩) s = .next ((s.modBase n (fun b =>
      { b with masters := a :: b.masters.filter (fun x => x.sender != a.sender || x.port != a.port) })).selectMaster n) := by
  refine congrArg Host.Outcome.next (if_pos ?_)
  rw [State.WentRound, not_and_or] at hround
  simpa [h0, hprof, hport] using hround

theorem exec_ptpAnnounceReceive_of_discarded
    (h : s.tbState n = 0 ∨ s.get (Fld.TB_PTPCFG_PROFILE n) = 0 ∨ s.WentRound n path) :
    exec (.ptpAnnounceReceive n p snd gm p1 cl ac p2 va ⟨st, path, tlv⟩) s = .next s := by
  refine congrArg Host.Outcome.next (if_neg ?_)
  rcases h with h | h | ⟨has, hin⟩
  · simp [h]
  · simp [h]
  · simp [has, hin]

end

/-- Settles O43: the write of CTL, the sample of a Sync by the state of its time base, then the masters. -/
theorem timeBases : Obligations.TimeBases := by
  refine ⟨fun n w s hs hlt => ?write, fun n k o f info s hc hsel hrun => ⟨fun _ => exec_ptpSyncReceive_of_old info o f, ?sync⟩,
    fun n s => ?master, fun n p snd gm p1 cl ac p2 va st path tlv s => ?announce⟩
  case write =>
    exact ⟨fun hw h0 hd => congrArg Host.Outcome.next (State.writeTbCtl_of_enable hs hlt _ hw h0 hd),
      fun hw h0 hf => congrArg Host.Outcome.next (State.writeTbCtl_of_disable hs hlt _ hw h0 hf),
      fun hw h0 hm hf => congrArg Host.Outcome.next (State.writeTbCtl_of_busy_media hs hlt _ hw h0 hm hf),
      fun hw h0 => congrArg Host.Outcome.next (State.writeTbCtl_of_enabled hs hlt _ hw h0),
      State.checkBasePorts_of_lost, State.checkBasePorts_of_not_lost⟩
  case sync =>
    intro hnew v far bad wide u b
    have gives {t : State} (h : v.sample n o f = t) : exec (.ptpSyncReceive n ⟨k, info⟩ ⟨o, f⟩) s = .next t :=
      (exec_ptpSyncReceive_of_new info o f hc hsel hrun hnew).trans (congrArg Host.Outcome.next h)
    have unset (h1 : s.tbState n = 1) : v.sample n o f = u.sampleUnset n o f bad := State.sample_of_unset (s := v) h1
    have locked (h3 : s.tbState n = 3) (hr : b.restep = .none) : v.sample n o f = u.sampleLocked n o f far bad :=
      State.sample_of_locked (s := v) (o := o) (f := f) h3 hr
    have held (h4 : s.tbState n = 4) (hr : b.restep = .none) : v.sample n o f = u.sampleHold n o f far bad :=
      State.sample_of_holdover (s := v) (o := o) (f := f) h4 hr
    refine ⟨fun h0 => gives (State.sample_of_disabled h0), fun h1 hcu => ?unset, fun h3 hr hu3 => ?locked,
      fun h4 hr h5 => gives ((held h4 hr).trans (State.sampleHold_of_forced o f h5)),
      fun h4 hr h1 hf hb => gives ((held h4 hr).trans (State.sampleHold_of_loss o f h1 hf hb))⟩
    case unset =>
      have valid (hb : bad = false) (hp : b.pathOk = true) :=
        (unset h1).trans (State.sampleUnset_of_valid o f hcu hb hp)
      exact ⟨fun h => gives ((unset h1).trans (State.sampleUnset_of_invalid o f hcu h)),
        fun hb hp hg => gives ((valid hb hp).trans (if_pos hg)),
        fun hb hp hg => gives ((valid hb hp).trans (if_neg (Nat.not_lt.mpr hg)))⟩
    case locked =>
      have kept (hrun : far = true → b.outRun < 3) (hb : bad = false) (hoff : b.offRun < u.get (Fld.TB_LOCKWIN_CNT n)) :=
        (locked h3 hr).trans (State.sampleLocked_of_kept o f hu3 hrun hb hoff)
      exact ⟨fun hf hb hoff => gives ((kept (fun h => by simp [hf] at h) hb hoff).trans (if_neg (Bool.eq_false_iff.mp hf))),
        fun hf hrun => gives ((locked h3 hr).trans (State.sampleLocked_of_jump o f hf hrun)),
        fun hf hrun hb hoff => gives ((kept (fun _ => hrun) hb hoff).trans (if_pos hf))⟩
  case master =>
    refine ⟨fun h => congrArg Host.Outcome.next (if_neg h), fun h => congrArg Host.Outcome.next (if_pos h),
      exec_ptpReceiptTimeout_of_none, fun a ha => ?_⟩
    intro u
    have hrun := exec_ptpReceiptTimeout_of_some ha
    exact ⟨fun h => hrun.trans (congrArg _ (if_pos (Option.isNone_iff_eq_none.mpr h))),
      fun h => hrun.trans (congrArg _ (if_neg (mt Option.isNone_iff_eq_none.mp h)))⟩
  case announce =>
    exact ⟨exec_ptpAnnounceReceive_of_taken snd gm p1 cl ac p2 va st tlv,
      exec_ptpAnnounceReceive_of_discarded snd gm p1 cl ac p2 va st tlv⟩

end Sys2Proof.Machine

/-! ## Commands and re-steps of the time bases (R307 to R325) -/

namespace Sys2Proof.Machine

/-! ### Re-steps (R312 to R317) -/

section
variable {s : State} {n : Nat} {boff : Bool}

theorem State.applyTbRestep_of_refused (h : s.mayRestep n = false) : s.applyTbRestep n boff = s.refuseRestep n :=
  if_pos (by simp [h])

theorem State.applyTbRestep_of_other (h : s.mayRestep n = true) (hm : n ≠ s.media) :
    s.applyTbRestep n boff = (s.setRestep n .prepared).put (Fld.TB_CMD_STAT_RESULT n) 1 :=
  (if_neg (by simp [h])).trans (if_pos hm)

/-- The media time base waits for the bind-off, or for the flow slots, which have to be FREE. -/
theorem State.applyTbRestep_of_media (h : s.mayRestep n = true) (hm : n = s.media) : s.applyTbRestep n boff =
    if boff then
      ((s.bindOffOutputs s.tickRow).setRestep n (.binding (some s.tickRow))).put (Fld.TB_CMD_STAT_RESULT n) 1
    else if s.allFree then (s.setRestep n (.binding none)).put (Fld.TB_CMD_STAT_RESULT n) 1
    else s.refuseRestep n :=
  (if_neg (by simp [h])).trans (if_neg (by simp [hm]))

end

section
variable {s : State} {w : Word}

theorem State.applyMediasel_of_same (h : w.toNat % 4 = s.media) : s.applyMediasel w = s := if_pos h

theorem State.applyMediasel_of_free (h : w.toNat % 4 ≠ s.media) (hf : s.allFree = true)
    (hr : s.mayRestep (w.toNat % 4) = true) (hm : (s.base s.media).restep = .none) :
    s.applyMediasel w = ((s.put Fld.TB0_MEDIASEL_SEL (w.toNat % 4)).setRestep (w.toNat % 4) (.binding none)).put
      (Fld.TB_CMD_STAT_RESULT (w.toNat % 4)) 1 :=
  (if_neg h).trans (if_pos (by simp [hf, hr, hm]))

theorem State.applyMediasel_of_busy (h : w.toNat % 4 ≠ s.media) (hf : s.allFree = false) :
    s.applyMediasel w = s.refuseRestep (w.toNat % 4) :=
  (if_neg h).trans (if_neg (by simp [hf]))

end

section
variable {s : State}

theorem exec_mediaRestepPrepared_of_free (h : (s.base s.media).restep = .binding none) :
    exec .mediaRestepPrepared s = .next s.prepareRestep := by
  change execMediaRestepPrepared s = _
  rw [execMediaRestepPrepared, h]

theorem exec_mediaRestepPrepared_of_none (h : (s.base s.media).restep = .none) :
    exec .mediaRestepPrepared s = .next s := by
  change execMediaRestepPrepared s = _
  rw [execMediaRestepPrepared, h]

theorem exec_mediaRestepPrepared_of_bindoff {k : Word} (h : (s.base s.media).restep = .binding (some k)) :
    exec .mediaRestepPrepared s = .next (if 64 ≤ (s.tickRow - k).toNat then s.prepareRestep else s) := by
  change execMediaRestepPrepared s = _
  rw [execMediaRestepPrepared, h]

end

/-! ### The lock of the media clock (R318, R325) -/

theorem State.row_raise (s : State) (n i : Nat) : (s.raise n i).row = s.row := by
  obtain ⟨_, _, _, h⟩ := s.raise_frame n i
  rw [h]

@[simp] theorem State.row_send (s : State) (o : Output) : (s.send o).row = s.row := rfl

@[simp] theorem State.get_send (s : State) (o : Output) (f : Fd) : (s.send o).get f = s.get f := rfl

/-- All that a change of the lock does but for MLOCK and its event is to start the master clock. -/
theorem State.setMlock_of_change {s : State} {b : Bool} (h : s.on Fld.CLK_STAT_MLOCK ≠ b) : s.setMlock b =
    let u := (s.flag Fld.CLK_STAT_MLOCK b).raise 139 b.toNat
    if b then u.send (.clock "MCLKO" (512 * s.fs)) else u :=
  if_neg (by simp [h])

theorem State.row_setMlock (s : State) (b : Bool) : (s.setMlock b).row = s.row := by
  by_cases h : s.on Fld.CLK_STAT_MLOCK = b
  · rw [State.setMlock, if_pos (by simp [h])]
  · rw [State.setMlock_of_change h]
    dsimp only
    rw [apply_ite State.row, State.row_send, ite_self, State.row_raise]
    exact State.row_put ..

/-- MLOCK follows the lock; the event of its change lies in other registers. -/
theorem State.on_setMlock (s : State) (b : Bool) : (s.setMlock b).on Fld.CLK_STAT_MLOCK = b := by
  by_cases h : s.on Fld.CLK_STAT_MLOCK = b
  · rw [State.setMlock, if_pos (by simp [h]), h]
  · rw [State.setMlock_of_change h]
    dsimp only
    rw [State.on, apply_ite (State.get · Fld.CLK_STAT_MLOCK), State.get_send, ite_self,
      State.get_congr (State.reg_raise_above _ (by decide) _ (by decide))]
    exact State.on_flag_fits _ _ (by rfl) (by rfl)

/-- The row ticks start on the grid of the media time base's value. -/
def State.startTicks (s : State) : State :=
  (s.setRow { s.row with ticks := true, fresh := true, fromRow := s.mediaRow }).setMlock true

section
variable {s : State}

theorem exec_mediaClockLock_of_ready (ht : s.row.ticks = false) (hr : s.tbRuns s.media = true)
    (hn : (s.base s.media).restep = .none) (hc : s.boot.causes = []) (hx : s.clockRuns = true) :
    exec .mediaClockLock s = .next s.startTicks :=
  congrArg Host.Outcome.next (if_pos (by simp [ht, hr, hn, hc, hx]))

theorem exec_mediaClockLock_of_ticks (ht : s.row.ticks = true) : exec .mediaClockLock s = .next s :=
  congrArg Host.Outcome.next (if_neg (by simp [ht]))

end

/-- Settles O44: a command whose record is at the front takes effect by its function; then the re-step of the media time base and
the lock of its clock. -/
theorem timeBaseCommands : Obligations.TimeBaseCommands := by
  refine ⟨fun n s r q hf => ?commands, fun s r q hf hr => ?mediasel, fun s => ?media⟩
  case commands =>
    intro u sec res
    have front {op : Nat} (hr : tbCmd n op r = true) {g : State → TpRec → State} {t : State} (h : g u r = t) :
        (.next (s.applyFirst (tbCmd n op) g) : Answer) = .next t :=
      congrArg Host.Outcome.next ((State.applyFirst_front hf hr g).trans h)
    refine ⟨fun hr => ?set, fun hr => ?hold, fun hr => ?release, fun hr => ?restep⟩
    case set => exact ⟨fun h1 => front hr (if_pos h1), fun h1 => front hr (if_neg h1)⟩
    case hold => exact ⟨fun h => front hr (if_pos h), fun h => front hr (if_neg (Bool.eq_false_iff.mp h))⟩
    case release =>
      exact ⟨fun h4 h5 => front hr (if_pos ⟨h4, h5⟩), fun h => front hr (if_neg (not_and_or.mpr h))⟩
    case restep =>
      have media (hmay : s.mayRestep n = true) (hm : n.val = s.media) :=
        State.applyTbRestep_of_media (s := u) (boff := r.value.getLsbD 0) hmay hm
      exact ⟨fun h => front hr (State.applyTbRestep_of_refused h), fun h hm => front hr (State.applyTbRestep_of_other h hm),
        fun h hm hb hfree => front hr ((media h hm).trans ((if_neg (Bool.eq_false_iff.mp hb)).trans (if_pos hfree))),
        fun h hm hb hbusy => front hr ((media h hm).trans
          ((if_neg (Bool.eq_false_iff.mp hb)).trans (if_neg (Bool.eq_false_iff.mp hbusy)))),
        fun h hm hb => front hr ((media h hm).trans (if_pos hb))⟩
  case mediasel =>
    intro u n
    have front {t : State} (h : u.applyMediasel r.value = t) : exec .mediaselApply s = .next t :=
      congrArg Host.Outcome.next ((State.applyFirst_front hf hr _).trans h)
    exact ⟨fun h => front (State.applyMediasel_of_same h),
      fun h hfree hmay hno => front (State.applyMediasel_of_free h hfree hmay hno),
      fun h hbusy => front (State.applyMediasel_of_busy h hbusy)⟩
  case media =>
    refine ⟨exec_mediaRestepPrepared_of_free, exec_mediaRestepPrepared_of_none, fun _ => exec_mediaRestepPrepared_of_bindoff,
      fun h => congrArg Host.Outcome.next (if_pos (by simp [h])), fun h => congrArg Host.Outcome.next (if_neg (by simp [h])),
      fun ht hr hn hc hx => ⟨_, exec_mediaClockLock_of_ready ht hr hn hc hx, ?_, State.on_setMlock ..⟩,
      exec_mediaClockLock_of_ticks⟩
    exact State.row_setMlock ..

end Sys2Proof.Machine

/-! ## Requests for a power state (R558) -/

namespace Sys2Proof.Machine

/-! ### What forbids a transition -/

/-- The check of the stream unit and the local ports: a flow slot is not free, or a port not off. -/
def State.busy (s : State) : Bool :=
  s.str.flow.any (fun p => p.2.state != 0) || (addrs 0 1 34).any (fun p => s.lstate p != 0)

/-- The check of the power stage: a channel is neither off nor latched. -/
def State.ampOn (s : State) : Bool := channels.any (fun c => s.chState c != 0 && s.chState c != 7)

/-- The check of the wake port: wake frames are wanted, but no link brings them. -/
def State.deaf (s : State) : Bool :=
  let wake := s.get Fld.SUP_STBY_CFG_PORT
  s.on Fld.SUP_STBY_CFG_WOLEN && !((s.portType wake == 1 || s.portType wake == 2) && s.linkUp wake)

section
variable {s : State}

theorem State.busy_iff : s.busy = true ↔ (∃ p ∈ s.str.flow, p.2.state ≠ 0) ∨ ∃ p < 34, s.lstate p ≠ 0 := by
  have hports : addrs 0 1 34 = List.range 34 := by decide
  simp [State.busy, hports]

theorem State.ampOn_iff : s.ampOn = true ↔ ∃ c < 8, s.chState c ≠ 0 ∧ s.chState c ≠ 7 := by
  have hch : channels = List.range 8 := by decide
  simp [State.ampOn, hch]

theorem State.deaf_iff : s.deaf = true ↔ s.on Fld.SUP_STBY_CFG_WOLEN = true ∧
    ¬ ((s.portType (s.get Fld.SUP_STBY_CFG_PORT) = 1 ∨ s.portType (s.get Fld.SUP_STBY_CFG_PORT) = 2) ∧
      s.linkUp (s.get Fld.SUP_STBY_CFG_PORT) = true) := by
  simp only [State.deaf, Bool.and_eq_true, Bool.not_eq_true', ← Bool.not_eq_true, Bool.or_eq_true, beq_iff_eq]

theorem State.mayIdle_iff : s.mayIdle = true ↔
    (∀ p ∈ s.cores, p.2.state = .reset) ∧ s.on Fld.MTX_CTL_EN = false ∧ s.on Fld.DLY_CTL_EN = false := by
  simp [State.mayIdle, and_assoc]

theorem State.powerReason_of_moving (h : s.sup.move ≠ .none) (q : Nat) : s.powerReason q = 7 := if_pos h

variable (h : s.sup.move = .none)
include h

theorem State.powerReason_active : s.powerReason 3 = 0 := by simp [State.powerReason, h]

theorem State.powerReason_idle : s.powerReason 2 = if s.mayIdle then 0 else 1 := by
  cases hi : s.mayIdle <;> simp [State.powerReason, h, hi]

theorem State.powerReason_standby_of_active (h3 : s.nodeState = 3) : s.powerReason 1 = 6 := by
  simp [State.powerReason, h, h3]

/-- Out of Active the conditions of Standby are checked in the order of their codes. -/
theorem State.powerReason_standby (h3 : s.nodeState ≠ 3) : s.powerReason 1 =
    if !s.mayIdle then 1 else if s.busy then 2 else if s.ampOn then 3
    else if s.get Fld.TWN_STAT_STATE ≠ 0 ∨ s.on Fld.REF_CFG_EN = true then 4 else if s.deaf then 5 else 0 := by
  simp only [State.powerReason, h, h3, and_false, if_false, not_true_eq_false, ne_eq, OfNat.one_ne_ofNat]
  rfl

end

/-! ### A write of PWR_CTL -/

/-- The state that has taken a request. -/
def State.granted (s : State) (req : Nat) : State := (s.put Fld.SUP_PWR_CTL_REQ req).put Fld.SUP_PWR_STAT_REASON 0

theorem State.marchAsked_congr {s t : State} (h : t.swt = s.swt) : t.marchAsked = s.marchAsked := by
  rw [State.marchAsked, State.marchAsked, h]

theorem State.marchAsked_granted (s : State) (req : Nat) : (s.granted req).marchAsked = s.marchAsked :=
  State.marchAsked_congr (((s.put ..).setReg_swt ..).trans (s.setReg_swt ..))

/-- The three commands write PWR_CTL with their codes. -/
theorem exec_powerRequest {i : Instr} {req : Nat} (h : (i, req) ∈ [(Instr.reqActive, 3), (.reqIdle, 2), (.reqStandby, 1)])
    (s : State) : exec i s = .next (s.writePwrCtl (BitVec.ofNat 32 req)) ∧ 0 < req ∧ req < 4 := by
  simp only [List.mem_cons, Prod.mk.injEq, List.not_mem_nil, or_false] at h
  obtain ⟨rfl, rfl⟩ | ⟨rfl, rfl⟩ | ⟨rfl, rfl⟩ := h <;> exact ⟨rfl, by decide, by decide⟩

section
variable {s : State} {req : Nat} (h0 : 0 < req) (h4 : req < 4)
include h0 h4

theorem State.writePwrCtl_code : s.writePwrCtl (BitVec.ofNat 32 req) =
    if req = s.nodeState then s.granted req
    else if s.powerReason req ≠ 0 then (s.put Fld.SUP_PWR_STAT_REASON (s.powerReason req)).invalid Reg.SUP_PWR_CTL
    else if req = 1 then (if s.marchAsked then (s.granted req).endMarch else (s.granted req).enterStandby)
    else { s.granted req with sup := { (s.granted req).sup with move := .atTick req } } := by
  have hw : (BitVec.ofNat 32 req).toNat % 4 = req := by simp; omega
  rw [← State.marchAsked_granted s req]
  simp only [State.writePwrCtl, hw, if_neg h0.ne']
  rfl

theorem State.writePwrCtl_of_present (h : s.nodeState = req) : s.writePwrCtl (BitVec.ofNat 32 req) = s.granted req := by
  rw [State.writePwrCtl_code h0 h4, if_pos h.symm]

theorem State.writePwrCtl_of_forbidden (h : s.nodeState ≠ req) (hr : s.powerReason req ≠ 0) :
    s.writePwrCtl (BitVec.ofNat 32 req) =
      (s.put Fld.SUP_PWR_STAT_REASON (s.powerReason req)).invalid Reg.SUP_PWR_CTL := by
  rw [State.writePwrCtl_code h0 h4, if_neg h.symm, if_pos hr]

theorem State.writePwrCtl_of_tick (h : s.nodeState ≠ req) (hr : s.powerReason req = 0) (h1 : req ≠ 1) :
    s.writePwrCtl (BitVec.ofNat 32 req) =
      { s.granted req with sup := { (s.granted req).sup with move := .atTick req } } := by
  rw [State.writePwrCtl_code h0 h4, if_neg h.symm, if_neg (not_not.mpr hr), if_neg h1]

theorem State.writePwrCtl_of_standby (h : s.nodeState ≠ req) (hr : s.powerReason req = 0) (h1 : req = 1) :
    s.writePwrCtl (BitVec.ofNat 32 req) =
      if s.marchAsked then (s.granted req).endMarch else (s.granted req).enterStandby := by
  rw [State.writePwrCtl_code h0 h4, if_neg h.symm, if_neg (not_not.mpr hr), if_pos h1]

end

end Sys2Proof.Machine

/-! ## Standby and its wake sources (R560 to R564, R568) -/

namespace Sys2Proof.Machine

section
variable {s : State} (src : Nat)

theorem State.wake_of_standby (hm : s.sup.move = .none) (h : s.nodeState = 1) : s.wake src = s.beginWake src := by
  simp [State.wake, hm, h]

theorem State.wake_of_awake (hm : s.sup.move = .none) (h : s.nodeState ≠ 1) : s.wake src = s := by
  simp [State.wake, hm, h]

theorem State.wake_of_entering (hm : s.sup.move = .entering 0) :
    s.wake src = { s with sup := { s.sup with move := .entering src } } := by
  simp [State.wake, hm]

theorem State.wake_of_taken {w : Nat} (hw : w ≠ 0) (hm : s.sup.move = .entering w) : s.wake src = s := by
  simp [State.wake, hm, hw]

theorem State.wake_of_moving {q : Nat} (hm : s.sup.move = .atTick q ∨ s.sup.move = .waking) : s.wake src = s := by
  rcases hm with hm | hm <;> simp [State.wake, hm]

end

section
variable {s : State}

theorem State.wakeFrame_iff {p : Nat} {b : List (BitVec 8)} : s.wakeFrame p b = true ↔
    s.on Fld.SUP_STBY_CFG_WOLEN = true ∧ s.get Fld.SUP_STBY_CFG_PORT = p ∧ s.linkUp p = true ∧
      fcsGood b = true ∧ 64 ≤ b.length ∧ b.length ≤ 1522 ∧ frameDst b = s.macOf p ∧
      frameType b = s.get Fld.SUP_STBY_CFG_ETYPE ∧ beAt b (frameBody b) 4 = s.get Fld.SUP_WOL_KEY_HI_KEY ∧
      beAt b (frameBody b + 4) 4 = s.get Fld.SUP_WOL_KEY_LO_KEY := by
  simp [State.wakeFrame, State.wakePort, and_assoc]

theorem State.alarmDue_iff : s.alarmDue = true ↔ s.on Fld.SUP_STBY_CFG_ALMEN = true ∧ s.tbState s.media ≠ 0 ∧
    s.get Fld.SUP_ALARM_SEC_LO_SEC + 2 ^ 32 * s.get Fld.SUP_ALARM_SEC_HI_SEC ≤ s.tbNs s.media / 1000000000 := by
  simp [State.alarmDue, and_assoc]

end

/-- The state in Standby, once its entry is over and before a source wakes it. -/
def State.slept (s : State) : State :=
  let u := (s.loseState.showState 1).put Fld.SUP_RAIL_STAT_OK 0x1E
  { u with sup := { u.sup with move := .none } }

theorem State.get_withSup (s : State) (p : SupS) (f : Fd) : ({ s with sup := p } : State).get f = s.get f := rfl

theorem State.nodeState_slept (s : State) : s.slept.nodeState = 1 := by
  rw [State.nodeState, State.slept, State.get_withSup, State.get_put_other _ _ _ _ (by decide)]
  exact State.get_put_fits _ 1 (by rfl)

section
variable {s : State} {w : Nat}

theorem exec_standbyEntryDone_of_entering (h : s.sup.move = .entering w) : exec .standbyEntryDone s =
    .next (if w ≠ 0 then s.slept.beginWake w else if s.slept.alarmDue then s.slept.beginWake 4 else s.slept) := by
  change execStandbyEntryDone s = _
  rw [execStandbyEntryDone, h]
  rfl

theorem exec_standbyEntryDone_of_other (h : ∀ w, s.sup.move ≠ .entering w) : exec .standbyEntryDone s = .next s := by
  change execStandbyEntryDone s = _
  cases hm : s.sup.move with
  | entering w => exact absurd hm (h w)
  | none | atTick | waking => rw [execStandbyEntryDone, hm]

theorem exec_wakeDone_of_good (h : s.sup.move = .waking) : exec (.wakeDone true) s = .next s.endWake := by
  change execWakeDone true s = _
  rw [execWakeDone, h]
  exact congrArg _ (if_pos rfl)

theorem exec_wakeDone_of_bad (h : s.sup.move = .waking) :
    exec (.wakeDone false) s = .next (s.startCoreRail.beginReset 8) := by
  change execWakeDone false s = _
  rw [execWakeDone, h]
  exact congrArg _ (if_neg Bool.false_ne_true)

theorem exec_wakeDone_of_other (ok : Bool) (h : s.sup.move ≠ .waking) : exec (.wakeDone ok) s = .next s := by
  change execWakeDone ok s = _
  cases hm : s.sup.move with
  | waking => exact absurd hm h
  | none | atTick | entering => rw [execWakeDone, hm]

end

end Sys2Proof.Machine

/-! ## The causes of full reset (R570) -/

namespace Sys2Proof.Machine

section
variable {s : State}

theorem State.beginReset_of_inReset (h : s.inReset = true) (c : Nat) : s.beginReset c =
    (s.put Fld.BOOT_RST_CAUSE_CAUSE (min c (s.get Fld.BOOT_RST_CAUSE_CAUSE))).addCause c := if_pos h

theorem State.beginReset_of_released (h : s.inReset = false) (c : Nat) : s.beginReset c =
    ((s.fullReset.put Fld.BOOT_RST_CAUSE_CAUSE c).addCause c).send (.balls resetBalls) := if_neg (by simp [h])

theorem State.causes_addCause (s : State) (c : Nat) :
    (s.addCause c).boot.causes = c :: s.boot.causes.filter (fun x => x != c) := rfl

theorem State.addCause_clk (s : State) (c : Nat) : (s.addCause c).clk = s.clk := rfl

theorem State.addCause_row (s : State) (c : Nat) : (s.addCause c).row = s.row := rfl

theorem State.get_addCause (s : State) (c : Nat) (f : Fd) : (s.addCause c).get f = s.get f := rfl

/-- The new cause is the first of those that hold. -/
theorem State.causes_beginReset (s : State) (c : Nat) : ∃ l, (s.beginReset c).boot.causes = c :: l := by
  cases h : s.inReset
  · rw [State.beginReset_of_released h, State.send_boot, State.causes_addCause]
    exact ⟨_, rfl⟩
  · rw [State.beginReset_of_inReset h, State.causes_addCause]
    exact ⟨_, rfl⟩

theorem State.mem_causes_beginReset (s : State) (c : Nat) : c ∈ (s.beginReset c).boot.causes := by
  obtain ⟨l, hl⟩ := s.causes_beginReset c
  simp [hl]

theorem State.inReset_beginReset (s : State) (c : Nat) : (s.beginReset c).inReset = true := by
  obtain ⟨l, hl⟩ := s.causes_beginReset c
  simp [State.inReset, hl]

theorem State.get_cause_beginReset {c : Nat} (hc : c < 16) : (s.beginReset c).get Fld.BOOT_RST_CAUSE_CAUSE =
    if s.inReset then min c (s.get Fld.BOOT_RST_CAUSE_CAUSE) else c := by
  cases h : s.inReset
  · rw [State.beginReset_of_released h, State.get_send, State.get_addCause]
    exact (State.get_put_fits _ c (by rfl)).trans (Nat.mod_eq_of_lt hc)
  · rw [State.beginReset_of_inReset h, State.get_addCause]
    exact (State.get_put_fits _ _ (by rfl)).trans (Nat.mod_eq_of_lt (lt_of_le_of_lt (min_le_left ..) hc))

theorem State.cause_of_powered (h : s.sup.powered = true) (c : Nat) : s.cause c = s.beginReset c := if_pos h

theorem State.cause_of_unpowered (h : s.sup.powered = false) (c : Nat) : s.cause c = s := if_neg (by simp [h])

/-- An end of a cause touches no other cause, and leaves the mark of a reset that waits for its release. -/
theorem State.endCause_spec (s : State) {c : Nat} (hc : c ≠ 9) :
    c ∉ (s.endCause c).boot.causes ∧ (c ∈ s.boot.causes → 9 ∈ (s.endCause c).boot.causes) ∧
      (∀ d, d ≠ c → d ≠ 9 → (d ∈ (s.endCause c).boot.causes ↔ d ∈ s.boot.causes)) ∧
      s.endCause c = { s with boot := (s.endCause c).boot } := by
  by_cases h : c ∈ s.boot.causes
  · have he : s.endCause c =
        { s with boot := { s.boot with causes := 9 :: s.boot.causes.filter (fun x => x != c && x != 9) } } := if_pos (by simp [h])
    rw [he]
    exact ⟨by simp [hc], fun _ => by simp, fun d hd h9 => by simp [hd, h9], rfl⟩
  · have he : s.endCause c = s := if_neg (by simp [h])
    rw [he]
    exact ⟨h, fun h' => absurd h' h, fun _ _ _ => Iff.rfl, rfl⟩

theorem State.writeRstCtl_of_bad_key {w : Word} (h : w.toNat / 2 ^ 24 ≠ 0xA5) : s.writeRstCtl w = s.invalid Reg.BOOT_RST_CTL :=
  if_pos h

theorem exec_rstCtlGo_of_released {w : Word} (h : s.inReset = false) : exec (.rstCtlGo w) s = .next (s.writeRstCtl w) :=
  congrArg Host.Outcome.next (if_neg (Bool.eq_false_iff.mp h))

theorem State.writeRstCtl_of_key {w : Word} (h : w.toNat / 2 ^ 24 = 0xA5) :
    s.writeRstCtl w = if w.getLsbD 0 then s.cause 6 else s := if_neg (not_not.mpr h)

end

end Sys2Proof.Machine

/-! ## Loss of XO_IN (R328)

What comes before the reset and after it leaves the boot state and XO_IN alone, and starts no row ticks. -/

namespace Sys2Proof.Machine

/-- `t` has the boot state and the XO_IN of `s`, and no row ticks that `s` has not. -/
structure XoKept (s t : State) : Prop where
  boot : t.boot = s.boot
  xo : t.clk.xo = s.clk.xo
  ticks : s.row.ticks = false → t.row.ticks = false

section
variable {o s t : State}

theorem XoKept.refl (s : State) : XoKept s s := ⟨rfl, rfl, id⟩

theorem XoKept.comp {u : State} (h' : XoKept t u) (h : XoKept s t) : XoKept s u :=
  ⟨h'.boot.trans h.boot, h'.xo.trans h.xo, h'.ticks ∘ h.ticks⟩

theorem XoKept.frame (h : XoKept o s) (hboot : t.boot = s.boot := by rfl) (hxo : t.clk.xo = s.clk.xo := by rfl)
    (hticks : s.row.ticks = false → t.row.ticks = false := by exact id) : XoKept o t :=
  ⟨hboot.trans h.boot, hxo.trans h.xo, hticks ∘ h.ticks⟩

/-- Registers, live counts and events are none of these. -/
theorem XoKept.fabric (h : XoKept o s) (ht : OnlyFabric s t) : XoKept o t := by
  obtain ⟨_, _, _, _, _, rfl⟩ := ht
  exact h.frame

theorem XoKept.ite {c : Prop} {_ : Decidable c} {a b : State} (ha : XoKept o a) (hb : XoKept o b) :
    XoKept o (if c then a else b) := by
  split <;> assumption

theorem XoKept.foldl {α : Type} {f : State → α → State} {l : List α} (h : XoKept o s)
    (hf : ∀ t x, XoKept o t → XoKept o (f t x)) : XoKept o (l.foldl f s) := by
  induction l generalizing s with
  | nil => exact h
  | cons x l ih => exact ih (hf s x h)

theorem XoKept.put (h : XoKept o s) (f : Fd) (v : Nat) : XoKept o (s.put f v) := h.frame

theorem XoKept.flag (h : XoKept o s) (f : Fd) (b : Bool) : XoKept o (s.flag f b) := h.put ..

theorem XoKept.send (h : XoKept o s) (out : Output) : XoKept o (s.send out) := h.frame

theorem XoKept.raise (h : XoKept o s) (n info : Nat) : XoKept o (s.raise n info) := h.fabric (.raise ..)

theorem XoKept.count (h : XoKept o s) (c : Ctr) : XoKept o (s.count c) := h.fabric (.count ..)

/-! ### Before the reset -/

theorem XoKept.setLstate (h : XoKept o s) (p st : Nat) : XoKept o (s.setLstate p st) :=
  .ite h (.ite ((h.put ..).raise ..) (h.put ..))

theorem XoKept.modLport (h : XoKept o s) (p : Nat) (f : LocPort → LocPort) : XoKept o (s.modLport p f) := h.frame

theorem XoKept.portFault (h : XoKept o s) (p reason : Nat) : XoKept o (s.portFault p reason) :=
  ((((h.modLport ..).put ..).setLstate ..).count ..).raise ..

theorem XoKept.noTick (h : XoKept o s) : XoKept o s.noTick :=
  h.foldl fun _ _ h => .ite h (h.portFault ..)

theorem XoKept.setMlock (h : XoKept o s) (b : Bool) : XoKept o (s.setMlock b) :=
  .ite h (.ite (((h.flag ..).raise ..).send ..) ((h.flag ..).raise ..))

theorem XoKept.stopTicks (h : XoKept o s) : XoKept o s.stopTicks :=
  have cleared : XoKept _ s.stopTicks := (XoKept.refl _).noTick.setMlock false
  cleared.comp (h.frame rfl rfl fun _ => rfl)

/-- Row ticks that are stopped stay so while the ports fault and MLOCK clears. -/
theorem State.ticks_stopTicks (s : State) : s.stopTicks.row.ticks = false :=
  ((XoKept.refl _).noTick.setMlock false).ticks rfl

theorem XoKept.setTbState (h : XoKept o s) (n st : Nat) : XoKept o (s.setTbState n st) :=
  .ite h (.ite ((h.put ..).raise ..).stopTicks ((h.put ..).raise ..))

theorem XoKept.modBase (h : XoKept o s) (n : Nat) (f : TimeBase → TimeBase) : XoKept o (s.modBase n f) := h.frame

theorem XoKept.askFreq (h : XoKept o s) (n : Nat) (f : Int) : XoKept o (s.askFreq n f) := (h.modBase ..).put ..

theorem XoKept.enterHoldover (h : XoKept o s) (n reason : Nat) : XoKept o (s.enterHoldover n reason) :=
  .ite (h.put ..) ((((((h.modBase ..).askFreq ..).put ..).count ..).setTbState ..).raise ..)

theorem XoKept.setRefIn (h : XoKept o s) (r : Nat) (x : RefIn) : XoKept o (s.setRefIn r x) := h.frame

theorem XoKept.stopWtr (h : XoKept o s) (r : Nat) : XoKept o (s.stopWtr r) := ((h.setRefIn ..).flag ..).put ..

theorem XoKept.startWtr (h : XoKept o s) (r : Nat) : XoKept o (s.startWtr r) :=
  .ite (h.stopWtr ..) (((h.setRefIn ..).flag ..).put ..)

theorem XoKept.setStage (h : XoKept o s) (r st : Nat) : XoKept o (s.setStage r st) := by
  unfold State.setStage
  extract_lets old s1 _ s2
  have h1 : XoKept o s1 := (h.put ..).raise ..
  have h2 : XoKept o s2 := .ite ((h1.setRefIn ..).count ..) (.ite (h1.count ..) h1)
  exact .ite h (.ite (.ite h2 (h2.startWtr ..)) (h2.stopWtr ..))

theorem XoKept.setClk (h : XoKept o s) {c : ClkS} (hc : c.xo = s.clk.xo) : XoKept o (s.setClk c) := h.frame rfl hc

theorem XoKept.setDpll (h : XoKept o s) (st : Nat) : XoKept o (s.setDpll st) := by
  unfold State.setDpll
  extract_lets s1 c held s2
  have h2 : XoKept o s2 := XoKept.setClk ((h.put ..).raise ..) rfl
  exact .ite h (.ite (h2.count ..) h2)

theorem XoKept.stopMonitoring (h : XoKept o s) : XoKept o s.stopMonitoring :=
  (h.setDpll ..).foldl fun _ _ h => .ite h (h.setStage ..)

/-! ### The reset -/

theorem XoKept.markShed (h : XoKept o s) (c : Nat) : XoKept o (s.markShed c) :=
  .ite h.frame (XoKept.count h.frame _)

theorem XoKept.judge (h : XoKept o s) (c cycles : Nat) : XoKept o (s.judge c cycles) := .ite (h.markShed ..) h

theorem XoKept.setGauge (h : XoKept o s) (g ns : Nat) : XoKept o (s.setGauge g ns) :=
  .ite (XoKept.foldl h.frame fun _ _ h => h.judge ..) (.ite (XoKept.foldl h.frame fun _ _ h => h.judge ..) h.frame)

theorem XoKept.assertSag (h : XoKept o s) (ns : Nat) : XoKept o (s.assertSag ns) :=
  .ite (XoKept.setGauge h.frame ..) h.frame

theorem XoKept.riseSats (h : XoKept o s) : XoKept o s.riseSats := by
  refine h.foldl fun t g ht => ?_
  split
  · exact ht.fabric (.level ..)
  · exact ht

end

theorem State.put_clk (s : State) (f : Fd) (v : Nat) : (s.put f v).clk = s.clk := rfl

theorem State.cutMarch_clk (s : State) : s.cutMarch.clk = s.clk := by
  unfold State.cutMarch
  split
  · exact s.put_clk Fld.SWT_FG_STAT_RESULT 6
  · rfl

theorem State.resetBase_clk (s : State) (n : Nat) : (s.resetBase n).clk = s.clk := by
  unfold State.resetBase
  dsimp only
  split <;> rfl

/-- Full reset keeps XO_IN and leaves row ticks stopped: both hold of the tables that it clears, and the sag and the saturated
counters that it shows again change neither. -/
theorem State.fullReset_xo (s : State) : s.fullReset.clk.xo = s.clk.xo ∧ s.fullReset.row.ticks = false := by
  unfold State.fullReset
  extract_lets s0 _ _ _ _ _ _ _ t t1
  have hclk : t.clk = s.clk := by
    change s0.clk = s.clk
    rw [State.resetBase_clk, State.resetBase_clk, State.resetBase_clk, State.resetBase_clk, State.cutMarch_clk]
  have h1 : XoKept t t1 := .ite ((XoKept.refl t).put ..) (.refl t)
  have h : XoKept t (if s0.on Fld.SUP_RAIL_STAT_SAG then t1.assertSag 0 else t1).riseSats :=
    XoKept.riseSats (.ite (h1.assertSag 0) h1)
  exact ⟨h.xo.trans (congrArg ClkS.xo hclk), h.ticks rfl⟩

theorem State.beginReset_xo (s : State) (c : Nat) : (s.beginReset c).clk.xo = s.clk.xo := by
  cases h : s.inReset
  · rw [State.beginReset_of_released h, State.send_clk, State.addCause_clk, State.put, State.setReg_clk, s.fullReset_xo.1]
  · rw [State.beginReset_of_inReset h, State.addCause_clk, State.put, State.setReg_clk]

theorem State.beginReset_ticks {s : State} (ht : s.row.ticks = false) (c : Nat) : (s.beginReset c).row.ticks = false := by
  cases h : s.inReset
  · rw [State.beginReset_of_released h, State.row_send, State.addCause_row, State.row_put, s.fullReset_xo.2]
  · rw [State.beginReset_of_inReset h, State.addCause_row, State.row_put, ht]

/-- What XO_LOSS stops before the clocks: time bases hold over, and row ticks and monitoring end. -/
def State.unmonitored (s : State) : State :=
  ((addrs 0 1 4).foldl (fun (s : State) n => if s.tbState n = 0 then s else s.enterHoldover n 9) s).stopTicks.stopMonitoring

/-- The clocks have stopped for want of XO_IN. -/
def State.unclocked (s : State) : State :=
  (s.setClk { s.clk with xo := false }).clocksOff

section
variable {s : State}

theorem exec_xoLoss_of_running (h : s.clk.xo = true) :
    exec .xoLoss s = .next (s.unmonitored.unclocked.beginReset 3) := if_pos h

theorem State.unclocked_boot (s : State) : s.unclocked.boot = s.boot := rfl

theorem State.unclocked_row (s : State) : s.unclocked.row = s.row := rfl

theorem State.unclocked_xo (s : State) : s.unclocked.clk.xo = false := rfl

theorem State.unmonitored_boot (s : State) : s.unmonitored.boot = s.boot :=
  ((XoKept.refl s).foldl fun _ _ h => .ite h (h.enterHoldover ..)).stopTicks.stopMonitoring.boot

theorem State.unmonitored_ticks (s : State) : s.unmonitored.row.ticks = false :=
  (XoKept.refl _).stopMonitoring.ticks (State.ticks_stopTicks _)

theorem State.inReset_unmonitored_unclocked (s : State) : s.unmonitored.unclocked.inReset = s.inReset := by
  rw [State.inReset, State.inReset, State.unclocked_boot, State.unmonitored_boot]

end

/-- Settles O53: the requests with what forbids them, the wake sources, the two ends of a move, then the causes of reset. -/
theorem powerStates : Obligations.PowerStates := by
  refine ⟨fun i req s hi => ?request, fun s => ?reasons, fun s => ?sources, fun s => ?ends, fun s => ?resets⟩
  case request =>
    obtain ⟨hexec, h0, h4⟩ := exec_powerRequest hi s
    have gives {t : State} (h : s.writePwrCtl (BitVec.ofNat 32 req) = t) : exec i s = .next t :=
      hexec.trans (congrArg Host.Outcome.next h)
    exact ⟨fun h => gives (State.writePwrCtl_of_present h0 h4 h),
      fun h hr => gives (State.writePwrCtl_of_forbidden h0 h4 h hr),
      fun h hr h1 => gives (State.writePwrCtl_of_tick h0 h4 h hr h1),
      fun h hr h1 hm => gives ((State.writePwrCtl_of_standby h0 h4 h hr h1).trans (if_neg (by simp [hm]))),
      fun h hr h1 hm => gives ((State.writePwrCtl_of_standby h0 h4 h hr h1).trans (if_pos hm))⟩
  case reasons =>
    intro busy amp twin wake deaf
    have hbusy : busy ↔ s.busy = true := State.busy_iff.symm
    have hamp : amp ↔ s.ampOn = true := State.ampOn_iff.symm
    have hdeaf : deaf ↔ s.deaf = true := State.deaf_iff.symm
    refine ⟨State.mayIdle_iff, State.powerReason_of_moving, fun hm => ⟨State.powerReason_active hm, ?_, ?_,
      State.powerReason_standby_of_active hm, fun h3 => ?_⟩⟩
    · exact fun h => (State.powerReason_idle hm).trans (if_neg (by simp [h]))
    · exact fun h => (State.powerReason_idle hm).trans (if_pos h)
    · rw [State.powerReason_standby hm h3, hbusy, hamp, hdeaf]
      refine ⟨fun hi => ?_, fun hi hb => ?_, fun hi hb ha => ?_, fun hi hb ha ht => ?_, fun hi hb ha ht hd => ?_,
        fun hi hb ha ht hd => ?_⟩
      · simp [hi]
      · simp [hi, hb]
      · simp [hi, hb, ha]
      · rw [if_neg (by simp [hi]), if_neg hb, if_neg ha, if_pos ht]
      · rw [if_neg (by simp [hi]), if_neg hb, if_neg ha, if_neg ht, if_pos hd]
      · rw [if_neg (by simp [hi]), if_neg hb, if_neg ha, if_neg ht, if_neg hd]
  case sources =>
    intro woken wakes due
    have goes {i : Instr} {src : Nat} (h : exec i s = .next (s.wake src)) : wakes i src :=
      have gives {t : State} (ht : s.wake src = t) : exec i s = .next t := h.trans (congrArg Host.Outcome.next ht)
      ⟨fun hm hs => gives (State.wake_of_standby src hm hs), fun hm hs => gives (State.wake_of_awake src hm hs),
        fun hm => gives (State.wake_of_entering src hm), fun w hw hm => gives (State.wake_of_taken src hw hm),
        fun q hm => gives (State.wake_of_moving src hm)⟩
    refine ⟨fun v => ⟨?_, ?_⟩, ?_, ?_, fun p b => ⟨?_, ?_⟩, ?_, ?_⟩
    · exact fun h => goes (congrArg Host.Outcome.next (if_pos h))
    · exact fun h => congrArg Host.Outcome.next (if_neg (Bool.eq_false_iff.mp h))
    · exact fun h => goes (congrArg Host.Outcome.next (if_pos h))
    · exact fun h => congrArg Host.Outcome.next (if_neg (Bool.eq_false_iff.mp h))
    · exact fun h => goes (congrArg Host.Outcome.next (if_pos (State.wakeFrame_iff.mpr h)))
    · exact fun h => congrArg Host.Outcome.next (if_neg (mt State.wakeFrame_iff.mp h))
    · exact fun h => goes (congrArg Host.Outcome.next (if_pos (State.alarmDue_iff.mpr h)))
    · exact fun h => congrArg Host.Outcome.next (if_neg (mt State.alarmDue_iff.mp h))
  case ends =>
    refine ⟨exec_standbyEntryDone_of_other, fun w hm => ?_,
      fun hm => ⟨exec_wakeDone_of_good hm, exec_wakeDone_of_bad hm⟩, fun ok => exec_wakeDone_of_other ok⟩
    intro u slept src
    have hslept : slept = s.slept := rfl
    rw [exec_standbyEntryDone_of_entering hm, hslept]
    refine ⟨s.nodeState_slept, fun hw hd => ?_, fun h => ?_⟩
    · rw [if_neg (not_not.mpr hw), if_neg (Bool.eq_false_iff.mp hd)]
    · by_cases hw : w = 0
      · have hsrc : src = 4 := if_neg (not_not.mpr hw)
        rw [hsrc, if_neg (not_not.mpr hw), if_pos (h.resolve_left (not_not.mpr hw))]
      · have hsrc : src = w := if_pos hw
        rw [hsrc, if_pos hw]
  case resets =>
    intro causes ends
    have holds {i : Instr} {c : Nat} (hc : c < 16) (h : exec i s = .next (s.cause c)) : causes i c := by
      refine ⟨fun hp => h.trans (congrArg _ (State.cause_of_unpowered hp c)), fun hp => ⟨s.beginReset c, ?_,
        s.mem_causes_beginReset c, s.inReset_beginReset c, ((Kept.refl s).beginReset c).pending,
        State.get_cause_beginReset hc⟩⟩
      exact h.trans (congrArg _ (State.cause_of_powered hp c))
    have released {c : Nat} (hc : c ≠ 9) : ends c (s.endCause c) := s.endCause_spec hc
    refine ⟨holds (by decide) rfl, holds (by decide) rfl, holds (by decide) rfl, ⟨_, rfl, released (by decide)⟩,
      ⟨_, rfl, released (by decide)⟩,
      fun v => ⟨fun hr => congrArg Host.Outcome.next (if_pos hr), fun hr hk => ?badKey, fun hr hk hb => ?noBit,
        fun hr hk hb => holds (by decide) ?keyAndBit⟩,
      fun hx => ⟨if_neg (Bool.eq_false_iff.mp hx), congrArg Host.Outcome.next (if_neg (Bool.eq_false_iff.mp hx))⟩,
      fun hx => ⟨congrArg Host.Outcome.next (if_pos hx), s.unmonitored.unclocked.beginReset 3, exec_xoLoss_of_running hx,
        (State.beginReset_xo ..).trans (State.unclocked_xo _), State.mem_causes_beginReset .., State.inReset_beginReset ..,
        State.beginReset_ticks ?ticks 3, fun hr => ?cause⟩⟩
    case badKey => exact (exec_rstCtlGo_of_released hr).trans (congrArg _ (State.writeRstCtl_of_bad_key hk))
    case noBit =>
      rw [exec_rstCtlGo_of_released hr, State.writeRstCtl_of_key hk, if_neg (Bool.eq_false_iff.mp hb)]
    case keyAndBit => rw [exec_rstCtlGo_of_released hr, State.writeRstCtl_of_key hk, if_pos hb]
    case ticks => rw [State.unclocked_row, State.unmonitored_ticks]
    case cause =>
      rw [State.get_cause_beginReset (by decide), s.inReset_unmonitored_unclocked, if_neg (Bool.eq_false_iff.mp hr)]

end Sys2Proof.Machine

/-! ## Channel states of the power stage (R401 to R413)

STATE of a channel is one field of its CH_STAT, which the events, the counters and the boost leave alone. -/

namespace Sys2Proof.Machine

/-! ### The supply die's events and counters -/

/-- An event of the supply die changes the link and what goes out. -/
theorem State.supplyEvent_frame (s : State) (n i : Nat) :
    ∃ l o, s.supplyEvent n i = { s with link := l, outbox := o } := s.queueFlit_frame ..

@[simp] theorem State.reg_supplyEvent (s : State) (n i a : Nat) : (s.supplyEvent n i).reg a = s.reg a := by
  obtain ⟨l, o, h⟩ := s.supplyEvent_frame n i
  rw [h]
  rfl

theorem State.get_supplyEvent (s : State) (n i : Nat) (f : Fd) : (s.supplyEvent n i).get f = s.get f :=
  State.get_congr (s.reg_supplyEvent ..)

/-! ### STATE of a channel -/

section
variable (s : State) (c d : Nat)

theorem State.chState_congr {s t : State} {c : Nat} (h : t.reg (Reg.PWR_CH_STAT c) = s.reg (Reg.PWR_CH_STAT c)) :
    t.chState c = s.chState c := State.get_congr h

theorem chStat_above : Reg.EVT_INFO 256 ≤ Reg.PWR_CH_STAT c := by
  simp only [Reg.EVT_INFO, Reg.PWR_CH_STAT]
  omega

@[simp] theorem State.chState_supplyEvent (n i : Nat) : (s.supplyEvent n i).chState d = s.chState d :=
  State.get_supplyEvent ..

@[simp] theorem State.chState_count_pwr (j : Nat) : (s.count (ctrPwr j)).chState d = s.chState d := by
  refine State.chState_congr (State.reg_countBy_above _ _ _ (chStat_above d) ?_)
  simp only [ctrPwr, Reg.PWR_CH_STAT, Reg.PWR_CNT_SAT]
  omega

@[simp] theorem State.chState_count_ch (j : Nat) : (s.count (ctrCh c j)).chState d = s.chState d := by
  refine State.chState_congr (State.reg_countBy_above _ _ _ (chStat_above d) ?_)
  simp only [ctrCh, Reg.PWR_CH_STAT, Reg.PWR_CH_CNT_SAT]
  omega

@[simp] theorem State.chState_showBoost : s.showBoost.chState d = s.chState d := by
  refine State.get_put_other _ _ _ _ ?_
  simp only [Fld.PWR_CH_STAT_STATE, Fld.PWR_STAT_BSTATE, Reg.PWR_CH_STAT, Reg.PWR_STAT]
  omega

@[simp] theorem State.chState_setAmp (a : AmpS) : (s.setAmp a).chState d = s.chState d := rfl

@[simp] theorem State.chState_setAmpCh (x : AmpCh) : (s.setAmpCh c x).chState d = s.chState d := rfl

theorem chStat_injective {c d : Nat} (h : d ≠ c) : Reg.PWR_CH_STAT d ≠ Reg.PWR_CH_STAT c := by
  simp only [Reg.PWR_CH_STAT]
  omega

/-- A write of a channel's state is read back, and is no other channel's. -/
theorem State.chState_setChState {st : Nat} (hst : st < 16) :
    (s.setChState c st).chState d = if d = c then st else s.chState d := by
  split
  · next h =>
    subst h
    exact (State.get_put_fits _ st (by rfl)).trans (Nat.mod_eq_of_lt hst)
  · next h => exact State.get_put_other _ _ _ _ (chStat_injective h)

theorem State.chState_startCh (att : Nat) : (s.startCh c att).chState d = if d = c then 2 else s.chState d :=
  State.chState_setChState _ c d (by decide)

/-- TRIPWIN lies beside STATE. -/
theorem State.chState_put_tripwin (v : Nat) : (s.put (Fld.PWR_CH_STAT_TRIPWIN c) v).chState d = s.chState d := by
  by_cases h : d = c
  · subst h
    exact State.get_put_apart _ _ (by rfl)
  · exact State.get_put_other _ _ _ _ (chStat_injective h)

end

/-! ### Stops and restarts (R406, R407, R413) -/

/-- A pass over channels changes the state of each by its own state alone. -/
theorem State.chState_foldl {f : State → Nat → State} {g : Nat → Nat} {p : Nat → Prop}
    (hother : ∀ s c d, d ≠ c → (f s c).chState d = s.chState d)
    (hself : ∀ s c, p (s.chState c) → (f s c).chState c = g (s.chState c)) {l : List Nat} (hl : l.Nodup) {d : Nat} (hd : d ∈ l)
    (s : State) (hp : p (s.chState d)) : (l.foldl f s).chState d = g (s.chState d) := by
  have elsewhere (l : List Nat) (h : d ∉ l) (s : State) : (l.foldl f s).chState d = s.chState d := by
    induction l generalizing s with
    | nil => rfl
    | cons a l ih =>
      obtain ⟨ha, hl⟩ := List.ne_and_not_mem_of_not_mem_cons h
      exact (ih hl _).trans (hother s a d ha)
  induction l generalizing s with
  | nil => cases hd
  | cons a l ih =>
    obtain ⟨ha, hl⟩ := List.nodup_cons.mp hl
    rw [List.foldl_cons]
    by_cases h : d = a
    · subst h
      exact (elsewhere l ha _).trans (hself s d hp)
    · have hs := hother s a d h
      exact (ih hl ((List.mem_cons.mp hd).resolve_left h) _ (hs ▸ hp)).trans (congrArg g hs)

theorem mem_channels (c : Fin 8) : c.val ∈ channels := by
  revert c
  decide

theorem State.chState_stopChannels (s : State) (l : List Nat) (c : Fin 8) :
    (s.stopChannels l).chState c = if s.chState c ∈ l then 8 else s.chState c := by
  rw [State.stopChannels, State.chState_showBoost]
  refine State.chState_foldl (p := fun _ => True) (g := fun x => if x ∈ l then 8 else x) (fun s c d h => ?_) (fun s c _ => ?_)
    (by decide) (mem_channels c) s trivial
  · split
    · exact (s.chState_setChState c d (by decide)).trans (if_neg h)
    · rfl
  · by_cases h : s.chState c ∈ l
    · simp [h, s.chState_setChState]
    · simp [h]

theorem State.restartChannels_of_busOk {s : State} (h : s.busOk = true) {c : Fin 8} (hc : s.chState c ≠ 5) :
    s.restartChannels.chState c = if s.chState c = 8 then 2 else s.chState c := by
  rw [State.restartChannels, if_pos h, State.chState_showBoost]
  refine State.chState_foldl (p := fun x => x ≠ 5) (g := fun x => if x = 8 then 2 else x) (fun s c d h => ?_) (fun s c h5 => ?_)
    (by decide) (mem_channels c) s hc
  · split
    · exact (s.chState_startCh c d 0).trans (if_neg h)
    · split
      · exact (s.chState_startCh c d 20).trans (if_neg h)
      · rfl
  · by_cases h : s.chState c = 8
    · simp [h, s.chState_startCh]
    · simp [h, h5]

section
variable {s : State}

theorem exec_busLow_of_new (h : s.amp.busLow = false) : exec .busLow s =
    .next ((((s.setAmp { s.amp with busLow := true }).stopChannels [2, 3, 6]).count (ctrPwr 1)).supplyEvent 199 0) :=
  congrArg Host.Outcome.next (if_neg (by simp [h]))

theorem exec_railOvervoltage_of_new (h : s.amp.railOv = false) : exec .railOvervoltage s =
    .next (((s.setAmp { s.amp with railOv := true }).stopChannels [1, 2, 3, 4, 6]).supplyEvent 200 4) :=
  congrArg Host.Outcome.next (if_neg (by simp [h]))

theorem exec_overTemperature_of_new (h : s.amp.otemp = false) : exec .overTemperature s =
    .next (((s.setAmp { s.amp with otemp := true }).stopChannels [1, 2, 3, 4, 6]).supplyEvent 200 5) :=
  congrArg Host.Outcome.next (if_neg (by simp [h]))

/-! ### Trips (R407 to R410) -/

/-- The trips of a channel that lie less than 10 s back. -/
def State.nearTrips (s : State) (c us : Nat) : List Nat := (s.ampCh c).trips.filter (fun t => decide (us < t + 10000000))

/-- The third trip in 10 s latches the channel. -/
theorem State.chState_tripCh {c : Nat} (us : Nat) (hc : s.calibrating c = false) (d : Nat) : (s.tripCh c us).chState d =
    if d = c then (if 2 ≤ (s.nearTrips c us).length then 7 else 5) else s.chState d := by
  unfold State.tripCh
  extract_lets x ts s1 s2 s3
  have h3 (d : Nat) : s3.chState d = s.chState d := by
    have hs : s3 = s2 := if_neg (by simp [hc])
    rw [hs, State.chState_put_tripwin, State.chState_supplyEvent, State.chState_count_ch, State.chState_setAmpCh]
  have hlen : 3 ≤ ts.length ↔ 2 ≤ (s.nearTrips c us).length := Nat.succ_le_succ_iff
  by_cases h : 2 ≤ (s.nearTrips c us).length
  · rw [if_pos (hlen.mpr h), if_pos h, State.chState_supplyEvent, State.chState_count_ch,
      State.chState_setChState _ _ _ (by decide), h3]
  · rw [if_neg (mt hlen.mp h), if_neg h, State.chState_setChState _ _ _ (by decide), h3]

theorem exec_bootstrapUndervoltage_of_on {c : Fin 8} (us : BitVec 64) (h : s.chState c = 1 ∨ s.switching c = true) :
    exec (.bootstrapUndervoltage c us) s = .next (s.tripCh c us.toNat) :=
  congrArg Host.Outcome.next (if_pos h.symm)

/-- A limited cycle is counted. -/
def State.limited (s : State) (c n : Nat) : State :=
  (s.modAmpCh c (fun x => { x with limRun := n })).count64 (Reg.PWR_CH_LIMCYC_LO c) 1

theorem exec_currentLimit_of_switching {c : Fin 8} (fresh : Bool) (us : BitVec 64) (h : s.switching c = true) :
    exec (.currentLimit c fresh us) s =
      let n := if fresh then 1 else (s.ampCh c).limRun + 1
      .next (if 8 ≤ n then (s.limited c n).tripCh c us.toNat else s.limited c n) :=
  if_pos (.inl h)

@[simp] theorem State.ampCh_setAmpCh (s : State) (c : Nat) (x : AmpCh) : (s.setAmpCh c x).ampCh c = x :=
  Table.get_set_same ..

theorem State.nearTrips_limited (s : State) (c n us : Nat) : (s.limited c n).nearTrips c us = s.nearTrips c us := by
  have h : (s.limited c n).ampCh c = { s.ampCh c with limRun := n } := State.ampCh_setAmpCh ..
  rw [State.nearTrips, h]
  rfl

/-! ### Commands and ends (R408, R409, R412) -/

variable {c : Fin 8}

theorem exec_tripRetry_of_ok (h : s.chState c = 5) (hb : s.busOk = true) : exec (.tripRetry c) s =
    .next ((s.modAmpCh c (fun x => { x with att := 20, limRun := 0 })).setChState c 6) :=
  congrArg Host.Outcome.next ((if_neg (not_not.mpr h)).trans (if_pos hb))

theorem exec_retryGainStep_of_retry (h : s.chState c = 6) : exec (.retryGainStep c) s =
    let u := s.modAmpCh c (fun x => { x with att := (s.ampCh c).att - 1 })
    .next (if (s.ampCh c).att - 1 = 0 then u.setChState c 3 else u) := if_pos h

theorem State.chCommand_enable_off (h : s.chState c = 0) (hc : s.calibrating c = false) :
    s.chCommand c 1 = s.setChState c 1 := by
  simp [State.chCommand, h, hc]

theorem State.chCommand_disable_run (h : s.chState c = 3) : s.chCommand c 2 =
    (s.modAmpCh c (fun x => { x with base := 64, ramp := 0 })).setChState c 4 := by
  simp [State.chCommand, h]

/-- A latched channel takes CLEAR alone. -/
theorem State.chCommand_latched (h : s.chState c = 7) : s.chCommand c 3 = s.setChState c 0 ∧
    s.chCommand c 1 = s.supplyInvalid (Reg.PWR_CH_CMD c) ∧ s.chCommand c 2 = s.supplyInvalid (Reg.PWR_CH_CMD c) := by
  simp [State.chCommand, h]

theorem exec_prechgEnd_of_prechg (h : s.chState c = 1) (hc : s.calibrating c = false) : exec (.prechgEnd c) s =
    .next (if s.busOk then s.startCh c 0 else s.setChState c 8) :=
  congrArg Host.Outcome.next (if_pos (by simp [h, hc]))

theorem exec_channelRampEnd_of_done (h : 64 ≤ (s.ampCh c).ramp) : exec (.channelRampEnd c) s =
    .next (if s.chState c = 2 then s.setChState c (if (s.ampCh c).att = 0 then 3 else 6)
      else if s.chState c = 4 then s.setChState c 0 else s) :=
  congrArg Host.Outcome.next (if_neg (by omega))

end

/-- Settles O31: the stops and restarts by their passes over the channels, then what one channel does. -/
theorem channelStates : Obligations.ChannelStates := by
  refine ⟨fun s => ?bus, fun c us s hc => ?channel⟩
  case bus =>
    intro stops
    refine ⟨fun h => ⟨_, exec_busLow_of_new h, fun c => ?_⟩, fun h => ⟨_, exec_railOvervoltage_of_new h, fun c => ?_⟩,
      fun h => ⟨_, exec_overTemperature_of_new h, fun c => ?_⟩, fun h => congrArg Host.Outcome.next (if_pos h), ?restarts⟩
    · rw [State.chState_supplyEvent, State.chState_count_pwr, State.chState_stopChannels, State.chState_setAmp]
    · rw [State.chState_supplyEvent, State.chState_stopChannels, State.chState_setAmp]
    · rw [State.chState_supplyEvent, State.chState_stopChannels, State.chState_setAmp]
    case restarts =>
      exact ⟨fun h => ⟨_, rfl, fun _ hc => State.restartChannels_of_busOk h hc⟩,
        fun h => ⟨_, rfl, fun _ hc => State.restartChannels_of_busOk h hc⟩,
        fun h => ⟨_, rfl, fun _ hc => State.restartChannels_of_busOk h hc⟩⟩
  case channel =>
    intro near trips
    have tripped {i : Instr} {u : State} (hi : exec i s = .next (u.tripCh c us.toNat)) (hu : u.calibrating c = false)
        (hn : u.nearTrips c us.toNat = s.nearTrips c us.toNat) (hd : ∀ d, u.chState d = s.chState d) : trips i := by
      refine ⟨_, hi, ?_, fun d hdc => ?_⟩
      · rw [State.chState_tripCh _ hu, if_pos rfl, hn]
        rfl
      · rw [State.chState_tripCh _ hu, if_neg (Fin.val_ne_of_ne hdc), hd]
    refine ⟨fun h => tripped (exec_bootstrapUndervoltage_of_on us h) hc rfl fun _ => rfl, fun hs h7 => ?eighth, fun hs => ?first,
      fun h hb => exec_tripRetry_of_ok h hb, fun h ha => ?lastStep, fun h ha => ?step,
      fun h => congrArg Host.Outcome.next (State.chCommand_enable_off h hc),
      fun h => congrArg Host.Outcome.next (State.chCommand_disable_run h), fun h => ?clear, fun h => ?latched,
      fun h hb => ?charged, fun h hb => ?noBus, fun h hr => ?started, fun h hr => ?stopped⟩
    case eighth =>
      have hexec := exec_currentLimit_of_switching false us hs
      simp only [h7, Bool.false_eq_true, if_false, Nat.reduceAdd, Nat.le_refl, if_true] at hexec
      exact tripped hexec hc (s.nearTrips_limited ..) fun _ => rfl
    case first => exact exec_currentLimit_of_switching true us hs
    case lastStep => simp only [exec_retryGainStep_of_retry h, ha, Nat.sub_self, if_true]
    case step => exact (exec_retryGainStep_of_retry h).trans (congrArg _ (if_neg (by omega)))
    case clear =>
      obtain ⟨h3, -, -⟩ := State.chCommand_latched h
      exact congrArg Host.Outcome.next h3
    case latched =>
      obtain ⟨-, h1, h2⟩ := State.chCommand_latched h
      exact ⟨congrArg Host.Outcome.next h1, congrArg Host.Outcome.next h2⟩
    case charged => rw [exec_prechgEnd_of_prechg h hc, if_pos hb]
    case noBus => rw [exec_prechgEnd_of_prechg h hc, hb, if_neg Bool.false_ne_true]
    case started => rw [exec_channelRampEnd_of_done hr, if_pos h]
    case stopped => rw [exec_channelRampEnd_of_done hr, if_neg (by omega), if_pos h]

end Sys2Proof.Machine

/-! ## Occurrences of event sources, and the mailboxes (R482 to R501) -/

namespace Sys2Proof.Machine

/-! ### One occurrence (R482, R488) -/

section
variable (s : State)

theorem State.evtSrc_setEvtSrc (n m : Nat) (e : EvtSrc) : (s.setEvtSrc n e).evtSrc m = if m = n then e else s.evtSrc m :=
  Table.get_set (fun _ => evtSrcReset) s.evt.src n m e

/-- The delivery state of a source after an occurrence of it. -/
def State.occurred (s : State) (n : Nat) : EvtSrc :=
  if s.on (fdEnable n) then { s.evtSrc n with row := s.eventRow, count := min 255 ((s.evtSrc n).count + 1), since := true }
  else { s.evtSrc n with row := s.eventRow }

theorem State.evtSrc_raise (n i m : Nat) : (s.raise n i).evtSrc m = if m = n then s.occurred n else s.evtSrc m :=
  State.evtSrc_setEvtSrc ..

theorem State.count_occurred (n : Nat) : (s.occurred n).count =
    if s.on (fdEnable n) then min 255 ((s.evtSrc n).count + 1) else (s.evtSrc n).count :=
  apply_ite EvtSrc.count ..

/-- The status words lie below the INFO words. -/
theorem fdStatus_ne_info {n : Nat} (h : n < 256) : (fdStatus n).addr ≠ Reg.EVT_INFO n := by
  simp only [fdStatus, Reg.EVT_STATUS, Reg.EVT_INFO]
  omega

theorem State.raise_eq (n i : Nat) : s.raise n i =
    { s with regs := (s.raise n i).regs, evt := (s.raise n i).evt, outbox := (s.raise n i).outbox } := by
  obtain ⟨r, e, o, h⟩ := s.raise_frame n i
  rw [h]

/-- With no source listed a pass has the rings' entries to write alone. -/
theorem exec_eventDeliveryPass_of_no_source {s : State} (ht : s.row.ticks = false) (h : s.evt.src = []) :
    exec .eventDeliveryPass s = .next s.pumpAll := by
  have hpass : s.deliveryPass = s.pumpAll := by
    rw [State.deliveryPass, h]
    rfl
  exact congrArg Host.Outcome.next ((if_neg (by simp [ht])).trans hpass)

theorem exec_eventRaise_of_listed {s : State} {w : Word} (h : eventListed (w.toNat % 256) = true)
    (hl : eventLevel (w.toNat % 256) = false) : exec (.eventRaise w) s = .next (s.raise (w.toNat % 256) 0xFFFFFFFF) :=
  congrArg Host.Outcome.next (if_pos (by simp [h, hl]))

theorem exec_eventRaise_of_other {s : State} {w : Word}
    (h : eventListed (w.toNat % 256) = false ∨ eventLevel (w.toNat % 256) = true) :
    exec (.eventRaise w) s = .next (s.invalid Reg.EVT_RAISE) :=
  congrArg Host.Outcome.next (if_neg (by rcases h with h | h <;> simp [h]))

/-! ### What a mailbox holds (R494) -/

theorem State.mbx_setMbx (n c : Nat) (m : Mbx) : (s.setMbx n m).mbx c = if c = n then m else s.mbx c :=
  Table.get_set (fun _ => mbxReset) s.evt.box n c m

theorem State.mbx_raise (n i c : Nat) : (s.raise n i).mbx c = s.mbx c := rfl

theorem State.mbx_mbxEvent (n c : Nat) : (s.mbxEvent n).mbx c = s.mbx c := by
  unfold State.mbxEvent State.level
  split
  · split
    · split
      · rfl
      · exact State.mbx_raise ..
    · rfl
  · rfl

theorem State.reg_mbxEvent_above (n : Nat) {a : Nat} (ha : Reg.EVT_INFO 256 ≤ a) : (s.mbxEvent n).reg a = s.reg a := by
  unfold State.mbxEvent State.level
  split
  · split
    · split
      · rfl
      · exact State.reg_raise_above _ (by omega) _ ha
    · refine s.reg_put_other ?_
      simp only [Reg.EVT_INFO, fdStatus, Reg.EVT_STATUS] at ha ⊢
      omega
  · rfl

/-- A word stored in a mailbox, with its writer. -/
def State.mbxStored (s : State) (n : Nat) (w : Word) (writer : Nat) : State :=
  ((s.setMbx n ⟨w, true⟩).put (Fld.MBX_LASTW_WRITER n) writer).mbxEvent n

theorem State.mbx_mbxStored (n : Nat) (w : Word) (writer c : Nat) :
    (s.mbxStored n w writer).mbx c = if c = n then ⟨w, true⟩ else s.mbx c :=
  (State.mbx_mbxEvent ..).trans (State.mbx_setMbx ..)

theorem State.writer_mbxStored (n : Nat) (w : Word) {writer : Nat} (h : writer < 256) :
    (s.mbxStored n w writer).get (Fld.MBX_LASTW_WRITER n) = writer := by
  refine (State.get_congr (State.reg_mbxEvent_above _ n ?_)).trans
    ((State.get_put_fits _ writer (by rfl)).trans (Nat.mod_eq_of_lt h))
  simp only [Reg.EVT_INFO, Fld.MBX_LASTW_WRITER, Reg.MBX_LASTW]
  omega

/-- The state after a read of a full mailbox, before the answer. -/
def State.mbxTaken (s : State) (n : Nat) : State :=
  let u := (s.setMbx n mbxReset).mbxEvent n
  if 56 ≤ n then u.queueFlit true 8 (payWord 90 n 0) else u

theorem State.mbx_mbxTaken (n c : Nat) : (s.mbxTaken n).mbx c = if c = n then mbxReset else s.mbx c := by
  have hu : ((s.setMbx n mbxReset).mbxEvent n).mbx c = if c = n then mbxReset else s.mbx c :=
    (State.mbx_mbxEvent ..).trans (State.mbx_setMbx ..)
  unfold State.mbxTaken
  split
  · obtain ⟨l, o, h⟩ := ((s.setMbx n mbxReset).mbxEvent n).queueFlit_frame true 8 (payWord 90 n 0)
    rw [h]
    exact hu
  · exact hu

end

section
variable {s : State} {n : Nat}

theorem State.mbxWrite_of_empty (h : (s.mbx n).full = false) (w : Word) (writer : Nat) :
    s.mbxWrite n w writer = (s.mbxStored n w writer, true) := if_neg (by simp [h])

theorem State.mbxWrite_of_full (h : (s.mbx n).full = true) (w : Word) (writer : Nat) :
    s.mbxWrite n w writer = (s, false) := if_pos h

theorem State.mbxRead_of_full (h : (s.mbx n).full = true) : s.mbxRead n = (s.mbxTaken n, (s.mbx n).word, true) := if_pos h

theorem State.mbxRead_of_empty (h : (s.mbx n).full = false) : s.mbxRead n = (s, 0, false) := if_neg (by simp [h])

theorem State.mbxWriteOnChip_of_empty (h : (s.mbx n).full = false) (w : Word) (writer : Nat) :
    s.mbxWriteOnChip n w writer = (s.mbxStored n w writer, true) := by
  simp only [State.mbxWriteOnChip, State.mbxWrite_of_empty h, if_true]

theorem State.mbxWriteOnChip_of_full (h : (s.mbx n).full = true) (w : Word) (writer : Nat) :
    s.mbxWriteOnChip n w writer = (s.count ctrBuserr, false) := by
  simp only [State.mbxWriteOnChip, State.mbxWrite_of_full h, Bool.false_eq_true, if_false]

/-! ### The commands of the mailboxes (R494 to R497) -/

variable {b : Fin 64}

theorem exec_mailboxWrite_of_empty (h : (s.mbx b).full = false) (w : Word) :
    exec (.mailboxWrite b w) s = .next (s.mbxStored b w 1) := by
  change (.next (s.hostMailbox b w) : Answer) = _
  simp only [State.hostMailbox, State.mbxWrite_of_empty h, if_true]

theorem exec_mailboxWrite_of_full (h : (s.mbx b).full = true) (w : Word) : exec (.mailboxWrite b w) s =
    .next (({ s with evt := { s.evt with rej := s.evt.rej ||| BitVec.ofNat 64 (2 ^ b.val) } }.count ctrHrej).raise 11 b) := by
  change (.next (s.hostMailbox b w) : Answer) = _
  simp only [State.hostMailbox, State.mbxWrite_of_full h, Bool.false_eq_true, if_false]

theorem exec_firmwareMailboxAccess_write_empty (h : (s.mbx b).full = false) (w : Word) :
    exec (.firmwareMailboxAccess b (some w)) s = .next (s.mbxStored b w 2) := by
  change execFirmwareMailboxAccess b (some w) s = _
  simp only [execFirmwareMailboxAccess, State.mbxWriteOnChip_of_empty h, if_true]

theorem exec_firmwareMailboxAccess_write_full (h : (s.mbx b).full = true) (w : Word) :
    exec (.firmwareMailboxAccess b (some w)) s = .next ((s.count ctrBuserr).send .busError) := by
  change execFirmwareMailboxAccess b (some w) s = _
  simp only [execFirmwareMailboxAccess, State.mbxWriteOnChip_of_full h, Bool.false_eq_true, if_false]

/-- Host and house cores read alike. -/
theorem exec_mailboxRead_of_full (h : (s.mbx b).full = true) :
    exec (.mailboxRead b) s = .next ((s.mbxTaken b).send (.answer (s.mbx b).word)) ∧
      exec (.firmwareMailboxAccess b none) s = .next ((s.mbxTaken b).send (.answer (s.mbx b).word)) := by
  have hread : execMailboxRead b s = .next ((s.mbxTaken b).send (.answer (s.mbx b).word)) := by
    simp only [execMailboxRead, State.mbxRead_of_full h]
  exact ⟨hread, hread⟩

theorem exec_mailboxRead_of_empty (h : (s.mbx b).full = false) : exec (.mailboxRead b) s = .next (s.send (.answer 0)) ∧
    exec (.firmwareMailboxAccess b none) s = .next (s.send (.answer 0)) := by
  have hread : execMailboxRead b s = .next (s.send (.answer 0)) := by
    simp only [execMailboxRead, State.mbxRead_of_empty h]
  exact ⟨hread, hread⟩

/-! ### Twin sends (R499) -/

variable {i : Fin 8}

/-- A twin send that the link takes. -/
def State.twsendStarted (s : State) (i : Nat) (w : Word) : State :=
  ({ s with evt := { s.evt with twbusy := s.evt.twbusy ||| BitVec.ofNat 8 (2 ^ i) },
            twn := { s.twn with mbxSeq := s.twn.mbxSeq.set (fun _ => 0) i s.twn.txSeq } } : State).twinSend 0x06
    (beBytes i 1 ++ [0, 0, 0] ++ beBytes w.toNat 4)

theorem exec_twsendWrite_of_busy (h : s.evt.twbusy.getLsbD i = true) (w : Word) : exec (.twsendWrite i w) s =
    .next (({ s with evt := { s.evt with twrej := s.evt.twrej ||| BitVec.ofNat 8 (2 ^ i.val) } }.count ctrTwrej).raise 11
      (0x40 + i)) := congrArg Host.Outcome.next (if_pos h)

theorem exec_twsendWrite_of_down (h : s.evt.twbusy.getLsbD i = false) (hl : s.on Fld.TWN_STAT_TLUP = false) (w : Word) :
    exec (.twsendWrite i w) s = .next (s.rejectTwsend i) :=
  congrArg Host.Outcome.next ((if_neg (Bool.eq_false_iff.mp h)).trans (if_pos (by simp [hl])))

theorem exec_twsendWrite_of_up (h : s.evt.twbusy.getLsbD i = false) (hl : s.on Fld.TWN_STAT_TLUP = true) (w : Word) :
    exec (.twsendWrite i w) s = .next (s.twsendStarted i w) :=
  congrArg Host.Outcome.next ((if_neg (Bool.eq_false_iff.mp h)).trans (if_neg (by simp [hl])))

theorem State.mbxSeq_twsendStarted (s : State) (i : Nat) (w : Word) :
    (s.twsendStarted i w).twn.mbxSeq.get (fun _ => 0) i = s.twn.txSeq := Table.get_set_same ..

end

/-- Settles O49: an occurrence of a source, the two commands of events, the mailboxes empty and full, then the twin sends. -/
theorem eventsAndMailboxes : Obligations.EventsAndMailboxes := by
  refine ⟨fun n i s hn => ?occurrence, fun w s => ?events, fun b w s => ⟨fun h => ?empty, fun h => ?full⟩, fun i w s => ?twsend⟩
  case occurrence =>
    refine ⟨s.on_raise_status n i (fdStatus_ne_info hn), s.reg_raise_info n i, ?_, fun m hm => ?_, s.raise_eq n i⟩
    · rw [State.evtSrc_raise, if_pos rfl, State.count_occurred]
    · rw [State.evtSrc_raise, if_neg hm]
  case events =>
    exact ⟨exec_eventRaise_of_listed, exec_eventRaise_of_other, fun ht => congrArg Host.Outcome.next (if_pos ht),
      exec_eventDeliveryPass_of_no_source⟩
  case empty =>
    have other (writer : Nat) (c : Fin 64) (hc : c ≠ b) : (s.mbxStored b w writer).mbx c = s.mbx c :=
      (State.mbx_mbxStored ..).trans (if_neg (Fin.val_ne_of_ne hc))
    obtain ⟨hhost, hhouse⟩ := exec_mailboxRead_of_empty h
    exact ⟨⟨_, exec_mailboxWrite_of_empty h w, (State.mbx_mbxStored ..).trans (if_pos rfl),
        s.writer_mbxStored b w (by decide), other 1⟩,
      ⟨_, exec_firmwareMailboxAccess_write_empty h w, (State.mbx_mbxStored ..).trans (if_pos rfl),
        s.writer_mbxStored b w (by decide), other 2⟩, hhost, hhouse⟩
  case full =>
    obtain ⟨hhost, hhouse⟩ := exec_mailboxRead_of_full h
    exact ⟨exec_mailboxWrite_of_full h w, exec_firmwareMailboxAccess_write_full h w, _, hhost,
      (State.mbx_mbxTaken ..).trans (if_pos rfl), rfl,
      fun c hc => (State.mbx_mbxTaken ..).trans (if_neg (Fin.val_ne_of_ne hc)), hhouse⟩
  case twsend =>
    exact ⟨fun h => exec_twsendWrite_of_busy h w, fun h hl => exec_twsendWrite_of_down h hl w,
      fun h hl => ⟨_, exec_twsendWrite_of_up h hl w, rfl, s.mbxSeq_twsendStarted i w⟩,
      fun h => congrArg Host.Outcome.next (if_pos h), fun h => congrArg Host.Outcome.next (if_neg (Bool.eq_false_iff.mp h))⟩

end Sys2Proof.Machine

/-! ## Frames of the twin link (R499, R509 to R519) -/

namespace Sys2Proof.Machine

/-! ### A frame reads back (R509) -/

@[simp] theorem length_beBytes (v n : Nat) : (beBytes v n).length = n := by
  induction n with
  | zero => rfl
  | succ n ih => rw [beBytes, List.length_cons, ih]

theorem foldl_beBytes (v n a : Nat) : (beBytes v n).foldl (fun n b => n * 256 + b.toNat) a = a * 256 ^ n + v % 256 ^ n := by
  induction n generalizing a with
  | zero => simp [beBytes, Nat.mod_one]
  | succ n ih =>
    rw [beBytes, List.foldl_cons, ih, BitVec.toNat_ofNat, show 2 ^ 8 = 256 from rfl, pow_succ, Nat.mod_mul]
    ring

theorem beNat_beBytes (v n : Nat) : beNat (beBytes v n) = v % 256 ^ n := by
  rw [beNat, foldl_beBytes, Nat.zero_mul, Nat.zero_add]

theorem bytesAt_of_prefix {l a b : List Byte} {o n : Nat} (h : a ++ b <+: l) (ho : a.length = o) (hn : b.length = n) :
    bytesAt l o n = b := by
  obtain ⟨c, rfl⟩ := h
  subst ho hn
  simp [bytesAt]

theorem beAt_of_prefix {l a : List Byte} {o n v : Nat} (h : a ++ beBytes v n <+: l) (ho : a.length = o) (hv : v < 256 ^ n) :
    beAt l o n = v := by
  rw [beAt, bytesAt_of_prefix h ho (length_beBytes v n), beNat_beBytes, Nat.mod_eq_of_lt hv]

theorem crc32Bit_lt {poly c : Nat} (hp : poly < 2 ^ 32) (hc : c < 2 ^ 32) (b : Bool) : crc32Bit poly c b < 2 ^ 32 := by
  have hhalf : c / 2 < 2 ^ 32 := by omega
  unfold crc32Bit
  split
  · exact Nat.xor_lt_two_pow hhalf hp
  · exact hhalf

/-- Every step of the CRC keeps its 32 bits. -/
theorem crc32_lt (l : List Byte) : crc32 l < 256 ^ 4 := by
  have step {α : Type} {f : Nat → α → Nat} (hf : ∀ c x, c < 2 ^ 32 → f c x < 2 ^ 32) (l : List α) {c : Nat} (hc : c < 2 ^ 32) :
      l.foldl f c < 2 ^ 32 := by
    induction l generalizing c with
    | nil => exact hc
    | cons x l ih => exact ih (hf c x hc)
  exact Nat.xor_lt_two_pow (by decide) (step (fun c x hc => step (fun c i hc => crc32Bit_lt (by decide) hc _) _ hc) l (by decide))

theorem padTo8_of_whole {p : List Byte} (h : p.length % 8 = 0) : padTo8 p = p := by
  simp [padTo8, h]

/-- The bytes that the CRC of a frame covers. -/
def twinBody (t : Nat) (q : Word) (p : List Byte) : List Byte :=
  beBytes t 1 ++ beBytes (p.length / 8) 2 ++ beBytes q.toNat 4 ++ p

theorem twinFrame_of_whole (t : Nat) (q : Word) {p : List Byte} (h : p.length % 8 = 0) : twinFrame t q p =
    beBytes 0x78 1 ++ twinBody t q p ++ beBytes 0x87 1 ++ beBytes (crc32 (twinBody t q p)) 4 ++ [0, 0, 0] := by
  simp only [twinFrame, padTo8_of_whole h, twinBody, List.append_assoc]

theorem twinParse_twinFrame {t : Nat} (q : Word) {p : List Byte} (ht : t < 256) (h8 : p.length % 8 = 0)
    (hp : p.length < 8 * 65536) : twinParse (twinFrame t q p) = some (t, q, p) := by
  have hlen : (twinBody t q p).length = 7 + 8 * (p.length / 8) := by
    simp only [twinBody, List.length_append, length_beBytes]
    omega
  have hframe := twinFrame_of_whole t q h8
  have hbody : bytesAt (twinFrame t q p) 1 (7 + 8 * (p.length / 8)) = twinBody t q p := by
    refine bytesAt_of_prefix (a := beBytes 0x78 1) ?_ rfl hlen
    simp only [hframe, List.append_assoc, List.prefix_append_right_inj, List.prefix_append]
  have hend : beAt (twinFrame t q p) (8 + 8 * (p.length / 8)) 1 = 0x87 := by
    refine beAt_of_prefix (a := beBytes 0x78 1 ++ twinBody t q p) ?_ (by simp [hlen]; omega) (by decide)
    simp only [hframe, List.append_assoc, List.prefix_append_right_inj, List.prefix_append]
  have hcrc : beAt (twinFrame t q p) (9 + 8 * (p.length / 8)) 4 = crc32 (twinBody t q p) := by
    refine beAt_of_prefix (a := beBytes 0x78 1 ++ twinBody t q p ++ beBytes 0x87 1) ?_ (by simp [hlen]; omega) (crc32_lt _)
    simp only [hframe, List.append_assoc, List.prefix_append_right_inj, List.prefix_append]
  have hstart : beAt (twinFrame t q p) 0 1 = 0x78 := by
    refine beAt_of_prefix (a := []) ?_ rfl (by decide)
    simp only [hframe, List.nil_append, List.append_assoc, List.prefix_append]
  have htype : beAt (twinFrame t q p) 1 1 = t := by
    refine beAt_of_prefix (a := beBytes 0x78 1) ?_ rfl ht
    simp only [hframe, twinBody, List.append_assoc, List.prefix_append_right_inj, List.prefix_append]
  have hnw : beAt (twinFrame t q p) 2 2 = p.length / 8 := by
    refine beAt_of_prefix (a := beBytes 0x78 1 ++ beBytes t 1) ?_ rfl (by omega)
    simp only [hframe, twinBody, List.append_assoc, List.prefix_append_right_inj, List.prefix_append]
  have hseq : beAt (twinFrame t q p) 4 4 = q.toNat := by
    refine beAt_of_prefix (a := beBytes 0x78 1 ++ beBytes t 1 ++ beBytes (p.length / 8) 2) ?_ rfl q.isLt
    simp only [hframe, twinBody, List.append_assoc, List.prefix_append_right_inj, List.prefix_append]
  have hpay : bytesAt (twinFrame t q p) 8 (8 * (p.length / 8)) = p := by
    refine bytesAt_of_prefix (a := beBytes 0x78 1 ++ beBytes t 1 ++ beBytes (p.length / 8) 2 ++ beBytes q.toNat 4) ?_ rfl
      (by omega)
    simp only [hframe, twinBody, List.append_assoc, List.prefix_append_right_inj, List.prefix_append]
  have hall : (twinFrame t q p).length = 16 + 8 * (p.length / 8) := by
    simp [hframe, hlen]
    omega
  rw [twinParse]
  simp only [hnw, hbody, htype, hseq, hpay, BitVec.ofNat_toNat, BitVec.setWidth_eq]
  exact if_pos ⟨hall, hstart, hend, hcrc⟩

/-! ### A frame that arrives (R510) -/

section
variable {s : State} {want : Nat} {b : List Byte} {again f : State → Word → List Byte → State}

theorem State.takeTwin_of_deaf (h : s.twinUsable = false ∨ s.twinState = 0) : s.takeTwin want b again f = s :=
  if_pos (by rcases h with h | h <;> simp [h])

theorem State.takeTwin_of_on (hu : s.twinUsable = true) (hs : s.twinState ≠ 0) : s.takeTwin want b again f =
    match twinParse b with
    | none => s.count (ctrTwn 4)
    | some (t, q, p) =>
      if !payloadFits t p.length p then s.count (ctrTwn 4)
      else if t ≠ want then s
      else if seqNew s.twn.history q then f (s.noted q) q p
      else again s q p := if_neg (by simp [hu, hs])

theorem State.takeTwin_of_garbled (hu : s.twinUsable = true) (hs : s.twinState ≠ 0) (hb : twinParse b = none) :
    s.takeTwin want b again f = s.count (ctrTwn 4) := by
  rw [State.takeTwin_of_on hu hs, hb]

theorem State.takeTwin_of_misfit {t : Nat} {q : Word} {p : List Byte} (hu : s.twinUsable = true) (hs : s.twinState ≠ 0)
    (hb : twinParse b = some (t, q, p)) (hp : payloadFits t p.length p = false) :
    s.takeTwin want b again f = s.count (ctrTwn 4) := by
  rw [State.takeTwin_of_on hu hs, hb]
  exact if_pos (by simp [hp])

/-- A new frame is noted and has the effect of its type. -/
theorem State.takeTwin_of_new {q : Word} {p : List Byte} (h : s.twinNew want b q p) :
    s.takeTwin want b again f = f (s.noted q) q p := by
  obtain ⟨hu, hs, hb, hp, hq⟩ := h
  rw [State.takeTwin_of_on hu hs, hb]
  exact (if_neg (by simp [hp])).trans ((if_neg (not_not.mpr rfl)).trans (if_pos hq))

/-- The nine commands that bring a frame. -/
theorem exec_twinFrame {i : Instr} {ns : BitVec 24} (h : i ∈ [Instr.hello b, .heartbeat b ns, .digest b, .mirror b, .ack b,
    .mbx b, .mbxAck b, .ping b, .pong b]) (s : State) : ∃ want again f, exec i s = .next (s.takeTwin want b again f) := by
  simp only [List.mem_cons, List.not_mem_nil, or_false] at h
  rcases h with rfl | rfl | rfl | rfl | rfl | rfl | rfl | rfl | rfl <;> exact ⟨_, _, _, rfl⟩

end

/-! ### Heartbeats (R516, R517)

What follows the claim word and the count of missing heartbeats leaves both alone. -/

/-- `t` has the partner's claim word and the loss of heartbeats of `s`. -/
structure BeatKept (s t : State) : Prop where
  claim : t.reg Reg.TWN_PCLAIM = s.reg Reg.TWN_PCLAIM
  noHb : t.twn.noHb = s.twn.noHb
  lost : t.twn.lost = s.twn.lost

section
variable {o s : State}

theorem BeatKept.refl (s : State) : BeatKept s s := ⟨rfl, rfl, rfl⟩

theorem BeatKept.ite {c : Prop} {_ : Decidable c} {a b : State} (ha : BeatKept o a) (hb : BeatKept o b) :
    BeatKept o (if c then a else b) := by
  split <;> assumption

theorem BeatKept.put (h : BeatKept o s) {f : Fd} (v : Nat) (hf : Reg.TWN_PCLAIM ≠ f.addr := by decide) :
    BeatKept o (s.put f v) := ⟨(s.reg_put_other hf).trans h.claim, h.noHb, h.lost⟩

theorem BeatKept.flag (h : BeatKept o s) {f : Fd} (b : Bool) (hf : Reg.TWN_PCLAIM ≠ f.addr := by decide) :
    BeatKept o (s.flag f b) := h.put _ hf

theorem State.twn_count (s : State) (c : Ctr) : (s.count c).twn = s.twn := by
  obtain ⟨_, _, _, _, h⟩ := s.countBy_frame c 1
  rw [State.count, h]

theorem BeatKept.raise (h : BeatKept o s) {n : Nat} (i : Nat) (hn : n < 256 := by decide) : BeatKept o (s.raise n i) :=
  ⟨(State.reg_raise_above s hn i (by decide)).trans h.claim, h.noHb, h.lost⟩

theorem BeatKept.count (h : BeatKept o s) {c : Ctr} (hc : Reg.TWN_PCLAIM ≠ c.sat.addr := by decide) :
    BeatKept o (s.count c) :=
  have htwn := s.twn_count c
  ⟨(State.reg_countBy_above s c 1 (by decide) hc).trans h.claim, htwn ▸ h.noHb, htwn ▸ h.lost⟩

theorem BeatKept.setTwn (h : BeatKept o s) {t : TwnS} (hn : t.noHb = s.twn.noHb := by rfl)
    (hl : t.lost = s.twn.lost := by rfl) : BeatKept o (s.setTwn t) := ⟨h.claim, hn.trans h.noHb, hl.trans h.lost⟩

theorem BeatKept.setTwin (h : BeatKept o s) (st : Nat) : BeatKept o (s.setTwin st) := by
  unfold State.setTwin
  extract_lets t paired t1 t2 s1
  have h1 : t1.noHb = s.twn.noHb ∧ t1.lost = s.twn.lost := by
    dsimp only [t1]
    split <;> exact ⟨rfl, rfl⟩
  have h2 : t2.noHb = s.twn.noHb ∧ t2.lost = s.twn.lost := by
    dsimp only [t2]
    split
    · exact h1
    · split
      · exact h1
      · split <;> exact h1
  have hs1 : BeatKept o s1 := (h.setTwn h2.1 h2.2).put _
  exact .ite h (BeatKept.raise (.ite (hs1.flag _) hs1) _)

theorem BeatKept.setEvt (h : BeatKept o s) (e : EvtS) : BeatKept o { s with evt := e } := ⟨h.claim, h.noHb, h.lost⟩

theorem BeatKept.rejectTwsend (h : BeatKept o s) (i : Nat) : BeatKept o (s.rejectTwsend i) :=
  ((h.setEvt _).count (c := ctrTwrej)).raise (n := 11) _

theorem BeatKept.foldl {α : Type} {f : State → α → State} {l : List α} (h : BeatKept o s)
    (hf : ∀ t x, BeatKept o t → BeatKept o (f t x)) : BeatKept o (l.foldl f s) := by
  induction l generalizing s with
  | nil => exact h
  | cons x l ih => exact ih (hf s x h)

theorem BeatKept.twinDown (h : BeatKept o s) : BeatKept o s.twinDown :=
  have hs : BeatKept o (s.setTwn { s.twn with history := [], downRows := 0 }).rejectBusy :=
    h.setTwn.foldl fun _ _ h => .ite (h.rejectTwsend _) h
  .ite (hs.setTwin _) hs

theorem BeatKept.showTwinLink (h : BeatKept o s) : BeatKept o s.showTwinLink :=
  .ite h (.ite (h.flag _).setTwn (h.flag _).twinDown)

theorem BeatKept.takeDelta (h : BeatKept o s) (d : Int) : BeatKept o (s.takeDelta d) :=
  have hs : BeatKept o ((s.setTwn { s.twn with deltas := (d :: s.twn.deltas).take 16 }).putS Fld.TWN_TICKOFF_VALUE
      (meanInt ((d :: s.twn.deltas).take 16))) := h.setTwn.put _
  .ite (.ite (hs.flag _) hs) (.ite ((hs.flag _).raise _) hs)

end

/-- A heartbeat shows the partner's claim word, and none is missing any more. -/
theorem State.takeHeartbeat_beat (s : State) (p : List Byte) (ns : Nat) :
    (s.takeHeartbeat p ns).reg Reg.TWN_PCLAIM = BitVec.ofNat 32 (beAt p 4 4) ∧ (s.takeHeartbeat p ns).twn.noHb = 0 ∧
      (s.takeHeartbeat p ns).twn.lost = false := by
  unfold State.takeHeartbeat
  extract_lets r a s1 t s2
  have hs1 : s1.reg Reg.TWN_PCLAIM = BitVec.ofNat 32 (beAt p 4 4) :=
    (State.reg_put_other _ (by decide)).trans (s.reg_setReg_same ..)
  have h : BeatKept (s1.setTwn { s1.twn with noHb := 0, hbRow := true, lost := false }) s2.showTwinLink :=
    ((BeatKept.refl _).takeDelta _).showTwinLink
  exact ⟨h.claim.trans hs1, h.noHb, h.lost⟩

/-! ### Frames without an answer (R519) -/

section
variable {s : State} {q : BitVec 32}

theorem exec_mirrorRetry_of_none (h : s.twn.unacked.find? (fun m => m.seq == q) = none) :
    exec (.mirrorRetry q) s = .next s := by
  change execMirrorRetry q s = _
  rw [execMirrorRetry, h]

/-- The frame that waits for its ACK is one try older. -/
def MirFrame.tried (q : Word) (x : MirFrame) : MirFrame := if x.seq = q then { x with tries := x.tries + 1 } else x

theorem exec_mirrorRetry_of_some {m : MirFrame} (h : s.twn.unacked.find? (fun m => m.seq == q) = some m) :
    exec (.mirrorRetry q) s = .next (if m.tries < 4 then
        ((s.setTwn { s.twn with unacked := s.twn.unacked.map (MirFrame.tried q) }).send (.twin (twinFrame 0x04 q
          (beBytes m.records.length 1 ++ List.replicate 7 0 ++ m.records.flatten)))).count (ctrTwn 5)
      else if s.twn.pause then s else (s.setTwn { s.twn with pause := true }).showTwinLink) := by
  change execMirrorRetry q s = _
  rw [execMirrorRetry, h]
  rfl

end

/-- Settles O50: the frame that is sent, the frames that are refused, the new ones by their types, and the mirror's retries. -/
theorem twinFrames : Obligations.TwinFrames := by
  refine ⟨fun t q p ht h8 hp => twinParse_twinFrame q ht h8 hp, fun b ns s => ?received, fun q s => ?retry⟩
  case received =>
    intro all
    have each {a : State} (h : ∀ want again f, s.takeTwin want b again f = a) : all (.next a) := fun i hi => by
      obtain ⟨want, again, f, hexec⟩ := exec_twinFrame hi s
      rw [hexec, h]
    refine ⟨fun h => each fun _ _ _ => State.takeTwin_of_deaf h,
      fun hu hs hb => each fun _ _ _ => State.takeTwin_of_garbled hu hs hb,
      fun t q p hu hs hb hp => each fun _ _ _ => State.takeTwin_of_misfit hu hs hb hp, fun q p => ?new⟩
    intro u
    have taken {want : Nat} {again f : State → Word → List Byte → State} (h : s.twinNew want b q p) {a : State}
        (ha : f u q p = a) : (.next (s.takeTwin want b again f) : Answer) = .next a :=
      congrArg Host.Outcome.next ((State.takeTwin_of_new h).trans ha)
    refine ⟨fun h => taken h rfl, fun h => ⟨_, taken h rfl, u.takeHeartbeat_beat p ns.toNat⟩, fun h => taken h rfl,
      fun h => taken h rfl, fun h => taken h rfl, fun h hi => taken h ?mbx, fun h hi hbusy hseq => ⟨fun h0 => taken h ?stored,
      fun h0 => taken h ?rejected⟩, fun h => taken h rfl, fun h h2 hm hp => taken h (if_pos ⟨h2, Bool.eq_false_iff.mp hm, hp⟩)⟩
    case mbx => simp only [if_pos hi]
    all_goals
      have hb : u.evt.twbusy.getLsbD (beAt p 0 1) = true := hbusy
      have hq : (u.twn.mbxSeq.get (fun _ => 0) (beAt p 0 1)).toNat = beAt p 4 4 := hseq
      have hmine : ¬ (!(decide (beAt p 0 1 < 8) && u.evt.twbusy.getLsbD (beAt p 0 1) &&
          (u.twn.mbxSeq.get (fun _ => 0) (beAt p 0 1)).toNat == beAt p 4 4)) = true := by
        rw [decide_eq_true hi, hb, hq, beq_self_eq_true]
        decide
    case stored => exact (if_neg hmine).trans (if_pos h0)
    case rejected => exact (if_neg hmine).trans (if_neg h0)
  case retry =>
    exact ⟨exec_mirrorRetry_of_none, fun m hm => ⟨fun ht => (exec_mirrorRetry_of_some hm).trans (congrArg _ (if_pos ht)),
      fun ht hp => (exec_mirrorRetry_of_some hm).trans (congrArg _ ((if_neg (by omega)).trans (if_neg (by simp [hp]))))⟩⟩

end Sys2Proof.Machine

/-! ## The twin unit and the referee (R505 to R531) -/

namespace Sys2Proof.Machine

section
variable {s : State}

/-! ### EN and JOIN (R512, R515) -/

/-- The unit in OFF after a write of TWN.CFG, with the claim word of its fields. -/
def State.twnConfigured (s : State) (w : Word) : State :=
  let u := s.writeReg Reg.TWN_CFG w
  u.put Fld.TWN_CLAIM_VALUE (u.claimOf u.gen)

theorem exec_twinEnWrite_of_off (w : Word) (h : s.twinState = 0) : exec (.twinEnWrite w) s =
    let u := s.twnConfigured w
    .next (if u.on Fld.TWN_CFG_EN then (if u.twinState = 0 then u.setTwin 1 else u)
      else if u.twinState = 0 then u else (u.setTwin 0).showTwinLink) := by
  have hfree : decide (s.twinState ≤ 1) = true := by simp [h]
  change (.next (s.writeTwnCfg w) : Answer) = _
  simp only [State.writeTwnCfg, hfree, Bool.true_or, if_true]
  rfl

theorem exec_join_of_waiting {w : Word} (hw : w.getLsbD 0 = true) (h : s.waitsJoin = true) :
    exec (.join w) s = .next s.doJoin := by
  have hbit : w.toNat % 2 ≠ 0 := fun h0 =>
    Bool.false_ne_true ((toNat_mod_two_eq_zero_iff.mp h0).symm.trans hw)
  exact congrArg Host.Outcome.next (if_pos ⟨by omega, h⟩)

theorem exec_join_of_ignored {w : Word} (h : w.getLsbD 0 = false ∨ s.waitsJoin = false) : exec (.join w) s = .next s := by
  refine congrArg Host.Outcome.next (if_neg fun ⟨hbit, hwait⟩ => ?_)
  rcases h with h | h
  · have h0 := toNat_mod_two_eq_zero_iff.mpr h
    omega
  · simp [h] at hwait

/-! ### What the unit sends (R511, R517, R521) -/

/-- A HELLO is sent, and shows what it has shown. -/
def State.helloSent (s : State) : State :=
  let u := s.twinSend 0x01 s.helloBytes
  u.setTwn { u.twn with joinShown := u.twn.joinReady, retry := u.twn.retry - 1 }

theorem exec_helloSend_of_seeking (h : s.twinState = 1 ∨ s.twinState = 2 ∨ s.twinState = 5) :
    exec .helloSend s = .next s.helloSent := congrArg Host.Outcome.next (if_pos h)

theorem exec_twinHeartbeatSend_of_off (ns : BitVec 24) (h : s.twinState = 0 ∨ s.twn.pause = true ∨ s.row.ticks = false) :
    exec (.twinHeartbeatSend ns) s = .next s := by
  refine congrArg Host.Outcome.next (if_neg fun ⟨hs, hp, ht⟩ => ?_)
  rcases h with h | h | h
  · exact hs h
  · exact hp h
  · simp [h] at ht

theorem exec_digestSend_of_paired {d : DigestSet} {l : List DigestSet} (hp : s.paired = true) (hd : s.disturbed = false)
    (ho : s.twn.own = d :: l) : exec .digestSend s = .next (s.twinSend 0x03 d.bytes) := by
  change execDigestSend s = _
  rw [execDigestSend, ho, hp, hd]
  rfl

theorem exec_pingMeasureEnd_of_pairing (h : s.twinState = 2) (hm : s.twn.measured = false) : exec .pingMeasureEnd s =
    let u := if s.twn.pongs.length < 8 then s else s.putS Fld.TWN_LINKDLY_VALUE (medianDelay s.twn.pongs)
    .next (u.setTwn { u.twn with measured := true }).judgeHello :=
  congrArg Host.Outcome.next (if_pos ⟨h, Bool.eq_false_iff.mp hm⟩)

/-- Out of PAIRING nothing is measured. -/
theorem exec_ping_of_other (h : s.twinState ≠ 2) : exec .pingSend s = .next s ∧ exec .pingMeasureEnd s = .next s :=
  ⟨congrArg Host.Outcome.next (if_neg fun ⟨h2, _⟩ => h h2), congrArg Host.Outcome.next (if_neg fun ⟨h2, _⟩ => h h2)⟩

/-! ### Heartbeats that stay away, and the link (R512, R516) -/

theorem exec_heartbeatLoss_of_two (h : 2 ≤ s.twn.noHb) : exec .heartbeatLoss s =
    let u := s.flag Fld.TWN_STAT_PALIVE false
    .next (if 4 ≤ u.twn.noHb ∧ u.twinUsable ∧ ¬ u.twn.lost then ((u.setTwn { u.twn with lost := true }).count (ctrTwn 0)).raise 228 1
      else u).showTwinLink := by
  change execHeartbeatLoss s = _
  simp only [execHeartbeatLoss, if_pos h]

theorem exec_linkDownTimeout_of_kept (h : s.paired = false ∨ s.on Fld.TWN_STAT_TLUP = true) :
    exec .linkDownTimeout s = .next s := by
  refine congrArg Host.Outcome.next (if_neg fun ⟨hp, hl, _⟩ => ?_)
  rcases h with h | h
  · simp [h] at hp
  · exact hl h

/-- STATE lies behind the registers of the events. -/
theorem State.twinState_raise {n : Nat} (s : State) (i : Nat) (hn : n < 256) : (s.raise n i).twinState = s.twinState :=
  State.get_congr (State.reg_raise_above s hn i (by decide))

/-- The unit's state is the one that it enters. -/
theorem State.twinState_setTwin (s : State) {st : Nat} (h : st < 16) : (s.setTwin st).twinState = st := by
  unfold State.setTwin
  extract_lets t paired t1 t2 s1
  have hs1 : s1.twinState = st := (State.get_put_fits _ st (by rfl)).trans (Nat.mod_eq_of_lt h)
  split
  · assumption
  · refine (State.twinState_raise _ _ (by decide)).trans ?_
    split
    · exact (State.get_flag_apart _ _ (by rfl)).trans hs1
    · exact hs1

theorem exec_settleEnd_of_other (h : s.twinState ≠ 3 ∨ s.twn.settle ≠ 0) : exec .settleEnd s = .next s :=
  congrArg Host.Outcome.next (if_neg fun ⟨h3, h0⟩ => h.elim (fun h => h h3) (fun h => h h0))

/-! ### Grants (R526 to R531) -/

theorem exec_refereeHeartbeatSend_of_none
    (h : s.twinState = 0 ∨ s.get Fld.TWN_REFCTL_REFPORT = 0 ∨ s.get Fld.TWN_REFIP_ADDR = 0) :
    exec .refereeHeartbeatSend s = .next s :=
  congrArg Host.Outcome.next (if_neg fun ⟨hs, hp, hi, _⟩ => by rcases h with h | h | h <;> contradiction)

variable {d : List (BitVec 8)}

theorem exec_refereeHeartbeatReceive_of_disabled (h : s.on Fld.REF_CFG_EN = false) :
    exec (.refereeHeartbeatReceive d) s = .next s := congrArg Host.Outcome.next (if_pos (by simp [h]))

theorem exec_refereeHeartbeatReceive_of_length (h : s.on Fld.REF_CFG_EN = true) (hd : d.length ≠ 20) :
    exec (.refereeHeartbeatReceive d) s = .next (s.count (ctrRefU 1)) :=
  congrArg Host.Outcome.next ((if_neg (by simp [h])).trans (if_pos (by simp [hd])))

/-- The datagram is no grant for this pair. -/
def State.alienGrant (s : State) (d : List (BitVec 8)) : Prop :=
  d.length ≠ 32 ∨ beAt d 0 4 ≠ 0xD72E0102 ∨ beAt d 4 2 ≠ s.get Fld.TWN_CFG_PAIRID

/-- A number is not later than itself. -/
theorem not_laterThan_ofNat (q : Nat) : laterThan 32 q (BitVec.ofNat 32 q).toNat = false := by
  have hd : (q + 2 ^ 32 - q % 2 ^ 32 % 2 ^ 32) % 2 ^ 32 = 0 := by omega
  rw [BitVec.toNat_ofNat, laterThan, hd]
  rfl

/-- An accepted grant has another sequence number than the one accepted before. -/
theorem State.gseq_ne_of_accepted (h : s.grantResult d = 1) : s.twn.gseq ≠ some (BitVec.ofNat 32 (beAt d 12 4)) := by
  intro hq
  unfold State.grantResult at h
  rw [hq] at h
  simp only [not_laterThan_ofNat, Bool.not_false, if_true] at h
  split at h
  · cases h
  · split at h <;> cases h

/-- The grant joins those that wait for their row tick. -/
def State.grantTaken (s : State) (d : List (BitVec 8)) : State :=
  let u := s.put Fld.TWN_GRANTRES_RES (s.grantResult d)
  let q : Word := BitVec.ofNat 32 (beAt d 12 4)
  ((u.setReg Reg.TWN_GRANTSEQ q).setTwn { u.twn with
    gseq := some q, grants := u.twn.grants ++ [(beAt d 16 4 % 2 ^ 28, beAt d 20 1 % 2 == 1)] }).raise 230 (1 + 16 * (beAt d 20 1 % 2))

theorem State.takeGrant_of_alien (h : s.alienGrant d) : s.takeGrant d = s.count (ctrTwn 6) := if_pos h

theorem State.takeGrant_of_copy (h : ¬ s.alienGrant d)
    (hc : s.grantResult d = 4 ∧ s.twn.gseq = some (BitVec.ofNat 32 (beAt d 12 4))) : s.takeGrant d = s :=
  (if_neg h).trans (if_pos hc)

theorem State.takeGrant_of_accepted (h : ¬ s.alienGrant d) (h1 : s.grantResult d = 1) : s.takeGrant d = s.grantTaken d := by
  refine (if_neg h).trans ((if_neg fun ⟨h4, _⟩ => by omega).trans ?_)
  simp only [State.grantTaken, h1, if_true]

/-- A refused grant is counted and reported. -/
def State.grantRefused (s : State) (d : List (BitVec 8)) : State :=
  ((s.put Fld.TWN_GRANTRES_RES (s.grantResult d)).count (ctrTwn 6)).raise 230 (s.grantResult d + 16 * (beAt d 20 1 % 2))

theorem State.takeGrant_of_refused (h : ¬ s.alienGrant d) (h1 : s.grantResult d ≠ 1)
    (hc : ¬ (s.grantResult d = 4 ∧ s.twn.gseq = some (BitVec.ofNat 32 (beAt d 12 4)))) : s.takeGrant d = s.grantRefused d := by
  refine (if_neg h).trans ((if_neg hc).trans ?_)
  simp only [if_neg h1]
  rfl

/-- Only an accepted grant ends the swatches. -/
theorem exec_grant_of_unaccepted {t : State} (h : s.takeGrant d = t) (hq : t.twn = s.twn) : exec (.grant d) s = .next t := by
  change execGrant d s = _
  rw [execGrant, h]
  exact congrArg _ (if_neg (by simp [hq]))

theorem exec_grant_of_alien (h : s.alienGrant d) : exec (.grant d) s = .next (s.count (ctrTwn 6)) :=
  exec_grant_of_unaccepted (State.takeGrant_of_alien h) (s.twn_count _)

theorem exec_grant_of_own (h : ¬ s.alienGrant d) : exec (.grant d) s =
    .next (if s.grantResult d = 4 ∧ s.twn.gseq = some (BitVec.ofNat 32 (beAt d 12 4)) then s
      else if s.grantResult d = 1 then (s.grantTaken d).abortSwatches else s.grantRefused d) := by
  by_cases hc : s.grantResult d = 4 ∧ s.twn.gseq = some (BitVec.ofNat 32 (beAt d 12 4))
  · rw [if_pos hc]
    exact exec_grant_of_unaccepted (State.takeGrant_of_copy h hc) rfl
  · rw [if_neg hc]
    by_cases h1 : s.grantResult d = 1
    · rw [if_pos h1]
      change execGrant d s = _
      rw [execGrant, State.takeGrant_of_accepted h h1]
      have hne : (s.grantTaken d).twn.gseq ≠ s.twn.gseq := (State.gseq_ne_of_accepted h1).symm
      exact congrArg _ (if_pos (by simp [hne]))
    · rw [if_neg h1]
      exact exec_grant_of_unaccepted (State.takeGrant_of_refused h h1 hc) (State.twn_count ..)

theorem exec_grantApply_of_none (h : s.twn.grants = []) : exec .grantApply s = .next s := by
  change (.next s.applyGrant : Answer) = _
  rw [State.applyGrant, h]

theorem exec_grantApply_of_some {g : Nat} {r : Bool} {l : List (Nat × Bool)} (h : s.twn.grants = (g, r) :: l)
    (hs : s.twinState ≠ 0) : exec .grantApply s =
      let u := (s.setTwn { s.twn with grants := l }).setGen g
      .next (if r && u.on Fld.TWN_CFG_RSTEN then
        ((u.setTwn { u.twn with prst := true }).send (.ball "PRST_OUT" true)).raise 231 1 else u) := by
  change (.next s.applyGrant : Answer) = _
  rw [State.applyGrant, h]
  exact congrArg _ (if_neg hs)

end

/-- Settles O51: EN and JOIN, what the unit sends and what it waits for, the referee's heartbeats and grants. -/
theorem twinUnit : Obligations.TwinUnit := by
  refine ⟨fun w s => ⟨fun h _ => ?enable, exec_join_of_waiting, exec_join_of_ignored⟩, fun s => ?unit,
    fun s => ?referee, fun d s => ?grant, fun s => ?apply⟩
  case enable =>
    have hexec := exec_twinEnWrite_of_off w h
    exact ⟨fun hen h0 => hexec.trans (congrArg _ ((if_pos hen).trans (if_pos h0))),
      fun hen h0 => hexec.trans (congrArg _ ((if_neg (Bool.eq_false_iff.mp hen)).trans (if_pos h0)))⟩
  case unit =>
    refine ⟨fun h => ⟨_, exec_helloSend_of_seeking h, rfl, rfl, rfl⟩,
      fun h => congrArg Host.Outcome.next (if_neg (by omega)),
      fun ns => ⟨fun hs hp ht => congrArg Host.Outcome.next (if_pos ⟨hs, Bool.eq_false_iff.mp hp, ht⟩),
        exec_twinHeartbeatSend_of_off ns⟩,
      fun h2 h4 => (exec_heartbeatLoss_of_two h2).trans ?late, fun h4 hl hu => (exec_heartbeatLoss_of_two (by omega)).trans ?lost,
      fun hp hl ht => congrArg Host.Outcome.next (if_pos ⟨hp, Bool.eq_false_iff.mp hl, ht⟩), exec_linkDownTimeout_of_kept,
      fun h3 h0 => ⟨_, congrArg Host.Outcome.next (if_pos ⟨h3, h0⟩), s.twinState_setTwin (by decide)⟩, exec_settleEnd_of_other,
      fun d l hp hd ho => exec_digestSend_of_paired hp hd ho, fun hp => congrArg Host.Outcome.next (if_neg (by simp [hp])),
      fun h2 hn => congrArg Host.Outcome.next (if_pos ⟨h2, hn⟩), exec_ping_of_other, exec_pingMeasureEnd_of_pairing⟩
    case late => exact congrArg (fun u : State => Host.Outcome.next u.showTwinLink) (if_neg fun ⟨h, _⟩ => absurd h (Nat.not_le.mpr h4))
    case lost => exact congrArg (fun u : State => Host.Outcome.next u.showTwinLink) (if_pos ⟨h4, hu, Bool.eq_false_iff.mp hl⟩)
  case referee =>
    exact ⟨fun hs hp hi ht => congrArg Host.Outcome.next (if_pos ⟨hs, hp, hi, ht⟩), exec_refereeHeartbeatSend_of_none⟩
  case grant =>
    refine ⟨exec_refereeHeartbeatReceive_of_disabled, exec_refereeHeartbeatReceive_of_length, exec_grant_of_alien,
      fun hl hm hp => (exec_grant_of_own ?own).trans ?result⟩
    case own => simp [State.alienGrant, hl, hm, hp]
    case result => rfl
  case apply =>
    refine ⟨exec_grantApply_of_none, fun g r l h hs => ⟨fun hr => (exec_grantApply_of_some h hs).trans ?plain,
      fun hr hen => (exec_grantApply_of_some h hs).trans ?reset⟩, fun h => congrArg Host.Outcome.next (if_pos h),
      fun h => congrArg Host.Outcome.next (if_neg (Bool.eq_false_iff.mp h))⟩
    case plain => exact congrArg _ (if_neg (by rcases hr with hr | hr <;> simp [hr]))
    case reset => exact congrArg _ (if_pos (by rw [hr, hen]; rfl))

end Sys2Proof.Machine

/-! ## Commands and states of the local ports (R363, R375 to R386) -/

namespace Sys2Proof.Machine

/-! ### STAT of a port -/

/-- The registers of the ports lie behind those of the events. -/
theorem portStat_above (p : Nat) : Reg.EVT_INFO 256 ≤ Reg.PORT_STAT p := by
  simp only [Reg.EVT_INFO, Reg.PORT_STAT, portBase]
  split
  · omega
  · split
    · omega
    · split <;> omega

section
variable (s : State) (p : Nat)

@[simp] theorem State.lport_modLport (g : LocPort → LocPort) : (s.modLport p g).lport p = g (s.lport p) := Table.get_set_same ..

theorem State.setLstate_of_change {st : Nat} (h : s.lstate p ≠ st) : s.setLstate p st =
    let u := s.put (Fld.PORT_STAT_STATE p) st
    if st = 0 ∨ st = 4 ∨ st = 7 then u.raise 162 (p + 256 * st) else u := if_neg h

/-- A field of STAT beside STATE survives its change. -/
theorem State.get_setLstate {st : Nat} {f : Fd} (hf : f.addr = Reg.PORT_STAT p)
    (h : (Fld.PORT_STAT_STATE p).apart f = true) : (s.setLstate p st).get f = s.get f := by
  by_cases hst : s.lstate p = st
  · rw [State.setLstate, if_pos hst]
  · rw [State.setLstate_of_change s p hst]
    dsimp only
    split
    · exact (State.get_congr (State.reg_raise_above _ (by decide) _ (hf ▸ portStat_above p))).trans (State.get_put_apart _ _ h)
    · exact State.get_put_apart _ _ h

theorem State.lstate_setLstate {st : Nat} (h : st < 16) : (s.setLstate p st).lstate p = st := by
  have hput : (s.put (Fld.PORT_STAT_STATE p) st).lstate p = st := (State.get_put_fits _ st (by rfl)).trans (Nat.mod_eq_of_lt h)
  by_cases hst : s.lstate p = st
  · rw [State.setLstate, if_pos hst, hst]
  · rw [State.setLstate_of_change s p hst]
    dsimp only
    split
    · exact (State.get_congr (State.reg_raise_above _ (by decide) _ (portStat_above p))).trans hput
    · exact hput

@[simp] theorem State.lport_raise (n i q : Nat) : (s.raise n i).lport q = s.lport q := rfl

@[simp] theorem State.lport_put (f : Fd) (v q : Nat) : (s.put f v).lport q = s.lport q := rfl

theorem State.lport_setLstate (st q : Nat) : (s.setLstate p st).lport q = s.lport q := by
  unfold State.setLstate
  split
  · rfl
  · dsimp only
    split
    · rw [State.lport_raise, State.lport_put]
    · rw [State.lport_put]

/-- The masks lie beside STAT. -/
theorem State.reg_copyMasks : (s.copyMasks p).reg (Reg.PORT_STAT p) = s.reg (Reg.PORT_STAT p) := by
  unfold State.copyMasks
  split
  · next h =>
    have hp : p < 16 := of_decide_eq_true h
    rw [State.reg_setReg_other, State.reg_setReg_other]
    all_goals
      simp only [Reg.PORT_STAT, portBase, Reg.TDM_MASK_RX_ACT, Reg.TDM_MASK_TX_ACT, if_pos hp]
      omega
  · split
    · next h =>
      obtain ⟨h32, h34⟩ : 32 ≤ p ∧ p < 34 := by simpa [isMadi] using h
      have hbase : portBase p = 0x410000 + 0x10000 * (p - 32) := by
        rw [portBase, if_neg (by omega), if_neg (by omega), if_neg (by omega)]
      have hidx : addrs 0 1 2 = [0, 1] := by decide
      simp only [hidx, List.foldl_cons, List.foldl_nil]
      rw [State.reg_setReg_other, State.reg_setReg_other, State.reg_setReg_other, State.reg_setReg_other]
      all_goals
        simp only [Reg.PORT_STAT, hbase, Reg.MADI_MASK_RX_ACT, Reg.MADI_MASK_TX_ACT]
        omega
    · rfl

end

/-! ### Commands of one port (R377, R382, R384) -/

section
variable {s : State} {p : Nat}

theorem State.armPort_of_bad (solo : Bool) (h : s.portConfigOk p = false) :
    s.armPort p solo = s.put (Fld.PORT_STAT_REASON p) 7 := if_pos (by simp [h])

/-- The port forgets its past, shows no reason and takes its masks. -/
def State.portCleared (s : State) (p : Nat) (solo : Bool) : State :=
  ((s.modLport p (fun x => { x.clear with solo := solo, txPos := 0 })).put (Fld.PORT_STAT_REASON p) 0).copyMasks p

theorem State.armPort_of_good (solo : Bool) (h : s.portConfigOk p = true) : s.armPort p solo =
    let u := (s.portCleared p solo).setLstate p 1
    if isTdm p && s.on (Fld.TDM_CFG_MASTER p) then
      u.put (Fld.PORT_STAT_PHASE p) (s.get (Fld.TDM_PHASE_FSOFF p) * 1000000000 / (s.fs * s.tdmLen p))
    else u := if_neg (by simp [h])

theorem State.reason_portCleared (solo : Bool) : (s.portCleared p solo).get (Fld.PORT_STAT_REASON p) = 0 :=
  (State.get_congr (State.reg_copyMasks ..)).trans (State.get_put_fits _ 0 (by rfl))

theorem State.lstate_armPort (solo : Bool) (h : s.portConfigOk p = true) : (s.armPort p solo).lstate p = 1 := by
  have hst := (s.portCleared p solo).lstate_setLstate p (st := 1) (by decide)
  rw [State.armPort_of_good solo h]
  dsimp only
  split
  · exact (State.get_put_apart _ _ (by rfl)).trans hst
  · exact hst

theorem State.reason_armPort (solo : Bool) (h : s.portConfigOk p = true) :
    (s.armPort p solo).get (Fld.PORT_STAT_REASON p) = 0 := by
  have hreason : ((s.portCleared p solo).setLstate p 1).get (Fld.PORT_STAT_REASON p) = 0 :=
    (State.get_setLstate _ p (by rfl) (by rfl)).trans (State.reason_portCleared solo)
  rw [State.armPort_of_good solo h]
  dsimp only
  split
  · exact (State.get_put_apart _ _ (by rfl)).trans hreason
  · exact hreason

theorem State.castOnPort_of_off (h : s.lstate p = 0) : s.castOnPort p = s.armPort p false := if_pos h

theorem State.castOnPort_of_on (h : s.lstate p ≠ 0) : s.castOnPort p = s.refusePort p := if_neg h

theorem State.bindOffPort_of_off (h : s.lstate p = 0) : s.bindOffPort p = s.refusePort p := if_pos h

theorem State.bindOffPort_of_silent (h : s.lstate p = 1 ∨ s.lstate p = 2 ∨ s.lstate p = 7) :
    s.bindOffPort p = s.portOff p := (if_neg (by omega)).trans (if_pos h)

theorem State.bindOffPort_of_ending (h : s.lstate p = 5 ∨ s.lstate p = 6) : s.bindOffPort p = s := by
  refine (if_neg (by omega)).trans ((if_neg ?_).trans (if_neg ?_)) <;> omega

/-- By pre-clock the port leaves OPENING and RUN for POSTCLK. -/
theorem State.bindOffPort_of_preclock (h : s.lstate p = 3 ∨ s.lstate p = 4) (hm : s.on (Fld.PORT_START_CFG_METHOD p) = true) :
    s.bindOffPort p = (s.modLport p (fun x => { x with stopAt := some s.row.rowIdx })).setLstate p 6 :=
  (if_neg (by omega)).trans ((if_neg (by omega)).trans ((if_pos h).trans (if_pos hm)))

/-- By zero crossing it closes from the row that runs. -/
theorem State.bindOffPort_of_crossing (h : s.lstate p = 3 ∨ s.lstate p = 4) (hm : s.on (Fld.PORT_START_CFG_METHOD p) = false) :
    ∃ zi zo, s.bindOffPort p =
      (s.modLport p (fun x => { x with zfrom := s.row.rowIdx, zlate := false, zin := zi, zout := zo })).setLstate p 5 :=
  ⟨_, _, (if_neg (by omega)).trans ((if_neg (by omega)).trans ((if_pos h).trans (if_neg (Bool.eq_false_iff.mp hm))))⟩

theorem State.commitPort_of_aes (h : isAesIn p = true ∨ isAesOut p = true) : s.commitPort p = s.invalid (Reg.PORT_CMD p) := if_pos h

/-- The kinds of ports exclude each other. -/
theorem not_aes_of_masked (h : isTdm p = true ∨ isMadi p = true) : ¬ (isAesIn p = true ∨ isAesOut p = true) := by
  simp only [isTdm, isMadi, isAesIn, isAesOut, Bool.and_eq_true, decide_eq_true_eq] at h ⊢
  omega

theorem State.commitPort_of_off (h : isTdm p = true ∨ isMadi p = true) (h0 : s.lstate p = 0) :
    s.commitPort p = s.copyMasks p := (if_neg (not_aes_of_masked h)).trans (if_pos h0)

theorem State.commitPort_of_on (h : isTdm p = true ∨ isMadi p = true) (h0 : s.lstate p ≠ 0) :
    s.commitPort p = s.modLport p (fun x => { x with commitDue := true }) :=
  (if_neg (not_aes_of_masked h)).trans (if_neg h0)

end

/-! ### Commands of a group (R379 to R381, R386) -/

section
variable {s : State} {g op : Nat} {w : Word} {c : Word}

theorem op_of_groupCmdIs {r : TpRec} (h : groupCmdIs op g r = true) : r.value.toNat / 2 ^ 30 = op := by
  have hop := (Bool.and_eq_true_iff.mp h).2
  simpa using hop

/-- With no record left no member binds off before a start. -/
theorem State.applyGroupCmd_of_empty (h : s.row.tpq = []) :
    s.applyGroupCmd g w = s.groupCommand g (w.toNat / 2 ^ 30) (w.getLsbD 29) s.tickRow := by
  have hnone (f : State → TpRec → State) (p : TpRec → Bool) : s.applyFirst p f = s :=
    State.applyFirst_none (by simp [h]) f
  have hfold (l : List Nat) : l.foldl (fun s p => s.applyFirst (portCmdIs 2 p) (fun s _ => s.bindOffPort p)) s = s := by
    induction l with
    | nil => rfl
    | cons p l ih => rw [List.foldl_cons, hnone, ih]
  simp only [State.applyGroupCmd, hfold, ite_self]

/-- A group without a pending operation fixes the row of one that lies far enough ahead. -/
theorem State.groupCommand_of_free (h0 : op ≠ 0) (hg : s.group g = ⟨none, false⟩) : s.groupCommand g op false c =
    let k := s.reg (Reg.GRP_ROW g)
    let u := s.put (Fld.GRP_STAT_RESULT g) 1
    if (k - c).toNat < (if op = 1 then s.maxPreclk g + 1 else 1) ∨ 2 ^ 24 < (k - c).toNat then s.put (Fld.GRP_STAT_RESULT g) 3
    else if op = 1 then u.scheduleStart g k else u.setGroup g ⟨some (op, k), false⟩ := by
  simp [State.groupCommand, h0, hg]

end

section
variable {s : State} {g : Fin 4} {r : TpRec} (hf : s.front r []) (hg : s.group g = ⟨none, false⟩) (hpin : r.value.getLsbD 29 = false)
include hf hg hpin

/-- The three group commands at their record. -/
theorem State.applyFirst_group {op : Nat} (h0 : op ≠ 0) (hr : groupCmdIs op g r = true) :
    s.applyFirst (groupCmdIs op g) (fun s r => s.applyGroupCmd g r.value) =
      let u := s.withQueue []
      let k := s.reg (Reg.GRP_ROW g)
      let v := u.put (Fld.GRP_STAT_RESULT g) 1
      if (k - s.tickRow).toNat < (if op = 1 then u.maxPreclk g + 1 else 1) ∨ 2 ^ 24 < (k - s.tickRow).toNat then
        u.put (Fld.GRP_STAT_RESULT g) 3
      else if op = 1 then v.scheduleStart g k else v.setGroup g ⟨some (op, k), false⟩ := by
  refine (State.applyFirst_front hf hr _).trans ((State.applyGroupCmd_of_empty rfl).trans ?_)
  rw [op_of_groupCmdIs hr, hpin]
  exact State.groupCommand_of_free h0 hg

end

/-! ### The START ball (R380) -/

section
variable {s : State}

theorem mem_groups (g : Fin 4) : g.val ∈ addrs 0 1 4 := by
  revert g
  decide

theorem lt_four_of_mem {g : Nat} (h : g ∈ addrs 0 1 4) : g < 4 := by
  revert g
  decide

/-- A waiting group starts at the row that the ball gives. -/
def State.pinStart (s : State) (g : Nat) : State :=
  if (s.group g).pin then
    let k := s.row.rowIdx + 1 + BitVec.ofNat 32 (s.maxPreclk g + 1)
    (s.setReg (Reg.GRP_ROW g) k).scheduleStart g k
  else s

theorem exec_startPinEdge_of_ticks (h : s.row.ticks = true) :
    exec .startPinEdge s = .next ((addrs 0 1 4).foldl State.pinStart s) := congrArg Host.Outcome.next (if_pos h)

theorem State.foldl_pinStart_of_no_pin {l : List Nat} (h : ∀ g ∈ l, (s.group g).pin = false) : l.foldl State.pinStart s = s := by
  induction l with
  | nil => rfl
  | cons g l ih =>
    have hs : s.pinStart g = s := if_neg (by simp [h g])
    rw [List.foldl_cons, hs, ih fun g hg => h g (List.mem_cons_of_mem _ hg)]

theorem State.group_setGroup (s : State) (g h : Nat) (x : LocGroup) :
    (s.setGroup g x).group h = if h = g then x else s.group h := Table.get_set (fun _ => locGroupReset) s.loc.group g h x

theorem State.group_modLport (s : State) (p h : Nat) (f : LocPort → LocPort) : (s.modLport p f).group h = s.group h := rfl

theorem State.group_put (s : State) (f : Fd) (v h : Nat) : (s.put f v).group h = s.group h := rfl

/-- A start is fixed for its own group alone. -/
theorem State.group_scheduleStart (s : State) (g h : Nat) (k : Word) :
    (s.scheduleStart g k).group h = if h = g then ⟨some (1, k), false⟩ else s.group h := by
  have hfold (l : List Nat) (s : State) : (l.foldl (fun s p =>
      if s.lstate p = 1 then s.modLport p (fun x => { x with startAt := some k }) else s.put (Fld.PORT_STAT_REASON p) 6) s).group h =
        s.group h := by
    induction l generalizing s with
    | nil => rfl
    | cons p l ih =>
      rw [List.foldl_cons, ih]
      split
      · rw [State.group_modLport]
      · rw [State.group_put]
  rw [State.scheduleStart, hfold, State.group_setGroup]

/-- Where one group waits for the ball, it alone starts. -/
theorem State.foldl_pinStart_of_one {g : Nat} {l : List Nat} (hg : g ∈ l) (hl : l.Nodup) (hpin : (s.group g).pin = true)
    (h : ∀ h ∈ l, h ≠ g → (s.group h).pin = false) : l.foldl State.pinStart s = s.pinStart g := by
  induction l with
  | nil => cases hg
  | cons a l ih =>
    obtain ⟨ha, hl⟩ := List.nodup_cons.mp hl
    rw [List.foldl_cons]
    by_cases hag : a = g
    · subst hag
      refine State.foldl_pinStart_of_no_pin fun b hb => ?_
      have hba : b ≠ a := fun e => ha (e ▸ hb)
      rw [State.pinStart, if_pos hpin, State.group_scheduleStart, if_neg hba]
      exact h b (List.mem_cons_of_mem _ hb) hba
    · have hs : s.pinStart a = s := if_neg (by simp [h a (List.mem_cons_self ..) hag])
      rw [hs]
      exact ih ((List.mem_cons.mp hg).resolve_left (Ne.symm hag)) hl fun b hb => h b (List.mem_cons_of_mem _ hb)

/-! ### Ports at their rows (R363, R376, R378, R379) -/

variable {p : Fin 34}

theorem exec_portStart_of_idle (h : s.lstate p ≠ 1 ∨ s.row.ticks = false) : exec (.portStart p) s = .next s :=
  if_pos (by rcases h with h | h <;> simp [h])

theorem exec_portStart_of_armed (h : s.lstate p = 1) (ht : s.row.ticks = true) : exec (.portStart p) s =
    let n := BitVec.ofNat 32 (s.preclk p)
    if s.grouped p then
      match (s.lport p).startAt with
      | some k =>
        if s.row.rowIdx = k - n then .next (if s.portLocked p then s.beginPort p k else s.portFault p 1) else .next s
      | none => .next s
    else .next (if s.portLocked p then s.beginPort p (s.row.rowIdx + n) else s) := if_neg (by simp [h, ht])

theorem exec_portStart_of_alone (h : s.lstate p = 1) (ht : s.row.ticks = true) (hg : s.grouped p = false) :
    exec (.portStart p) s =
      .next (if s.portLocked p then s.beginPort p (s.row.rowIdx + BitVec.ofNat 32 (s.preclk p)) else s) := by
  rw [exec_portStart_of_armed h ht, hg]
  rfl

theorem exec_portStart_of_grouped {k : Word} (h : s.lstate p = 1) (ht : s.row.ticks = true) (hg : s.grouped p = true)
    (hk : (s.lport p).startAt = some k) : exec (.portStart p) s =
      if s.row.rowIdx = k - BitVec.ofNat 32 (s.preclk p) then
        .next (if s.portLocked p then s.beginPort p k else s.portFault p 1) else .next s := by
  rw [exec_portStart_of_armed h ht, hg, hk]
  rfl

theorem exec_postclkEnd_of_stopping {k : Word} (h : s.lstate p = 6) (hk : (s.lport p).stopAt = some k) :
    exec (.postclkEnd p) s =
      .next (if s.get (Fld.PORT_START_CFG_PRECLK p) ≤ (s.row.rowIdx - k).toNat then s.portOff p else s) := by
  change execPostclkEnd p s = _
  simp only [execPostclkEnd, hk, h, true_and]

theorem exec_zcTimeout_of_turning (h : s.lstate p = 3 ∨ s.lstate p = 5) (hz : (s.lport p).zlate = false) :
    exec (.zcTimeout p) s = .next (if s.zcRows p ≤ (s.row.rowIdx - (s.lport p).zfrom).toNat then
      ((s.setLport p { s.lport p with zlate := true }).count (ctrPort p 2)).raise 164 p else s) := by
  change execZcTimeout p s = _
  simp only [execZcTimeout, h, hz, Bool.not_false, true_and]

theorem exec_portAutoRearm_of_other (h : s.lstate p ≠ 7 ∨ s.on (Fld.PORT_START_CFG_AUTO p) = false) :
    exec (.portAutoRearm p) s = .next s :=
  congrArg Host.Outcome.next (if_neg fun ⟨h7, ha, _⟩ => h.elim (fun h => h h7) (fun h => Bool.eq_false_iff.mp h ha))

end

/-- Settles O41: the commands of a port and of a group at their record, the START ball, and the ports at their rows. -/
theorem localPortStates : Obligations.LocalPortStates := by
  refine ⟨fun p s r q hf => ?port, fun g s r hf hg hpin => ?group, fun s => ?pin, fun p s => ?rows⟩
  case port =>
    intro u
    have front {op : Nat} (hr : portCmdIs op p r = true) {f : State → State} {t : State} (h : f u = t) :
        (.next (s.applyFirst (portCmdIs op p) (fun s _ => f s)) : Answer) = .next t :=
      congrArg Host.Outcome.next ((State.applyFirst_front hf hr _).trans h)
    refine ⟨fun hr => ⟨fun h0 hok => ?armed, fun h0 hbad => ?bad, fun h0 => front hr (State.castOnPort_of_on h0)⟩,
      fun hr => ⟨fun h0 => front hr (State.bindOffPort_of_off h0), fun h => front hr (State.bindOffPort_of_silent h),
        fun h hm => front hr (State.bindOffPort_of_preclock h hm), fun h hm => ?closing,
        fun h => front hr (State.bindOffPort_of_ending h)⟩,
      fun hr => ⟨fun h => front hr (State.commitPort_of_aes h), fun h h0 => front hr (State.commitPort_of_off h h0),
        fun h h0 => front hr (State.commitPort_of_on h h0)⟩⟩
    case armed =>
      exact ⟨_, front hr (State.castOnPort_of_off h0), State.lstate_armPort false hok, State.reason_armPort false hok⟩
    case bad => exact front hr ((State.castOnPort_of_off (s := u) h0).trans (State.armPort_of_bad false hbad))
    case closing =>
      obtain ⟨zi, zo, hoff⟩ := State.bindOffPort_of_crossing (s := u) h hm
      refine ⟨_, front hr hoff, State.lstate_setLstate _ _ (by decide), ?_, ?_⟩
      · exact congrArg LocPort.zfrom ((State.lport_setLstate ..).trans (State.lport_modLport ..))
      · exact congrArg LocPort.zlate ((State.lport_setLstate ..).trans (State.lport_modLport ..))
  case group =>
    intro u k lead
    have at_ {op : Nat} (h0 : op ≠ 0) (hr : groupCmdIs op g r = true) := State.applyFirst_group hf hg hpin h0 hr
    refine ⟨fun hr => ⟨fun hlow hhigh => ?start, fun hlow => ?near⟩, fun hr hlow hhigh => ?stop, fun hr hlow hhigh => ?commit⟩
    case start =>
      exact congrArg Host.Outcome.next ((at_ (by decide) hr).trans
        ((if_neg (not_or.mpr ⟨Nat.not_lt.mpr hlow, Nat.not_lt.mpr hhigh⟩)).trans (if_pos rfl)))
    case near => exact congrArg Host.Outcome.next ((at_ (by decide) hr).trans (if_pos (.inl hlow)))
    all_goals
      exact congrArg Host.Outcome.next ((at_ (by decide) hr).trans
        ((if_neg (not_or.mpr ⟨Nat.not_lt.mpr hlow, Nat.not_lt.mpr hhigh⟩)).trans (if_neg (by decide))))
  case pin =>
    refine ⟨fun ht => congrArg Host.Outcome.next (if_neg (Bool.eq_false_iff.mp ht)), fun hno => ?none, fun g ht hpin hno => ?one⟩
    case none =>
      cases ht : s.row.ticks
      · exact congrArg Host.Outcome.next (if_neg (Bool.eq_false_iff.mp ht))
      · rw [exec_startPinEdge_of_ticks ht, State.foldl_pinStart_of_no_pin fun g hg => hno ⟨g, lt_four_of_mem hg⟩]
    case one =>
      rw [exec_startPinEdge_of_ticks ht, State.foldl_pinStart_of_one (mem_groups g) (by decide) hpin
        fun h hh hne => hno ⟨h, lt_four_of_mem hh⟩ (fun e => hne (congrArg Fin.val e)), State.pinStart, if_pos hpin]
  case rows =>
    intro n
    refine ⟨exec_portStart_of_idle, fun h ht hg => ⟨fun hl => ?alone, fun hl => ?aloneWaits⟩,
      fun k h ht hg hk => ⟨fun hrow hl => ?begins, fun hrow hl => ?unlocked, fun hrow => ?notYet⟩,
      fun h hk => congrArg Host.Outcome.next (if_pos ⟨h, hk⟩), fun h => congrArg Host.Outcome.next (if_neg fun ⟨h2, _⟩ => h h2),
      fun k h hk => ⟨fun hn => ?ended, fun hn => ?goesOn⟩, fun h hz => ⟨fun hn => ?late, fun hn => ?inTime⟩,
      fun h ha hl => congrArg Host.Outcome.next (if_pos ⟨h, ha, hl⟩), exec_portAutoRearm_of_other⟩
    case alone => rw [exec_portStart_of_alone h ht hg, if_pos hl]
    case aloneWaits => rw [exec_portStart_of_alone h ht hg, hl, if_neg Bool.false_ne_true]
    case begins => rw [exec_portStart_of_grouped h ht hg hk, if_pos hrow, if_pos hl]
    case unlocked => rw [exec_portStart_of_grouped h ht hg hk, if_pos hrow, hl, if_neg Bool.false_ne_true]
    case notYet => rw [exec_portStart_of_grouped h ht hg hk, if_neg hrow]
    case ended => rw [exec_postclkEnd_of_stopping h hk, if_pos hn]
    case goesOn => rw [exec_postclkEnd_of_stopping h hk, if_neg (Nat.not_le.mpr hn)]
    case late => rw [exec_zcTimeout_of_turning h hz, if_pos hn]
    case inTime => rw [exec_zcTimeout_of_turning h hz, if_neg (Nat.not_le.mpr hn)]

end Sys2Proof.Machine

/-! ## Frames of the local ports (R356 to R369) -/

namespace Sys2Proof.Machine

section
variable {s : State} {p : Nat}

/-! ### Words that pass (R358, R363) -/

theorem State.zSettle_of_steady (h3 : s.lstate p ≠ 3) (h5 : s.lstate p ≠ 5) : s.zSettle p = s :=
  if_neg fun ⟨h, _⟩ => h.elim h3 h5

theorem State.reg_sourceWrite (s : State) (cls idx : Nat) (w : Word) (a : Nat) : (s.sourceWrite cls idx w).reg a = s.reg a := by
  unfold State.sourceWrite
  split <;> rfl

/-- The endpoints of a port are no registers. -/
theorem State.reg_writeIn (s : State) (p : Nat) (l : List (Option Word)) (a : Nat) : (s.writeIn p l).reg a = s.reg a := by
  have hfold (m : List (Option Word × Nat)) (s : State) : (m.foldl (fun s x => match x.1 with
      | some w => s.sourceWrite (inEnd p).1 x.2 w
      | none => s) s).reg a = s.reg a := by
    induction m generalizing s with
    | nil => rfl
    | cons x m ih =>
      rw [List.foldl_cons, ih]
      split
      · exact State.reg_sourceWrite ..
      · rfl
  exact hfold _ s

/-- In RUN, with no re-step, every word passes. -/
theorem State.silence_of_run (h : s.lstate p = 4) (hr : (s.lport p).rebind = none) (ws prev : List Word) (zs : List ZState)
    (input : Bool) : s.silence p ws prev zs input = (ws, zs) := by
  rw [State.silence, hr]
  exact if_pos h

theorem State.takeFrame_of_off (h : s.lstate p = 0) (a b : List Word) : s.takeFrame p a b = s := if_pos h

/-- The words of a TDM frame by slot. -/
def State.tdmWords (s : State) (p : Nat) (a : List Word) : List Word := (addrs 0 1 (s.tdmSlots p)).map (s.tdmSlot p a)

theorem State.takeWords_of_tdm (ht : isTdm p = true) (hc : s.on (Fld.TDM_CFG_CLAIMRX p) = false) (a b : List Word) :
    s.takeWords p a b = (s, s.tdmWords p a) :=
  (if_pos ht).trans (if_neg fun ⟨h, _⟩ => Bool.eq_false_iff.mp hc h)

/-- What the endpoints of a TDM port are given: zero where the mask passes nothing. -/
def State.tdmMasked (s : State) (p : Nat) (ws : List Word) : List (Option Word) :=
  ((ws.zip (s.inChans p)).zip (addrs 0 1 64)).map (fun y => if y.1.2 then some y.1.1 else some 0)

theorem State.claimSlot_of_off {f : Nat → Fd} (h : s.on (f p) = false) (c : Nat) : s.claimSlot p c f = false := by
  simp [State.claimSlot, h]

/-- The state after a TDM frame in RUN. -/
def State.tdmTaken (s : State) (p : Nat) (a : List Word) : State :=
  ((s.modLport p (fun x => { x with rxPrev := s.tdmWords p a })).writeIn p (s.tdmMasked p (s.tdmWords p a))).count64
    (Reg.PORT_FRAMES_LO p) 1

theorem State.takeFrame_of_tdm_run (ht : isTdm p = true) (h : s.lstate p = 4) (hc : s.on (Fld.TDM_CFG_CLAIMRX p) = false)
    (hr : (s.lport p).rebind = none) (a b : List Word) : s.takeFrame p a b = s.tdmTaken p a := by
  have hst : (s.tdmTaken p a).lstate p = 4 := (State.get_congr (State.reg_writeIn ..)).trans h
  refine Eq.trans ?_ (State.zSettle_of_steady (s := s.tdmTaken p a) (p := p) (by omega) (by omega))
  unfold State.takeFrame
  rw [State.takeWords_of_tdm ht hc]
  simp only [State.silence_of_run h hr, h, State.claimSlot_of_off hc, Bool.and_false, Bool.false_eq_true, if_false]
  rfl

/-- A frame of a TDM port that runs and has no masks to take. -/
def State.tdmSent (s : State) (p : Nat) : State :=
  let ws := (addrs 0 1 (s.outChans p).length).map (fun c => (s.lport p).txNow.getD c 0)
  ((s.modLport p (fun x => { x with txPos := 0 })).send (s.tdmFrame p (s.tdmSlotsOut p ws true))).count64 (Reg.PORT_FRAMES_LO p) 1

theorem State.sendFrame_of_tdm_run (ht : isTdm p = true) (h : s.lstate p = 4) (hd : (s.lport p).commitDue = false)
    (hr : (s.lport p).rebind = none) : s.sendFrame p = s.tdmSent p := by
  refine Eq.trans ?_ (State.zSettle_of_steady (s := s.tdmSent p) (p := p) (h.trans_ne (by decide)) (h.trans_ne (by decide)))
  unfold State.sendFrame
  simp only [hd, ht, h, State.silence_of_run h hr, Bool.not_true, Bool.false_and, Bool.false_eq_true, if_false, if_true]
  rfl

end

/-! ### Frames that arrive (R361, R362, R368) -/

section
variable {s : State} {p : Nat}

theorem State.measure_of_aes (h : isAesIn p = true) (hz : Nat) :
    s.measure p hz = s.put (Fld.AESI_RX_INFO_MEASFS (p - 16)) (measuredFs hz) := if_pos h

theorem State.measure_of_other (h : isAesIn p = false) (hz : Nat) : s.measure p hz = s := if_neg (Bool.eq_false_iff.mp h)

theorem not_aesIn_of_aesOut (h : isAesOut p = true) : isAesIn p = false := by
  simp only [isAesOut, isAesIn, Bool.and_eq_true, Bool.and_eq_false_iff, decide_eq_true_eq, decide_eq_false_iff_not] at h ⊢
  omega

/-- The port runs: it is in OPENING, RUN, CLOSING or POSTCLK. -/
def State.portRuns (s : State) (p : Nat) : Prop := 3 ≤ s.lstate p ∧ s.lstate p ≤ 6

/-- The frame began outside its window, was coded badly, or has another length. -/
def State.badFrame (s : State) (p : Nat) (good : Bool) (clocks : Nat) : Prop :=
  good = false ∨ (isTdm p = true ∧ clocks ≠ s.tdmLen p)

/-- The frame lies off the phase of the port. -/
def State.offPhase (s : State) (p ns : Nat) : Prop :=
  s.portTol p < phaseDist (s.phaseOf ns) (s.phaseOf (s.get (Fld.PORT_STAT_PHASE p)))

/-- A bad frame is lost for the lock. -/
def State.frameLost (s : State) (p : Nat) : State := (s.setLport p { s.lport p with errs := (s.lport p).errs + 1 }).unlock p

variable {p : Fin 34} {ns : BitVec 16} {cl : BitVec 12} {good : Bool} {hz : BitVec 18} {a b : List (BitVec 32)}

theorem exec_localFrameReceive_of_output (h : isAesOut p = true) : exec (.localFrameReceive p ns cl good hz a b) s = .next s :=
  (if_pos h).trans (congrArg _ (State.measure_of_other (not_aesIn_of_aesOut h) _))

variable {u : State} (hu : s.measure p hz.toNat = u)
include hu

theorem exec_localFrameReceive_of_master (h : isAesOut p = false) (hm : u.slavePort p = false) :
    exec (.localFrameReceive p ns cl good hz a b) s = .next (u.takeFrame p a b) := by
  subst hu
  exact (if_neg (Bool.eq_false_iff.mp h)).trans (if_pos (by simp [hm]))

variable (h : isAesOut p = false) (hm : u.slavePort p = true)
include h hm

theorem exec_localFrameReceive_of_bad (hb : u.badFrame p good cl.toNat) : exec (.localFrameReceive p ns cl good hz a b) s =
    let runs := decide (3 ≤ u.lstate p) && decide (u.lstate p ≤ 6)
    let v := if runs then (u.frameLost p).count (ctrPort p 0) else u.frameLost p
    .next (if runs && decide (1 ≤ (u.lport p).errs) then v.portFault p 4 else v) := by
  subst hu
  refine (if_neg (Bool.eq_false_iff.mp h)).trans ((if_neg (by simp [hm])).trans (if_pos ?_))
  simpa [State.badFrame] using hb

theorem exec_localFrameReceive_of_good (hb : ¬ u.badFrame p good cl.toNat) : exec (.localFrameReceive p ns cl good hz a b) s =
    let runs := decide (3 ≤ u.lstate p) && decide (u.lstate p ≤ 6)
    if runs && decide (u.portTol p < phaseDist (u.phaseOf ns.toNat) (u.phaseOf (u.get (Fld.PORT_STAT_PHASE p)))) then
      .next ((u.lockFrame p ns.toNat).portFault p 3)
    else .next ((u.lockFrame p ns.toNat).takeFrame p a b) := by
  subst hu
  refine (if_neg (Bool.eq_false_iff.mp h)).trans ((if_neg (by simp [hm])).trans (if_neg ?_))
  simpa [State.badFrame] using hb

theorem exec_localFrameReceive_of_bad_waiting (hb : u.badFrame p good cl.toNat) (hr : ¬ u.portRuns p) :
    exec (.localFrameReceive p ns cl good hz a b) s = .next (u.frameLost p) := by
  have hruns : (decide (3 ≤ u.lstate p) && decide (u.lstate p ≤ 6)) = false := by
    simpa [State.portRuns] using hr
  simp only [exec_localFrameReceive_of_bad hu h hm hb, hruns, Bool.false_and, Bool.false_eq_true, if_false]

theorem exec_localFrameReceive_of_bad_running (hb : u.badFrame p good cl.toNat) (hr : u.portRuns p) :
    exec (.localFrameReceive p ns cl good hz a b) s = .next (if 1 ≤ (u.lport p).errs then
      ((u.frameLost p).count (ctrPort p 0)).portFault p 4 else (u.frameLost p).count (ctrPort p 0)) := by
  have hruns : (decide (3 ≤ u.lstate p) && decide (u.lstate p ≤ 6)) = true := by
    simpa [State.portRuns] using hr
  simp only [exec_localFrameReceive_of_bad hu h hm hb, hruns, Bool.true_and, decide_eq_true_eq, if_true]

theorem exec_localFrameReceive_of_off_phase (hb : ¬ u.badFrame p good cl.toNat) (hr : u.portRuns p)
    (ho : u.offPhase p ns.toNat) :
    exec (.localFrameReceive p ns cl good hz a b) s = .next ((u.lockFrame p ns.toNat).portFault p 3) :=
  (exec_localFrameReceive_of_good hu h hm hb).trans (if_pos (by simpa [State.portRuns, State.offPhase] using ⟨hr, ho⟩))

theorem exec_localFrameReceive_of_taken (hb : ¬ u.badFrame p good cl.toNat) (hr : ¬ u.portRuns p ∨ ¬ u.offPhase p ns.toNat) :
    exec (.localFrameReceive p ns cl good hz a b) s = .next ((u.lockFrame p ns.toNat).takeFrame p a b) := by
  refine (exec_localFrameReceive_of_good hu h hm hb).trans (if_neg fun hc => ?_)
  simp only [Bool.and_eq_true, decide_eq_true_eq] at hc
  exact hr.elim (fun hr => hr hc.1) (fun ho => ho hc.2)

end

section
variable {s : State} {p : Fin 34}

theorem exec_portNoclkTimeout_of_slave (h : (s.measure p 0).slavePort p = true) : exec (.portNoclkTimeout p) s =
    let u := s.measure p 0
    .next (if 3 ≤ u.lstate p ∧ u.lstate p ≤ 6 then (u.unlock p).portFault p 2 else u.unlock p) :=
  congrArg Host.Outcome.next (if_pos h)

end

/-- Settles O42: a frame that arrives, by the kind of the port and then by what is wrong with it, and a frame that is sent. -/
theorem localFrames : Obligations.LocalFrames := by
  refine ⟨fun p ns cl good hz a b s => ?received, fun p s => ?sent⟩
  case received =>
    intro u runs bad off lost act
    have hu : s.measure p hz.toNat = u := rfl
    refine ⟨fun h => State.measure_of_aes h _, fun h => State.measure_of_other h _, exec_localFrameReceive_of_output,
      exec_localFrameReceive_of_master hu, fun h hm => ⟨exec_localFrameReceive_of_bad_waiting hu h hm, fun hb hr he => ?first,
      fun hb hr he => ?second, exec_localFrameReceive_of_off_phase hu h hm, exec_localFrameReceive_of_taken hu h hm⟩,
      fun h => State.takeFrame_of_off h a b, fun ht h hc hr => State.takeFrame_of_tdm_run ht h hc hr a b⟩
    case first => exact (exec_localFrameReceive_of_bad_running hu h hm hb hr).trans (congrArg _ (if_neg (by omega)))
    case second => exact (exec_localFrameReceive_of_bad_running hu h hm hb hr).trans (congrArg _ (if_pos he))
  case sent =>
    intro u
    refine ⟨fun h h3 h6 => (exec_portNoclkTimeout_of_slave h).trans (congrArg _ (if_pos ⟨h3, h6⟩)),
      fun h hst => (exec_portNoclkTimeout_of_slave h).trans (congrArg _ (if_neg fun ⟨h3, h6⟩ =>
        hst.elim (fun hlow => absurd hlow (Nat.not_lt.mpr h3)) (fun h7 => absurd (h7 ▸ h6) (by decide)))),
      fun h => congrArg Host.Outcome.next (if_neg (Bool.eq_false_iff.mp h)), fun h => congrArg Host.Outcome.next (if_pos h),
      fun ht h hd hr => congrArg Host.Outcome.next ((if_neg ?_).trans (State.sendFrame_of_tdm_run ht h hd hr))⟩
    have hin : isAesIn p = false := by
      simp only [isTdm, isAesIn, Bool.and_eq_false_iff, decide_eq_true_eq, decide_eq_false_iff_not] at ht ⊢
      omega
    simp [hin, h]

end Sys2Proof.Machine

/-! ## Rows, cross-feed and measurements of the power stage (R393 to R405, R414) -/

namespace Sys2Proof.Machine

/-! ### The power stage's own state -/

section
variable (s : State)

theorem State.amp_count (c : Ctr) : (s.count c).amp = s.amp := by
  obtain ⟨r, l, e, o, h⟩ := s.countBy_frame c 1
  rw [State.count, h]

theorem State.amp_put (f : Fd) (v : Nat) : (s.put f v).amp = s.amp := rfl

theorem State.amp_supplyEvent (n i : Nat) : (s.supplyEvent n i).amp = s.amp := by
  obtain ⟨l, o, h⟩ := s.supplyEvent_frame n i
  rw [h]

theorem State.amp_showBoost : s.showBoost.amp = s.amp := s.amp_put ..

theorem State.amp_showLimit : s.showLimit.amp = s.amp := by
  unfold State.showLimit
  dsimp only
  split
  · rw [State.amp_supplyEvent, State.amp_count, State.flag, State.amp_put, State.amp_put]
  · rw [State.flag, State.amp_put, State.amp_put]

end

/-! ### The cross-feed receiver (R397) -/

section
variable {s : State} {b : List (BitVec 8)}

theorem State.receiveXf_of_unlocked (h : s.on Fld.PWR_XF_STAT_LOCK = false) : s.receiveXf b =
    if xfSync b && xfCrcGood b then
      (if 1 ≤ s.amp.xfGood then ((s.setAmp { s.amp with xfGood := 0, xfBad := 0 }).flag Fld.PWR_XF_STAT_LOCK true).takeXf b
       else s.setAmp { s.amp with xfGood := 1 })
    else s.setAmp { s.amp with xfGood := 0 } := if_neg (by simp [h])

theorem State.receiveXf_of_bad_crc (h : s.on Fld.PWR_XF_STAT_LOCK = true) (hs : xfSync b = true) (hc : xfCrcGood b = false)
    (hb : s.amp.xfBad < 3) : s.receiveXf b = (s.setAmp { s.amp with xfBad := s.amp.xfBad + 1 }).count (ctrPwr 2) := by
  unfold State.receiveXf
  simp only [h, hs, hc, Bool.not_true, Bool.not_false, Bool.false_eq_true, if_true, if_false]
  exact if_neg (by omega)

theorem State.xfUnlock_of_locked (h : s.on Fld.PWR_XF_STAT_LOCK = true) : s.xfUnlock =
    ((s.setAmp { s.amp with xfGood := 0, xfBad := 0 }).flag Fld.PWR_XF_STAT_LOCK false).supplyEvent 196 0 := if_pos h

end

/-! ### A row on the supply die (R393) -/

/-- The row decided last and what the receivers hold. -/
def State.rowPart (s : State) :
    Option Word × Nat × Option (Word × Word) × Option (List Word) × Option (List Word) × Option (Word × Word × Nat × List Word) :=
  (s.amp.expect, s.amp.quiet, s.amp.rowFlit, s.amp.lo, s.amp.hi, s.amp.xf)

section
variable (s : State)

theorem State.rowPart_of_amp {s t : State} (h : t.amp = s.amp) : t.rowPart = s.rowPart := by rw [State.rowPart, h, State.rowPart]

theorem State.rowPart_foldl {α : Type} {f : State → α → State} (h : ∀ s x, (f s x).rowPart = s.rowPart) (l : List α) :
    (l.foldl f s).rowPart = s.rowPart := by
  induction l generalizing s with
  | nil => rfl
  | cons x l ih => exact (ih _).trans (h s x)

theorem State.rowPart_put (f : Fd) (v : Nat) : (s.put f v).rowPart = s.rowPart := rfl

theorem State.rowPart_setAmpCh (c : Nat) (x : AmpCh) : (s.setAmpCh c x).rowPart = s.rowPart := rfl

theorem State.rowPart_send (o : Output) : (s.send o).rowPart = s.rowPart := rfl

theorem State.rowPart_glim (g : Nat) : (s.setAmp { s.amp with glim := g }).rowPart = s.rowPart := rfl

theorem State.rowPart_rail (h t r : Nat) :
    (s.setAmp { s.amp with hist := h, target := t, rail := r }).rowPart = s.rowPart := rfl

theorem State.rowPart_correctCh (c : Nat) (mv : Int) : (s.correctCh c mv).rowPart = s.rowPart := by
  unfold State.correctCh
  extract_lets x v t move g o sat s1
  have h1 : s1.rowPart = s.rowPart :=
    (State.rowPart_put ..).trans ((State.rowPart_put ..).trans ((State.rowPart_put ..).trans (State.rowPart_setAmpCh ..)))
  split
  · rfl
  · split
    · exact (State.rowPart_of_amp (State.amp_supplyEvent ..)).trans h1
    · exact h1

theorem State.rowPart_limitRow (vrail : Nat) : (s.limitRow vrail).rowPart = s.rowPart :=
  (State.rowPart_of_amp (State.amp_showLimit _)).trans (s.rowPart_glim _)

theorem State.rowPart_playCh (c : Nat) (vrail : Int) : (s.playCh c vrail).rowPart = s.rowPart := by
  unfold State.playCh
  extract_lets w v uv
  split
  · exact (State.rowPart_setAmpCh ..).trans (State.rowPart_send ..)
  · exact State.rowPart_setAmpCh ..

theorem State.rowPart_boostRow (vbus vrail : Nat) : (s.boostRow vbus vrail).rowPart = s.rowPart := by
  unfold State.boostRow
  extract_lets t rail
  split
  · exact (State.rowPart_send ..).trans (State.rowPart_rail ..)
  · exact State.rowPart_rail s s.amp.hist s.amp.target _

/-- The row that both halves of the words bring is decided, and the next one is expected. -/
theorem State.selectRow_of_local {a : AmpS} (xf : Option (Word × Word × Nat × List Word)) {x : Word}
    (h : (a.localRow.filter (fun r => r.1 == x)).isSome = true) :
    ∃ t : State, s.selectRow a xf x = t.setAmp { t.amp with expect := some (x + 1), quiet := 0 } := by
  unfold State.selectRow
  simp only [h, Bool.true_or, if_true]
  exact ⟨_, if_neg (by decide)⟩

theorem State.supplyRow_of_local {x cl : Word} {lo hi : List Word} (hr : s.amp.rowFlit = some (x, cl)) (hlo : s.amp.lo = some lo)
    (hhi : s.amp.hi = some hi) (he : s.amp.expect = none ∨ s.amp.expect = some x) : s.supplyRow = some x := by
  rcases he with he | he <;> simp [State.supplyRow, he, AmpS.localRow, hr, hlo, hhi]

theorem State.rowPart_ampRow (m : AmpSense) {x cl : Word} {lo hi : List Word} (hr : s.amp.rowFlit = some (x, cl))
    (hlo : s.amp.lo = some lo) (hhi : s.amp.hi = some hi) (he : s.amp.expect = none ∨ s.amp.expect = some x) :
    (s.ampRow m).rowPart = (some (x + 1), 0, none, none, none, none) := by
  have hx := s.supplyRow_of_local hr hlo hhi he
  unfold State.ampRow
  extract_lets a sensed s0 s1 _ s2 s3
  obtain ⟨t, ht⟩ := s0.selectRow_of_local (a := a) s.xfRow (x := x) (by simp [a, AmpS.localRow, hr, hlo, hhi])
  have h1 : s1 = t.setAmp { t.amp with expect := some (x + 1), quiet := 0 } := by
    simp only [s1, hx]
    exact ht
  have h2 : s2.rowPart = (some (x + 1), 0, none, none, none, none) :=
    calc s2.rowPart = (s1.amp.expect, s1.amp.quiet, none, none, none, none) := rfl
      _ = _ := by rw [h1]; rfl
  rw [State.rowPart_boostRow, State.rowPart_foldl _ (fun s c => s.rowPart_playCh c _), State.rowPart_limitRow,
    State.rowPart_foldl _ (fun s c => s.rowPart_correctCh c _), h2]

end

/-! ### The boost (R403, R405) -/

section
variable (s : State)

theorem lt_of_mem_addrs {a b n : Nat} (h : b ∈ addrs a 1 n) : b < a + n := by
  induction n generalizing a with
  | zero => cases h
  | succ n ih =>
    rcases List.mem_cons.mp h with rfl | h
    · omega
    · have := ih h
      omega

theorem attOf_lt (g : Nat) : attOf g < 256 := by
  unfold attOf
  split
  · cases h : (addrs 0 1 240).find? (fun a => decide (gainDb a ≤ g)) with
    | none => decide
    | some a =>
      have ha := lt_of_mem_addrs (List.mem_of_find?_eq_some h)
      change a < 256
      omega
  · decide

theorem State.reg_showLimit : s.showLimit.reg Reg.PWR_STAT =
    ((s.put Fld.PWR_STAT_LIMATT (attOf s.amp.glim)).flag Fld.PWR_STAT_LIMIT s.limiting).reg Reg.PWR_STAT := by
  unfold State.showLimit
  dsimp only
  split
  · exact (State.reg_supplyEvent ..).trans (State.reg_countBy_above _ _ _ (by decide) (by decide))
  · rfl

theorem State.limatt_showLimit : s.showLimit.get Fld.PWR_STAT_LIMATT = attOf s.amp.glim := by
  rw [State.get_congr (f := Fld.PWR_STAT_LIMATT) s.reg_showLimit, State.get_flag_apart _ _ (by rfl), State.get_put_fits _ _ (by rfl)]
  exact Nat.mod_eq_of_lt (attOf_lt _)

theorem State.limit_showLimit : s.showLimit.on Fld.PWR_STAT_LIMIT = s.limiting :=
  (congrArg (· == 1) (State.get_congr (f := Fld.PWR_STAT_LIMIT) s.reg_showLimit)).trans
    (State.on_flag_fits _ _ (by rfl) (by rfl))

theorem State.limiting_iff : s.limiting = true ↔ s.amp.short = true ∨ s.amp.glim < 2 ^ 31 := by
  simp [State.limiting]

theorem State.shortfall_iff (mv us ma : Nat) : s.shortfall mv us ma = true ↔ s.on Fld.PWR_CTL_BOOSTEN = true ∧ s.busOk = true ∧
    ((railUnits (mv + 3000) < s.amp.target ∧ 20 ≤ us) ∨ s.get Fld.PWR_BOOST_SLEW_IINLIM * 250 ≤ ma) := by
  simp [State.shortfall, and_assoc]

/-- The boost's part in a row in which it regulates the rail. -/
def State.boosted (s : State) (vbus : Nat) : State :=
  let t := s.boostTarget vbus
  let rail := min (s.amp.rail + s.railRise) (max (s.amp.rail - s.railFall) t.1)
  (s.setAmp { s.amp with hist := t.2, target := t.1, rail := rail }).send (.boost t.1 rail)

theorem State.boostRow_of_regulating {vbus : Nat} (vrail : Nat) (hb : s.on Fld.PWR_CTL_BOOSTEN = true) (ho : s.busOk = true)
    (hv : 18000 ≤ vbus) : s.boostRow vbus vrail = s.boosted vbus := if_pos (by simp [hb, ho, hv])

end

/-! ### Impedance (R414) -/

section
variable {s : State} {c : Fin 8} {mv ma : BitVec 32}

/-- A window of a running channel above its threshold, with the number of windows out of bounds in a row. -/
def State.impedanceShown (s : State) (c n z : Nat) : State :=
  ((s.setAmpCh c { s.ampCh c with zunused := 0, zbad := n }).put (Fld.PWR_CH_Z_ZEST c) z).flag (Fld.PWR_CH_STAT_ZVALID c) true

theorem exec_impedanceWindow_of_used (h : s.chState c = 3) (hv : s.get (Fld.PWR_CH_CFG_VFS c) ≤ mv.toNat) (ha : 0 < ma.toNat) :
    ∃ n, exec (.impedanceWindow c mv ma) s = .next
      (if n = 3 then (s.impedanceShown c n (min 0xFFFF (mv.toNat * 100 / ma.toNat))).supplyEvent 203 c
       else s.impedanceShown c n (min 0xFFFF (mv.toNat * 100 / ma.toNat))) := by
  change ∃ n, execImpedanceWindow c mv ma s = _
  unfold execImpedanceWindow
  simp only [h, ne_eq, not_true_eq_false, if_false, Nat.not_lt.mpr hv, Nat.ne_of_gt ha]
  exact ⟨_, rfl⟩

theorem State.zest_impedanceShown (n z : Nat) : (s.impedanceShown c n z).get (Fld.PWR_CH_Z_ZEST c) = z % 2 ^ 16 := by
  refine (State.get_put_other _ _ _ _ ?_).trans (State.get_put_fits _ z (by rfl))
  simp only [Fld.PWR_CH_Z_ZEST, Fld.PWR_CH_STAT_ZVALID, Reg.PWR_CH_Z, Reg.PWR_CH_STAT]
  omega

theorem State.zvalid_impedanceShown (n z : Nat) : (s.impedanceShown c n z).on (Fld.PWR_CH_STAT_ZVALID c) = true :=
  State.on_flag_fits _ _ (by rfl) (by rfl)

end

/-! ### LOOKAHEAD (R404) -/

section
variable {s : State} {w : Word}

/-- The fields of PWR.CTL. -/
theorem fieldsAt_pwrCtl : fieldsAt Reg.PWR_CTL =
    [⟨23, 16, .rw, 0, .image, [(0, 0x40)], false⟩, ⟨1, 1, .rw, 0, .image, [], false⟩, ⟨0, 0, .rw, 0, .image, [], false⟩] := by
  decide

/-- PWR.CTL has no SAT bit to follow. -/
theorem State.writeFields_pwrCtl (s : State) (w : Word) : s.writeFields Reg.PWR_CTL w =
    (fieldsAt Reg.PWR_CTL).foldl (fun s f => s.writeField Reg.PWR_CTL w f) s := by
  have hsat : (fieldsAt Reg.PWR_CTL).any FieldDesc.sat = false := by rw [fieldsAt_pwrCtl]; decide
  simp only [State.writeFields, hsat, Bool.false_eq_true, if_false]

theorem State.lookahead_writeFields (w : Word) : (s.writeFields Reg.PWR_CTL w).lookahead =
    if bitsOf w 23 16 ≤ 0x40 then bitsOf w 23 16 else s.lookahead := by
  have hf := State.get_writeFields Reg.PWR_CTL w (l := fieldsAt Reg.PWR_CTL) (by rw [fieldsAt_pwrCtl]; decide) s
    ⟨23, 16, .rw, 0, .image, [(0, 0x40)], false⟩ (by rw [fieldsAt_pwrCtl]; exact List.mem_cons_self)
  refine (congrArg State.lookahead (s.writeFields_pwrCtl w)).trans (hf.trans ?_)
  by_cases h : bitsOf w 23 16 ≤ 0x40 <;>
    simp [FieldDesc.written, FieldDesc.legal, FieldDesc.of, State.lookahead, FieldDesc.fd, Fld.PWR_CTL_LOOKAHEAD, h]

/-- The bits kept are those of the register. -/
theorem bitsOf_keepBits_lookahead (old w : Word) :
    bitsOf (keepBits (fieldBits [Fld.PWR_CTL_LOOKAHEAD]) old w) 23 16 = bitsOf old 23 16 := by
  have hm : fieldBits [Fld.PWR_CTL_LOOKAHEAD] = 0xFF0000#32 := by decide
  have hbit : ∀ i < 8, (0xFF0000#32 : Word).getLsbD (16 + i) = true := by decide
  refine Nat.eq_of_testBit_eq fun i => ?_
  rw [testBit_bitsOf, testBit_bitsOf, hm]
  by_cases hi : i < 8
  · simp only [BitVec.testBit_toNat, keepBits, BitVec.getLsbD_or, BitVec.getLsbD_and, BitVec.getLsbD_not, hbit i hi]
    simp
  · simp [hi]

theorem State.lookahead_kept (w : Word) :
    (s.writeFields Reg.PWR_CTL (keepBits (fieldBits [Fld.PWR_CTL_LOOKAHEAD]) (s.reg Reg.PWR_CTL) w)).lookahead = s.lookahead := by
  rw [State.lookahead_writeFields, bitsOf_keepBits_lookahead]
  exact ite_self _

theorem State.lookahead_supplyInvalid (a : Nat) : (s.supplyInvalid a).lookahead = s.lookahead := State.get_supplyEvent ..

theorem State.lookahead_showBoost : s.showBoost.lookahead = s.lookahead := State.get_put_other _ _ _ _ (by decide)

theorem State.lookahead_supplyFields : (s.supplyFields Reg.PWR_CTL w).lookahead =
    if bitsOf w 23 16 ≤ 0x40 then bitsOf w 23 16 else s.lookahead := by
  unfold State.supplyFields
  dsimp only
  split
  · rw [State.lookahead_supplyInvalid, State.lookahead_writeFields]
  · exact State.lookahead_writeFields w

/-- The delay lines of some channels are emptied. -/
def State.emptied (s : State) (l : List Nat) : State := l.foldl (fun s c => s.modAmpCh c (fun x => { x with line := [] })) s

theorem State.lookahead_emptied (l : List Nat) : (s.emptied l).lookahead = s.lookahead := by
  induction l generalizing s with
  | nil => rfl
  | cons c l ih => exact ih

theorem State.line_emptied {l : List Nat} {c : Nat} (h : c ∈ l ∨ (s.ampCh c).line = []) : ((s.emptied l).ampCh c).line = [] := by
  induction l generalizing s with
  | nil => exact h.resolve_left List.not_mem_nil
  | cons d l ih =>
    refine ih ?_
    by_cases hd : c = d
    · subst hd
      exact Or.inr (congrArg AmpCh.line (State.ampCh_setAmpCh ..))
    · rcases h with h | h
      · exact Or.inl ((List.mem_cons.mp h).resolve_left hd)
      · exact Or.inr ((congrArg AmpCh.line (Table.get_set_other _ _ _ _ _ hd)).trans h)

theorem exec_lookaheadWrite_of_changed (hl : bitsOf w 23 16 ≤ 0x40) (hn : bitsOf w 23 16 ≠ s.lookahead) :
    exec (.lookaheadWrite w) s = .next (if channels.all s.chIdle then ((s.supplyFields Reg.PWR_CTL w).showBoost).emptied channels
      else ((s.writeFields Reg.PWR_CTL (keepBits (fieldBits [Fld.PWR_CTL_LOOKAHEAD]) (s.reg Reg.PWR_CTL) w)).supplyInvalid
        Reg.PWR_CTL).showBoost) := by
  change Host.Outcome.next (s.supplyWrite Reg.PWR_CTL w) = _
  unfold State.supplyWrite
  cases h : channels.all s.chIdle <;> simp [hl, hn, State.emptied]

end

/-- Settles O30: the row clause follows the six registers of the receivers through the row, the LOOKAHEAD clause reads the
field back from a write of PWR.CTL, and the others are the cases of their operations. -/
theorem powerStageRows : Obligations.PowerStageRows := by
  refine ⟨fun b s => ⟨?first, ?locked, ?unsynced, ?badCrc, ?loss⟩, ?row, ?shortfall, ?boost, ?impedance, ?lookahead⟩
  case first =>
    intro h hs hc h0
    exact congrArg Host.Outcome.next ((State.receiveXf_of_unlocked h).trans (by simp [hs, hc, h0]))
  case locked =>
    intro h hs hc h1
    exact congrArg Host.Outcome.next ((State.receiveXf_of_unlocked h).trans (by simp [hs, hc, h1]))
  case unsynced =>
    intro h hbad
    exact congrArg Host.Outcome.next ((State.receiveXf_of_unlocked h).trans (if_neg (by simp [hbad])))
  case badCrc => exact fun h hs hc hb => congrArg Host.Outcome.next (State.receiveXf_of_bad_crc h hs hc hb)
  case loss => exact fun h => congrArg Host.Outcome.next (State.xfUnlock_of_locked h)
  case row =>
    intro vbus vrail volts amps temp s x cl lo hi hr hlo hhi he
    have hpart := s.rowPart_ampRow ⟨vbus.toNat, vrail.toNat, volts, amps, temp⟩ hr hlo hhi he
    simp only [State.rowPart, Prod.mk.injEq] at hpart
    exact ⟨_, rfl, hpart⟩
  case shortfall =>
    intro rail us ma s below short
    let sh := s.shortfall rail.toNat us.toNat ma.toNat
    let t := (s.setAmp { s.amp with short := sh }).showBoost
    have hamp : t.showLimit.amp = { s.amp with short := sh } := t.amp_showLimit.trans (State.amp_showBoost _)
    have ht : t.amp = { s.amp with short := sh } := State.amp_showBoost _
    have hsh : sh = true ↔ short := s.shortfall_iff ..
    refine ⟨t.showLimit, rfl, ?_, ?_, ?_, ?_⟩
    · rw [hamp]
      exact hsh
    · rw [hamp]
    · rw [t.limatt_showLimit, ht]
    · rw [t.limit_showLimit, t.limiting_iff, ht]
      exact or_congr_left hsh
  case boost =>
    intro vbus vrail s hb ho hv u
    have hu : u = s.boosted vbus := s.boostRow_of_regulating vrail hb ho hv
    rw [hu]
    exact ⟨Nat.min_le_left .., Nat.min_le_right .., rfl, rfl⟩
  case impedance =>
    intro c mv ma s h hv ha
    obtain ⟨n, hn⟩ := exec_impedanceWindow_of_used h hv ha
    have hz : (s.impedanceShown c n (min 0xFFFF (mv.toNat * 100 / ma.toNat))).get (Fld.PWR_CH_Z_ZEST c) =
        min 0xFFFF (mv.toNat * 100 / ma.toNat) := (State.zest_impedanceShown ..).trans (Nat.mod_eq_of_lt (by omega))
    refine ⟨_, hn, ?_⟩
    split
    · exact ⟨(State.get_supplyEvent ..).trans hz,
        (congrArg (· == 1) (State.get_supplyEvent ..)).trans (State.zvalid_impedanceShown ..)⟩
    · exact ⟨hz, State.zvalid_impedanceShown ..⟩
  case lookahead =>
    intro w s hl hn
    rw [exec_lookaheadWrite_of_changed hl hn]
    refine ⟨fun h => ?_, fun h => ?_⟩
    · exact ⟨by rw [if_neg (by simp [h])], s.lookahead_kept w⟩
    · refine ⟨_, by rw [if_pos h], ?_, fun c => State.line_emptied (Or.inl (mem_channels c))⟩
      rw [State.lookahead_emptied, State.lookahead_showBoost, State.lookahead_supplyFields, if_pos hl]

end Sys2Proof.Machine

/-! ## Host accesses and the translation unit (R419 to R469) -/

namespace Sys2Proof.Machine

/-! ### A bad host access (R421) -/

section
variable (s : State) {a : Nat}

/-- The host interface's registers lie below every source's status word and INFO. -/
theorem State.reg_raise_below (n i : Nat) (ha : a < Reg.EVT_STATUS 0) : (s.raise n i).reg a = s.reg a := by
  simp only [Reg.EVT_STATUS] at ha
  refine s.reg_raise_other n i ?_ ?_
  · simp only [fdStatus, Reg.EVT_STATUS]
    omega
  · simp only [Reg.EVT_INFO]
    omega

theorem State.reg_count_below (c : Ctr) (ha : a < Reg.EVT_STATUS 0) (hc : a ≠ c.sat.addr) : (s.count c).reg a = s.reg a := by
  have hsat (t : State) : (t.setSat c.sat).reg a = t.reg a := by
    have hflag : (t.flag c.sat true).reg a = t.reg a := t.reg_put_other hc
    rw [State.setSat, State.level, if_pos rfl]
    split
    · exact hflag
    · rw [State.reg_raise_below _ _ _ ha, hflag]
  unfold State.count State.countBy
  dsimp only
  split
  · rfl
  · split
    · rw [hsat, State.reg_setLive]
    · rfl

/-- The state after an access that is not served. -/
def State.accessRefused (s : State) (info : Nat) : State :=
  ((s.setReg Reg.HIF_ACCERR_ADDR (BitVec.ofNat 32 info)).count (ctrHif 1)).raise 2 info

theorem State.reg_accessRefused (info : Nat) : (s.accessRefused info).reg Reg.HIF_ACCERR_ADDR = BitVec.ofNat 32 info := by
  rw [State.accessRefused, State.reg_raise_below _ _ _ (by decide), State.reg_count_below _ _ (by decide) (by decide),
    State.reg_setReg_same]

theorem exec_badHostAccess_write (w2 : Bool) (o : BitVec 23) :
    exec (.badHostAccess w2 true o) s = .next (s.accessRefused (w2.toNat * 2 ^ 31 + o.toNat)) := rfl

theorem exec_badHostAccess_read (w2 : Bool) (o : BitVec 23) :
    exec (.badHostAccess w2 false o) s = .next ((s.accessRefused (w2.toNat * 2 ^ 31 + o.toNat)).send (.answer 0xFFFFFFFF)) := rfl

end

/-! ### A read of host memory that comes back (R469) -/

section
variable {s : State} {id : Nat}

theorem State.readBack_of_none (h : ∀ a ∈ s.host.accs, (a.id == id && a.sent) = false) (ok : Bool) (b : List Byte) :
    s.readBack id ok b = s := by
  rw [State.readBack, takeFirst_none _ h]

/-- The state in which an access whose read came back goes on. -/
def State.readTaken (s : State) (a : HostAcc) (l : List HostAcc) : State := (s.setHost { s.host with accs := l }).nextRead a.cls

theorem State.readBack_of_some {a : HostAcc} {l : List HostAcc}
    (h : takeFirst (fun (a : HostAcc) => a.id == id && a.sent) s.host.accs = some (a, l)) (ok : Bool) (b : List Byte) :
    s.readBack id ok b = ((s.readTaken a l).accRead a ok b).settle.startAllRx.pumpAll := by
  rw [State.readBack, h]
  rfl

/-- The only access of a state is the one its identifier takes. -/
theorem takeFirst_only {p : HostAcc → Bool} {a b : HostAcc} {l : List HostAcc} (h : takeFirst p [a] = some (b, l)) :
    p a = true ∧ b = a ∧ l = [] := by
  cases hp : p a with
  | false => simp [takeFirst, hp] at h
  | true =>
    rw [takeFirst_head [] hp] at h
    cases h
    exact ⟨rfl, rfl, rfl⟩

theorem exec_doorbellReadComplete_of_only {a : HostAcc} {n m : Nat} (ha : s.host.accs = [a]) (hsent : a.sent = true)
    (hw : a.what = .doorbell) (hp : a.pos = .data n m) (b : List (BitVec 8)) :
    exec (.doorbellReadComplete b) s = .next (s.readBack a.id true b) := by
  change execDoorbellReadComplete b s = _
  simp [execDoorbellReadComplete, ha, hsent, hw, hp]

theorem exec_doorbellReadComplete_of_none (h : s.host.accs = []) (b : List (BitVec 8)) :
    exec (.doorbellReadComplete b) s = .next s := by
  change execDoorbellReadComplete b s = _
  rw [execDoorbellReadComplete, h]
  rfl

end

/-! ### Invalidation (R465) -/

section
variable {s : State} {w : Word}

theorem exec_tlbInvalidate_of_legal (h : badCodes Reg.XLT_INV_CTL w = false) : exec (.tlbInvalidate w) s =
    .next (if w.msb then
      (if s.on Fld.XLT_INV_STAT_BUSY then (s.writeReg Reg.XLT_INV_CTL w).invalid Reg.XLT_INV_CTL
       else (s.writeReg Reg.XLT_INV_CTL w).invalidateGo)
    else s.writeReg Reg.XLT_INV_CTL w) := by
  change Host.Outcome.next (s.writeInvCtl w) = _
  rw [State.writeInvCtl]
  cases w.msb <;> simp [h]

theorem State.on_busy_invalidateGo : s.invalidateGo.on Fld.XLT_INV_STAT_BUSY = true := State.on_flag_fits _ _ (by rfl) (by rfl)

theorem State.host_put (s : State) (f : Fd) (v : Nat) : (s.put f v).host = s.host := rfl

theorem State.host_showTlb : s.showTlb.host = s.host := by
  unfold State.showTlb
  dsimp only
  split
  · exact (State.host_put ..).trans (State.host_put ..)
  · exact State.host_put ..

theorem State.tlb_invalidateGo : s.invalidateGo.host.tlb =
    s.host.tlb.filter (fun x => !Tlb.inScope (s.get Fld.XLT_INV_CTL_SCOPE) s.invAddr x) :=
  congrArg HostS.tlb ((State.host_put ..).trans State.host_showTlb)

theorem exec_invalidateDone_of_over (hb : s.on Fld.XLT_INV_STAT_BUSY = true) (h : s.invalidateMayEnd = true) :
    exec .invalidateDone s = .next s.invalidateEnd :=
  congrArg Host.Outcome.next (if_pos (by simp [hb, h]))

theorem exec_invalidateDone_of_idle (hb : s.on Fld.XLT_INV_STAT_BUSY = false) : exec .invalidateDone s = .next s :=
  congrArg Host.Outcome.next (if_neg (by simp [hb]))

end

/-- Settles O48: each clause is a case of the access, the read that comes back, or the invalidation. -/
theorem hostAccesses : Obligations.HostAccesses := by
  refine ⟨fun w2 a s => ⟨exec_badHostAccess_write s w2 a, exec_badHostAccess_read s w2 a, s.reg_accessRefused _⟩,
    fun id ok b s => ⟨?unasked, ?asked⟩, fun b s h => exec_doorbellReadComplete_of_none h b, ?invalidate,
    fun s => ⟨exec_invalidateDone_of_over, exec_invalidateDone_of_idle⟩⟩
  case unasked =>
    exact fun h => ⟨congrArg Host.Outcome.next (State.readBack_of_none h ok b),
      congrArg Host.Outcome.next (State.readBack_of_none h false [])⟩
  case asked =>
    intro a l h
    refine ⟨congrArg Host.Outcome.next (State.readBack_of_some h ok b),
      congrArg Host.Outcome.next (State.readBack_of_some h false []), fun n hw hp ha => ?_⟩
    rw [ha] at h
    obtain ⟨hids, -, rfl⟩ := takeFirst_only h
    obtain ⟨-, hsent⟩ : a.id = id.toNat ∧ a.sent = true := by simpa using hids
    have hfirst : takeFirst (fun (x : HostAcc) => x.id == a.id && x.sent) s.host.accs = some (a, []) := by
      rw [ha]
      exact takeFirst_head [] (by simp [hsent])
    exact (exec_doorbellReadComplete_of_only ha hsent hw hp b).trans
      (congrArg Host.Outcome.next (State.readBack_of_some hfirst true b))
  case invalidate =>
    intro w s hcodes u
    rw [exec_tlbInvalidate_of_legal hcodes]
    refine ⟨fun hw => ?_, fun hw hb => ?_, fun hw hb => ⟨u.invalidateGo, ?_, State.on_busy_invalidateGo, State.tlb_invalidateGo⟩⟩
    · simp [hw, u]
    · simp [hw, hb, u]
    · simp [hw, hb, u]

end Sys2Proof.Machine

/-! ## Rings, real-time blocks and transfers (R430 to R451, R588) -/

namespace Sys2Proof.Machine

/-! ### What the host interface holds of a ring -/

section
variable (s : State) (r : Nat)

theorem State.ring_put (f : Fd) (v : Nat) : (s.put f v).ring r = s.ring r := rfl

theorem State.ring_raise (n i : Nat) : (s.raise n i).ring r = s.ring r := rfl

theorem State.ring_setRing_same (x : Ring) : (s.setRing r x).ring r = x := Table.get_set_same ..

theorem State.ring_setHost {s : State} {r : Nat} {x : HostS} (h : x.rings = s.host.rings) : (s.setHost x).ring r = s.ring r :=
  congrArg (Table.get (fun _ => ringReset) · r) h

theorem State.setHost_host : s.setHost s.host = s := rfl

theorem ringStat_ne_cfg : Reg.RING_STAT r ≠ Reg.RING_CFG r := by
  simp only [Reg.RING_STAT, Reg.RING_CFG]
  omega

end

/-! ### Enabling a ring (R431) -/

section
variable {s : State} {r : Fin 64} {w : Word}

theorem exec_ringEnable_of_busy (h : s.ringState r ≠ 0) : exec (.ringEnable r w) s = .next (s.invalid (Reg.RING_CFG r)) :=
  congrArg Host.Outcome.next (if_pos h)

/-- An idle ring whose checks have passed, in RUN. -/
def State.ringStarted (s : State) (r : Nat) : State :=
  (((s.setRing r ringReset).flag (Fld.RING_CFG_EN r) true).setRingState r 1).put (Fld.RING_STAT_IDX r) 0

theorem exec_ringEnable_of_idle (h : s.ringState r = 0) (h1 : 1 ≤ w.toNat / 2 ^ 24 % 16) (h8 : w.toNat / 2 ^ 24 % 16 ≤ 8) :
    exec (.ringEnable r w) s =
      let u := s.writeReg (Reg.RING_CFG r) (w &&& 0x7FFFFFFF)
      .next (if !w.msb then u else if u.enableReason r = 0 then u.ringStarted r
        else (u.put (Fld.RING_STAT_REASON r) (u.enableReason r)).raise 5 (r + 256 * u.enableReason r)) := by
  have ht : ¬ (w.toNat / 2 ^ 24 % 16 = 0 ∨ 8 < w.toNat / 2 ^ 24 % 16) := by omega
  change Host.Outcome.next (s.writeRingCfg r w) = _
  rw [State.writeRingCfg, if_neg (by simp [h])]
  simp only [if_neg ht, State.ringStarted]

theorem State.ringState_ringStarted : (s.ringStarted r).ringState r = 1 :=
  (State.get_put_apart (g := Fld.RING_STAT_STATE r) _ _ (by rfl)).trans (State.get_put_fits _ 1 (by rfl))

theorem State.ring_ringStarted : (s.ringStarted r).ring r = ringReset :=
  (State.ring_put ..).trans ((State.ring_put ..).trans ((State.ring_put ..).trans (State.ring_setRing_same ..)))

theorem State.en_ringStarted : (s.ringStarted r).on (Fld.RING_CFG_EN r) = true := by
  have hn := (ringStat_ne_cfg r).symm
  have hget : (s.ringStarted r).get (Fld.RING_CFG_EN r) = ((s.setRing r ringReset).flag (Fld.RING_CFG_EN r) true).get (Fld.RING_CFG_EN r) :=
    (State.get_put_other _ _ _ _ hn).trans (State.get_put_other _ _ _ _ hn)
  exact (congrArg (· == 1) hget).trans (State.on_flag_fits _ true (by rfl) (by rfl))

end

/-! ### Resetting a ring (R451) -/

section
variable {s : State} {r : Fin 64}

theorem exec_ringReset_of_used (h : s.ringType r = 2) (hu : s.cqInUse r = true) :
    exec (.ringReset r) s = .next (s.invalid (Reg.RING_CTL r)) :=
  congrArg Host.Outcome.next (if_pos ⟨h, hu⟩)

theorem exec_ringReset_of_other (h : s.ringType r ≠ 2) : exec (.ringReset r) s =
    .next (if s.ringState r = 1 ∨ s.ringState r = 3 ∨ s.ringState r = 4 then
      ((s.setRingState r 2).drainRing r).startAllRx.pumpAll else s) :=
  congrArg Host.Outcome.next (if_neg fun hr => h hr.1)

/-- A drained ring, back in IDLE under its next generation. -/
def State.ringIdled (s : State) (r : Nat) : State :=
  ((((s.setRing r ringReset).put (Fld.RING_STAT_GEN r) ((s.ringGen r + 1) % 256)).put (Fld.RING_STAT_IDX r) 0).flag
    (Fld.RING_CFG_EN r) false).setRingState r 0

/-- The end of a reset, of a FAULT ring or of another: the host interface notes that a FAULT ring is up again. -/
theorem exec_ringResetDone_of_drained (h : s.ringState r = 2) (hd : s.drained r = true) : ∃ x : HostS,
    x.rings = (s.ringIdled r).host.rings ∧
      exec (.ringResetDone r) s = .next (((s.ringIdled r).setHost x).raise 6 (r + 65536 * ((s.ringGen r + 1) % 256))) := by
  have hexec : exec (.ringResetDone r) s = .next ((if s.ringType r = 4 then
      (s.ringIdled r).setHost { (s.ringIdled r).host with frDown := false } else s.ringIdled r).raise 6
        (r + 65536 * ((s.ringGen r + 1) % 256))) := by
    change execRingResetDone r s = _
    rw [execRingResetDone, if_pos ⟨h, hd⟩]
    simp only [State.ringIdled]
  by_cases ht : s.ringType r = 4
  · exact ⟨{ (s.ringIdled r).host with frDown := false }, rfl, by rw [hexec, if_pos ht]⟩
  · exact ⟨(s.ringIdled r).host, rfl, by rw [hexec, if_neg ht, State.setHost_host]⟩

theorem exec_ringResetDone_of_undrained (h : s.ringState r ≠ 2 ∨ s.drained r = false) : exec (.ringResetDone r) s = .next s :=
  if_neg (by rcases h with h | h <;> simp [h])

theorem State.ring_ringIdled : (s.ringIdled r).ring r = ringReset :=
  (State.ring_put ..).trans ((State.ring_put ..).trans ((State.ring_put ..).trans ((State.ring_put ..).trans
    (State.ring_setRing_same ..))))

theorem State.ringState_ringIdled : (s.ringIdled r).ringState r = 0 := State.get_put_fits _ 0 (by rfl)

theorem State.ringGen_ringIdled : (s.ringIdled r).ringGen r = (s.ringGen r + 1) % 256 :=
  calc (s.ringIdled r).ringGen r = ((((s.setRing r ringReset).put (Fld.RING_STAT_GEN r) ((s.ringGen r + 1) % 256)).put
        (Fld.RING_STAT_IDX r) 0).flag (Fld.RING_CFG_EN r) false).ringGen r := State.get_put_apart _ _ (by rfl)
    _ = (((s.setRing r ringReset).put (Fld.RING_STAT_GEN r) ((s.ringGen r + 1) % 256)).put (Fld.RING_STAT_IDX r) 0).ringGen r :=
      State.get_put_other _ _ _ _ (ringStat_ne_cfg r)
    _ = ((s.setRing r ringReset).put (Fld.RING_STAT_GEN r) ((s.ringGen r + 1) % 256)).ringGen r := State.get_put_apart _ _ (by rfl)
    _ = (s.ringGen r + 1) % 256 % 2 ^ 8 := State.get_put_fits _ _ (by rfl)
    _ = _ := Nat.mod_mod ..

theorem State.en_ringIdled : (s.ringIdled r).on (Fld.RING_CFG_EN r) = false :=
  (congrArg (· == 1) (State.get_put_other _ _ _ _ (ringStat_ne_cfg r).symm)).trans (State.on_flag_fits _ false (by rfl) (by rfl))

/-- An event and what the host interface notes leave a ring's registers. -/
theorem State.get_raise_setHost (x : HostS) (n i : Nat) {f : Fd} (hf : f.addr < Reg.EVT_STATUS 0) :
    ((s.setHost x).raise n i).get f = s.get f := (State.get_congr (State.reg_raise_below _ n i hf)).trans rfl

theorem ringRegs_below (r : Fin 64) : Reg.RING_STAT r < Reg.EVT_STATUS 0 ∧ Reg.RING_CFG r < Reg.EVT_STATUS 0 := by
  simp only [Reg.RING_STAT, Reg.RING_CFG, Reg.EVT_STATUS]
  omega

theorem exec_coalesceTimeout_of_due (h : s.ringType r = 2) (hu : 0 < (s.ring r).unsig) (hn : s.get (Fld.RING_CFG2_IROWS r) ≠ 0)
    (ha : s.get (Fld.RING_CFG2_IROWS r) ≤ (s.ring r).age) : exec (.coalesceTimeout r) s = .next (s.signalRing r) :=
  congrArg Host.Outcome.next (if_pos ⟨h, hu, hn, ha⟩)

theorem exec_coalesceTimeout_of_early (ha : (s.ring r).age < s.get (Fld.RING_CFG2_IROWS r)) :
    exec (.coalesceTimeout r) s = .next s :=
  congrArg Host.Outcome.next (if_neg fun h => Nat.not_le.mpr ha h.2.2.2)

end

/-! ### Descriptors that are taken (R443, R446) -/

section
variable {s : State} {r : Fin 64} {d : Desc} {l : List Desc}

theorem exec_rxBuf_of_good (hf : (s.ring r).fetched = d :: l) (hs : s.ringState r = 1) (hd : d.dup = false) (hl : d.lost = none)
    (ht : s.ringType r = 8) (ho : d.op = 0x21) (hb : s.badField r d = none) : exec (.rxBuf r) s =
      .next (s.modRing r (fun x => { x with fetched := l, posted := x.posted ++ [d] })).pumpAll := by
  change execRxBuf r s = _
  rw [execRxBuf]
  simp [hf, hs, hd, hl, ht, ho, hb]

/-- A sound descriptor of an RT ring, with its field checks passed (R446). -/
theorem State.takeBlock_of_good {ty : Nat} (start : State → RtBlock → State) (hf : (s.ring r).fetched = d :: l)
    (hs : s.ringState r = 1) (hd : d.dup = false) (hl : d.lost = none) (ho : d.op = 0x30) (htick : s.row.ticks = true)
    (hb : s.badField r d = none) (ht : s.ringType r = ty) : s.takeBlock r ty start =
      let k : Word := BitVec.ofNat 32 d.p0
      let left := s.modRing r (fun x => { x with fetched := l })
      (if earlierThan 32 k.toNat (s.row.rowIdx + 16).toNat then
        (((if s.dueInGap k then (left.count (ctrRing r 1)).raise 7 r else left).endBlock r d 0x0B 0)).settle r
      else if k = s.row.rowIdx + 16 ∧ (s.ring r).due = some k then
        start (s.modRing r (fun x =>
            { x with fetched := l, blocks := x.blocks ++ [⟨k, d, [], false, false, false, none⟩], due := none }))
          ⟨k, d, [], false, false, false, none⟩
      else s).pumpAll := by
  unfold State.takeBlock
  simp only [hf, hb]
  exact if_neg (by simp [hs, hd, hl, ho, htick, ht])

theorem earlierThan_irrefl (w : Word) : earlierThan 32 w.toNat w.toNat = false := by
  have := w.isLt
  simp only [earlierThan, decide_eq_false_iff_not]
  omega

end

/-! ### Blocks and transfers that end (R440, R447, R448, R588) -/

section
variable {s : State} {r : Fin 64}

theorem exec_rtBlock_of_none (h : (s.ring r).blocks = []) :
    exec (.rtPlayBlockDone r) s = .next s ∧ exec (.rtRecBlockWrite r) s = .next s := by
  change execRtPlayBlockDone r s = _ ∧ execRtRecBlockWrite r s = _
  rw [execRtPlayBlockDone, execRtRecBlockWrite, h]
  exact ⟨rfl, rfl⟩

theorem exec_rtPlayBlockDone_of_one {b : RtBlock} (h : (s.ring r).blocks = [b]) (hb : b.signalled = false) (hc : b.complete = true)
    (ht : s.ringType r = 5) : exec (.rtPlayBlockDone r) s =
      .next ((((s.modRing r (fun x => { x with blocks := [{ b with signalled := true }] })).queueComp
        { b.desc.comp r 0 b.k.toNat with ts := some (s.rowNs b.k) }).settleBlocks r).settle r).pumpAll := by
  change execRtPlayBlockDone r s = _
  rw [execRtPlayBlockDone]
  simp [State.modRing, h, hb, hc, ht]

theorem exec_rtRecBlockWrite_of_full {b : RtBlock} {l : List RtBlock} (h : (s.ring r).blocks = b :: l) (hn : b.rows.length = 64)
    (he : b.ended = none) (hs : s.ringState r ≠ 3) (ht : s.ringType r = 6) (ha : s.accOn (.record r) = false) :
    exec (.rtRecBlockWrite r) s =
      let p := s.newAcc (.record r) true 0 b.desc.addr (rowsBytes b.rows).length (rowsBytes b.rows)
      .next (p.1.goOn p.2.pages p.2).settle.pumpAll := by
  change execRtRecBlockWrite r s = _
  rw [execRtRecBlockWrite]
  simp [h, hn, he, hs, ht, ha]

theorem exec_dmaTransferDone_of_none (h : (s.ring r).active = none) : exec (.dmaTransferDone r) s = .next s := by
  change execDmaTransferDone r s = _
  rw [execDmaTransferDone, h]

theorem exec_dmaTransferDone_of_some {t : Transfer} (h : (s.ring r).active = some t) : exec (.dmaTransferDone r) s =
    if t.len ≤ t.off ∧ s.ringState r ≠ 4 then
      .next (if t.op = 10 then s.imageRead r t else (s.transferDone r t).pumpAll)
    else .next s := by
  change execDmaTransferDone r s = _
  rw [execDmaTransferDone, h]

theorem State.transferDone_of_read {t : Transfer} (h : t.op = 7) :
    s.transferDone r t = s.endTransfer r t.desc (t.desc.comp r 0 0) := by
  rw [State.transferDone, h]
  rfl

theorem State.transferDone_of_prog {t : Transfer} (h : t.op = 2) : s.transferDone r t =
    (if s.otherLoad r 2 t.desc.p0 then s else s.setPready t.desc.p0 true).endTransfer r t.desc (t.desc.comp r 0 0) := by
  rw [State.transferDone, h]
  rfl

theorem exec_slotProgramDone_of_other (h : r.val ∉ s.boot.programs) (ok : Bool) : exec (.slotProgramDone r ok) s = .next s :=
  if_neg (by simpa using h)

theorem exec_slotProgramDone_of_running {t : Transfer} (h : r.val ∈ s.boot.programs) (ha : (s.ring r).active = some t) (ok : Bool) :
    exec (.slotProgramDone r ok) s =
      let u : State := { s with boot := { s.boot with programs := s.boot.programs.filter (fun x => x != r.val) } }
      .next ((if ok then u.put (fdTries (t.desc.p0 - 1)) 0 else u).endImageLoad r t.desc.p0 (if ok then 0 else 0x13)) := by
  change execSlotProgramDone r ok s = _
  rw [execSlotProgramDone, if_pos (by simpa using h), ha]

end

/-- Settles O47: each clause is a case of the ring's command, descriptor, block or transfer; the resets read the ring's
registers back through the fields written. -/
theorem ringStates : Obligations.RingStates := by
  refine ⟨fun r w s => ⟨exec_ringEnable_of_busy, fun h0 h1 h8 => ?enable⟩, fun r s => ?reset,
    fun r d l s hf hs hd hl => ?taken, fun r s => ?ended⟩
  case enable =>
    intro u
    have hexec : exec (.ringEnable r w) s = .next (if !w.msb then u else if u.enableReason r = 0 then u.ringStarted r
        else (u.put (Fld.RING_STAT_REASON r) (u.enableReason r)).raise 5 (r + 256 * u.enableReason r)) :=
      exec_ringEnable_of_idle h0 h1 h8
    refine ⟨fun hw => ?_, fun hw hr => ⟨u.ringStarted r, ?_, State.ringState_ringStarted, State.ring_ringStarted,
      State.en_ringStarted⟩, fun hw hr => ?_⟩
    · rw [hexec, if_pos (by simp [hw])]
    · rw [hexec, if_neg (by simp [hw]), if_pos hr]
    · rw [hexec, if_neg (by simp [hw]), if_neg hr]
  case reset =>
    refine ⟨exec_ringReset_of_used, fun ht hs => ?_, fun ht hs => ?_, fun hs hd => ?_, exec_ringResetDone_of_undrained,
      fun ht hu hn => ⟨exec_coalesceTimeout_of_due ht hu hn, exec_coalesceTimeout_of_early⟩⟩
    · rw [exec_ringReset_of_other ht, if_pos hs]
    · rw [exec_ringReset_of_other ht, if_neg (by omega)]
    · obtain ⟨x, hx, hexec⟩ := exec_ringResetDone_of_drained hs hd
      obtain ⟨hstat, hcfg⟩ := ringRegs_below r
      refine ⟨_, hexec, ?_, ?_, ?_, ?_⟩
      · exact (State.get_raise_setHost _ _ _ hstat).trans State.ringState_ringIdled
      · exact (State.get_raise_setHost _ _ _ hstat).trans State.ringGen_ringIdled
      · refine (State.ring_raise ..).trans ((State.ring_setHost hx).trans State.ring_ringIdled)
      · exact (congrArg (· == 1) (State.get_raise_setHost _ _ _ hcfg)).trans State.en_ringIdled
  case taken =>
    refine ⟨exec_rxBuf_of_good hf hs hd hl, fun ho htick hb => ⟨fun he => ⟨fun ht => ?_, fun ht => ?_⟩,
      fun hk hdue => ⟨fun ht => ?_, fun ht => ?_⟩⟩⟩
    · exact congrArg Host.Outcome.next ((State.takeBlock_of_good _ hf hs hd hl ho htick hb ht).trans
        (congrArg State.pumpAll (if_pos he)))
    · exact congrArg Host.Outcome.next ((State.takeBlock_of_good _ hf hs hd hl ho htick hb ht).trans
        (congrArg State.pumpAll (if_pos he)))
    · have he : ¬ earlierThan 32 (BitVec.ofNat 32 d.p0).toNat (s.row.rowIdx + 16).toNat = true := by
        rw [hk, earlierThan_irrefl]
        exact Bool.false_ne_true
      exact congrArg Host.Outcome.next ((State.takeBlock_of_good _ hf hs hd hl ho htick hb ht).trans
        (congrArg State.pumpAll ((if_neg he).trans (if_pos ⟨hk, hdue⟩))))
    · have he : ¬ earlierThan 32 (BitVec.ofNat 32 d.p0).toNat (s.row.rowIdx + 16).toNat = true := by
        rw [hk, earlierThan_irrefl]
        exact Bool.false_ne_true
      exact congrArg Host.Outcome.next ((State.takeBlock_of_good _ hf hs hd hl ho htick hb ht).trans
        (congrArg State.pumpAll ((if_neg he).trans (if_pos ⟨hk, hdue⟩))))
  case ended =>
    refine ⟨exec_rtBlock_of_none, fun b => exec_rtPlayBlockDone_of_one, fun b l => exec_rtRecBlockWrite_of_full,
      exec_dmaTransferDone_of_none, fun t ha => ⟨fun ho => ?_, fun ho hs h7 => ?_, fun ho hs h2 => ?_⟩,
      exec_slotProgramDone_of_other, fun t ok h ha => exec_slotProgramDone_of_running h ha ok⟩
    · rw [exec_dmaTransferDone_of_some ha, if_neg (by omega)]
    · rw [exec_dmaTransferDone_of_some ha, if_pos ⟨ho, hs⟩, if_neg (by omega), State.transferDone_of_read h7]
    · rw [exec_dmaTransferDone_of_some ha, if_pos ⟨ho, hs⟩, if_neg (by omega), State.transferDone_of_prog h2]

end Sys2Proof.Machine

/-! ## Bus, sag and rails (R540 to R568) -/

namespace Sys2Proof.Machine

/-! ### Overvoltage and power fail (R540, R541, R568) -/

section
variable {s : State}

theorem exec_vbusOvervoltage_of_new (hp : s.sup.powered = true) (h : s.on Fld.SUP_RAIL_STAT_OV = false) :
    exec .vbusOvervoltage s =
      .next ((((s.flag Fld.SUP_RAIL_STAT_OV true).stopChannels [2, 3, 6]).count (ctrSup 2)).raiseSupply 207 3) :=
  congrArg Host.Outcome.next (if_neg (by simp [hp, h]))

theorem exec_vbusOvervoltage_of_known (h : s.sup.powered = false ∨ s.on Fld.SUP_RAIL_STAT_OV = true) :
    exec .vbusOvervoltage s = .next s := congrArg Host.Outcome.next (if_pos (by rcases h with h | h <;> simp [h]))

theorem exec_vbusOvervoltageClear_of_on (h : s.on Fld.SUP_RAIL_STAT_OV = true) : exec .vbusOvervoltageClear s =
    .next ((s.flag Fld.SUP_RAIL_STAT_OV false).restartChannels.raiseSupply 207 4) := congrArg Host.Outcome.next (if_pos h)

theorem exec_vbusOvervoltageClear_of_off (h : s.on Fld.SUP_RAIL_STAT_OV = false) : exec .vbusOvervoltageClear s = .next s :=
  congrArg Host.Outcome.next (if_neg (by simp [h]))

/-- The channels have stopped for a power-fail warning. -/
def State.powerFailing (s : State) : State :=
  (((s.flag Fld.SUP_RAIL_STAT_PFW true).stopChannels [2, 3, 6]).count (ctrSup 1)).raiseSupply 207 1

theorem exec_powerFailWarning_of_new (hp : s.sup.powered = true) (h : s.on Fld.SUP_RAIL_STAT_PFW = false) :
    exec .powerFailWarning s = .next (if s.inReset || s.asleep then s.powerFailing else s.powerFailing.saveLife) :=
  congrArg Host.Outcome.next (if_neg (by simp [hp, h]))

theorem exec_powerFailWarning_of_known (h : s.sup.powered = false ∨ s.on Fld.SUP_RAIL_STAT_PFW = true) :
    exec .powerFailWarning s = .next s := congrArg Host.Outcome.next (if_pos (by rcases h with h | h <;> simp [h]))

theorem exec_powerFailWarningClear_of_on (h : s.on Fld.SUP_RAIL_STAT_PFW = true) : exec .powerFailWarningClear s =
    .next ((s.flag Fld.SUP_RAIL_STAT_PFW false).restartChannels.raiseSupply 207 2) := congrArg Host.Outcome.next (if_pos h)

theorem exec_powerFailWarningClear_of_off (h : s.on Fld.SUP_RAIL_STAT_PFW = false) : exec .powerFailWarningClear s = .next s :=
  congrArg Host.Outcome.next (if_neg (by simp [h]))

theorem State.raiseSupply_of_standby (h : s.nodeState = 1) (n i : Nat) :
    s.raiseSupply n i = { s with sup := { s.sup with owed := s.sup.owed ++ [(n, i)] } } := if_pos h

theorem State.raiseSupply_of_awake (h : s.nodeState ≠ 1) (n i : Nat) : s.raiseSupply n i = s.supplyEvent n i := if_neg h

end

/-! ### Sag (R544 to R547) -/

section
variable {s : State} {level slope : Bool} {vbus : BitVec 10} {ns : Fin 65536}

/-- A sag condition that SAG_CFG lets through. -/
def State.sagCause (s : State) (level slope : Bool) : Prop := level = true ∨ (slope = true ∧ s.get Fld.SUP_SAG_CFG_SLOPE ≠ 0)

/-- The detector waits for a sag. -/
def State.sagReady (s : State) : Prop :=
  s.sup.powered = true ∧ s.on Fld.SUP_SAG_CFG_EN = true ∧ s.on Fld.SUP_RAIL_STAT_SAG = false

theorem State.sagIgnored_iff : (!s.sup.powered || !s.on Fld.SUP_SAG_CFG_EN || s.on Fld.SUP_RAIL_STAT_SAG ||
    !(level || (slope && s.get Fld.SUP_SAG_CFG_SLOPE != 0))) = true ↔ ¬ (s.sagReady ∧ s.sagCause level slope) := by
  simp only [State.sagReady, State.sagCause]
  grind

theorem exec_sagAssert_of_sag (hr : s.sagReady) (hc : s.sagCause level slope) : exec (.sagAssert level slope vbus ns) s =
    let t := (s.flag Fld.SUP_RAIL_STAT_SAG true).count (ctrSup 0)
    .next (if s.nodeState = 1 then t
      else (t.supplyEvent 206 (level.toNat + 2 * slope.toNat + 256 * vbus.toNat)).assertSag ns) :=
  congrArg Host.Outcome.next (if_neg fun h => State.sagIgnored_iff.mp h ⟨hr, hc⟩)

theorem exec_sagAssert_of_none (h : ¬ (s.sagReady ∧ s.sagCause level slope)) : exec (.sagAssert level slope vbus ns) s = .next s :=
  congrArg Host.Outcome.next (if_pos (State.sagIgnored_iff.mpr h))

end

section
variable (s : State)

/-- What the gauge knows of a sag. -/
def State.sagPart (s : State) : Bool × Nat := (s.row.sag, s.row.sagStep)

theorem State.sagPart_judge (c cycles : Nat) : (s.judge c cycles).sagPart = s.sagPart := by
  unfold State.judge
  extract_lets tooLong
  split
  · unfold State.markShed
    dsimp only
    split
    · rfl
    · obtain ⟨r, l, e, o, h⟩ := State.countBy_frame _ ctrShed 1
      rw [State.count, h]
      rfl
  · rfl

theorem State.sagPart_foldl_judge (l : List Nat) (cycles : State → Nat) :
    (l.foldl (fun s c => s.judge c (cycles s)) s).sagPart = s.sagPart := by
  induction l generalizing s with
  | nil => rfl
  | cons c l ih => exact (ih _).trans (s.sagPart_judge c _)

theorem State.sagPart_setGauge (g ns : Nat) : (s.setGauge g ns).sagPart = s.sagPart := by
  unfold State.setGauge
  dsimp only
  split
  · exact State.sagPart_foldl_judge _ _ (fun _ => _)
  · split
    · exact State.sagPart_foldl_judge _ _ (fun t => cyclesTo 2 s.row.accU s.row.sinceU g s.row.selvage t.fs)
    · rfl

/-- The step that a sag asks for. -/
def State.sagTarget (s : State) : Nat := min 15 (s.lowStep + s.get Fld.SUP_SAGDEPTH_DEPTH)

theorem State.sagPart_assertSag (ns : Nat) : (s.assertSag ns).sagPart = (true, s.sagTarget) := by
  unfold State.assertSag
  dsimp only
  split
  · exact State.sagPart_setGauge ..
  · rfl

theorem State.gauge_assertSag (ns : Nat) : s.sagTarget ≤ (s.assertSag ns).row.gauge := by
  unfold State.assertSag
  dsimp only
  split
  · exact (State.setGauge_gauge ..).ge
  · next h => exact Nat.not_lt.mp h

theorem exec_sagDeassert_of_on (h : s.on Fld.SUP_RAIL_STAT_SAG = true) : exec .sagDeassert s = .next s.deassertSag :=
  congrArg Host.Outcome.next (if_pos h)

theorem exec_sagDeassert_of_off (h : s.on Fld.SUP_RAIL_STAT_SAG = false) : exec .sagDeassert s = .next s :=
  congrArg Host.Outcome.next (if_neg (by simp [h]))

theorem State.on_sag_deassertSag : s.deassertSag.on Fld.SUP_RAIL_STAT_SAG = false := State.on_flag_fits s false (by rfl) (by rfl)

end

/-! ### What full reset keeps of supply management and swatch (R571)

Their registers lie behind those of the events and before those of the engine, so what a reset counts and reports leaves them. -/

/-- A register of supply management or of swatch. -/
def onSupSwt (a : Nat) : Prop := 0x060000 ≤ a ∧ a < 0x080000

/-- `t` has the register at `a` of `s`, and its states of supply management, swatch and boot. -/
structure ResetKept (a : Nat) (s t : State) : Prop where
  reg : t.reg a = s.reg a
  sup : t.sup = s.sup
  swt : t.swt = s.swt
  boot : t.boot = s.boot

theorem State.sup_put (s : State) (f : Fd) (v : Nat) : (s.put f v).sup = s.sup := rfl

theorem State.swt_put (s : State) (f : Fd) (v : Nat) : (s.put f v).swt = s.swt := rfl

theorem State.sup_raise (s : State) (n i : Nat) : (s.raise n i).sup = s.sup := rfl

theorem State.swt_raise (s : State) (n i : Nat) : (s.raise n i).swt = s.swt := rfl

theorem State.swt_count (s : State) (c : Ctr) : (s.count c).swt = s.swt := by
  obtain ⟨r, l, e, o, h⟩ := s.countBy_frame c 1
  rw [State.count, h]

section
variable {a : Nat} {o s t : State}

theorem ResetKept.refl (a : Nat) (s : State) : ResetKept a s s := ⟨rfl, rfl, rfl, rfl⟩

theorem ResetKept.ite {c : Prop} {_ : Decidable c} {x y : State} (hx : ResetKept a o x) (hy : ResetKept a o y) :
    ResetKept a o (if c then x else y) := by
  split <;> assumption

theorem ResetKept.foldl {α : Type} {f : State → α → State} {l : List α} (h : ResetKept a o s)
    (hf : ∀ t, ∀ x ∈ l, ResetKept a o t → ResetKept a o (f t x)) : ResetKept a o (l.foldl f s) := by
  induction l generalizing s with
  | nil => exact h
  | cons x l ih =>
    exact ih (hf s x List.mem_cons_self h) fun t y hy => hf t y (List.mem_cons_of_mem x hy)

theorem ResetKept.put (h : ResetKept a o s) {f : Fd} (v : Nat) (hf : a ≠ f.addr) : ResetKept a o (s.put f v) :=
  ⟨(s.reg_put_other hf).trans h.reg, (s.sup_put f v).trans h.sup, (s.swt_put f v).trans h.swt, (s.put_boot f v).trans h.boot⟩

theorem ResetKept.setRow (h : ResetKept a o s) (r : RowS) : ResetKept a o (s.setRow r) := ⟨h.reg, h.sup, h.swt, h.boot⟩

theorem ResetKept.modCore (h : ResetKept a o s) (c : Nat) (f : Core → Core) : ResetKept a o (s.modCore c f) :=
  ⟨h.reg, h.sup, h.swt, h.boot⟩

theorem ResetKept.modBase (h : ResetKept a o s) (n : Nat) (f : TimeBase → TimeBase) : ResetKept a o (s.modBase n f) :=
  ⟨h.reg, h.sup, h.swt, h.boot⟩

variable (ha : onSupSwt a)
include ha

theorem onSupSwt.above : Reg.EVT_INFO 256 ≤ a := by
  have := ha.1
  simp only [Reg.EVT_INFO]
  omega

theorem ResetKept.raise (h : ResetKept a o s) {n : Nat} (i : Nat) (hn : n < 256) : ResetKept a o (s.raise n i) :=
  ⟨(s.reg_raise_above hn i ha.above).trans h.reg, (s.sup_raise n i).trans h.sup, (s.swt_raise n i).trans h.swt,
    (s.raise_boot n i).trans h.boot⟩

theorem ResetKept.countShed (h : ResetKept a o s) : ResetKept a o (s.count ctrShed) := by
  have hsat : a ≠ ctrShed.sat.addr := by
    have := ha.2
    simp only [ctrShed, Reg.ENG_CNT_SAT]
    omega
  exact ⟨(s.reg_countBy_above ctrShed 1 ha.above hsat).trans h.reg, (s.count_sup _).trans h.sup, (s.swt_count _).trans h.swt,
    (s.countBy_boot ctrShed 1).trans h.boot⟩

theorem ResetKept.judge (h : ResetKept a o s) (c cycles : Nat) : ResetKept a o (s.judge c cycles) :=
  .ite (.ite (h.modCore ..) (ResetKept.countShed ha ((h.modCore ..).setRow _))) h

theorem ResetKept.setGauge (h : ResetKept a o s) (g ns : Nat) : ResetKept a o (s.setGauge g ns) :=
  .ite ((h.setRow _).foldl fun _ _ _ h => h.judge ha ..)
    (.ite ((h.setRow _).foldl fun _ _ _ h => h.judge ha ..) (h.setRow _))

theorem ResetKept.assertSag (h : ResetKept a o s) (ns : Nat) : ResetKept a o (s.assertSag ns) :=
  .ite ((h.setRow _).setGauge ha ..) (h.setRow _)

theorem ResetKept.riseSats (h : ResetKept a o s) : ResetKept a o s.riseSats := by
  refine h.foldl fun t g hg ht => ?_
  have hlt := lt_of_mem_addrs hg
  split
  · rw [State.level, if_pos rfl]
    exact .ite ht (ht.raise ha _ (by omega))
  · exact ht

theorem onSupSwt.ne_tbStat {n : Nat} : a ≠ Reg.TB_STAT n := by
  have := ha.2
  simp only [Reg.TB_STAT]
  omega

theorem ResetKept.resetBase (h : ResetKept a o s) (n : Nat) : ResetKept a o (s.resetBase n) :=
  .ite (((h.modBase ..).put _ ha.ne_tbStat).put _ ha.ne_tbStat) (h.modBase ..)

end

/-! ### Words that a table lists in canonical form -/

/-- The table reads `w` at `a`, and lists nothing there if that is the reset word. -/
structure HoldsWord (m : Table Word) (a : Nat) (w : Word) : Prop where
  get : Table.get resetWord m a = w
  canonical : w = resetWord a → ∀ p ∈ m, p.1 ≠ a

section
variable {m : Table Word} {a : Nat} {w : Word}

theorem HoldsWord.of_ne (h : Table.get resetWord m a ≠ resetWord a) : HoldsWord m a (Table.get resetWord m a) :=
  ⟨rfl, fun he => absurd he h⟩

theorem Table.fst_ne_of_mem_erase {p : Nat × Word} (h : p ∈ Table.erase a m) : p.1 ≠ a ∧ p ∈ m := by
  induction m with
  | nil => cases h
  | cons q m ih =>
    obtain ⟨b, v⟩ := q
    rw [Table.erase] at h
    split at h
    · exact ⟨(ih h).1, List.mem_cons_of_mem _ (ih h).2⟩
    · next hb =>
      rcases List.mem_cons.mp h with rfl | h
      · exact ⟨Ne.symm hb, List.mem_cons_self⟩
      · exact ⟨(ih h).1, List.mem_cons_of_mem _ (ih h).2⟩

theorem Table.mem_of_mem_insert {p : Nat × Word} {v : Word} (h : p ∈ Table.insert a v m) : p.1 = a ∨ p ∈ m := by
  induction m with
  | nil => exact Or.inl (congrArg Prod.fst (List.mem_singleton.mp h))
  | cons q m ih =>
    obtain ⟨b, x⟩ := q
    rw [Table.insert] at h
    split at h
    · rcases List.mem_cons.mp h with rfl | h
      · exact Or.inl rfl
      · exact Or.inr h
    · split at h
      · rcases List.mem_cons.mp h with rfl | h
        · exact Or.inl rfl
        · exact Or.inr (List.mem_cons_of_mem _ h)
      · rcases List.mem_cons.mp h with rfl | h
        · exact Or.inr List.mem_cons_self
        · exact (ih h).imp_right (List.mem_cons_of_mem _)

theorem HoldsWord.set_other (h : HoldsWord m a w) {b : Nat} (hb : a ≠ b) (v : Word) : HoldsWord (Table.set resetWord m b v) a w := by
  refine ⟨(Table.get_set_other _ _ _ _ _ hb).trans h.get, fun hw p hp => ?_⟩
  rw [Table.set] at hp
  split at hp
  · exact h.canonical hw p (Table.fst_ne_of_mem_erase hp).2
  · rcases Table.mem_of_mem_insert hp with hp | hp
    · exact hp ▸ hb.symm
    · exact h.canonical hw p hp

/-- Full reset makes of such a word what it makes of the register. -/
theorem HoldsWord.get_afterReset (h : HoldsWord m a w) (hne : w ≠ resetWord a → wordAfterReset a w ≠ resetWord a)
    (hreset : wordAfterReset a (resetWord a) = resetWord a) : Table.get resetWord (regsAfterReset m) a = wordAfterReset a w := by
  induction m with
  | nil =>
    obtain rfl : resetWord a = w := h.get
    exact hreset.symm
  | cons p m ih =>
    obtain ⟨b, v⟩ := p
    by_cases hb : a = b
    · subst hb
      obtain rfl : v = w := by simpa [Table.get] using h.get
      have hv := hne fun he => h.canonical he _ List.mem_cons_self rfl
      simp [regsAfterReset, hv, Table.get]
    · have htail : HoldsWord m a w :=
        ⟨by simpa [Table.get, hb] using h.get, fun hw p hp => h.canonical hw p (List.mem_cons_of_mem _ hp)⟩
      have hrest := ih htail
      by_cases hv : wordAfterReset b v = resetWord b
      · simpa [regsAfterReset, List.filterMap_cons, hv, Table.get, hb] using hrest
      · simpa [regsAfterReset, List.filterMap_cons, hv, Table.get, hb] using hrest

end

section
variable {s : State} {a : Nat} {w : Word}

theorem HoldsWord.put (h : HoldsWord s.regs a w) {f : Fd} (v : Nat) (hf : a ≠ f.addr) : HoldsWord (s.put f v).regs a w :=
  h.set_other hf _

theorem HoldsWord.resetBase (h : HoldsWord s.regs a w) (ha : onSupSwt a) (n : Nat) : HoldsWord (s.resetBase n).regs a w := by
  unfold State.resetBase
  extract_lets lock c6 s1
  have h1 : HoldsWord s1.regs a w := h
  split
  · exact (h1.put _ ha.ne_tbStat).put _ ha.ne_tbStat
  · exact h1

theorem State.cutMarch_of_none (h : ∀ c, s.swt.fg ≠ some (2, c)) : s.cutMarch = s := by
  unfold State.cutMarch
  split
  · next c hc => exact absurd hc (h c)
  · rfl

theorem HoldsWord.cutMarch (h : HoldsWord s.regs a w) (ha : a ≠ Reg.SWT_FG_STAT ∨ ∀ c, s.swt.fg ≠ some (2, c)) :
    HoldsWord s.cutMarch.regs a w := by
  rcases ha with ha | ha
  · unfold State.cutMarch
    split
    · exact h.put 6 ha
    · exact h
  · rwa [State.cutMarch_of_none ha]

theorem State.cutMarch_sup (s : State) : s.cutMarch.sup = s.sup := by
  unfold State.cutMarch
  split
  · exact s.sup_put Fld.SWT_FG_STAT_RESULT 6
  · rfl

theorem State.cutMarch_jtag (s : State) : s.cutMarch.boot.jtag = s.boot.jtag := by
  unfold State.cutMarch
  split
  · have hput := congrArg BootS.jtag (s.put_boot Fld.SWT_FG_STAT_RESULT 6)
    exact hput
  · rfl

/-- The state whose tables a full reset goes through: a march is cut, and the time bases hold over. -/
def State.basesReset (s : State) : State := (((s.cutMarch.resetBase 0).resetBase 1).resetBase 2).resetBase 3

/-- What full reset leaves of the registers at `a`, of supply management, of a march and of the JTAG port. -/
theorem State.fullReset_spec (ha : onSupSwt a) (s : State) :
    s.fullReset.reg a = Table.get resetWord (regsAfterReset s.basesReset.regs) a ∧
      s.fullReset.sup = { s.sup with move := .none, paused := false } ∧
      s.fullReset.swt.marching = false ∧ s.fullReset.boot.jtag = s.boot.jtag := by
  unfold State.fullReset
  extract_lets s0 _ _ _ _ _ _ _ t t1
  have h0 : ResetKept a s.cutMarch s0 :=
    ((((ResetKept.refl a s.cutMarch).resetBase ha 0).resetBase ha 1).resetBase ha 2).resetBase ha 3
  have hsup : t.sup = { s.sup with move := .none, paused := false } :=
    congrArg (fun p : SupS => { p with move := .none, paused := false }) (h0.sup.trans s.cutMarch_sup)
  have hjtag : t.boot.jtag = s.boot.jtag := (congrArg BootS.jtag h0.boot).trans s.cutMarch_jtag
  have hstat : a ≠ Reg.BOOT_FUSE_STAT := by
    have := ha.1
    simp only [Reg.BOOT_FUSE_STAT]
    omega
  have h1 : ResetKept a t t1 := .ite ((ResetKept.refl a t).put _ hstat) (.refl a t)
  have hlast : ResetKept a t (if s0.on Fld.SUP_RAIL_STAT_SAG then t1.assertSag 0 else t1).riseSats :=
    ResetKept.riseSats ha (.ite (h1.assertSag ha 0) h1)
  exact ⟨hlast.reg, hlast.sup.trans hsup, congrArg SwtS.marching hlast.swt, (congrArg BootS.jtag hlast.boot).trans hjtag⟩

/-- The mark of a cause, and what goes out with it. -/
theorem State.markCause_kept (s : State) (c a : Nat) (x : Output) :
    ((s.addCause c).send x).reg a = s.reg a ∧ ((s.addCause c).send x).sup = s.sup ∧ ((s.addCause c).send x).swt = s.swt ∧
      ((s.addCause c).send x).boot.jtag = s.boot.jtag := ⟨rfl, rfl, rfl, rfl⟩

theorem State.addCause_kept (s : State) (c a : Nat) : (s.addCause c).reg a = s.reg a ∧ (s.addCause c).sup = s.sup ∧
    (s.addCause c).swt = s.swt ∧ (s.addCause c).boot.jtag = s.boot.jtag := ⟨rfl, rfl, rfl, rfl⟩

/-- A cause that begins is a full reset, where none lasts. -/
theorem State.beginReset_spec (ha : onSupSwt a) (s : State) (c : Nat) :
    (s.beginReset c).reg a = (if s.inReset then s.reg a else Table.get resetWord (regsAfterReset s.basesReset.regs) a) ∧
      (s.beginReset c).sup.restart = s.sup.restart ∧ (s.swt.marching = false → (s.beginReset c).swt.marching = false) ∧
      (s.beginReset c).boot.jtag = s.boot.jtag := by
  have hcause : a ≠ Reg.BOOT_RST_CAUSE := by
    have := ha.1
    simp only [Reg.BOOT_RST_CAUSE]
    omega
  cases hr : s.inReset
  · obtain ⟨hreg, hsup, hmarch, hjtag⟩ := s.fullReset_spec ha
    have hk := (ResetKept.refl a s.fullReset).put (f := Fld.BOOT_RST_CAUSE_CAUSE) c hcause
    obtain ⟨hr', hs', hw', hj'⟩ := State.markCause_kept (s.fullReset.put Fld.BOOT_RST_CAUSE_CAUSE c) c a (.balls resetBalls)
    rw [State.beginReset_of_released hr, hr', hs', hw', hj', hk.reg, hk.sup, hk.swt, hk.boot, hsup]
    exact ⟨hreg, rfl, fun _ => hmarch, hjtag⟩
  · have hk := (ResetKept.refl a s).put (f := Fld.BOOT_RST_CAUSE_CAUSE) (min c (s.get Fld.BOOT_RST_CAUSE_CAUSE)) hcause
    obtain ⟨hr', hs', hw', hj'⟩ := State.addCause_kept
      (s.put Fld.BOOT_RST_CAUSE_CAUSE (min c (s.get Fld.BOOT_RST_CAUSE_CAUSE))) c a
    rw [State.beginReset_of_inReset hr, hr', hs', hw', hj', hk.reg, hk.sup, hk.swt, hk.boot]
    exact ⟨rfl, rfl, id, rfl⟩

theorem State.reg_beginReset (ha : onSupSwt a) (h : HoldsWord s.regs a w) (hfg : a ≠ Reg.SWT_FG_STAT ∨ ∀ c, s.swt.fg ≠ some (2, c))
    (hne : w ≠ resetWord a → wordAfterReset a w ≠ resetWord a) (hreset : wordAfterReset a (resetWord a) = resetWord a) (c : Nat) :
    (s.beginReset c).reg a = if s.inReset then w else wordAfterReset a w := by
  have hword : HoldsWord s.basesReset.regs a w :=
    ((((h.cutMarch hfg).resetBase ha 0).resetBase ha 1).resetBase ha 2).resetBase ha 3
  rw [(s.beginReset_spec ha c).1, hword.get_afterReset hne hreset, show s.reg a = w from h.get]

/-- A RAIL_STAT that is not at its reset word is kept, and so is the rail that restarts. -/
theorem State.beginReset_rail (h : s.reg Reg.SUP_RAIL_STAT ≠ resetWord Reg.SUP_RAIL_STAT) (c : Nat) :
    (s.beginReset c).reg Reg.SUP_RAIL_STAT = s.reg Reg.SUP_RAIL_STAT ∧ (s.beginReset c).sup.restart = s.sup.restart := by
  have ha : onSupSwt Reg.SUP_RAIL_STAT := ⟨by decide, by decide⟩
  have hkeep (w : Word) : wordAfterReset Reg.SUP_RAIL_STAT w = w := if_pos (by decide)
  have hreg := State.reg_beginReset ha (HoldsWord.of_ne h) (Or.inl (by decide)) (fun hw => (hkeep _).trans_ne hw) (hkeep _) c
  exact ⟨hreg.trans (by rw [hkeep, ite_self]; rfl), (s.beginReset_spec ha c).2.1⟩

end

/-! ### Rail faults (R555, R556) -/

/-- A fault of a rail is marked in RAIL_STAT, and its event is owed. -/
def State.railMarked (s : State) (rail cause : Nat) (latch : Bool) (faults : List Nat) (owed : List (Nat × Nat)) : State :=
  let u := ((s.put Fld.SUP_RAIL_STAT_LASTRAIL rail).put Fld.SUP_RAIL_STAT_LASTCAUSE cause).flag Fld.SUP_RAIL_STAT_CLATCH latch
  { u with sup := { u.sup with faults := faults, owed := owed } }

section
variable (s : State) {rail cause : Nat} (latch : Bool) (faults : List Nat) (owed : List (Nat × Nat))

theorem State.powered_owing : ({ s with sup := { s.sup with faults := faults, owed := owed } } : State).sup.powered = s.sup.powered := rfl

theorem State.powered_railMarked : (s.railMarked rail cause latch faults owed).sup.powered = s.sup.powered :=
  (State.powered_owing ..).trans
    (congrArg SupS.powered ((State.sup_put ..).trans ((State.sup_put ..).trans (State.sup_put ..))))


theorem State.lastRail_railMarked (h : rail < 16) :
    (s.railMarked rail cause latch faults owed).get Fld.SUP_RAIL_STAT_LASTRAIL = rail := by
  rw [State.railMarked, State.get_withSup, State.get_flag_apart _ _ (by rfl), State.get_put_apart _ _ (by rfl),
    State.get_put_fits _ _ (by rfl)]
  exact Nat.mod_eq_of_lt h

theorem State.lastCause_railMarked (h : cause < 16) :
    (s.railMarked rail cause latch faults owed).get Fld.SUP_RAIL_STAT_LASTCAUSE = cause := by
  rw [State.railMarked, State.get_withSup, State.get_flag_apart _ _ (by rfl), State.get_put_fits _ _ (by rfl)]
  exact Nat.mod_eq_of_lt h

theorem State.clatch_railMarked : (s.railMarked rail cause latch faults owed).on Fld.SUP_RAIL_STAT_CLATCH = latch :=
  (congrArg (· == 1) (State.get_withSup ..)).trans (State.on_flag_fits _ latch (by rfl) (by rfl))

end

/-- Rails that restart, with their cause of full reset to come. -/
def State.railsRestarting (s : State) (rail : Nat) : State := { s with sup := { s.sup with restart := some rail } }

section
variable {s : State} {rail : Fin 7} {cause : Fin 4} {ms : BitVec 64}

/-- The faults of the last 10 s. -/
def State.recentFaults (s : State) (ms : Nat) : List Nat := s.sup.faults.filter (fun t => decide (ms < t + 10000))

/-- Do the faults latch with one more? -/
def State.railLatches (s : State) (ms : Nat) : Bool := decide (2 ≤ (s.recentFaults ms).length)

theorem State.railLatches_eq (s : State) (ms : Nat) : decide (3 ≤ (ms :: s.recentFaults ms).length) = s.railLatches ms :=
  decide_eq_decide.mpr (by rw [List.length_cons]; omega)

/-- The rails of a fault have their power-good bits cleared. -/
def State.railsLost (s : State) (rail : Nat) : State :=
  s.put Fld.SUP_RAIL_STAT_OK (Nat.land (s.get Fld.SUP_RAIL_STAT_OK) (31 - okLost rail))

theorem State.railFault_of_restart (s : State) {rail : Nat} (h : rail ≤ 4) (cause ms : Nat) : ∃ owed, s.railFault rail cause ms =
    (((s.railsLost rail).railMarked rail cause (s.railLatches ms) (ms :: s.recentFaults ms) owed).railsRestarting rail).beginReset 1 := by
  rw [← State.railLatches_eq]
  exact ⟨_, if_pos h⟩

theorem State.railFault_of_powerDown (s : State) {rail : Nat} (h : 4 < rail) (cause ms : Nat) : ∃ owed, s.railFault rail cause ms =
    s.powerDown.railMarked rail cause (s.railLatches ms) (ms :: s.recentFaults ms) owed := by
  rw [← State.railLatches_eq]
  exact ⟨_, if_neg (Nat.not_le.mpr h)⟩

/-- A fault that the rails take: the node has power and no latch, and OC is a cause of rail 1 alone. -/
def State.railMayFault (s : State) (rail : Fin 7) (cause : Fin 4) : Prop :=
  s.sup.powered = true ∧ s.on Fld.SUP_RAIL_STAT_CLATCH = false ∧ rail.val ≠ 0 ∧ cause.val ≠ 0 ∧ (cause.val = 3 → rail.val = 1)

theorem State.railIgnored_iff : (!s.sup.powered || s.on Fld.SUP_RAIL_STAT_CLATCH || rail.val == 0 || cause.val == 0 ||
    (cause.val == 3 && rail.val != 1)) = true ↔ ¬ s.railMayFault rail cause := by
  simp only [State.railMayFault]
  grind

theorem exec_railFault_of_ok (h : s.railMayFault rail cause) :
    exec (.railFault rail cause ms) s = .next (s.railFault rail cause ms.toNat) :=
  congrArg Host.Outcome.next (if_neg fun hn => State.railIgnored_iff.mp hn h)

theorem exec_railFault_of_ignored (h : ¬ s.railMayFault rail cause) : exec (.railFault rail cause ms) s = .next s :=
  congrArg Host.Outcome.next (if_pos (State.railIgnored_iff.mpr h))

/-- A marked RAIL_STAT is not at its reset word. -/
theorem State.reg_ne_reset_of_lastRail (h : s.get Fld.SUP_RAIL_STAT_LASTRAIL ≠ 0) :
    s.reg Reg.SUP_RAIL_STAT ≠ resetWord Reg.SUP_RAIL_STAT := by
  intro hr
  have hzero : bitsOf (resetWord Reg.SUP_RAIL_STAT) 23 20 = 0 := by decide
  exact h ((congrArg (bitsOf · 23 20) hr).trans hzero)

/-- The reset of a rail fault keeps what the fault has marked. -/
theorem State.get_railReset {v : State} (h : v.get Fld.SUP_RAIL_STAT_LASTRAIL ≠ 0) (r : Nat) {f : Fd}
    (hf : f.addr = Reg.SUP_RAIL_STAT) : ((v.railsRestarting r).beginReset 1).get f = v.get f := by
  have hne : (v.railsRestarting r).reg Reg.SUP_RAIL_STAT ≠ resetWord Reg.SUP_RAIL_STAT := State.reg_ne_reset_of_lastRail h
  refine State.get_congr ?_
  rw [hf]
  exact (State.beginReset_rail hne 1).1

theorem State.restart_railReset {v : State} (h : v.get Fld.SUP_RAIL_STAT_LASTRAIL ≠ 0) (r : Nat) :
    ((v.railsRestarting r).beginReset 1).sup.restart = some r := by
  have hne : (v.railsRestarting r).reg Reg.SUP_RAIL_STAT ≠ resetWord Reg.SUP_RAIL_STAT := State.reg_ne_reset_of_lastRail h
  exact (State.beginReset_rail hne 1).2

/-- RAIL_STAT shows a fault in the same way whichever rail it is. -/
theorem State.railStat_railFault (h0 : rail.val ≠ 0) (ms : Nat) :
    (s.railFault rail cause ms).get Fld.SUP_RAIL_STAT_LASTRAIL = rail.val ∧
      (s.railFault rail cause ms).get Fld.SUP_RAIL_STAT_LASTCAUSE = cause.val ∧
      (s.railFault rail cause ms).on Fld.SUP_RAIL_STAT_CLATCH = s.railLatches ms := by
  have hr : rail.val < 16 := by omega
  have hc : cause.val < 16 := by omega
  rcases Nat.lt_or_ge 4 rail.val with h4 | h4
  · obtain ⟨owed, heq⟩ := s.railFault_of_powerDown h4 cause ms
    rw [heq]
    exact ⟨State.lastRail_railMarked _ _ _ _ hr, State.lastCause_railMarked _ _ _ _ hc, State.clatch_railMarked ..⟩
  · obtain ⟨owed, heq⟩ := s.railFault_of_restart h4 cause ms
    have hrail := (s.railsLost rail).lastRail_railMarked (cause := cause) (s.railLatches ms) (ms :: s.recentFaults ms) owed hr
    have hne := hrail.trans_ne h0
    rw [heq]
    exact ⟨(State.get_railReset hne _ rfl).trans hrail,
      (State.get_railReset hne _ rfl).trans (State.lastCause_railMarked _ _ _ _ hc),
      (congrArg (· == 1) (State.get_railReset hne _ rfl)).trans (State.clatch_railMarked ..)⟩

/-- A fault of rails 1 to 4 begins a full reset with cause RAIL, and their restart. -/
theorem State.railFault_restarts (h0 : rail.val ≠ 0) (h4 : rail.val ≤ 4) (ms : Nat) :
    1 ∈ (s.railFault rail cause ms).boot.causes ∧ (s.railFault rail cause ms).sup.restart = some rail.val ∧
      (s.railFault rail cause ms).inReset = true := by
  obtain ⟨owed, heq⟩ := s.railFault_of_restart h4 cause ms
  have hrail := (s.railsLost rail).lastRail_railMarked (cause := cause) (s.railLatches ms) (ms :: s.recentFaults ms) owed
    (show rail.val < 16 by omega)
  rw [heq]
  exact ⟨State.mem_causes_beginReset .., State.restart_railReset (hrail.trans_ne h0) _, State.inReset_beginReset ..⟩

theorem State.railFault_unpowered (h4 : 4 < rail.val) (ms : Nat) : (s.railFault rail cause ms).sup.powered = false := by
  obtain ⟨owed, heq⟩ := s.railFault_of_powerDown h4 cause ms
  rw [heq]
  exact State.powered_railMarked s.powerDown _ _ _

theorem exec_railRestartDone_of_due (h : s.sup.restart ≠ none) (hc : s.on Fld.SUP_RAIL_STAT_CLATCH = false) :
    exec .railRestartDone s =
      .next (({ s.startCoreRail with sup := { s.startCoreRail.sup with restart := none } } : State).endCause 1) :=
  congrArg Host.Outcome.next (if_pos (by simp [hc, Option.isSome_iff_ne_none, h]))

theorem exec_railRestartDone_of_other (h : s.sup.restart = none ∨ s.on Fld.SUP_RAIL_STAT_CLATCH = true) :
    exec .railRestartDone s = .next s := congrArg Host.Outcome.next (if_neg (by rcases h with h | h <;> simp [h]))

end

/-- Settles O52: the commands by their cases; a sag through what the gauge's moves leave of it, a rail fault through what a full
reset keeps of RAIL_STAT. -/
theorem busAndRails : Obligations.BusAndRails := by
  refine ⟨fun s => ⟨s.powerDown, rfl, rfl, rfl, rfl, rfl, rfl, rfl⟩, fun s => ⟨exec_vbusOvervoltage_of_new,
    exec_vbusOvervoltage_of_known, exec_vbusOvervoltageClear_of_on, exec_vbusOvervoltageClear_of_off, fun hp h => ?failing,
    exec_powerFailWarning_of_known, exec_powerFailWarningClear_of_on, exec_powerFailWarningClear_of_off, fun n i => ?supply⟩,
    fun level slope vbus ns s => ?sag, fun n s _ => ?gauge, fun s => ⟨fun h => ?deassert, exec_sagDeassert_of_off s⟩,
    fun rail cause ms s => ?rail, fun s => ⟨exec_railRestartDone_of_due, exec_railRestartDone_of_other⟩⟩
  case failing =>
    have hexec := exec_powerFailWarning_of_new hp h
    exact ⟨fun hr => by rw [hexec, hr]; rfl, fun hr => by rw [hexec, hr]; rfl⟩
  case supply =>
    exact ⟨fun h => by rw [State.raiseSupply_of_standby h]; exact ⟨rfl, rfl⟩, fun h => State.raiseSupply_of_awake h n i⟩
  case sag =>
    intro cause ready t
    exact ⟨fun hr hc h1 => (exec_sagAssert_of_sag hr hc).trans (congrArg Host.Outcome.next (if_pos h1)),
      fun hr hc h1 => (exec_sagAssert_of_sag hr hc).trans (congrArg Host.Outcome.next (if_neg h1)), exec_sagAssert_of_none⟩
  case gauge =>
    intro u
    obtain ⟨hsag, hstep⟩ : u.row.sag = true ∧ u.row.sagStep = s.sagTarget := Prod.ext_iff.mp (s.sagPart_assertSag n)
    exact ⟨hsag, hstep, hstep.le.trans (s.gauge_assertSag n)⟩
  case deassert => exact ⟨s.deassertSag, exec_sagDeassert_of_on s h, rfl, s.on_sag_deassertSag, rfl⟩
  case rail =>
    intro ok recent
    refine ⟨exec_railFault_of_ignored, fun h => ⟨s.railFault rail cause ms.toNat, exec_railFault_of_ok h,
      ((Kept.refl s).railFault ..).pending, ?_⟩⟩
    obtain ⟨-, -, h0, -, -⟩ := h
    obtain ⟨hrail, hcause, hlatch⟩ := s.railStat_railFault h0 ms.toNat (cause := cause)
    exact ⟨hrail, hcause, hlatch, fun h4 => State.railFault_restarts h0 h4 _, fun h4 => State.railFault_unpowered h4 _⟩

end Sys2Proof.Machine

/-! ## Boot (R570 to R593) -/

namespace Sys2Proof.Machine

/-! ### Power-on (R565, R570) -/

section
variable {o s : State}

/-- `t` has the boot state of `s` and its state of supply management. -/
def BootSame (s t : State) : Prop := t.boot = s.boot ∧ t.sup = s.sup

theorem BootSame.refl (s : State) : BootSame s s := ⟨rfl, rfl⟩

theorem BootSame.put (h : BootSame o s) (f : Fd) (v : Nat) : BootSame o (s.put f v) := h

theorem BootSame.raise (h : BootSame o s) (n i : Nat) : BootSame o (s.raise n i) :=
  ⟨(s.raise_boot n i).trans h.1, (s.sup_raise n i).trans h.2⟩

theorem BootSame.count (h : BootSame o s) (c : Ctr) : BootSame o (s.count c) :=
  ⟨(s.countBy_boot c 1).trans h.1, (s.count_sup c).trans h.2⟩

theorem BootSame.foldl {α : Type} {f : State → α → State} {l : List α} (h : BootSame o s)
    (hf : ∀ t x, BootSame o t → BootSame o (f t x)) : BootSame o (l.foldl f s) := by
  induction l generalizing s with
  | nil => exact h
  | cons x l ih => exact ih (hf s x h)

theorem BootSame.setReg (h : BootSame o s) (a : Nat) (w : Word) : BootSame o (s.setReg a w) := h

theorem BootSame.loadLife (h : BootSame o s) : BootSame o s.loadLife := by
  unfold State.loadLife
  split
  · exact BootSame.foldl (f := fun s (p : Nat × Word) => s.setReg p.1 p.2) h fun t p ht => ht.setReg p.1 p.2
  · exact h

theorem BootSame.riseSats (h : BootSame o s) : BootSame o s.riseSats := by
  refine h.foldl fun t g ht => ?_
  split
  · unfold State.level
    rw [if_pos rfl]
    split
    · exact ht
    · exact ht.raise ..
  · exact ht

/-- The node has power, and nothing but the power-on holds it in reset. -/
def State.poweredOn (s : State) : State :=
  { s with sup := { s.sup with powered := true }, boot := { s.boot with causes := [causePowerOn], cold := true } }

theorem exec_powerOn_of_off (h : s.sup.powered = false) (hc : s.on Fld.SUP_RAIL_STAT_CLATCH = false) : exec .powerOn s =
    .next (s.poweredOn.put Fld.BOOT_RST_CAUSE_CAUSE causePowerOn).loadLife.riseSats :=
  congrArg Host.Outcome.next (if_neg (by simp [h, hc]))

theorem exec_powerOn_of_on (h : s.sup.powered = true ∨ s.on Fld.SUP_RAIL_STAT_CLATCH = true) : exec .powerOn s = .next s :=
  congrArg Host.Outcome.next (if_pos (by rcases h with h | h <;> simp [h]))

end

/-! ### Release (R575, R579) -/

section
variable {s : State}

theorem bootOrder_of_recovery {n k : Nat} (h : n = 1 ∨ k = 3) (a b : List (BitVec 8)) : bootOrder n k a b = [2] := if_pos h

theorem bootOrder_of_next {n : Nat} (k : Nat) (h : n ≠ 1) (h3 : k ≠ 3) (a b : List (BitVec 8)) : bootOrder n k a b =
    if k = 1 then [0, 1, 2] else if k = 2 then [1, 0, 2]
    else if headerOk b && (!headerOk a || laterThan 32 (imgSeq b).toNat (imgSeq a).toNat) then [1, 0, 2] else [0, 1, 2] :=
  if_neg (by simp [h, h3])

theorem bootOrder_of_latest {n : Nat} (h : n ≠ 1) (a b : List (BitVec 8)) : bootOrder n 0 a b =
    if headerOk b = true ∧ (headerOk a = false ∨ laterThan 32 (imgSeq b).toNat (imgSeq a).toNat = true) then [1, 0, 2]
    else [0, 1, 2] := by
  rw [bootOrder_of_next 0 h (by decide), if_neg (by decide), if_neg (by decide)]
  exact if_congr (by simp) rfl rfl

/-- The registers that a release shows, with the boot order taken. -/
def State.released (s : State) (order : List Nat) (strap gen width : Nat) : State :=
  ((((((({ s with boot := { s.boot with causes := [], order := order } } : State).put Fld.BOOT_STRAP_MODE strap).put
    Fld.BOOT_NEXT_NEXT 0).put Fld.SUP_RAIL_STAT_OK 0x1F).put Fld.HIF_LINK_GEN gen).put Fld.HIF_LINK_WIDTH width).showFuses).showLevel 0

theorem State.boot_showFuses (s : State) : s.showFuses.boot = s.boot := by
  rw [State.showFuses, State.flag_boot, State.flag_boot, State.flag_boot, State.put_boot]

theorem State.boot_showLevel (s : State) (l : Nat) : (s.showLevel l).boot = s.boot := s.put_boot ..

/-- The fuses and the debug level are shown in registers of their own. -/
theorem State.get_showFuses (s : State) {f : Fd} (ha : f.addr ≠ Reg.BOOT_ARB) (hk : f.addr ≠ Reg.BOOT_KEYSTAT) :
    s.showFuses.get f = s.get f := by
  rw [State.showFuses, State.flag, State.get_put_other _ _ _ _ hk, State.flag, State.get_put_other _ _ _ _ hk, State.flag,
    State.get_put_other _ _ _ _ hk, State.get_put_other _ _ _ _ ha]

theorem State.get_showLevel (s : State) (l : Nat) {f : Fd} (hf : f.addr ≠ Reg.BOOT_DBG_STAT) : (s.showLevel l).get f = s.get f :=
  State.get_put_other _ _ _ _ hf

section
variable (order : List Nat) (strap gen width : Nat)

theorem State.boot_released : (s.released order strap gen width).boot = { s.boot with causes := [], order := order } := by
  rw [State.released, State.boot_showLevel, State.boot_showFuses, State.put_boot, State.put_boot, State.put_boot, State.put_boot,
    State.put_boot]

theorem State.get_released_next : (s.released order strap gen width).get Fld.BOOT_NEXT_NEXT = 0 := by
  rw [State.released, State.get_showLevel _ _ (by decide), State.get_showFuses _ (by decide) (by decide),
    State.get_put_other _ _ _ _ (by decide), State.get_put_other _ _ _ _ (by decide), State.get_put_other _ _ _ _ (by decide)]
  exact State.get_put_fits _ 0 (by rfl)

theorem State.get_released_strap (h : strap < 4) : (s.released order strap gen width).get Fld.BOOT_STRAP_MODE = strap := by
  rw [State.released, State.get_showLevel _ _ (by decide), State.get_showFuses _ (by decide) (by decide),
    State.get_put_other _ _ _ _ (by decide), State.get_put_other _ _ _ _ (by decide), State.get_put_other _ _ _ _ (by decide),
    State.get_put_other _ _ _ _ (by decide)]
  exact (State.get_put_fits _ strap (by rfl)).trans (Nat.mod_eq_of_lt h)

end

/-- What goes out at a release: the clocks after a power-on, and the local ports' idle levels. -/
def State.idleShown (s : State) (cold : Bool) : State := (addrs 0 1 16).foldl State.showIdle (if cold then s.clocksOn else s)

theorem State.get_withOutbox (s : State) (x : List Output) (f : Fd) : ({ s with outbox := x } : State).get f = s.get f := rfl

/-- Nothing but the outbox changes. -/
theorem State.idleShown_frame (s : State) (cold : Bool) : ∃ b, s.idleShown cold = { s with outbox := b } := by
  have shown (l : List Nat) (s : State) : ∃ b, l.foldl State.showIdle s = { s with outbox := b } := by
    induction l generalizing s with
    | nil => exact ⟨_, rfl⟩
    | cons p l ih =>
      obtain ⟨b, hb⟩ := ih (s.showIdle p)
      rw [List.foldl_cons, hb, State.showIdle]
      split <;> exact ⟨_, rfl⟩
  obtain ⟨b, hb⟩ := shown (addrs 0 1 16) (if cold then s.clocksOn else s)
  refine ⟨b, hb.trans ?_⟩
  cases cold <;> rfl

theorem exec_resetRelease_of_may (strap : BitVec 2) (gen : BitVec 4) (width : BitVec 3) (a b : List (BitVec 8))
    (h : s.mayRelease = true) : exec (.resetRelease strap gen width a b) s =
      let order := bootOrder strap.toNat (s.get Fld.BOOT_NEXT_NEXT) a b
      let u := (s.released order strap.toNat gen.toNat width.toNat).idleShown s.boot.cold
      .next (if order = [2] then u.enterRecovery else u) := by
  change execResetRelease strap gen width a b s = _
  rw [execResetRelease, if_pos h]
  simp only [State.released, State.idleShown]

theorem exec_resetRelease_of_held (strap : BitVec 2) (gen : BitVec 4) (width : BitVec 3) (a b : List (BitVec 8))
    (h : s.mayRelease = false) : exec (.resetRelease strap gen width a b) s = .next s := if_neg (by simp [h])

theorem State.boot_enterRecovery (s : State) : s.enterRecovery.boot = s.boot := (State.put_boot ..).trans (State.put_boot ..)

theorem State.bootPhase_enterRecovery (s : State) : s.enterRecovery.bootPhase = 6 :=
  (State.get_put_apart _ _ (by rfl)).trans (State.get_put_fits _ 6 (by rfl))

theorem State.src_enterRecovery (s : State) : s.enterRecovery.get Fld.BOOT_STAT_SRC = 3 := State.get_put_fits _ 3 (by rfl)

theorem State.get_enterRecovery (s : State) {f : Fd} (hf : f.addr ≠ Reg.BOOT_STAT) : s.enterRecovery.get f = s.get f :=
  (State.get_put_other _ _ _ _ hf).trans (State.get_put_other _ _ _ _ hf)

end

/-! ### The image of a slot (R578, R580, R582) -/

section
variable {s : State} {src : Nat} {l : List Nat}

/-- Every reason that rejects an image is a code of four bits. -/
theorem State.imageReason_lt (s : State) (limit : Nat) (full : Bool) (tries : Nat) (b : List Byte) :
    s.imageReason limit full tries b < 16 := by
  have chosen {p : Prop} {_ : Decidable p} {x y : Nat} (hx : x < 16) (hy : y < 16) : (if p then x else y) < 16 := by
    split <;> assumption
  unfold State.imageReason
  extract_lets f k
  iterate 11 refine chosen (by decide) ?_
  decide

theorem State.slotReason_lt (s : State) (tries : Nat) (b : Option (List Byte)) : s.slotReason tries b < 16 := by
  unfold State.slotReason
  split
  · decide
  · split
    · decide
    · exact State.imageReason_lt ..

theorem State.slotReason_none (s : State) (tries : Nat) : s.slotReason tries none = 0x0C := rfl

/-- The boot has reached a slot: released, with power, in phase ROM. -/
def State.triesSlot (s : State) (src : Nat) (l : List Nat) : Prop :=
  s.boot.order = src :: l ∧ s.inReset = false ∧ s.sup.powered = true ∧ s.bootPhase = 0 ∧ src < 2

/-- A slot is passed over for a reason: it stands in REJ, and the event waits for RUNNING. -/
def State.slotRejected (s : State) (src : Nat) (l : List Nat) (r : Nat) : State :=
  let s1 := s.put (fdRej src) r
  ({ s1 with boot := { s1.boot with order := l, fell := s1.boot.fell.or (some r) } } : State).bootEvent 235 (src + 256 * r)

theorem exec_bootEarly_of_accepted (h : s.triesSlot src l) {b : List (BitVec 8)}
    (hr : s.slotReason (s.get (fdTries src)) (some b) = 0) :
    exec (.bootEarly (some b)) s = .next ((s.put (fdRej src) 0).acceptImage src b) := by
  obtain ⟨ho, hreset, hp, hphase, hsrc⟩ := h
  change execBootEarly (some b) s = _
  rw [execBootEarly, ho]
  dsimp only
  rw [if_neg (by simp [hreset, hp, hphase, hsrc]), hr]
  rfl

theorem exec_bootEarly_of_rejected (h : s.triesSlot src l) {img : Option (List (BitVec 8))}
    (hr : s.slotReason (s.get (fdTries src)) img ≠ 0) : exec (.bootEarly img) s =
      let u := s.slotRejected src l (s.slotReason (s.get (fdTries src)) img)
      .next (if l.headD 2 = 2 then u.enterRecovery else u) := by
  obtain ⟨ho, hreset, hp, hphase, hsrc⟩ := h
  change execBootEarly img s = _
  rw [execBootEarly, ho]
  dsimp only
  rw [if_neg (by simp [hreset, hp, hphase, hsrc])]
  obtain ⟨n, hn⟩ := Nat.exists_eq_succ_of_ne_zero hr
  rw [hn, State.slotRejected]
  cases hf : s.boot.fell <;> simp [State.put_boot, hf]

theorem exec_bootEarly_of_done (h : s.boot.order = []) (img : Option (List (BitVec 8))) : exec (.bootEarly img) s = .next s := by
  change execBootEarly img s = _
  rw [execBootEarly, h]

theorem State.bootEvent_of_early (h : s.bootPhase = 0) (n i : Nat) :
    s.bootEvent n i = { s with boot := { s.boot with events := s.boot.events ++ [(n, i)] } } := if_neg (by omega)

theorem State.bootPhase_put_rej (v : Nat) (hsrc : src < 2) : (s.put (fdRej src) v).bootPhase = s.bootPhase := by
  obtain rfl | rfl : src = 0 ∨ src = 1 := by omega
  · exact State.get_put_apart _ _ (by rfl)
  · exact State.get_put_apart _ _ (by rfl)

theorem State.get_withBoot (s : State) (b : BootS) (f : Fd) : ({ s with boot := b } : State).get f = s.get f := rfl

/-- The slot's REJ, what the order holds, and the event that waits. -/
theorem State.slotRejected_spec (hphase : s.bootPhase = 0) (hsrc : src < 2) {r : Nat} (hr : r < 16) :
    (s.slotRejected src l r).get (fdRej src) = r ∧ (s.slotRejected src l r).boot.order = l ∧
      (s.slotRejected src l r).boot.events = s.boot.events ++ [(235, src + 256 * r)] := by
  have hphase' : ({ s.put (fdRej src) r with boot := { (s.put (fdRej src) r).boot with
      order := l, fell := (s.put (fdRej src) r).boot.fell.or (some r) } } : State).bootPhase = 0 :=
    (State.get_withBoot ..).trans ((State.bootPhase_put_rej r hsrc).trans hphase)
  rw [State.slotRejected, State.bootEvent_of_early hphase']
  refine ⟨?_, rfl, rfl⟩
  rw [State.get_withBoot, State.get_withBoot]
  obtain rfl | rfl : src = 0 ∨ src = 1 := by omega
  · exact (State.get_put_fits _ r (by rfl)).trans (Nat.mod_eq_of_lt (show r < 32 by omega))
  · exact (State.get_put_fits _ r (by rfl)).trans (Nat.mod_eq_of_lt (show r < 32 by omega))

theorem State.rej_enterRecovery (hsrc : src < 2) : s.enterRecovery.get (fdRej src) = s.get (fdRej src) := by
  obtain rfl | rfl : src = 0 ∨ src = 1 := by omega
  · exact (State.get_put_apart _ _ (by rfl)).trans (State.get_put_apart _ _ (by rfl))
  · exact (State.get_put_apart _ _ (by rfl)).trans (State.get_put_apart _ _ (by rfl))

theorem State.bootPhase_acceptImage (b : List Byte) : (s.acceptImage src b).bootPhase = 1 := State.get_put_fits _ 1 (by rfl)

theorem State.image_acceptImage (b : List Byte) : (s.acceptImage src b).boot.image = some ⟨b, src⟩ := by
  rw [State.acceptImage, State.put_boot, State.put_boot, State.put_boot, State.put_boot, State.put_boot, State.setReg_boot,
    State.put_boot]

end

/-! ### The phases RUNNING and DONE (R581, R593) -/

/-- `t` has the BOOT_STAT of `s`, its boot state and its state of supply management. -/
structure PhaseKept (s t : State) : Prop where
  reg : t.reg Reg.BOOT_STAT = s.reg Reg.BOOT_STAT
  boot : t.boot = s.boot
  sup : t.sup = s.sup

section
variable {o s : State}

theorem PhaseKept.refl (s : State) : PhaseKept s s := ⟨rfl, rfl, rfl⟩

theorem PhaseKept.raise (h : PhaseKept o s) {n : Nat} (i : Nat) (hn : n < 256) : PhaseKept o (s.raise n i) :=
  ⟨(s.reg_raise_above hn i (by decide)).trans h.reg, (s.raise_boot n i).trans h.boot, (s.sup_raise n i).trans h.sup⟩

theorem PhaseKept.count (h : PhaseKept o s) {c : Ctr} (hc : Reg.BOOT_STAT ≠ c.sat.addr) : PhaseKept o (s.count c) :=
  ⟨(s.reg_countBy_above c 1 (by decide) hc).trans h.reg, (s.countBy_boot c 1).trans h.boot, (s.count_sup c).trans h.sup⟩

theorem PhaseKept.ite {c : Prop} {_ : Decidable c} {a b : State} (ha : PhaseKept o a) (hb : PhaseKept o b) :
    PhaseKept o (if c then a else b) := by
  split <;> assumption

theorem PhaseKept.foldl {α : Type} {f : State → α → State} {l : List α} (h : PhaseKept o s)
    (hf : ∀ t, ∀ x ∈ l, PhaseKept o t → PhaseKept o (f t x)) : PhaseKept o (l.foldl f s) := by
  induction l generalizing s with
  | nil => exact h
  | cons x l ih => exact ih (hf s x List.mem_cons_self h) fun t y hy => hf t y (List.mem_cons_of_mem x hy)

theorem PhaseKept.tunnel (h : PhaseKept o s) (wr : Bool) (a : Nat) (w : Word) : PhaseKept o (s.tunnel wr a w) := by
  obtain ⟨l, b, ht⟩ := s.tunnel_frame wr a w
  rw [ht]
  exact ⟨h.reg, h.boot, h.sup⟩

theorem PhaseKept.supplyDefaults (h : PhaseKept o s) (b : List Byte) : PhaseKept o (s.supplyDefaults b) :=
  h.foldl fun _ _ _ ht => ht.tunnel ..

/-- Events below 256 lie in the registers of the events. -/
theorem PhaseKept.countRaise (h : PhaseKept o s) {c : Ctr} (hc : Reg.BOOT_STAT ≠ c.sat.addr) (p : Prop) [Decidable p] {n : Nat}
    (i : Nat) (hn : n < 256) : PhaseKept o ((if p then s.count c else s).raise n i) := (PhaseKept.ite (h.count hc) h).raise i hn

theorem State.payOwed_boot (s : State) (h : ∀ e ∈ s.sup.owed, e.1 < 256) :
    s.payOwed.boot = s.boot ∧ s.payOwed.bootPhase = s.bootPhase := by
  have hk : PhaseKept s (s.sup.owed.foldl
      (fun (s : State) e => (if e.1 = 208 then s.count (ctrSup 3) else s).raise e.1 e.2) s) :=
    (PhaseKept.refl s).foldl fun t e he ht => ht.countRaise (by decide) _ _ (h e he)
  exact ⟨hk.boot, State.get_congr (f := Fld.BOOT_STAT_PHASE) hk.reg⟩

/-- Firmware runs: the events of the boot are raised, and the supply die has its defaults. -/
def State.firmwareStarted (s : State) (m : Image) : State :=
  let s1 := (s.put Fld.BOOT_STAT_PHASE 2).showLevel (imgDbg m.bytes)
  let s2 := s1.boot.events.foldl (fun (t : State) e => (if e.1 = 239 then t.count (ctrSwt 2) else t).raise e.1 e.2) s1
  let s3 := match s2.boot.fell with
    | some r => s2.raise 234 (m.src + 256 * r)
    | none => s2
  if s3.boot.cold then s3.supplyDefaults m.bytes else s3

theorem exec_bootRunning_of_early {m : Image} (h : s.boot.image = some m) (hreset : s.inReset = false) (hp : s.bootPhase = 1) :
    exec .bootRunning s = .next ({ s.firmwareStarted m with boot := { (s.firmwareStarted m).boot with
      events := [], cold := false, last := some m.src } } : State).payOwed := by
  change execBootRunning s = _
  rw [execBootRunning, h]
  dsimp only
  rw [if_neg (by simp [hreset, hp])]
  rfl

theorem exec_bootRunning_of_other {m : Image} (h : s.boot.image = some m) (hp : s.bootPhase ≠ 1) :
    exec .bootRunning s = .next s := by
  change execBootRunning s = _
  rw [execBootRunning, h]
  exact if_pos (Or.inl hp)

theorem exec_boot_of_no_image (h : s.boot.image = none) : exec .bootRunning s = .next s ∧ exec .bootDone s = .next s := by
  change execBootRunning s = _ ∧ execBootDone s = _
  rw [execBootRunning, execBootDone, h]
  exact ⟨rfl, rfl⟩

/-- The events of the boot leave the phase, and owe what was owed. -/
theorem State.firmwareStarted_kept (m : Image) (h : ∀ e ∈ s.boot.events, e.1 < 256) :
    (s.firmwareStarted m).bootPhase = 2 ∧ (s.firmwareStarted m).sup = s.sup := by
  unfold State.firmwareStarted
  extract_lets s1 s2 s3
  have hboot : s1.boot = s.boot := (State.boot_showLevel ..).trans (State.put_boot ..)
  have hsup : s1.sup = s.sup := (State.sup_put ..).trans (State.sup_put ..)
  have hphase : s1.bootPhase = 2 := (State.get_showLevel _ _ (by decide)).trans (State.get_put_fits _ 2 (by rfl))
  have h2 : PhaseKept s1 s2 := (PhaseKept.refl s1).foldl fun t e he ht => ht.countRaise (by decide) _ _ (h e (hboot ▸ he))
  have h3 : PhaseKept s1 s3 := by
    simp only [s3]
    split
    · exact h2.raise _ (by decide)
    · exact h2
  have h4 : PhaseKept s1 (if s3.boot.cold then s3.supplyDefaults m.bytes else s3) := .ite (h3.supplyDefaults _) h3
  exact ⟨(State.get_congr (f := Fld.BOOT_STAT_PHASE) h4.reg).trans hphase, h4.sup.trans hsup⟩

/-- What BOOT_DONE loads, and the node in its power state. -/
def State.sectionsLoaded (s : State) (m : Image) : State × Bool :=
  (s.put Fld.BOOT_STAT_PHASE 3).loadSections m.bytes (imgSections m.bytes)

def State.bootEnded (s : State) (m : Image) : State :=
  ((s.sectionsLoaded m).1.avoidFailed.put Fld.BOOT_STAT_PHASE 4).changeState (if s.get Fld.SUP_PWR_CTL_REQ = 3 then 3 else 2) 0

theorem exec_bootDone_of_other {m : Image} (h : s.boot.image = some m) (h2 : s.bootPhase ≠ 2) (h3 : s.bootPhase ≠ 3) :
    exec .bootDone s = .next s := by
  change execBootDone s = _
  rw [execBootDone, h]
  exact if_pos (Or.inl ⟨h2, h3⟩)

theorem exec_bootDone_of_loading {m : Image} (h : s.boot.image = some m) (hreset : s.inReset = false)
    (hp : s.bootPhase = 2 ∨ s.bootPhase = 3) : exec .bootDone s =
      .next (if (s.sectionsLoaded m).2 then
        (match (s.bootEnded m).boot.hostLoad with
          | some r => ({ s.bootEnded m with boot := { (s.bootEnded m).boot with hostLoad := none } } : State).endImageLoad r 0 0
          | none => s.bootEnded m).startSequence
      else (s.sectionsLoaded m).1.failBoot m.src) := by
  change execBootDone s = _
  rw [execBootDone, h]
  dsimp only
  rw [if_neg (by rcases hp with hp | hp <;> simp [hp, hreset])]
  change (if (!(s.sectionsLoaded m).2) = true then _ else _) = _
  cases (s.sectionsLoaded m).2 <;> rfl

theorem exec_bootDone_of_bad {m : Image} (h : s.boot.image = some m) (hreset : s.inReset = false)
    (hp : s.bootPhase = 2 ∨ s.bootPhase = 3) (hl : (s.sectionsLoaded m).2 = false) :
    exec .bootDone s = .next ((s.sectionsLoaded m).1.failBoot m.src) := by
  rw [exec_bootDone_of_loading h hreset hp, if_neg (by simp [hl])]

theorem exec_bootDone_of_slot {m : Image} (h : s.boot.image = some m) (hreset : s.inReset = false)
    (hp : s.bootPhase = 2 ∨ s.bootPhase = 3) (hl : (s.sectionsLoaded m).2 = true) (hn : (s.bootEnded m).boot.hostLoad = none) :
    exec .bootDone s = .next (s.bootEnded m).startSequence := by
  rw [exec_bootDone_of_loading h hreset hp, if_pos hl, hn]

theorem exec_bootDone_of_host {m : Image} {r : Nat} (h : s.boot.image = some m) (hreset : s.inReset = false)
    (hp : s.bootPhase = 2 ∨ s.bootPhase = 3) (hl : (s.sectionsLoaded m).2 = true) (hr : (s.bootEnded m).boot.hostLoad = some r) :
    exec .bootDone s = .next (({ s.bootEnded m with boot := { (s.bootEnded m).boot with hostLoad := none } } : State).endImageLoad
      r 0 0).startSequence := by
  rw [exec_bootDone_of_loading h hreset hp, if_pos hl, hr]

end

/-! ### Trials and the watchdog (R580) -/

section
variable {s : State}

theorem exec_bootTrialTimeout_of_running (hp : s.sup.powered = true) (hreset : s.inReset = false) (h4 : s.bootPhase < 4)
    (hsrc : s.bootSource < 2) : exec .bootTrialTimeout s = .next ((s.countTry s.bootSource).beginReset 8) :=
  congrArg Host.Outcome.next (if_pos (by simp [hp, hreset, h4, hsrc]))

theorem exec_bootTrialTimeout_of_other
    (h : s.sup.powered = false ∨ s.inReset = true ∨ 4 ≤ s.bootPhase ∨ 2 ≤ s.bootSource) : exec .bootTrialTimeout s = .next s :=
  congrArg Host.Outcome.next (if_neg (by
    simp only [Bool.and_eq_true, decide_eq_true_eq, Bool.not_eq_true']
    rintro ⟨⟨⟨hp, hreset⟩, h4⟩, hsrc⟩
    rcases h with h | h | h | h
    · simp [hp] at h
    · simp [hreset] at h
    · omega
    · omega))

theorem exec_trialConfirm_of_trial (h : s.boot.trial = true) (hp : s.bootPhase = 4 ∨ s.bootPhase = 5) (hsrc : s.bootSource < 2) :
    exec .trialConfirm s = .next (({ s with boot := { s.boot with trial := false } } : State).put (fdTries s.bootSource) 0) :=
  congrArg Host.Outcome.next (if_pos (by rcases hp with hp | hp <;> simp [h, hp, hsrc]))

theorem exec_trialConfirm_of_other (h : s.boot.trial = false) : exec .trialConfirm s = .next s :=
  congrArg Host.Outcome.next (if_neg (by simp [h]))

theorem fdTries_fits (src : Nat) : (fdTries src).fits = true := by
  unfold fdTries
  split <;> rfl

theorem exec_wdog_of_served (h : s.regServed = true) (hp : s.bootPhase ≠ 6) : exec .wdog s =
    .next ((if s.boot.trial then s.countTry s.bootSource else s).beginReset 7) := congrArg Host.Outcome.next (if_pos (by simp [h, hp]))

theorem exec_wdog_of_other (h : s.regServed = false ∨ s.bootPhase = 6) : exec .wdog s = .next s :=
  congrArg Host.Outcome.next (if_neg (by rcases h with h | h <;> simp [h]))

end

/-! ### The start-up sequence (R584 to R586) -/

section
variable {s : State} {r : List Byte}

theorem State.seqNow_of_other (h : s.bootPhase ≠ 5) (op : Nat) : s.seqNow op = none := if_neg fun h' => h h'.1

theorem exec_seq_of_other (h : s.bootPhase ≠ 5) (timeout : Bool) : exec .seqWrite s = .next s ∧ exec .seqWaitrows s = .next s ∧
    exec (.seqWaitfield timeout) s = .next s ∧ exec .seqTparam s = .next s := by
  change execSeqWrite s = _ ∧ execSeqWaitrows s = _ ∧ execSeqWaitfield timeout s = _ ∧ execSeqTparam s = _
  simp only [execSeqWrite, execSeqWaitrows, execSeqWaitfield, execSeqTparam, State.seqNow_of_other h, and_self]

/-- The write of a WRITE record. -/
def State.seqWritten (s : State) (r : List Byte) : State := s.writeW0 (leAt r 4 4) (BitVec.ofNat 32 (leAt r 8 4))

theorem exec_seqWrite_of_waiting (h : s.seqNow 1 = some r) (ht : s.boot.seqTick = true) : exec .seqWrite s = .next s := by
  change execSeqWrite s = _
  rw [execSeqWrite, h]
  exact if_pos ht

theorem exec_seqWrite_of_due (h : s.seqNow 1 = some r) (ht : s.boot.seqTick = false) (hp : (s.seqWritten r).bootPhase = 5) :
    exec .seqWrite s = .next (if (s.seqWritten r).refusedFrom s (leAt r 4 4) then (s.seqWritten r).seqEnd true
      else if isTimed (leAt r 4 4) && !onSupply (leAt r 4 4) then
        { s.seqWritten r with boot := { (s.seqWritten r).boot with seqTick := true, seqBad := false } }
      else (s.seqWritten r).seqNext) := by
  change execSeqWrite s = _
  rw [execSeqWrite, h]
  dsimp only
  rw [if_neg (by simp [ht])]
  exact congrArg Host.Outcome.next (if_neg (not_not.mpr hp))

theorem exec_seqWaitrows_of_now (h : s.seqNow 2 = some r) : exec .seqWaitrows s =
    .next (if s.boot.seqRows = 0 then s.seqNext else s) := by
  change execSeqWaitrows s = _
  rw [execSeqWaitrows, h]

theorem exec_seqWaitfield_of_now (h : s.seqNow 3 = some r) (timeout : Bool) : exec (.seqWaitfield timeout) s =
    .next (if s.view (leAt r 4 4) &&& BitVec.ofNat 32 (leAt r 8 4) = BitVec.ofNat 32 (leAt r 12 4) then s.bumpFree.seqNext
      else if timeout then s.bumpFree.seqEnd true else s.bumpFree) := by
  change execSeqWaitfield timeout s = _
  rw [execSeqWaitfield, h]

theorem exec_seqTparam_of_now (h : s.seqNow 4 = some r) : exec .seqTparam s =
    let p := tpOfBytes (bytesAt r 4 16)
    let q := s.tpSubmit { p with row := s.row.openRow + p.row }
    .next (if q.2 = 0 then q.1.seqNext else q.1.seqEnd true) := by
  change execSeqTparam s = _
  rw [execSeqTparam, h]

theorem exec_recoveryPoll_of_other (h : s.bootPhase ≠ 6 ∨ s.on Fld.HIF_HCTL_EN = false ∨ s.inReset = true) :
    exec .recoveryPoll s = .next s :=
  congrArg Host.Outcome.next (if_neg (by rcases h with h | h | h <;> simp [h]))

theorem exec_recoveryPoll_of_ringless (hp : s.bootPhase = 6) (he : s.on Fld.HIF_HCTL_EN = true) (hr : s.inReset = false)
    (hk : s.ringKeys = []) : exec .recoveryPoll s =
      .next (s.setHost { s.host with rowFetch := 0, dbErr := [] }).writeStatus.readDoorbells.pumpAll := by
  have hk' : (s.setHost { s.host with rowFetch := 0, dbErr := [] }).ringKeys = [] := hk
  refine congrArg Host.Outcome.next ((if_pos ⟨hp, he, by simp [hr]⟩).trans ?_)
  dsimp only
  rw [hk', List.foldl_nil]

end

/-- Settles O54: each clause is a case of its command; a release is read from its registers, a rejected slot from REJ and the
events that wait, and RUNNING from what the events of the boot leave alone. -/
theorem boot : Obligations.Boot := by
  refine ⟨fun s => ⟨exec_powerOn_of_on, fun h hc => ?power⟩, fun strap gen width a b s => ?release,
    fun n k a b => ⟨fun h => bootOrder_of_recovery h a b, fun h hk => ?slotA, fun h hk => ?slotB, fun h hk => ?latest⟩,
    fun src l s ho hreset hp hphase hsrc img => ?early, fun s => ⟨exec_bootEarly_of_done, exec_boot_of_no_image, ?phases⟩,
    fun s => ⟨exec_bootTrialTimeout_of_running, exec_bootTrialTimeout_of_other, fun h hp hsrc => ?confirm,
      exec_trialConfirm_of_other, exec_wdog_of_served, exec_wdog_of_other⟩,
    fun s => ⟨fun timeout h => exec_seq_of_other h timeout, ?write, ?waitrows, ?waitfield, ?tparam⟩,
    fun s => ⟨exec_recoveryPoll_of_other, exec_recoveryPoll_of_ringless⟩⟩
  case power =>
    obtain ⟨hboot, hsup⟩ : BootSame s.poweredOn (s.poweredOn.put Fld.BOOT_RST_CAUSE_CAUSE causePowerOn).loadLife.riseSats :=
      ((BootSame.refl _).put ..).loadLife.riseSats
    exact ⟨_, exec_powerOn_of_off h hc, congrArg SupS.powered hsup, congrArg BootS.causes hboot, congrArg BootS.cold hboot⟩
  case release =>
    intro order
    refine ⟨exec_resetRelease_of_held strap gen width a b, fun h => ⟨_, exec_resetRelease_of_may strap gen width a b h, ?_⟩⟩
    obtain ⟨x, hx⟩ := (s.released order strap.toNat gen.toNat width.toNat).idleShown_frame s.boot.cold
    have hboot := State.boot_released (s := s) order strap.toNat gen.toNat width.toNat
    have hnext := (State.get_withOutbox _ x _).trans (State.get_released_next (s := s) order strap.toNat gen.toNat width.toNat)
    have hstrap := (State.get_withOutbox _ x _).trans
      (State.get_released_strap (s := s) order strap.toNat gen.toNat width.toNat strap.isLt)
    rw [hx]
    split
    · refine ⟨?_, ?_, (State.get_enterRecovery _ (by decide)).trans hnext, (State.get_enterRecovery _ (by decide)).trans hstrap,
        fun _ => ⟨State.bootPhase_enterRecovery _, State.src_enterRecovery _⟩⟩
      · rw [State.inReset, State.boot_enterRecovery, hboot]
        rfl
      · rw [State.boot_enterRecovery, hboot]
    · next hne =>
      refine ⟨?_, congrArg BootS.order hboot, hnext, hstrap, fun h2 => absurd h2 hne⟩
      rw [State.inReset, hboot]
      rfl
  case slotA => rw [bootOrder_of_next k h (by omega), if_pos hk]
  case slotB => rw [bootOrder_of_next k h (by omega), if_neg (by omega), if_pos hk]
  case latest =>
    subst hk
    exact bootOrder_of_latest h a b
  case early =>
    intro r
    have htries : s.triesSlot src l := ⟨ho, hreset, hp, hphase, hsrc⟩
    by_cases hr : r = 0
    · cases img with
      | none => exact absurd hr (by simp [r, State.slotReason_none])
      | some b =>
        refine ⟨_, exec_bootEarly_of_accepted htries hr, ?_⟩
        rw [if_pos ⟨rfl, hr⟩]
        exact ⟨rfl, State.bootPhase_acceptImage b, State.image_acceptImage b⟩
    · refine ⟨_, exec_bootEarly_of_rejected htries hr, ?_⟩
      rw [if_neg fun h => hr h.2]
      obtain ⟨hrej, horder, hevents⟩ := State.slotRejected_spec (l := l) hphase hsrc (s.slotReason_lt (s.get (fdTries src)) img)
      have hmem : (src + 256 * r) ∈ ((s.slotRejected src l r).boot.events.filter (fun e => e.1 == 235)).map (fun e => e.2) := by
        rw [hevents]
        simp [r]
      split
      · refine ⟨(State.rej_enterRecovery hsrc).trans hrej, ?_, ?_, fun _ => State.bootPhase_enterRecovery _⟩
        · rw [State.boot_enterRecovery, horder]
        · rw [State.boot_enterRecovery]
          exact hmem
      · next hne => exact ⟨hrej, horder, hmem, fun h2 => absurd h2 hne⟩
  case phases =>
    intro m hm hreset
    refine ⟨fun hp hev => ?running, exec_bootRunning_of_other hm, exec_bootDone_of_other hm, fun hp => ?done⟩
    case running =>
      obtain ⟨hphase, hsup⟩ := State.firmwareStarted_kept m fun e he => hev e (List.mem_append_left _ he)
      have howed : ∀ e ∈ (s.firmwareStarted m).sup.owed, e.1 < 256 := by
        rw [hsup]
        exact fun e he => hev e (List.mem_append_right _ he)
      obtain ⟨hboot, hpay⟩ := State.payOwed_boot ({ s.firmwareStarted m with boot := { (s.firmwareStarted m).boot with
        events := [], cold := false, last := some m.src } } : State) howed
      exact ⟨_, exec_bootRunning_of_early hm hreset hp, hpay.trans hphase, congrArg BootS.events hboot, congrArg BootS.last hboot⟩
    case done =>
      intro l u
      exact ⟨exec_bootDone_of_bad hm hreset hp, exec_bootDone_of_slot hm hreset hp, fun r => exec_bootDone_of_host hm hreset hp⟩
  case confirm =>
    exact ⟨_, exec_trialConfirm_of_trial h hp hsrc, rfl, (State.get_put_fits _ 0 (fdTries_fits _)).trans (Nat.zero_mod _)⟩
  case write =>
    intro r h a t
    refine ⟨exec_seqWrite_of_waiting h, fun ht hp href => ?_, fun ht hp href htimed => ?_, fun ht hp href htimed hsup => ?_⟩
    · exact (exec_seqWrite_of_due h ht hp).trans (congrArg Host.Outcome.next (if_pos href))
    · refine (exec_seqWrite_of_due h ht hp).trans (congrArg Host.Outcome.next ((if_neg (Bool.eq_false_iff.mp href)).trans (if_neg ?_)))
      rcases htimed with h' | h'
      · rw [show isTimed (leAt r 4 4) = false from h']
        simp
      · rw [show onSupply (leAt r 4 4) = true from h']
        simp
    · refine (exec_seqWrite_of_due h ht hp).trans (congrArg Host.Outcome.next ((if_neg (Bool.eq_false_iff.mp href)).trans (if_pos ?_)))
      rw [show isTimed (leAt r 4 4) = true from htimed, show onSupply (leAt r 4 4) = false from hsup]
      rfl
  case waitrows =>
    intro r h
    exact ⟨fun h0 => by rw [exec_seqWaitrows_of_now h, if_pos h0], fun h0 => by rw [exec_seqWaitrows_of_now h, if_neg h0]⟩
  case waitfield =>
    intro r h hit
    refine ⟨fun o hhit => (exec_seqWaitfield_of_now h o).trans (congrArg Host.Outcome.next (if_pos hhit)), fun hhit => ⟨?_, ?_⟩⟩
    · exact (exec_seqWaitfield_of_now h true).trans (congrArg Host.Outcome.next ((if_neg hhit).trans (if_pos rfl)))
    · exact (exec_seqWaitfield_of_now h false).trans
        (congrArg Host.Outcome.next ((if_neg hhit).trans (if_neg Bool.false_ne_true)))
  case tparam =>
    intro r h p q
    exact ⟨fun h0 => (exec_seqTparam_of_now h).trans (congrArg Host.Outcome.next (if_pos h0)),
      fun h0 => (exec_seqTparam_of_now h).trans (congrArg Host.Outcome.next (if_neg h0))⟩

end Sys2Proof.Machine

/-! ## Fuses, JTAG and swatch (R589 to R608) -/

namespace Sys2Proof.Machine

/-! ### A core on its way to its test (R600, R601) -/

section
variable {s : State} {g : Nat}

theorem State.tested_setTested (s : State) (g : Nat) (p : Option Nat) : (s.setTested g p).tested g = p := Table.get_set_same ..

/-- A core that still runs on its own place has no test that could end. -/
theorem State.endTest_of_notOnSpare {p : Nat} (h : s.tested g = some p) (hp : p < 128) (hspare : s.onSpare p = false) (pass : Bool) :
    s.endTest g pass = s := by
  rw [State.endTest, h]
  exact if_pos ⟨hp, Or.inl (by simp [hspare])⟩

end

/-- Core 0 is taken for the test of group 0 and has not yet moved to the spare. -/
def coreOnItsWay : State := { State.reset with swt := { swtReset with testing := [(0, some 0)] } }

set_option maxRecDepth 100000 in
theorem coreOnItsWay_onSpare : coreOnItsWay.onSpare 0 = false := by decide

/-- Refutes O55: its clause on the core tests takes `128 + g` as a sum in `Fin 4`, where it is `g`, so that the clause speaks of core
`g` and not of the spare of group `g`. When core 0 is under test in group 0 and still on its way to the spare, CORE_TEST_DONE changes
nothing, and group 0 goes on testing core 0. -/
theorem not_fusesAndSwatch : ¬ Obligations.FusesAndSwatch := by
  unfold Obligations.FusesAndSwatch
  rintro ⟨-, -, -, -, -, -, hcore, -⟩
  have htested : coreOnItsWay.tested 0 = some 0 := rfl
  have hstay : exec (.coreTestDone 0 true) coreOnItsWay = .next coreOnItsWay :=
    congrArg Host.Outcome.next (State.endTest_of_notOnSpare htested (by decide) coreOnItsWay_onSpare true)
  obtain ⟨-, -, -, hdone⟩ := hcore 0 coreOnItsWay
  have hclaim := hstay.symm.trans (hdone htested).1
  have hnone : coreOnItsWay.tested 0 = none :=
    (congrArg (State.tested · 0) (Host.Outcome.next.inj hclaim)).trans (State.tested_setTested ..)
  exact absurd (htested.symm.trans hnone) nofun

end Sys2Proof.Machine
